-- ==== Sys2Proof/Word.lean ====
section
/-!
DEFINITION. The word types of the Itdal 12 (00_scope, "Notation and conventions"; R10). Registers are 32 bits wide,
a register pair or a domain address is 64 bits wide, a status code is 16 bits wide (R21), a ledger is 128 bits wide.
-/
namespace Sys2Proof

/-- One byte of a memory space, a ring entry or a packet. -/
abbrev Byte := BitVec 8
/-- A status or error code: the owning block in [15:8], the code in [7:0] (R21). -/
abbrev Status := BitVec 16
/-- A register, a token word, an FP32 lane (00_scope, Registers). -/
abbrev Word := BitVec 32
/-- A _LO/_HI register pair, a domain address, a tag (R15 to R20, R49). -/
abbrev DWord := BitVec 64
/-- A ledger accumulator (02_number_formats, "The ledger accumulator"). -/
abbrev Ledger := BitVec 128

end Sys2Proof
end

