-- ==== Sys2Proof/Config.lean ====
section
/-!
DEFINITION. What the spec leaves open and an implementation fixes: constants with no body, so that nothing can be
proved of their values. A meaning applies one of them where the spec states an effect and not the value.
-/
namespace Sys2Proof

/-- Which of the results within the stated error bound a vector function gives: `fn` is the vector opcode (R91), `x`
the FP32 input. R92 says that it is a fixed function of its input; the spec states only the bound. DESIGN CHOICE 3. -/
opaque Config.vectorPick (fn : Nat) (x : Word) : Nat

/-- A value the spec leaves open, fresh for each `n` (the step reads and advances `Device.freeCounter`). DESIGN CHOICE 4. -/
opaque Config.freeValue (w : Nat) (n : Nat) : BitVec w

/-- The FP32 accumulation order of a Drone's BF16 and FP16 products is the Drone's own fixed order (R100), which the
spec does not give: the sum of the products `ps` onto `acc`. DESIGN CHOICE 5. -/
opaque Config.droneFloatSum (acc : Word) (ps : List Word) : Word

/-- Whether a firmware image (header and image) passes the signature check of R800 against the key whose digest is fused
into the device; the key is the builder's. DESIGN CHOICE 37. -/
opaque Config.fwSigned (image : List Byte) : Bool

end Sys2Proof
end

