-- ==== Sys2Proof/Machine/Bits.lean ====
section
/-!
DEFINITION. Bit fields, byte order (R10), sparse tables and the small list helpers that every unit of the model uses.
-/
namespace Sys2Proof.Machine

/-- Bits [hi:lo] of `n`, as a number (00_scope, Registers: a bit range is written [hi:lo]). -/
def bitsOf (n hi lo : Nat) : Nat := n / 2 ^ lo % 2 ^ (hi + 1 - lo)

/-- Bit `i` of `n`. -/
def bitOf (n i : Nat) : Bool := n.testBit i

/-- `n` with bits [hi:lo] replaced by the low bits of `v`. -/
def putBits (n hi lo v : Nat) : Nat :=
  let m := 2 ^ (hi + 1 - lo)
  n - bitsOf n hi lo * 2 ^ lo + v % m * 2 ^ lo

/-- 1 for true, 0 for false: a status bit. -/
def bit (b : Bool) : Nat := if b then 1 else 0

/-- A number read from bytes, little-endian (R10). -/
def leNat : List Byte → Nat
  | [] => 0
  | b :: bs => b.toNat + 256 * leNat bs

/-- The `k` little-endian bytes of `n` (R10). -/
def leBytes : Nat → Nat → List Byte
  | 0, _ => []
  | k + 1, n => BitVec.ofNat 8 n :: leBytes k (n / 256)

/-- `len` elements of `l` from `off`; bytes beyond its end are left out. -/
def sliceOf {α : Type} (l : List α) (off len : Nat) : List α := (l.drop off).take len

/-- The little-endian number in bytes off .. off + len - 1. -/
def leAt (l : List Byte) (off len : Nat) : Nat := leNat (sliceOf l off len)

/-- `l` with the bytes from `off` replaced by `bs`; `l` is extended with zeros where it is too short. -/
def patchBytes (l : List Byte) (off : Nat) (bs : List Byte) : List Byte :=
  let l' := l ++ List.replicate (off + bs.length - l.length) 0
  l'.take off ++ bs ++ l'.drop (off + bs.length)

/-- `l` brought to exactly `n` bytes, zeros appended. -/
def padTo (n : Nat) (l : List Byte) : List Byte := (l ++ List.replicate (n - l.length) 0).take n

/-- Signed value of the low `w` bits. -/
def signedOf (w n : Nat) : Int :=
  let m := n % 2 ^ w
  if m < 2 ^ (w - 1) then (m : Int) else (m : Int) - (2 ^ w : Nat)

/-- Two's complement of a signed value in `w` bits. -/
def unsignedOf (w : Nat) (i : Int) : Nat := (i % ((2 ^ w : Nat) : Int)).toNat

/-- Chunks of `k` elements, at most `fuel` of them. -/
def chunksOf {α : Type} (k : Nat) : Nat → List α → List (List α)
  | 0, _ => []
  | fuel + 1, l => if l.isEmpty then [] else l.take k :: chunksOf k fuel (l.drop k)

/-- Position of the first element that satisfies `p`, counting from `i`. -/
def indexWhere {α : Type} (p : α → Bool) (i : Nat) : List α → Option Nat
  | [] => none
  | a :: l => if p a then some i else indexWhere p (i + 1) l

/-- The element with the least key; the earliest among equals. -/
def minByKey {α : Type} (key : α → Nat) : List α → Option α
  | [] => none
  | a :: l =>
    match minByKey key l with
    | none => some a
    | some b => if key b < key a then some b else some a

/-- Insertion before the first element that `b` comes before. -/
def insertBy {α : Type} (before : α → α → Bool) (b : α) : List α → List α
  | [] => [b]
  | a :: l => if before b a then b :: a :: l else a :: insertBy before b l

/-- Stable sort by `before` (insertion sort: structural, so the kernel evaluates it). -/
def sortBy {α : Type} (before : α → α → Bool) (l : List α) : List α :=
  l.foldr (fun a acc => insertBy before a acc) []

/-- Saturating addition for a counter of `w` bits. -/
def satAdd (w n k : Nat) : Nat := min (2 ^ w - 1) (n + k)

/-! Sparse tables: a list of (key, value) pairs with keys strictly rising; an absent key stands for the default that
the reader supplies. -/

/-- A sparse table. -/
abbrev Table (α : Type) := List (Nat × α)

/-- The entry with key `k`. -/
def Table.find? {α : Type} (t : Table α) (k : Nat) : Option α :=
  match t with
  | [] => none
  | (j, a) :: r => if j = k then some a else Table.find? r k

/-- The entry with key `k`, or the default of the table. -/
def Table.getD {α : Type} (t : Table α) (k : Nat) (dflt : α) : α := (Table.find? t k).getD dflt

/-- The table with `a` at key `k`, keys kept rising. -/
def Table.put {α : Type} (t : Table α) (k : Nat) (a : α) : Table α :=
  match t with
  | [] => [(k, a)]
  | (j, b) :: r => if k < j then (k, a) :: (j, b) :: r else if j = k then (k, a) :: r else (j, b) :: Table.put r k a

/-- The table without key `k`. -/
def Table.drop {α : Type} (t : Table α) (k : Nat) : Table α := List.filter (fun e => e.1 != k) t

/-- The table with the entry at `k` (or the default) changed by `f`. -/
def Table.modify {α : Type} (t : Table α) (k : Nat) (dflt : α) (f : α → α) : Table α :=
  Table.put t k (f (Table.getD t k dflt))

/-- The table with every entry changed by `f`. -/
def Table.mapVals {α : Type} (t : Table α) (f : Nat → α → α) : Table α := List.map (fun e => (e.1, f e.1 e.2)) t

/-- The least key from `k` up that is not in use, looking at most `fuel` keys ahead. -/
def Table.freshFrom {α : Type} (t : Table α) (k : Nat) : Nat → Nat
  | 0 => k
  | fuel + 1 => if (Table.find? t k).isNone then k else Table.freshFrom t (k + 1) fuel

end Sys2Proof.Machine
end

