-- ==== Sys2Proof/Machine/Arith.lean ====
section
/-!
DEFINITION. Number formats (R58 to R64), exact dyadic arithmetic and rounding, the anchor (R67, R68), the ledger
(R72 to R76), MX output blocks (R77), 2:4 sparsity (R94 to R96) and the vector functions (R91 to R93).
-/
namespace Sys2Proof.Machine

/-! ### Formats -/

/-- The format codes of R63. -/
inductive Fmt where
  | mxfp4 | e4m3 | e5m2 | mxint8 | int4 | int8 | bf16 | fp16 | fp32 | raw
  deriving DecidableEq, Repr

/-- R63: the format that a 4-bit code names; codes 0x9 to 0xE are reserved. -/
def Fmt.ofCode : Nat → Option Fmt
  | 0 => some .mxfp4 | 1 => some .e4m3 | 2 => some .e5m2 | 3 => some .mxint8 | 4 => some .int4
  | 5 => some .int8 | 6 => some .bf16 | 7 => some .fp16 | 8 => some .fp32 | 15 => some .raw | _ => none

/-- The three operand families of R64. -/
inductive Family where
  | mx | int | float
  deriving DecidableEq, Repr

/-- R64: the family of a matrix operand's format; FP32 and raw are never matrix operands. -/
def Fmt.family : Fmt → Option Family
  | .mxfp4 | .e4m3 | .e5m2 | .mxint8 => some .mx
  | .int4 | .int8 => some .int
  | .bf16 | .fp16 => some .float
  | .fp32 | .raw => none

/-- Bits of one element. -/
def Fmt.bits : Fmt → Nat
  | .mxfp4 | .int4 => 4
  | .e4m3 | .e5m2 | .mxint8 | .int8 => 8
  | .bf16 | .fp16 => 16
  | .fp32 => 32
  | .raw => 128

/-- A binary floating-point layout: exponent bits, mantissa bits, bias (R58). -/
structure FloatFmt where
  eb : Nat
  mb : Nat
  bias : Nat
  deriving DecidableEq, Repr

def f32 : FloatFmt := ⟨8, 23, 127⟩
def fBf16 : FloatFmt := ⟨8, 7, 127⟩
def fFp16 : FloatFmt := ⟨5, 10, 15⟩
def fE2m1 : FloatFmt := ⟨2, 1, 1⟩
def fE4m3 : FloatFmt := ⟨4, 3, 7⟩
def fE5m2 : FloatFmt := ⟨5, 2, 15⟩

/-- A value a lane can hold: NaN, an infinity, or a sign, a mantissa and a power of two (a zero keeps its sign). -/
inductive Fl where
  | nan
  | inf (neg : Bool)
  | fin (neg : Bool) (m : Nat) (e : Int)
  deriving DecidableEq, Repr

/-! ### Exact dyadics -/

/-- The number m × 2^e. -/
structure Dy where
  m : Int
  e : Int
  deriving DecidableEq, Repr

/-- 2^k for k ≥ 0, 1 otherwise. -/
def pow2 (k : Int) : Nat := 2 ^ k.toNat

/-- Both mantissas over the smaller of the two exponents. -/
def Dy.align (a b : Dy) : Int × Int × Int :=
  let e := min a.e b.e
  (a.m * pow2 (a.e - e), b.m * pow2 (b.e - e), e)

def Dy.add (a b : Dy) : Dy := let (x, y, e) := Dy.align a b; ⟨x + y, e⟩
def Dy.mul (a b : Dy) : Dy := ⟨a.m * b.m, a.e + b.e⟩
def Dy.lt (a b : Dy) : Bool := let (x, y, _) := Dy.align a b; decide (x < y)
def Dy.le (a b : Dy) : Bool := let (x, y, _) := Dy.align a b; decide (x ≤ y)
def Dy.abs (a : Dy) : Dy := ⟨a.m.natAbs, a.e⟩
def Dy.neg (a : Dy) : Dy := ⟨-a.m, a.e⟩

/-- A lane value as an exact number; NaN and infinities count as 0. -/
def Fl.dy : Fl → Dy
  | .fin neg m e => ⟨if neg then -(m : Int) else m, e⟩
  | _ => ⟨0, 0⟩

def Fl.isNan : Fl → Bool | .nan => true | _ => false
def Fl.isInf : Fl → Bool | .inf _ => true | _ => false
def Fl.isZero : Fl → Bool | .fin _ m _ => m == 0 | _ => false
def Fl.neg : Fl → Bool | .fin n _ _ => n | .inf n => n | .nan => false

/-! ### Rounding -/

/-- m × 2^e rounded to a whole multiple of 2^q, to nearest, ties to even: the multiplier. -/
def rneNat (m : Nat) (e q : Int) : Nat :=
  if q ≤ e then m * pow2 (e - q)
  else
    let d := pow2 (q - e)
    let n := m / d
    let r := m % d
    if 2 * r > d then n + 1 else if 2 * r = d then n + n % 2 else n

/-- m × 2^e rounded towards zero to a whole multiple of 2^q: the multiplier. -/
def truncNat (m : Nat) (e q : Int) : Nat := if q ≤ e then m * pow2 (e - q) else m / pow2 (q - e)

/-- The magnitude code (exponent and mantissa fields) of m × 2^e in a format, before overflow is looked at. The
quantum is that of the value's binade, but no finer than the format's subnormals (R76: subnormals kept). -/
def FloatFmt.code (f : FloatFmt) (m : Nat) (e : Int) : Nat :=
  if m = 0 then 0
  else
    let qmin : Int := 1 - f.bias - f.mb
    let q := max ((Nat.log2 m : Int) + e - f.mb) qmin
    (q - qmin).toNat * 2 ^ f.mb + rneNat m e q

/-- The code of an infinity's magnitude in an IEEE format. -/
def FloatFmt.infCode (f : FloatFmt) : Nat := (2 ^ f.eb - 1) * 2 ^ f.mb

/-- Sign bit of the format. -/
def FloatFmt.signBit (f : FloatFmt) (neg : Bool) : Nat := if neg then 2 ^ (f.eb + f.mb) else 0

/-- R76, first row: a value rounded once to an IEEE format; overflow gives an infinity, NaN the canonical quiet NaN. -/
def FloatFmt.encode (f : FloatFmt) : Fl → Nat
  | .nan => f.infCode + 2 ^ (f.mb - 1)
  | .inf neg => f.signBit neg + f.infCode
  | .fin neg m e => f.signBit neg + min (f.code m e) f.infCode

/-- R58: the value of an IEEE code; subnormals are read exactly (R59). -/
def FloatFmt.decode (f : FloatFmt) (n : Nat) : Fl :=
  let neg := n.testBit (f.eb + f.mb)
  let ex := bitsOf n (f.eb + f.mb - 1) f.mb
  let man := n % 2 ^ f.mb
  if ex = 2 ^ f.eb - 1 then (if man = 0 then .inf neg else .nan)
  else if ex = 0 then .fin neg man (1 - (f.bias : Int) - f.mb)
  else .fin neg (man + 2 ^ f.mb) ((ex : Int) - f.bias - f.mb)

/-- A finite float format with no infinity: E2M1 and E4M3 (R58). -/
def FloatFmt.decodeFinite (f : FloatFmt) (n : Nat) : Fl :=
  let neg := n.testBit (f.eb + f.mb)
  let ex := bitsOf n (f.eb + f.mb - 1) f.mb
  let man := n % 2 ^ f.mb
  if ex = 0 then .fin neg man (1 - (f.bias : Int) - f.mb)
  else .fin neg (man + 2 ^ f.mb) ((ex : Int) - f.bias - f.mb)

/-- A signed whole number times 2^e. -/
def Fl.ofInt (i : Int) (e : Int) : Fl := .fin (decide (i < 0)) i.natAbs e

/-- R58, R59: the exact value of an element code. -/
def Fmt.decode (f : Fmt) (n : Nat) : Fl :=
  match f with
  | .mxfp4 => fE2m1.decodeFinite (n % 16)
  | .e4m3 => if n % 128 = 127 then .nan else fE4m3.decodeFinite (n % 256)
  | .e5m2 => fE5m2.decode (n % 256)
  | .mxint8 => Fl.ofInt (signedOf 8 n) (-6)
  | .int4 => Fl.ofInt (signedOf 4 n) 0
  | .int8 => Fl.ofInt (signedOf 8 n) 0
  | .bf16 => fBf16.decode (n % 65536)
  | .fp16 => fFp16.decode (n % 65536)
  | .fp32 => f32.decode (n % 4294967296)
  | .raw => .nan

/-- R60: element `i` along K of a packed row: two 4-bit elements share a byte, the even one in bits [3:0]. -/
def elementAt (f : Fmt) (row : List Byte) (i : Nat) : Nat :=
  if f.bits = 4 then (let b := leAt row (i / 2) 1; if i % 2 = 0 then b % 16 else b / 16)
  else leAt row (i * (f.bits / 8)) (f.bits / 8)

/-! ### The anchor -/

/-- The q value of an element type (R67). -/
def Fmt.q : Fmt → Int
  | .mxfp4 => 3 | .e4m3 => 9 | .e5m2 => 16 | .mxint8 => 2 | _ => 0

/-- R67, R81: the largest scale byte other than 0xFF; none where there is no other. -/
def maxScale (bs : List Nat) : Option Nat :=
  bs.foldl (fun a b => if b = 255 then a else match a with | none => some b | some m => some (max m b)) none

/-- R67: the anchor of an MX output tile from the operands' largest scale bytes; an operand with none counts as 0x00. -/
def anchorMx (fa fb : Fmt) (sa sb : Option Nat) : Int :=
  ((sa.getD 0 : Nat) : Int) - 127 + (((sb.getD 0 : Nat) : Int) - 127) + fa.q + fb.q + 26

/-- R68: the anchor of an INT product. -/
def anchorInt : Int := 127

/-- R69: the largest K of a reduction. -/
def kMax : Nat := 2 ^ 26

/-! ### The ledger -/

/-- One output lane: the 128-bit register and its three sticky flags (R73). -/
structure LedgerLane where
  val : Ledger := 0
  nan : Bool := false
  pinf : Bool := false
  ninf : Bool := false
  deriving DecidableEq, Repr

/-- R74: a cleared lane. -/
def LedgerLane.clear : LedgerLane := ⟨0, false, false, false⟩

/-- R72: an exact product truncated towards zero to a whole multiple of 2^(A − 127). -/
def ledgerTerm (p : Dy) (a : Int) : Int :=
  let n : Int := truncNat p.m.natAbs p.e (a - 127)
  if p.m < 0 then -n else n

/-- R101, R102: whether truncation at anchor `a` drops non-zero bits of the product. -/
def ledgerLoses (p : Dy) (a : Int) : Bool :=
  if a - 127 ≤ p.e then false else p.m.natAbs % pow2 (a - 127 - p.e) != 0

/-- R72, R73: one product of two elements and two scale bytes entering a lane. The Boolean says that it lost bits. -/
def LedgerLane.addProduct (l : LedgerLane) (a : Int) (sa sb : Nat) (x y : Fl) : LedgerLane × Bool :=
  if sa = 255 || sb = 255 || x.isNan || y.isNan then ({ l with nan := true }, false)
  else
    match x, y with
    | .inf nx, .inf ny => if nx = ny then ({ l with pinf := true }, false) else ({ l with nan := true }, false)
    | .inf nx, .fin ny m _ =>
      if m = 0 then ({ l with nan := true }, false)
      else if nx != ny then ({ l with ninf := true }, false) else ({ l with pinf := true }, false)
    | .fin nx m _, .inf ny =>
      if m = 0 then ({ l with nan := true }, false)
      else if nx != ny then ({ l with ninf := true }, false) else ({ l with pinf := true }, false)
    | _, _ =>
      let p := Dy.mul (Dy.mul x.dy y.dy) ⟨1, (sa : Int) - 127 + ((sb : Int) - 127)⟩
      ({ l with val := l.val + BitVec.ofInt 128 (ledgerTerm p a) }, ledgerLoses p a)

/-- R86: two partial ledgers of one lane: 128-bit integer addition and OR of the flags. -/
def LedgerLane.combine (a b : LedgerLane) : LedgerLane :=
  { val := a.val + b.val, nan := a.nan || b.nan, pinf := a.pinf || b.pinf, ninf := a.ninf || b.ninf }

/-- R73, R75: what a lane of an MX product outputs. -/
def LedgerLane.mxValue (l : LedgerLane) (a : Int) : Fl :=
  if l.nan || (l.pinf && l.ninf) then .nan
  else if l.pinf then .inf false
  else if l.ninf then .inf true
  else Fl.ofInt l.val.toInt (a - 127)

/-- R75, R76: what a lane of an INT product outputs: the exact sum times the exact product of the two FP32 scales,
following IEEE 754 where a scale is not finite. -/
def LedgerLane.intValue (l : LedgerLane) (sa sb : Word) : Fl :=
  let x := f32.decode sa.toNat
  let y := f32.decode sb.toNat
  let s := l.val.toInt
  let neg := (x.neg != y.neg) != decide (s < 0)
  if x.isNan || y.isNan then .nan
  else if x.isInf || y.isInf then
    (if x.isZero || y.isZero || s = 0 then .nan else .inf neg)
  else
    let d := Dy.mul (Dy.mul ⟨s, 0⟩ x.dy) y.dy
    .fin neg d.m.natAbs d.e

/-! ### FP32 arithmetic (R88, R91) -/

/-- The canonical quiet NaN (R76). -/
def f32Nan : Word := 0x7FC00000#32

def f32Of (v : Fl) : Word := BitVec.ofNat 32 (f32.encode v)
def f32Val (w : Word) : Fl := f32.decode w.toNat

/-- An exact sum of two finite values with the sign an IEEE zero has (round to nearest: +0 unless both are −0). -/
def flAddExact (na nb : Bool) (d : Dy) : Fl :=
  if d.m = 0 then .fin (na && nb) 0 0 else .fin (decide (d.m < 0)) d.m.natAbs d.e

/-- IEEE 754 addition, before rounding. -/
def flAdd (x y : Fl) : Fl :=
  match x, y with
  | .nan, _ => .nan
  | _, .nan => .nan
  | .inf a, .inf b => if a = b then .inf a else .nan
  | .inf a, _ => .inf a
  | _, .inf b => .inf b
  | .fin na _ _, .fin nb _ _ => flAddExact na nb (Dy.add x.dy y.dy)

/-- IEEE 754 multiplication, before rounding. -/
def flMul (x y : Fl) : Fl :=
  match x, y with
  | .nan, _ => .nan
  | _, .nan => .nan
  | .inf a, .inf b => .inf (a != b)
  | .inf a, .fin b m _ => if m = 0 then .nan else .inf (a != b)
  | .fin a m _, .inf b => if m = 0 then .nan else .inf (a != b)
  | .fin a m e, .fin b n f => .fin (a != b) (m * n) (e + f)

def f32Add (a b : Word) : Word := f32Of (flAdd (f32Val a) (f32Val b))
def f32Mul (a b : Word) : Word := f32Of (flMul (f32Val a) (f32Val b))
/-- a × b + c, rounded once. -/
def f32Fma (a b c : Word) : Word := f32Of (flAdd (flMul (f32Val a) (f32Val b)) (f32Val c))

/-- x < y on values that are not NaN, with −0 < +0 (R91: IEEE 754-2019 maximum and minimum). -/
def flLess (x y : Fl) : Bool :=
  match x, y with
  | .inf a, .inf b => a && !b
  | .inf a, _ => a
  | _, .inf b => !b
  | .fin na _ _, .fin nb _ _ =>
    let dx := x.dy
    let dy := y.dy
    if dx.m = 0 && dy.m = 0 then na && !nb else Dy.lt dx dy
  | _, _ => false

def f32Max (a b : Word) : Word :=
  let x := f32Val a
  let y := f32Val b
  if x.isNan || y.isNan then f32Nan else if flLess x y then b else a

def f32Min (a b : Word) : Word :=
  let x := f32Val a
  let y := f32Val b
  if x.isNan || y.isNan then f32Nan else if flLess y x then b else a

/-- One level of a pairwise tree: (0, 1), (2, 3) and so on; an odd last element passes on. -/
def pairUp (f : Word → Word → Word) : List Word → List Word
  | a :: b :: l => f a b :: pairUp f l
  | l => l

/-- A fixed pairwise tree of `levels` levels (R88, R91). -/
def treeFold (f : Word → Word → Word) : Nat → List Word → List Word
  | 0, l => l
  | n + 1, l => treeFold f n (pairUp f l)

/-- R91: row maximum over 64 lanes. -/
def rowMax (l : List Word) : Word := (treeFold f32Max 6 l).headD 0
/-- R91: row sum over 64 lanes, each addition correctly rounded. -/
def rowSum (l : List Word) : Word := (treeFold f32Add 6 l).headD 0

/-- R88: a 32-long group of products, each rounded to FP32, summed in a five-level tree (a short group is a tree over
its own products: DESIGN CHOICE 6, zeros stand for the missing ones). -/
def groupSum (ps : List Word) : Word := (treeFold f32Add 5 (ps ++ List.replicate (32 - ps.length) 0)).headD 0

/-- R88, steps 1 to 3: a lane's FP32 accumulator after the products of one reduction, in ascending K order. -/
def floatAccumulate (acc : Word) (groups : List (List Word)) : Word :=
  groups.foldl (fun a g => f32Add a (groupSum g)) acc

/-! ### exp, reciprocal, rsqrt (R91, R93) -/

/-- The results within `ulps` units in the last place among FP32 magnitude codes around `c`, by the test `ok`. -/
def nearCodes (c ulps : Nat) (ok : Nat → Bool) : List Nat :=
  ((List.range (2 * ulps + 3)).map (fun i => c + i - (ulps + 1))).filter (fun k => decide (k ≤ f32.infCode) && ok k)

/-- The member of a list that the configuration picks for this function and input (Config.vectorPick). -/
def pickCode (fn : Nat) (x : Word) (c : Nat) (l : List Nat) : Nat :=
  (l[Config.vectorPick fn x % l.length]?).getD c

/-- The size of one unit in the last place at a magnitude code. -/
def ulpExp (c : Nat) : Int := max ((c / 2 ^ 23 : Nat) : Int) 1 - 150

/-- |num/den − code| ≤ ulps units in the last place of the code; `num`, `den` positive, values scaled by 2^sc. -/
def withinUlps (num den : Nat) (sc : Int) (ulps k : Nat) : Bool :=
  match f32.decode k with
  | .fin _ m e =>
    let u : Dy := ⟨ulps, ulpExp k⟩
    let diff := Dy.add ⟨(m : Int) * den, e⟩ ⟨-(num : Int), sc⟩
    Dy.le diff.abs ⟨u.m * den, u.e⟩
  | _ => false

/-- The magnitude code of num/den × 2^sc, truncated to 64 further bits (good enough to centre the candidates). -/
def ratioCode (num den : Nat) (sc : Int) : Nat := f32.code (num * 2 ^ 64 / den) (sc - 64)

/-- R91, R93: reciprocal, within 1 unit in the last place. -/
def vecRecip (x : Word) : Word :=
  match f32Val x with
  | .nan => f32Nan
  | .inf neg => BitVec.ofNat 32 (f32.signBit neg)
  | .fin neg m e =>
    if m = 0 then BitVec.ofNat 32 (f32.signBit neg + f32.infCode)
    else
      -- 1/(m × 2^e) = 2^64/m × 2^(−e−64)
      let c := min (ratioCode (2 ^ 64) m (-e - 64)) f32.infCode
      let l := if c = f32.infCode then [] else nearCodes c 1 (withinUlps (2 ^ 64) m (-e - 64) 1)
      BitVec.ofNat 32 (f32.signBit neg + pickCode 9 x c l)

/-- Integer square root by bisection on bits, `n` bits. -/
def isqrtBits (v : Nat) : Nat → Nat → Nat
  | 0, r => r
  | n + 1, r => let t := r + 2 ^ n; isqrtBits v n (if t * t ≤ v then t else r)

/-- R91, R93: reciprocal square root, within 1 unit in the last place. -/
def vecRsqrt (x : Word) : Word :=
  match f32Val x with
  | .nan => f32Nan
  | .inf neg => if neg then f32Nan else 0
  | .fin neg m e =>
    if m = 0 then BitVec.ofNat 32 (f32.signBit neg + f32.infCode)
    else if neg then f32Nan
    else
      -- m × 2^e with an even exponent; 1/sqrt(m' × 2^e') = floor(sqrt(2^256/m')) × 2^(−128 − e'/2)
      let m' := if e % 2 = 0 then m else 2 * m
      let e' := if e % 2 = 0 then e else e - 1
      let r := isqrtBits (2 ^ 256 / m') 129 0
      let sc : Int := -128 - e' / 2
      let c := f32.code r sc
      -- c is within one unit when (c − u)² ≤ 1/x ≤ (c + u)²
      let ok := fun k => withinUlps r 1 sc 1 k
      BitVec.ofNat 32 (pickCode 10 x c (nearCodes c 1 ok))

/-- Fixed-point Taylor sum of exp(r) in units of 2^-128, `n` terms, r in the same units. -/
def expTaylor (r : Nat) : Nat → Nat → Nat → Nat → Nat
  | 0, _, _, acc => acc
  | n + 1, k, term, acc =>
    let t := term * r / 2 ^ 128 / k
    expTaylor r n (k + 1) t (acc + t)

/-- ln 2 in units of 2^-128. -/
def ln2Fixed : Nat := 235865763225513294137944142764154484399

/-- R91, R93: exp, within 2 units in the last place. -/
def vecExp (x : Word) : Word :=
  match f32Val x with
  | .nan => f32Nan
  | .inf neg => if neg then 0 else BitVec.ofNat 32 f32.infCode
  | .fin neg m e =>
    if m = 0 then 0x3F800000#32
    else
      let d : Dy := ⟨if neg then -(m : Int) else m, e⟩
      if Dy.lt ⟨8872283, 0⟩ (Dy.mul d ⟨100000, 0⟩) then BitVec.ofNat 32 f32.infCode
      else if Dy.lt d ⟨-128, 0⟩ then
        -- below 2^-180: 0 and the two smallest magnitudes are within 2 units in the last place
        BitVec.ofNat 32 (pickCode 8 x 0 [0, 1, 2])
      else
        let fx : Int := if -128 ≤ e then d.m * pow2 (e + 128) else d.m / (pow2 (-128 - e) : Int)
        let k := fx / (ln2Fixed : Int)
        let r := (fx - k * ln2Fixed).toNat
        let v := expTaylor r 48 1 (2 ^ 128) (2 ^ 128)
        let sc : Int := k - 128
        let c := f32.code v sc
        BitVec.ofNat 32 (pickCode 8 x c (nearCodes c 2 (withinUlps v 1 sc 2)))

/-! ### Output conversion (R76 to R78) -/

/-- The three output events of PRT_ARITH_STATUS (R78, R101). -/
structure OutFlags where
  sat : Bool := false
  infOut : Bool := false
  nanOut : Bool := false
  deriving DecidableEq, Repr

def OutFlags.or (a b : OutFlags) : OutFlags := ⟨a.sat || b.sat, a.infOut || b.infOut, a.nanOut || b.nanOut⟩

/-- R78: what an output lane sets whatever its format. -/
def flagsOf (v : Fl) : OutFlags := { infOut := v.isInf, nanOut := v.isNan }

/-- emax of an MX element type (R77). -/
def Fmt.emax : Fmt → Int
  | .mxfp4 => 2 | .e4m3 => 8 | .e5m2 => 15 | _ => 0

/-- Floor of log2 of a positive dyadic. -/
def dyLog2 (d : Dy) : Int := (Nat.log2 d.m.natAbs : Int) + d.e

/-- The largest of the magnitudes of finite values. -/
def maxAbs (vs : List Fl) : Dy := vs.foldl (fun a v => if Dy.lt a v.dy.abs then v.dy.abs else a) ⟨0, 0⟩

/-- R77: the scale byte of an MX output block. -/
def mxScale (f : Fmt) (vs : List Fl) : Nat :=
  let m := maxAbs vs
  if m.m = 0 then 127 else (max 0 (min 254 (dyLog2 m - f.emax + 127))).toNat

/-- R76, R77: one element of an MX output block, rounded and saturated; the Boolean says that it saturated.
MXINT8 saturates at ±127, its largest finite magnitude of R58 (DEDUCED 7). -/
def mxElem (f : Fmt) (scale : Nat) (v : Fl) : Nat × Bool :=
  match v with
  | .fin neg m e =>
    let e' := e - ((scale : Int) - 127)
    match f with
    | .mxint8 =>
      let n := rneNat m e' (-6)
      let k := min n 127
      (unsignedOf 8 (if neg then -(k : Int) else k), decide (127 < n))
    | .e4m3 => let c := fE4m3.code m e'; (fE4m3.signBit neg + min c 0x7E, decide (0x7E < c))
    | .e5m2 => let c := fE5m2.code m e'; (fE5m2.signBit neg + min c 0x7B, decide (0x7B < c))
    | _ => let c := fE2m1.code m e'; (fE2m1.signBit neg + min c 7, decide (7 < c))
  | _ => (0, false)

/-- R76 to R78: a block of up to 32 output values in an MX format: its scale byte, its element codes, its events.
A NaN or infinite lane gives block scale 0xFF and elements 0. -/
def mxBlock (f : Fmt) (vs : List Fl) : Nat × List Nat × OutFlags :=
  let fl := (vs.map flagsOf).foldl OutFlags.or {}
  if fl.nanOut || fl.infOut then (255, vs.map (fun _ => 0), fl)
  else
    let s := mxScale f vs
    let es := vs.map (mxElem f s)
    (s, es.map (·.1), { fl with sat := es.any (·.2) })

/-- R76: one value in a format with no block scale. FP32, BF16 and FP16 only. -/
def floatOut (f : Fmt) (v : Fl) : Nat :=
  match f with
  | .bf16 => fBf16.encode v
  | .fp16 => fFp16.encode v
  | _ => f32.encode v

/-! ### 2:4 sparsity (R94 to R96) -/

/-- R95: the two positions of a group of four, from its 4-bit metadata. -/
def sparsePositions (md : Nat) : Nat × Nat := (md % 4, md / 4 % 4)

/-- R85: the flag bits of a raw-export trailer. -/
def LedgerLane.flagBits (l : LedgerLane) : Nat := bit l.nan + 2 * bit l.pinf + 4 * bit l.ninf

end Sys2Proof.Machine
end

