-- ==== Sys2Proof/Machine/BaseTypes.lean ====
section
/-!
DEFINITION. Types shared by every unit: the ports and origins a command comes from, command entries as staged, what a
running command needs in order to complete, and the messages the device sends out.
-/
namespace Sys2Proof.Machine

/-- The ports of R15 and R705: management port (steward), physical function (operator), virtual functions 1 to 63
(tenants), twin port (peer), and the JTAG port of an ITD12-A1-LE (R3). -/
inductive Port where
  | mgmt
  | pf
  | vf (n : Nat)
  | twin
  | jtag
  deriving DecidableEq, Repr

/-- A number for each port, the key of per-port state (R15, R704): 0 the physical function, n virtual function n. -/
def Port.key : Port → Nat
  | .pf => 0
  | .vf n => n
  | .mgmt => 100
  | .twin => 101
  | .jtag => 102

/-- Where a command entry came from: a session's ring, a Renaihel request of the management port, the firmware itself
(R31, R345), or the JTAG port (R3). -/
inductive Origin where
  | session (s : Nat)
  | mgmt
  | firmware
  | jtag
  deriving DecidableEq, Repr

/-- A number for each origin. -/
def Origin.key : Origin → Nat
  | .session s => s
  | .mgmt => 5000
  | .firmware => 5001
  | .jtag => 5002

/-- What a running command needs in order to complete: who gave it and through which port, its opcode, flags and tag
(R728), its INSTANCE (R729), and whether its final record follows an acceptance record (R741). -/
structure CmdRef where
  origin : Origin
  port : Port
  /-- the command's place in fetch order, unique per device -/
  uid : Nat
  opcode : Nat
  flags : Nat
  tag : Word
  inst : Nat
  late : Bool := false
  deriving DecidableEq, Repr

/-- A validated 64-byte command entry that has not completed (R54, R720); `home` is the partition whose staging region
holds it, 15 the control complex. -/
structure Staged where
  cmd : CmdRef
  entry : List Byte
  home : Nat := 15
  started : Bool := false
  deriving DecidableEq, Repr

/-- A completion record waiting to be written (R722 to R724); eight bytes of value, zeros appended. -/
structure Record where
  uid : Nat
  tag : Word
  status : Status
  opcode : Nat
  inst : Nat
  value : List Byte
  progress : Bool := false
  deriving DecidableEq, Repr

/-- What the JTAG port of an ITD12-A1-LE does (R3, R705): it posts a command entry; reads or writes a range of a space, a
register, or memory of the control complex. -/
inductive DebugOp where
  | command (entry : List Byte)
  | read (addr n : Nat)
  | write (addr : Nat) (data : List Byte)
  | readReg (off : Nat)
  | writeReg (off word : Nat)
  | readControl (off n : Nat)
  | writeControl (off : Nat) (data : List Byte)
  deriving DecidableEq, Repr

/-- The field that a PCIe configuration request names (R694, R695, R698, R699). -/
inductive CfgField where
  | ident | classRevision | subsystem | totalVfs | vfOffset | vfStride | msixSize | vfEnable | bar4Size | power | other
  deriving DecidableEq, Repr

/-- What the device sends to the outside world. The list of these in the state is the model's own: the spec gives the
messages, and where they go is outside the device. -/
inductive Out where
  /-- Bytes written to host memory by a function, at a PCIe address (records, R722; RESULT and token buffers, R56). -/
  | hostWrite (function : Nat) (addr : DWord) (bytes : List Byte)
  /-- An MSI-X message of a function (R726). -/
  | msix (function vector : Nat)
  /-- A message on the management port (MCTP type and body, R740 to R743). -/
  | mctp (kind : Nat) (body : List Byte)
  /-- A notice or message between devices over Plovlink or the twin port: kind, destination device, body. -/
  | link (port kind dest : Nat) (body : List Byte)
  /-- A block sent on a lane of a port: its TYPE, and its 896 bytes as they stand before the scrambler (R745). -/
  | block (port lane kind : Nat) (body : List Byte)
  /-- A land or sideband line driven to a level (R824, R830, R898). -/
  | land (name : Nat) (level : Bool)
  /-- A byte written to a module's CMIS page over the port's sideband (R758). -/
  | cmis (port page offset data : Nat)
  /-- A byte sent on the UART (R893). -/
  | uart (b : Byte)
  /-- A PCIe completion or configuration reply: kind 0 success, 1 Unsupported Request, 2 Request Retry Status,
  3 poisoned data (R47, R703, R801). -/
  | pcie (kind : Nat) (data : List Byte)
  /-- What a register read returns to a port (R16, R17). -/
  | value (port : Port) (data : List Byte)
  /-- Bits shifted out of the test port (R895), or what a debug access returns (R3). -/
  | jtag (bits : List Byte)
  deriving DecidableEq, Repr

end Sys2Proof.Machine
end

