-- ==== Sys2Proof/Syntax.lean ====
section
/-!
DEFINITION. The commands of the block: one constructor per row of the table of operations and events, with what the row
needs to be one definite occurrence (where it happens, and what the outside world brings with it).
-/
namespace Sys2Proof

open Sys2Proof.Machine

/-- The operations and events of the Itdal 12. A row that runs a command entry names the entry's origin; a row that is an
event of the hardware names the place, and what the model does not hold (host bytes, a measured value) stands as an
operand. -/
inductive Instr where
  /-- SQ_TAIL_DOORBELL (R719): A write to HUB_DB_SQ_TAIL publishes new submission entries of a session, and a tail out of range halts the session. -/
  | sqTailDoorbell (fn : Nat) (session : Nat) (v : Nat)
  /-- ENTRY_FETCH (R719): The control complex fetches published entries of a session in ring order, stages them and advances SQ_HEAD. -/
  | entryFetch (session : Nat) (data : Option (List Byte))
  /-- CQ_HEAD_DOORBELL (R723): A write to HUB_DB_CQ_HEAD frees completion ring space, so held records can be written. -/
  | cqHeadDoorbell (fn : Nat) (session : Nat) (v : Nat)
  /-- COMPLETION_RECORD_WRITE (R722): A completion record is written at CQ_TAIL with the current phase once the ring has room, and CQ_TAIL advances. -/
  | completionRecordWrite (session : Nat) (n : Nat) (fail : Bool)
  /-- MSIX_HOLDOFF_EXPIRY (R726): The session's holdoff ends, and an MSI-X message held back by it is sent. -/
  | msixHoldoffExpiry (session : Nat)
  /-- SESSION_ENABLE (R715): A write of 1 to HUB_SES_CTRL.ENABLE while OFF makes the session RUNNING with pointers zeroed and phase 1. -/
  | sessionEnable (port : Port) (session : Nat) (word : Nat)
  /-- SESSION_DISABLE (R716): A write of 0 to ENABLE stops fetching, aborts unstarted staged commands and drains the session to OFF. -/
  | sessionDisable (port : Port) (session : Nat) (word : Nat)
  /-- FUNCTION_LEVEL_RESET (R697): A function-level reset or D3hot to D0 move of a virtual function disables its sessions, ends its requests and resets its per-port registers. -/
  | functionLevelReset (fn : Nat)
  /-- PF_FUNCTION_LEVEL_RESET (R698): A function-level reset of the physical function resets it, clears VF Enable and resets every virtual function. -/
  | pfFunctionLevelReset
  /-- PERST_OR_HOT_RESET (R820): PERST_N, a hot reset or a link-down resets the host port link and configuration space as a physical-function reset does. -/
  | perstOrHotReset
  /-- APERTURE_READ (R702): A host read through a BAR4 aperture is checked per granule and returns data, zeros or poisoned data. -/
  | apertureRead (fn : Nat) (off : Nat) (n : Nat) (ce : Nat) (ue : Option Nat)
  /-- APERTURE_WRITE (R703): A host write through a BAR4 aperture is checked per granule and stored, with read-modify-write for partial granules, or dropped. -/
  | apertureWrite (fn : Nat) (off : Nat) (data : List Byte)
  /-- REG_LO_READ (R16): A read of a _LO register returns the low half and captures the 64-bit value as the port's snapshot. -/
  | regLoRead (port : Port) (off : Nat)
  /-- REG_HI_READ (R17): A read of a _HI register returns the snapshot's high half, or the live half without a snapshot, and consumes the snapshot. -/
  | regHiRead (port : Port) (off : Nat)
  /-- REG_LO_WRITE (R18): A write of a _LO register loads the port's holding register. -/
  | regLoWrite (port : Port) (off : Nat) (word : Nat)
  /-- REG_HI_WRITE (R19): A write of a _HI register commits both halves as one 64-bit value. -/
  | regHiWrite (port : Port) (off : Nat) (word : Nat)
  /-- REGISTER_WRITE (R13): A write to a register with no behaviour of its own acts under its access type, with reserved values ignored. -/
  | registerWrite (port : Port) (off : Nat) (word : Nat)
  /-- UNSUPPORTED_BAR_ACCESS (R47): A BAR0 access of another size or alignment completes with Unsupported Request and has no effect. -/
  | unsupportedBarAccess (fn : Nat) (bar : Nat) (off : Nat) (bytes : Nat)
  /-- NOP (R732): NOP completes at once. -/
  | nop (o : Origin)
  /-- FENCE (R732): FENCE completes when every earlier command of the session has completed and holds later commands until then. -/
  | fence (o : Origin)
  /-- LANDING_FENCE (R397): LANDING_FENCE covers the earlier writes of a mover channel and completes when they are visible. -/
  | landingFence (o : Origin)
  /-- WAIT_EVENT (R732): WAIT_EVENT waits until an event count reaches a threshold. -/
  | waitEvent (o : Origin)
  /-- WAIT_EVENT_TIMEOUT (R732): A WAIT_EVENT whose TIMEOUT_US passes completes with EVT_TIMEOUT. -/
  | waitEventTimeout (o : Origin)
  /-- SIGNAL (R732): SIGNAL adds to an event count once earlier commands of the session have completed. -/
  | signal (o : Origin)
  /-- HUB_EVT_COUNT_WRITE (R735): A write to HUB_EVT_COUNT stores the selected event's count and is evaluated against waiting WAIT_EVENTs. -/
  | hubEvtCountWrite (port : Port) (v : Nat)
  /-- IMAGE_LOAD (R258): IMAGE_LOAD checks an image in twelve ordered checks and commits its resources in one action, or refuses it. -/
  | imageLoad (o : Origin)
  /-- IMAGE_UNLOAD (R267): IMAGE_UNLOAD releases an image's slots, stop-store positions, T1, queue store and circuits, unless it is in use. -/
  | imageUnload (o : Origin)
  /-- STOP_LOAD (R262): STOP_LOAD asks for a stop of an image to be loaded into a slot. -/
  | stopLoad (o : Origin)
  /-- STOP_SWITCH (R265): STOP_SWITCH asks for a switch to the slot holding the named stop. -/
  | stopSwitch (o : Origin)
  /-- BOUND_SET (R295): BOUND_SET writes a PRT_BOUNDn register in session order. -/
  | boundSet (o : Origin)
  /-- PRT_STOP_LOAD_GO (R271): A write of GO to PRT_STOP_LOAD starts a load from the stop store or T2 into a slot. -/
  | prtStopLoadGo (port : Port) (p : Nat) (word : Nat)
  /-- PRT_STOP_SWITCH_GO (R273): A write of GO to PRT_STOP_SWITCH starts a switch to a slot. -/
  | prtStopSwitchGo (port : Port) (p : Nat) (word : Nat)
  /-- STOP_LOAD_START (R232): A waiting stop load starts when the partition's previous load has ended, and its slot enters LOADING. -/
  | stopLoadStart (p : Nat) (storeFails : Bool)
  /-- STOP_BLOCK_READ_COMPLETE (R233): The stop block has been read into the load buffer, its CRC is checked, and the write starts or the slot becomes FAILED. -/
  | stopBlockReadComplete (p : Nat) (storeFails : Bool)
  /-- STOP_LOAD_COMPLETE (R233): The last configuration word is written, STOP_ID is recorded and the slot enters READY. -/
  | stopLoadComplete (p : Nat)
  /-- SWITCH_START (R236): A switch begins when no step of the partition runs, closing tile ports and generator starts. -/
  | switchStart (p : Nat)
  /-- DRAIN_END (R239): Occupancy reaches 0, the drain ends and commit begins. -/
  | drainEnd (p : Nat) (cycles : Nat)
  /-- SWITCH_COMPLETE (R241): Tile ports reopen under the new stop and the switch completes. -/
  | switchComplete (p : Nat)
  /-- STOP_DRAIN_TIMEOUT (R239): DRAIN_BUDGET cycles pass with occupancy above 0, and the partition raises STOP_DRAIN_TIMEOUT. -/
  | stopDrainTimeout (p : Nat)
  /-- TOKEN_ARRIVAL_SWITCH (R111): A token arriving at a switch is forwarded on its routed outputs, multicast when several entries name it. -/
  | tokenArrivalSwitch (p : Nat) (site : Nat) (port : Nat) (scalar : Bool) (ch : Nat)
  /-- CREDIT_RETURN (R112): A credit returns to the sender 2 cycles after a buffer entry empties. -/
  | creditReturn (p : Nat) (site : Nat) (port : Nat) (scalar : Bool) (ch : Nat)
  /-- LINK_PARITY_ERROR (R163): A receiver finds a parity error, discards the token and later ones and asks for a re-send. -/
  | linkParityError (p : Nat) (site : Nat) (port : Nat) (scalar : Bool) (ch : Nat)
  /-- LINK_RESEND (R163): A sender re-sends from its replay buffer in order, counting the re-send. -/
  | linkResend (p : Nat) (site : Nat) (port : Nat) (scalar : Bool)
  /-- TOKEN_ARRIVAL_CELL (R123): A token arriving at a cell is checked against the active epoch and opens or joins a tag context. -/
  | tokenArrivalCell (p : Nat) (site : Nat) (scalar : Bool) (ch : Nat)
  /-- CELL_BEAT (R126): A cell fires one beat when every declared input holds the context's next token. -/
  | cellBeat (p : Nat) (site : Nat)
  /-- ANCHOR_PASS_COMPLETE (R71): The anchor pass of an output tile ends after reading its scale bytes, fixing the tile's anchor. -/
  | anchorPassComplete (p : Nat) (site : Nat) (tag : Nat)
  /-- TILE_CAPTURE (R136): After the last product reaches the ledgers, the conversion stage captures the tile and frees the ledgers. -/
  | tileCapture (p : Nat) (site : Nat)
  /-- VECTOR_ROW_OUTPUT (R140): A row leaves the vector program, is converted to FMT_OUT and emitted on OUT. -/
  | vectorRowOutput (p : Nat) (site : Nat)
  /-- VEC_NOP (R142): Vector instruction NOP does nothing. -/
  | vecNop (p : Nat) (site : Nat)
  /-- VEC_ADD (R142): Vector instruction ADD adds two registers lane by lane. -/
  | vecAdd (p : Nat) (site : Nat)
  /-- VEC_MUL (R142): Vector instruction MUL multiplies two registers lane by lane. -/
  | vecMul (p : Nat) (site : Nat)
  /-- VEC_FMA (R142): Vector instruction FMA computes A × B + C lane by lane. -/
  | vecFma (p : Nat) (site : Nat)
  /-- VEC_MAX (R142): Vector instruction MAX takes the element-wise maximum. -/
  | vecMax (p : Nat) (site : Nat)
  /-- VEC_MIN (R142): Vector instruction MIN takes the element-wise minimum. -/
  | vecMin (p : Nat) (site : Nat)
  /-- VEC_ROWMAX (R142): Vector instruction ROWMAX places the row maximum in every lane. -/
  | vecRowmax (p : Nat) (site : Nat)
  /-- VEC_ROWSUM (R142): Vector instruction ROWSUM places the row sum in every lane. -/
  | vecRowsum (p : Nat) (site : Nat)
  /-- VEC_EXP (R91): Vector instruction EXP computes exp of each lane. -/
  | vecExp (p : Nat) (site : Nat)
  /-- VEC_RECIP (R91): Vector instruction RECIP computes the reciprocal of each lane. -/
  | vecRecip (p : Nat) (site : Nat)
  /-- VEC_RSQRT (R91): Vector instruction RSQRT computes the reciprocal square root of each lane. -/
  | vecRsqrt (p : Nat) (site : Nat)
  /-- VEC_MASKAPPLY (R142): Vector instruction MASKAPPLY sets to −infinity the lanes whose mask bit is 0. -/
  | vecMaskapply (p : Nat) (site : Nat)
  /-- VEC_MOVE (R142): Vector instruction MOVE copies a register. -/
  | vecMove (p : Nat) (site : Nat)
  /-- GENERATOR_RUN_START (R153): A memory cell generator starts a run on step issue or on a token on its scalar channel. -/
  | generatorRunStart (p : Nat) (site : Nat) (g : Nat)
  /-- BANK_ACCESS (R149): A memory cell bank serves one access per cycle in fixed priority with aging. -/
  | bankAccess (p : Nat) (site : Nat) (bank : Nat)
  /-- T1_WRITE_TOKEN (R154): A write generator writes an arriving token at the next address of its walk. -/
  | t1WriteToken (p : Nat) (site : Nat) (g : Nat)
  /-- ACCUMULATE_WRITE (R155): A write generator in accumulate mode reads, adds and writes back a token. -/
  | accumulateWrite (p : Nat) (site : Nat) (g : Nat)
  /-- T1_PARITY_REISSUE (R157): A T1 read failing parity is re-issued 4 cycles later, and a third failure raises T1_PARITY. -/
  | t1ParityReissue (p : Nat) (site : Nat) (g : Nat)
  /-- VALVE_TOKEN_ARRIVAL (R181): A token arriving at a valve fires with its partner, pairs, parks in the matching store or holds at its channel head. -/
  | valveTokenArrival (p : Nat) (site : Nat) (scalar : Bool) (ch : Nat)
  /-- VALVE_BEAT (R184): A valve fires its earliest ready beat, moving one data token under its kind's rule. -/
  | valveBeat (p : Nat) (site : Nat) (parityOk : Bool)
  /-- VALVE_PAIRING_TIMEOUT (R205): A parked token's age exceeds PAIR_LIMIT and the valve raises VALVE_PAIRING_TIMEOUT. -/
  | valvePairingTimeout (p : Nat) (site : Nat) (entry : Nat) (withDrain : Bool)
  /-- PRT_VALVE_CLEAR_HW (R214): A write of CLEAR_HW sets the selected valve's HIGH_WATER to its current occupancy. -/
  | prtValveClearHw (port : Port) (p : Nat)
  /-- PRT_VALVE_PEAK_CLEAR (R217): A write of CLEAR to PRT_VALVE_PEAK clears PEAK and SITE. -/
  | prtValvePeakClear (p : Nat)
  /-- RING_FILL_ISSUE (R303): An inbound ring issues a step's next fill when its slot is free, reading its index list entry. -/
  | ringFillIssue (p : Nat) (col : Nat) (ch : Nat)
  /-- RING_FILL_COMPLETE (R303): A fill's last byte is visible in its slot and TAIL advances. -/
  | ringFillComplete (p : Nat) (col : Nat) (ch : Nat)
  /-- RING_INJECT (R304): A filled slot of an issued step is injected into the fabric as one tagged packet. -/
  | ringInject (p : Nat) (col : Nat) (ch : Nat)
  /-- OUTBOUND_TOKEN (R306): A token from the fabric is written into an outbound ring's TAIL slot, closing it when full or at END. -/
  | outboundToken (p : Nat) (col : Nat) (ch : Nat)
  /-- RING_WRITE_OUT (R306): A closed outbound slot of a committed step is written to its destination. -/
  | ringWriteOut (p : Nat) (col : Nat) (ch : Nat)
  /-- PUSH_TOKEN_ARRIVAL (R442): A token reaches a tile port's push port, to be written as a queue word 4 cycles later. -/
  | pushTokenArrival (p : Nat) (col : Nat)
  /-- QUEUE_WORD_WRITE (R436): A queue word is written, its packet checked for duplicates and stamped, and stored or dropped. -/
  | queueWordWrite (p : Nat)
  /-- PACKET_VISIBLE (R440): A packet or marker becomes visible 2 cycles after its END word, and raises its notice. -/
  | packetVisible (p : Nat) (q : Nat) (marker : Bool)
  /-- POP_PORT_CHOOSE (R457): A pop port chooses its next packet or marker in level and arrival order and sends it. -/
  | popPortChoose (p : Nat) (col : Nat) (ce : Nat) (ue : Option Nat)
  /-- STALL_MARKER_TIMEOUT (R451): A stalled step read reaches STALL_LIMIT × 64 cycles and receives a stall marker. -/
  | stallMarkerTimeout (p : Nat) (col : Nat)
  /-- POP_SKIP_TOKEN (R454): A token on a pop port's skip channel ends the packet in progress. -/
  | popSkipToken (p : Nat) (col : Nat)
  /-- QUEUE_CREATE (R463): QUEUE_CREATE places a queue in the job's queue region after its checks. -/
  | queueCreate (o : Origin)
  /-- QUEUE_DESTROY (R464): QUEUE_DESTROY removes a queue not bound by an image and ends waiting pops with QUE_UNKNOWN. -/
  | queueDestroy (o : Origin)
  /-- QUEUE_PUSH (R465): QUEUE_PUSH pushes one packet under the session's producer ID. -/
  | queuePush (o : Origin) (ce : Nat) (ue : Option Nat)
  /-- QUEUE_POP (R466): QUEUE_POP reads up to MAX_WORDS of the next packet and keeps the rest current. -/
  | queuePop (o : Origin) (ce : Nat) (ue : Option (Nat × Nat))
  /-- QUEUE_POP_TIMEOUT (R467): A waiting QUEUE_POP reaches STALL_LIMIT × 64 cycles and completes with QUE_EMPTY. -/
  | queuePopTimeout (o : Origin)
  /-- QUEUE_SKIP (R466): QUEUE_SKIP discards the rest of the session's current packet. -/
  | queueSkip (o : Origin)
  /-- BREATH_START (R602): A breath begins and its intake runs its ordered actions within 4 µs. -/
  | breathStart (fails : List Nat)
  /-- BREATH_IN_EDGE (R598): A rising edge on BREATH_IN begins a breath, or is ignored as early. -/
  | breathInEdge (us : Nat)
  /-- TRACE_TRIG_EDGE (R600): An edge on the land serving TRACE_TRIG triggers the trace unit. -/
  | traceTrigEdge
  /-- BREATH_HOLDOVER (R598): No edge or tick arrives by E + 1 µs and the breath begins in holdover. -/
  | breathHoldover (fails : List Nat)
  /-- BRT_PERIOD_WRITE (R601): A write to BRT_PERIOD is held for the next boundary or refused with PERIOD_REFUSED. -/
  | brtPeriodWrite (port : Port) (word : Nat)
  /-- BRT_SRC_WRITE (R601): A write to BRT_SRC is held for the next boundary. -/
  | brtSrcWrite (port : Port) (word : Nat)
  /-- SCH_ARB_BUDGET_WRITE (R627): A write to an arbiter budget is stored or refused with REFUSED. -/
  | schArbBudgetWrite (port : Port) (c : Nat) (word : Nat)
  /-- REGULATOR_WRITE (R619): A write to a regulator register is held until the next intake. -/
  | regulatorWrite (port : Port) (p : Nat) (k : Nat) (reg : Nat) (word : Nat)
  /-- STEP_ISSUE (R313): A free partition issues its next admitted step, reading its bounds. -/
  | stepIssue (p : Nat)
  /-- STEP_COMMIT (R278): A step with occupancy 0 and outbound slots closed commits, releasing its inbound slots and held queue packets. -/
  | stepCommit (p : Nat)
  /-- STEP_OVERRUN (R842): A fabric step's effective worst case runs out before it ends, faulting with STEP_OVERRUN. -/
  | stepOverrun (p : Nat)
  /-- LEDGER_PARITY_FAILURE (R361): A parity failure in ledgers, conversion rows or vector registers ends the attempt and starts a replay. -/
  | ledgerParityFailure (p : Nat) (unit : Nat) (site : Nat)
  /-- STEP_REPLAY_REISSUE (R362): After discarding the attempt, rings and queues rewind and the step issues again. -/
  | stepReplayReissue (p : Nat) (fits : Bool)
  /-- DRONE_STEP_ISSUE (R515): A Drone step issues on every member of the group and runs its op list. -/
  | droneStepIssue (image : Nat)
  /-- D_MATMUL (R534): D_MATMUL multiplies every row by an item's panels. -/
  | dMatmul (drone : Nat)
  /-- D_ATTN (R535): D_ATTN computes paged attention partials for every row. -/
  | dAttn (drone : Nat)
  /-- D_EXCHANGE (R537): D_EXCHANGE starts a gather, reduce-scatter or anchor maximum among the group. -/
  | dExchange (drone : Nat)
  /-- EXCHANGE_COMPLETE (R538): An exchange completes on a member once the last member has issued it. -/
  | exchangeComplete (image : Nat) (cycles : Nat)
  /-- D_KV_WRITE (R534): D_KV_WRITE writes each row's K and V into this Drone's pages. -/
  | dKvWrite (drone : Nat)
  /-- D_VECTOR (R534): D_VECTOR runs a vector program on every row over WIDTH lanes. -/
  | dVector (drone : Nat)
  /-- D_EMBED (R534): D_EMBED writes each row's embedding row. -/
  | dEmbed (drone : Nat)
  /-- D_SAMPLE (R541): D_SAMPLE passes this Drone's logit columns for every row to the sampler. -/
  | dSample (drone : Nat)
  /-- D_PUSH (R536): D_PUSH pushes each row as a stamped queue packet. -/
  | dPush (drone : Nat)
  /-- DRONE_STEP_COMMIT (R518): A Drone step commits once its writes are visible and its exchanges complete. -/
  | droneStepCommit (drone : Nat)
  /-- DRONE_STEP_OVERRUN (R843): A Drone step's worst case runs out on a member, faulting with DRN_STEP_OVERRUN. -/
  | droneStepOverrun (drone : Nat)
  /-- DRONE_PARITY_FAILURE (R540): Parity failure in Drone scratch or ledgers replays the step on the whole group, or faults. -/
  | droneParityFailure (drone : Nat) (unit : Nat)
  /-- SAMPLER_ROW (R573): The sampler turns one assembled row of logits into a token under its mask and draw. -/
  | samplerRow (failed : Bool)
  /-- PASS_COMMIT (R541): Once sampling ends, each sequence of the batch commits: COMMITTED, NEXT_TOKEN and DELIVERED advance and tokens are written. -/
  | passCommit (image : Nat) (fails : List Nat)
  /-- MASK_PREPARATION_COMPLETE (R590): The masks of the next pass's rows are prepared after a commit. -/
  | maskPreparationComplete (job : Nat) (seq : Nat) (ns : Nat)
  /-- SAVE_STEP (R629): A suspending job with nothing running runs a save step on each partition at P1. -/
  | saveStep (j : Nat)
  /-- CHECKPOINT_CUT (R639): A carried step under a pending suspend is cut at its next checkpoint and drained to ledger state. -/
  | checkpointCut (p : Nat)
  /-- SAVE_COMPLETE (R636): When every save has landed the job becomes suspended and its slots empty. -/
  | saveComplete (j : Nat)
  /-- RESTORE_STEP (R637): Each partition restores a resumed job's T1, valves and ledgers and reloads its slots. -/
  | restoreStep (j : Nat)
  /-- RESTORE_COMPLETE (R638): The restore's CRCs are checked and the job resumes, or restarts with SCH_SAVE_CRC. -/
  | restoreComplete (j : Nat)
  /-- JOB_SUSPEND (R629): JOB_SUSPEND stops new chains of a job so it can be saved at a breath boundary. -/
  | jobSuspend (o : Origin)
  /-- JOB_RESUME (R637): JOB_RESUME restores a suspended job when its partitions are free. -/
  | jobResume (o : Origin)
  /-- LONG_OP_STEP (R640): A step of a long operation runs on its engine during the run phase. -/
  | longOpStep (id : Nat) (units : Nat) (busError : Bool) (data : Option (List Byte))
  /-- FRONT_LOAD_START (R346): A claimed Front load starts once the occupant's admitted instances have committed. -/
  | frontLoadStart (p : Nat)
  /-- TILE_MOVE (R377): TILE_MOVE queues a descriptor on a tile mover channel. -/
  | tileMove (o : Origin)
  /-- PAGE_MOVE (R378): PAGE_MOVE queues a descriptor on a page mover. -/
  | pageMove (o : Origin)
  /-- MOV_RESUME (R407): MOV_RESUME resumes a halted channel. -/
  | movResume (o : Origin)
  /-- MOV_DISCARD (R407): MOV_DISCARD discards a halted channel's waiting descriptors. -/
  | movDiscard (o : Origin)
  /-- MOV_CTRL_RESUME (R407): A write of RESUME to MOV_CTRL resumes the selected channel. -/
  | movCtrlResume (port : Port)
  /-- MOV_CTRL_DISCARD (R424): A write of DISCARD to MOV_CTRL discards the selected channel's waiting descriptors. -/
  | movCtrlDiscard (port : Port)
  /-- DESCRIPTOR_START (R380): A channel starts its next descriptor after checks 3 to 11, or refuses it. -/
  | descriptorStart (chan : Nat) (ce : Nat) (ue : Option Nat)
  /-- DESCRIPTOR_COMPLETE (R393): A descriptor completes when its last write leaves the mover, comparing its check result. -/
  | descriptorComplete (chan : Nat) (done : Nat)
  /-- WRITE_VISIBLE (R400): A write that left a mover becomes visible at its destination. -/
  | writeVisible (entry : Nat)
  /-- LANDING_FENCE_COMPLETE (R398): A fence completes once its covered work is done and visible, or halted or discarded. -/
  | landingFenceComplete (id : Nat)
  /-- BUS_ERROR (R404): A bus error halts the channel, latches the error and completes the descriptor with MOV_BUS_ERROR. -/
  | busError (chan : Nat) (ring : Option Nat) (uid : Nat) (write : Bool) (addr : Nat) (cause : Nat) (done : Nat) (mask : Nat)
  /-- CXL_COMPLETION_TIMEOUT (R403): A CXL access uncompleted after 50 µs is a bus error. -/
  | cxlCompletionTimeout (chan : Nat) (ring : Option Nat) (uid : Nat) (write : Bool) (addr : Nat) (done : Nat) (mask : Nat)
  /-- GRANULE_REREAD (R357): A T2 or T3 granule failing parity is re-read, and a third failure faults or ends the read. -/
  | granuleReread (addr : Nat) (fails : Nat) (ce : Nat) (job : Nat) (part : Nat) (chan : Nat) (poisoned : Bool)
  /-- T2_SCRUB (R360): The base die scrubs a granule in the background, correcting or poisoning it. -/
  | t2Scrub (stack : Nat) (granule : Nat) (found : Nat)
  /-- CHECK_RANGE (R414): CHECK_RANGE computes a CRC over memory without moving it. -/
  | checkRange (o : Origin) (ce : Nat) (ue : Option Nat)
  /-- DIGEST (R415): DIGEST runs SHA-256 over a range in ONE, START, CONTINUE or FINISH mode. -/
  | digest (o : Origin) (ce : Nat) (ue : Option Nat)
  /-- DIGEST_COMPLETE (R419): A digest command ends, writing RESULT and context and comparing EXPECT. -/
  | digestComplete (e : Nat)
  /-- SCORE_PACKET_READ (R475): The Gale engine reads a score packet, computes keys and selects the top-k experts. -/
  | scorePacketRead (r : Nat)
  /-- GALE_ISSUE (R483): When a dispatch step's partition drains, its assignments are issued in order into lists or queues. -/
  | galeIssue (r : Nat) (p : Nat)
  /-- GALE_DROP_REPORT (R491): A dropped Gale packet is reported to the sending Gale engine and counted. -/
  | galeDropReport (r : Nat)
  /-- RETURN_PACKET_READ (R494): A return packet's row is written at the home device, then its combine entry. -/
  | returnPacketRead (r : Nat)
  /-- DISPATCH_CLOSE (R495): A dispatch close arrives, and when SOURCES have arrived the dispatch round closes with tallies written. -/
  | dispatchClose (r : Nat) (from_ : Nat)
  /-- RETURN_CLOSE (R496): A return close arrives, and when RETURNS have arrived the return round closes. -/
  | returnClose (r : Nat) (from_ : Nat)
  /-- BAROMETER_COUNT_EXCHANGE (R502): A device receives another device's window counts and adds them. -/
  | barometerCountExchange (b : Nat) (counts : List Nat)
  /-- GAL_ROUTE_WRITE (R507): A write to a route register is stored, or ignored while a round is open. -/
  | galRouteWrite (port : Port) (off : Nat) (v : Nat)
  /-- BRM_BIAS_WRITE (R504): A software bias write is held and applied at the next intake after any update. -/
  | brmBiasWrite (port : Port) (off : Nat) (v : Nat)
  /-- BRM_CTRL_WRITE (R509): A write to BRM_CTRL or BRM_ETA is stored unless its value is reserved. -/
  | brmCtrlWrite (port : Port) (eta : Bool) (v : Nat)
  /-- GENERATE (R561): GENERATE creates or continues a sequence and reserves its pages for a request. -/
  | generate (o : Origin) (prompt : Option (List Byte)) (sampling : Option (List Byte))
  /-- CANCEL (R561): CANCEL ends a sequence's request at its next commit. -/
  | cancel (o : Origin)
  /-- LULL (R549): LULL packs an IDLE sequence into Lull state in T3. -/
  | lull (o : Origin)
  /-- RESUME (R557): RESUME unpacks a LULLED sequence back into KV pages. -/
  | resume (o : Origin)
  /-- PREFIX_BUILD (R544): PREFIX_BUILD prefills a prefix and marks its pages read-only. -/
  | prefixBuild (o : Origin) (tokens : Option (List Byte))
  /-- PREFIX_RELEASE (R546): PREFIX_RELEASE marks a prefix retiring. -/
  | prefixRelease (o : Origin)
  /-- SEQ_RELEASE (R561): SEQ_RELEASE frees an IDLE or LULLED sequence. -/
  | seqRelease (o : Origin)
  /-- MUTE_VALIDATE (R591): MUTE_VALIDATE checks an automaton header and returns its counts. -/
  | muteValidate (o : Origin)
  /-- SAMPLE_RUN (R591): SAMPLE_RUN samples one row and returns the token without writing. -/
  | sampleRun (o : Origin) (logits : Option (List Byte)) (sampling : Option (List Byte))
  /-- LIB_INIT (R651): LIB_INIT formats or mounts the library region. -/
  | libInit (o : Origin)
  /-- LIB_VERSION_ADD (R658): LIB_VERSION_ADD copies a version descriptor into the catalogue and starts its arrival check. -/
  | libVersionAdd (o : Origin)
  /-- LIB_VERSION_REMOVE (R681): LIB_VERSION_REMOVE clears a version's records and frees its pages. -/
  | libVersionRemove (o : Origin)
  /-- LIB_VERSION_CHECK (R663): LIB_VERSION_CHECK reruns the arrival check on shards that are not GOOD. -/
  | libVersionCheck (o : Origin)
  /-- LIB_DEPLOY (R665): LIB_DEPLOY creates a deployment and loads its first version. -/
  | libDeploy (o : Origin)
  /-- LIB_VERSION_LOAD (R677): LIB_VERSION_LOAD loads a new version alongside the old or through the drain path. -/
  | libVersionLoad (o : Origin)
  /-- LIB_UNDEPLOY (R681): LIB_UNDEPLOY unloads every version of an idle deployment. -/
  | libUndeploy (o : Origin)
  /-- SHARD_DIGEST_RESULT (R659): A shard's digest ends and the shard becomes GOOD or the next source is tried. -/
  | shardDigestResult (id : Nat) (busError : Bool) (bytes : Option (List Byte))
  /-- SHARD_RESCAN_DUE (R684): A shard's rescan period ends and its rescan starts. -/
  | shardRescanDue (shard : Nat)
  /-- TWIN_SHARD_REQUEST (R664): A twin's shard request is answered from a GOOD shard at P4. -/
  | twinShardRequest (model : Nat) (version : Nat) (index : Nat) (digest : List Byte)
  /-- PART_ASSIGN (R709): PART_ASSIGN assigns a partition to a function with its staging and Lull reservations. -/
  | partAssign (o : Origin)
  /-- FUNC_GRANT (R711): FUNC_GRANT grants sessions, events, routes or a window to a function. -/
  | funcGrant (o : Origin)
  /-- CFG_STORE_READ (R810): CFG_STORE READ copies the configuration slot in use to memory. -/
  | cfgStoreRead (o : Origin)
  /-- CFG_STORE_WRITE (R810): CFG_STORE WRITE checks a configuration and programs it into the slot not in use. -/
  | cfgStoreWrite (o : Origin)
  /-- CFG_STORE_ROLLBACK (R810): CFG_STORE ROLLBACK revokes the valid slot with the higher version. -/
  | cfgStoreRollback (o : Origin)
  /-- CFG_STORE_ACTIVATE_FW (R810): CFG_STORE ACTIVATE_FW marks a firmware activation pending for the next boot. -/
  | cfgStoreActivateFw (o : Origin)
  /-- RESET_REQUEST (R823): RESET_REQUEST schedules a device reset or resets an idle block. -/
  | resetRequest (o : Origin)
  /-- SOFTWARE_RESET (R823): The device reset begins 10 ms after RESET_REQUEST's completion record. -/
  | softwareReset
  /-- POWER_CAP (R831): POWER_CAP sets the power cap from the next breath start. -/
  | powerCap (o : Origin)
  /-- MGT_HOSTBOOT_GO (R804): A write of GO to MGT_HOSTBOOT starts the host boot with the image written in BAR4. -/
  | mgtHostbootGo (port : Port) (word : Nat)
  /-- MGT_JOB_RESTART (R851): A write of RESTART starts stage 2 on a WAITING or STOPPED job. -/
  | mgtJobRestart (port : Port)
  /-- FRING_BASE_WRITE (R859): A valid fault ring base turns the ring on and the hub page is written to it. -/
  | fringBaseWrite (port : Port) (base : Nat)
  /-- PORT_DETECT_START (R750): An enabled port with its module present leaves DOWN and sets up its media. -/
  | portDetectStart (p : Nat)
  /-- MODULE_READY (R755): The module reports ready with a 200 Gb/s application and the port moves to EQUALISE. -/
  | moduleReady (p : Nat) (type : Nat)
  /-- MEDIA_TIMEOUT (R755): A module not ready within 2 s sends the port DOWN with cause MEDIA. -/
  | mediaTimeout (p : Nat)
  /-- EQUALISE_COMPLETE (R750): Every lane meets its error ratio and the port moves to LOCK. -/
  | equaliseComplete (p : Nat)
  /-- EQUALISE_TIMEOUT (R750): Equalisation exceeds 400 ms and the port returns to DOWN. -/
  | equaliseTimeout (p : Nat)
  /-- LANE_LOCK_COMPLETE (R750): Every lane decodes 64 good blocks and the port moves to IDENTIFY. -/
  | laneLockComplete (p : Nat)
  /-- PEER_IDENTITY (R753): The peer's identity is accepted or the port goes DOWN as FOREIGN or ROLE. -/
  | peerIdentity (p : Nat) (domainId : Nat) (index : Nat) (port : Nat) (role : Nat)
  /-- DELAY_CALIBRATION (R752): The one-way delay is measured and the port goes UP or DOWN with DELAY. -/
  | delayCalibration (p : Nat) (roundTrips : List Nat)
  /-- PORT_RETRY_TIMER (R750): 1 ms after a port goes DOWN it starts again from DETECT. -/
  | portRetryTimer (p : Nat)
  /-- PORT_LOSS_TIMEOUT (R751): A lane with no good block for 1.0 µs sends the port DOWN with LOSS. -/
  | portLossTimeout (p : Nat)
  /-- MODULE_REMOVED (R751): The module's presence line deasserts and the port goes DOWN with REMOVED. -/
  | moduleRemoved (p : Nat)
  /-- PORT_TEST_SELECT (R754): A write of TEST selects a loopback or PRBS test mode, or is ignored with a live circuit. -/
  | portTestSelect (port : Port) (word : Nat)
  /-- BLOCK_RECEIVE (R749): A block arrives on a lane and passes FEC and CRC, or is discarded with a NAK sent. -/
  | blockReceive (p : Nat) (lane : Nat) (wire : List Byte)
  /-- BLOCK_NAK (R749): A NAK makes the sender re-send from the failed block, or the port goes DOWN with REPLAY. -/
  | blockNak (p : Nat) (lane : Nat) (seq : Nat)
  /-- SLOT_SEND (R767): In each 32 ns slot a port sends a transit block, its entry's packets or IDLE. -/
  | slotSend (p : Nat) (k : Nat)
  /-- TRANSIT_FORWARD (R768): A transit block is forwarded in slot s + 3 with its circuit number rewritten. -/
  | transitForward (p : Nat) (c : Nat) (slot : Nat) (payload : List Byte)
  /-- PLV_WRITE_PACKET (R764): A WRITE packet is accepted at its target, translated if paged, and a REPORT is sent back. -/
  | plvWritePacket (p : Nat) (c : Nat) (req : Nat) (cls : Nat) (addr : Nat) (data : List Byte) (miss : Bool)
  /-- PLV_QUEUE_PACKET (R487): A QUEUE packet is pushed into its destination queue. -/
  | plvQueuePacket (p : Nat) (c : Nat) (req : Nat) (cls : Nat) (src : Nat) (addr : Nat) (producer : Nat) (level : Nat) (seq : Nat) (words : List (List Byte)) (miss : Bool)
  /-- PLV_READ_REQ (R748): A READ_REQ is served and answered with a RESPONSE. -/
  | plvReadReq (p : Nat) (c : Nat) (req : Nat) (cls : Nat) (addr : Nat) (n : Nat) (ce : Nat) (ue : Option Nat) (miss : Bool)
  /-- PLV_RESPONSE (R764): A RESPONSE completes a request or, with STATUS 1 or 2, halts the channel. -/
  | plvResponse (p : Nat) (c : Nat) (req : Nat) (status : Nat) (data : List Byte)
  /-- REPORT_NOTICE (R764): A REPORT notice records landed write packets for the source's fences. -/
  | reportNotice (p : Nat) (c : Nat) (n : Nat)
  /-- TEARDOWN_NOTICE (R792): A TEARDOWN notice tears down the device's records of the circuit and faults its job. -/
  | teardownNotice (p : Nat) (c : Nat)
  /-- DOMAIN_TICK (R781): A received tick begins the device's breath at the derived time. -/
  | domainTick (p : Nat) (breath : Nat) (period : Nat) (next : Nat) (skew : Nat)
  /-- PERIOD_NAK (R783): A PERIOD_NAK is repeated on all ports and makes the master refuse the proposed period. -/
  | periodNak (p : Nat)
  /-- LIVE_FLOOD (R774): Every 10 µs live member sets are flooded and PLV_LIVE refreshed. -/
  | liveFlood (p : Nat) (set : Nat)
  /-- MEDIA_MONITOR (R756): Every 10 ms module monitors are read, LOSS computed and CLEAN and INSPECT updated. -/
  | mediaMonitor (p : Nat) (temp : Nat) (tx : List Nat) (far : List Nat) (rx : List Nat)
  /-- CMIS_READ (R758): A GO to PLV_CMIS with WRITE 0 reads a byte of the module. -/
  | cmisRead (port : Port) (word : Nat) (value : Option Nat)
  /-- CMIS_WRITE (R758): A GO to PLV_CMIS with WRITE 1 writes a byte of the module. -/
  | cmisWrite (port : Port) (word : Nat) (ok : Bool)
  /-- CIRCUIT_SETUP (R760): A GO with OP 0 sets up the selected circuit record. -/
  | circuitSetup (port : Port)
  /-- CIRCUIT_TEARDOWN (R760): A GO with OP 1 tears down the selected circuit record. -/
  | circuitTeardown (port : Port)
  /-- DOMAIN_CONFIG_WRITE (R772): A write to the domain configuration is stored and forms the domain, or is ignored with ERR. -/
  | domainConfigWrite (port : Port) (off : Nat) (word : Nat)
  /-- TWIN_HEARTBEAT_RECEIVE (R785): A heartbeat arrives from the twin and clears the miss count. -/
  | twinHeartbeatReceive (breath : Nat)
  /-- MIRROR_UPDATE (R786): A mirror update from the twin is stored in its mirror and acknowledged. -/
  | mirrorUpdate (body : List Byte)
  /-- MIRROR_ACK (R788): The twin's acknowledgement releases the commands and host writes it covers. -/
  | mirrorAck (position : Nat)
  /-- TWIN_TAKEOVER (R790): The miss limit is reached and the device resets its twin, faults its jobs and adopts its sessions. -/
  | twinTakeover (reads : List (List Byte))
  /-- JOB_FAULT_MESSAGE (R845): A JOB_FAULT message halts the job on this device and is forwarded once. -/
  | jobFaultMessage (j : Nat) (origin : Nat) (serial : Nat)
  /-- RESTART_HOLD_EXPIRY (R847): After HOLD_BREATHS a halted job's partitions warm reset. -/
  | restartHoldExpiry (j : Nat)
  /-- PARTITION_WARM_RESET_COMPLETE (R818): A partition warm reset ends and the restart moves to RELOADING. -/
  | partitionWarmResetComplete (p : Nat)
  /-- RESTART_BREATH_ANNOUNCE (R848): The announced restart breath begins stage 4 on every device of the job. -/
  | restartBreathAnnounce (j : Nat) (n : Nat)
  /-- POWER_ON_RESET (R814): VSTBY and VIN rise above their thresholds and a power-on reset starts. -/
  | powerOnReset (lost : Bool)
  /-- BROWN_OUT (R814): VIN below 10.2 V for 2 µs or a regulator out of range resets the device. -/
  | brownOut (vin : Bool)
  /-- RAIL_FAIL (R881): VIO, VDDQ_DDR or VSTBY fails, regulators turn off and a brown-out follows. -/
  | railFail (rail : Nat)
  /-- RST_N_PULSE (R815): A low pulse on RST_N accepted by the filter resets the device. -/
  | rstNPulse (samples : Nat)
  /-- WATCHDOG_EXPIRY (R814): Firmware not servicing the watchdog for WDT_MS resets the device. -/
  | watchdogExpiry
  /-- DEBUG_RESET_REQUEST (R814): The JTAG reset instruction resets an ITD12-A1-LE. -/
  | debugResetRequest
  /-- CLOCK_FAILURE (R814): The 25 MHz reference absent for 2 µs resets the device. -/
  | clockFailure
  /-- LOCK_UP (R814): A stalled core or a lockstep mismatch resets the device. -/
  | lockUp
  /-- RESET_RELEASE (R880): 1 ms after every condition holds the reset is released, straps latched and boot begins. -/
  | resetRelease
  /-- BOOT_STAGE_COMPLETE (R801): A boot stage ends and the next begins, ending in DONE or RECOVERY. -/
  | bootStageComplete (alive : Nat) (present : Nat) (dimms : List Nat) (cxl : List Nat)
  /-- BOOT_SOURCE_TIMEOUT (R804): The twin, host or UART source gives no image in time and boot enters RECOVERY. -/
  | bootSourceTimeout
  /-- UART_XMODEM_BLOCK (R804): An XMODEM-1K block of the recovery image arrives on the UART. -/
  | uartXmodemBlock (frame : List Byte)
  /-- TWIN_FIRMWARE_IMAGE (R804): The twin's firmware image arrives over the twin port for boot. -/
  | twinFirmwareImage (image : List Byte)
  /-- VIN_DROOP (R828): VIN below THRESH_MV for 0.5 µs demands level 12 within 20 µs. -/
  | vinDroop
  /-- DROOP_LAPSE (R828): VIN above THRESH_MV + 400 mV for 1 ms lets the droop demand lapse. -/
  | droopLapse
  /-- TJ_SAMPLE (R829): Every 100 µs the hottest Tj sets the throttle and emergency demands. -/
  | tjSample (tj : Nat)
  /-- THERMTRIP (R830): Tj at 115 °C drives THERMTRIP_N low, stops every clock and enters TRIPPED. -/
  | thermtrip
  /-- POWER_AVERAGE (R831): The 1 ms average of input power moves the cap demand. -/
  | powerAverage (watts : Nat)
  /-- ALERT_ASSERT (R832): SHELF_ALERT_N or COOL_ALERT_N low demands level 12 and sets its event. -/
  | alertAssert (cool : Bool)
  /-- ALERT_RELEASE_EXPIRY (R832): 10 ms after the alert rises the level-12 demand ends. -/
  | alertReleaseExpiry (cool : Bool)
  /-- RM_TIMEOUT (R833): No message from the rack manager for TIMEOUT_S sets RM_LOST. -/
  | rmTimeout
  /-- MCTP_CONTROL_MESSAGE (R740): An MCTP control message on the management port is answered. -/
  | mctpControlMessage (body : List Byte)
  /-- RENAIHEL_REQUEST (R741): A Renaihel request carries one command entry and is answered with a record. -/
  | renaihelRequest (entry : List Byte) (slow : Bool)
  /-- PLDM_BASE_DISCOVERY (R740): A PLDM type 0 discovery message is answered. -/
  | pldmBaseDiscovery (body : List Byte)
  /-- PLDM_SENSOR_READ (R743): A PLDM platform message returns a numeric sensor reading. -/
  | pldmSensorRead (head : Nat) (sensor : Nat)
  /-- PLDM_FIRMWARE_UPDATE (R811): PLDM firmware update writes and checks an image in the slot not in use. -/
  | pldmFirmwareUpdate (head : Nat) (component : Nat) (image : List Byte) (activate : Bool)
  /-- SENSOR_UPDATE (R743): Every 10 ms the PLDM sensors are refreshed. -/
  | sensorUpdate (tj : List Nat) (tm : List Nat) (vin : Nat) (watts : Nat) (vr : List Nat)
  /-- JTAG_EXTEST (R896): EXTEST controls the lands while the device is held in reset. -/
  | jtagExtest (lands : Nat) (tdi : Nat)
  /-- JTAG_SAMPLE_PRELOAD (R895): SAMPLE/PRELOAD captures and loads the boundary-scan register. -/
  | jtagSamplePreload (lands : Nat) (tdi : Nat)
  /-- JTAG_BYPASS (R895): BYPASS places the one-bit bypass register between TDI and TDO. -/
  | jtagBypass (code : Nat) (n : Nat) (tdi : Nat)
  /-- CHECK_RANGE_COMPLETE (R414): A CHECK_RANGE ends its read over memory, compares its CRC with CHK_EXPECT and completes with the result. -/
  | checkRangeComplete (u : Nat)
  /-- CONFIGURATION_REQUEST (R801): A PCIe configuration request reaches a function and is answered with Request Retry Status before stage 6, or served, including VF Enable and BAR size writes. -/
  | configurationRequest (fn : Nat) (field : CfgField) (value : Option Nat)
  /-- TWIN_FIRMWARE_REQUEST (R804): A twin booting with BOOT_SRC 0b01 asks this device for its active firmware image, which is sent over the twin port. -/
  | twinFirmwareRequest
  /-- LANE_LOCK_TIMEOUT (R750): A port whose lanes do not all lock is sent back from LOCK at its 1 ms retry. -/
  | laneLockTimeout (p : Nat)
  /-- RESTART_RESET_REPORT (R848): The job's lowest-indexed device receives a device's report that its reset for the restart is done, and fixes the restart breath once all have reported. -/
  | restartResetReport (j : Nat) (dev : Nat)
  /-- VERSION_AVAILABLE_REPORT (R676): The deployment's lowest-indexed device receives a device's report that the new version is AVAILABLE there. -/
  | versionAvailableReport (job : Nat) (model : Nat) (version : Nat) (device : Nat)
  /-- CURRENCY_BREATH_ANNOUNCE (R676): A device of a deployment receives the breath number at which the new version becomes CURRENT. -/
  | currencyBreathAnnounce (job : Nat) (model : Nat) (version : Nat) (breath : Nat)
  /-- ALERT_DEASSERT (R832): SHELF_ALERT_N or COOL_ALERT_N rises and the 10 ms hold of the level-12 demand begins. -/
  | alertDeassert (cool : Bool)
  /-- I3C_DYNAMIC_ADDRESS_ASSIGNMENT (R890): The I3C bus owner assigns the management port its dynamic address, as after a reset that reassigns the endpoint. -/
  | i3cDynamicAddressAssignment (addr : Nat)
  /-- JTAG_DEBUG_ACCESS (R3): On an ITD12-A1-LE the JTAG port posts a command or reads and writes a space, register or control-complex state with no check. -/
  | jtagDebugAccess (op : DebugOp)
  /-- JTAG_TAP_RESET (R894): A low pulse on JTAG_TRST_N resets the test access port and its instruction register. -/
  | jtagTapReset
  deriving DecidableEq, Repr

end Sys2Proof
end

