-- ==== Sys2Proof/Machine/Checks.lean ====
section
/-!
DEFINITION. The check units' CRCs and the digest engines' SHA-256 (R409, R410, R415), as functions of bytes.
-/
namespace Sys2Proof.Machine

/-! ### CRC (R409) -/

/-- Bit `i` from the top of a word of `w` bits becomes bit `i` from the bottom. -/
def reflectBits (w v : Nat) : Nat := (List.range w).foldl (fun a i => a + 2 ^ (w - 1 - i) * bit (bitOf v i)) 0

/-- One row of R409's table. -/
structure CrcKind where
  width : Nat
  poly : Nat
  init : Nat
  reflected : Bool
  xorOut : Nat
  deriving DecidableEq, Repr

/-- R409: CRC-32C, CRC-32, CRC-64/ECMA-182, CRC-16/CCITT-FALSE. -/
def CrcKind.ofCode : Nat → CrcKind
  | 0 => ⟨32, 0x1EDC6F41, 0xFFFFFFFF, true, 0xFFFFFFFF⟩
  | 1 => ⟨32, 0x04C11DB7, 0xFFFFFFFF, true, 0xFFFFFFFF⟩
  | 2 => ⟨64, 0x42F0E1EBA9EA3693, 0, false, 0⟩
  | _ => ⟨16, 0x1021, 0xFFFF, false, 0⟩

/-- One bit step of a reflected CRC. -/
def crcStepR (p : Nat) (r : Nat) : Nat := if r % 2 = 1 then Nat.xor (r / 2) p else r / 2

/-- One bit step of a CRC that is not reflected. -/
def crcStepF (w p r : Nat) : Nat :=
  if bitOf r (w - 1) then Nat.xor (r * 2 % 2 ^ w) p else r * 2 % 2 ^ w

/-- `n` applications of a function. -/
def iter {α : Type} (f : α → α) : Nat → α → α
  | 0, a => a
  | n + 1, a => iter f n (f a)

/-- R409: the register after one byte. -/
def CrcKind.byte (k : CrcKind) (r : Nat) (b : Byte) : Nat :=
  if k.reflected then iter (crcStepR (reflectBits k.width k.poly)) 8 (Nat.xor r b.toNat)
  else iter (crcStepF k.width k.poly) 8 (Nat.xor r (b.toNat * 2 ^ (k.width - 8)))

/-- The CRC of bytes from a seed that takes the place of the initial value (R410). -/
def CrcKind.run (k : CrcKind) (seed : Nat) (bs : List Byte) : Nat := Nat.xor (bs.foldl k.byte seed) k.xorOut

/-- R410: the seed. -/
def crcSeed (k : CrcKind) (addr seq : Nat) : Nat :=
  let v := Nat.xor addr (seq % 2 ^ 32 * 2 ^ 32)
  let v := if k.width = 32 then Nat.xor (v % 2 ^ 32) (v / 2 ^ 32 % 2 ^ 32) else v
  let v := if k.width = 16 then
      Nat.xor (Nat.xor v (v / 2 ^ 16)) (Nat.xor (v / 2 ^ 32) (v / 2 ^ 48)) % 2 ^ 16 else v % 2 ^ 64
  Nat.xor k.init v

/-- CRC-32C with its own initial value, as stop blocks, fault entries and Plovlink use it. -/
def crc32c (bs : List Byte) : Nat := (CrcKind.ofCode 0).run 0xFFFFFFFF bs

/-! ### SHA-256 (FIPS 180-4, R415) -/

/-- The round constants of FIPS 180-4, 4.2.2. -/
def shaK : List Word := [
  0x428a2f98, 0x71374491, 0xb5c0fbcf, 0xe9b5dba5, 0x3956c25b, 0x59f111f1, 0x923f82a4, 0xab1c5ed5,
  0xd807aa98, 0x12835b01, 0x243185be, 0x550c7dc3, 0x72be5d74, 0x80deb1fe, 0x9bdc06a7, 0xc19bf174,
  0xe49b69c1, 0xefbe4786, 0x0fc19dc6, 0x240ca1cc, 0x2de92c6f, 0x4a7484aa, 0x5cb0a9dc, 0x76f988da] ++ [
  0x983e5152, 0xa831c66d, 0xb00327c8, 0xbf597fc7, 0xc6e00bf3, 0xd5a79147, 0x06ca6351, 0x14292967,
  0x27b70a85, 0x2e1b2138, 0x4d2c6dfc, 0x53380d13, 0x650a7354, 0x766a0abb, 0x81c2c92e, 0x92722c85,
  0xa2bfe8a1, 0xa81a664b, 0xc24b8b70, 0xc76c51a3, 0xd192e819, 0xd6990624, 0xf40e3585, 0x106aa070] ++ [
  0x19a4c116, 0x1e376c08, 0x2748774c, 0x34b0bcb5, 0x391c0cb3, 0x4ed8aa4a, 0x5b9cca4f, 0x682e6ff3,
  0x748f82ee, 0x78a5636f, 0x84c87814, 0x8cc70208, 0x90befffa, 0xa4506ceb, 0xbef9a3f7, 0xc67178f2]

/-- The initial hash value of FIPS 180-4, 5.3.3. -/
def shaInit : List Word :=
  [0x6a09e667, 0xbb67ae85, 0x3c6ef372, 0xa54ff53a, 0x510e527f, 0x9b05688c, 0x1f83d9ab, 0x5be0cd19]

/-- The big-endian number in bytes. -/
def beNat (bs : List Byte) : Nat := bs.foldl (fun a b => 256 * a + b.toNat) 0

/-- `k` big-endian bytes of a number. -/
def beBytes (k n : Nat) : List Byte := (leBytes k n).reverse

def shaSmall0 (x : Word) : Word := x.rotateRight 7 ^^^ x.rotateRight 18 ^^^ (x >>> 3)
def shaSmall1 (x : Word) : Word := x.rotateRight 17 ^^^ x.rotateRight 19 ^^^ (x >>> 10)
def shaBig0 (x : Word) : Word := x.rotateRight 2 ^^^ x.rotateRight 13 ^^^ x.rotateRight 22
def shaBig1 (x : Word) : Word := x.rotateRight 6 ^^^ x.rotateRight 11 ^^^ x.rotateRight 25

/-- FIPS 180-4, 6.2.2: the message schedule, latest word first, extended by `n` words. -/
def shaSchedule : Nat → List Word → List Word
  | 0, w => w
  | n + 1, w =>
    shaSchedule n
      ((shaSmall1 (w.getD 1 0) + w.getD 6 0 + shaSmall0 (w.getD 14 0) + w.getD 15 0) :: w)

/-- FIPS 180-4, 6.2.2: one round over the working variables a to h. -/
def shaRound (s : List Word) (k w : Word) : List Word :=
  match s with
  | [a, b, c, d, e, f, g, h] =>
    let t1 := h + shaBig1 e + ((e &&& f) ^^^ (~~~e &&& g)) + k + w
    let t2 := shaBig0 a + ((a &&& b) ^^^ (a &&& c) ^^^ (b &&& c))
    [t1 + t2, a, b, c, d + t1, e, f, g]
  | _ => s

/-- The hash value after one block of 64 bytes. -/
def shaBlock (h : List Word) (block : List Byte) : List Word :=
  let w := (chunksOf 4 16 block).map (fun bs => BitVec.ofNat 32 (beNat bs))
  let sched := (shaSchedule 48 w.reverse).reverse
  let s := (List.zip shaK sched).foldl (fun s kw => shaRound s kw.1 kw.2) h
  List.zipWith (· + ·) h s

/-- Whole blocks digested. -/
def shaBlocks (h : List Word) (bs : List Byte) : List Word :=
  (chunksOf 64 (bs.length / 64) bs).foldl shaBlock h

/-- FIPS 180-4, 5.1.1: the padding of a message whose whole length is `total` bytes and whose last part is `bs`. -/
def shaPad (total : Nat) (bs : List Byte) : List Byte :=
  bs ++ [0x80] ++ List.replicate ((119 - total % 64) % 64) 0 ++ beBytes 8 (8 * total)

/-- The digest of the last part of a message after `total - bs.length` bytes have entered `h`. -/
def shaFinish (h : List Word) (total : Nat) (bs : List Byte) : List Byte :=
  let p := shaPad total bs
  (shaBlocks h p).flatMap (fun w => beBytes 4 w.toNat)

/-- SHA-256 of a message (R415). -/
def sha256 (bs : List Byte) : List Byte := shaFinish shaInit bs.length bs

end Sys2Proof.Machine
end

