-- ==== Sys2Proof/Machine/GaleTypes.lean ====
section
/-!
DEFINITION. The Gale engine's routes and the Barometer's banks (10_expert_routing).
-/
namespace Sys2Proof.Machine

/-- An assignment that waits for its dispatch step's partition to drain (R479, R483). -/
structure Assign where
  part : Nat
  level : Nat
  token : Nat
  rank : Nat
  expert : Nat
  weight : Word
  hidden : Nat
  uid : Nat
  deriving DecidableEq, Repr

/-- A route (R471 to R497); its registers stand in the register file. -/
structure Route where
  assigns : List Assign := []
  /-- a round's dispatch is in progress on this device -/
  isOpen : Bool := false
  /-- R484: the round was stopped -/
  stopped : Bool := false
  /-- LIST: assignments stored per expert in this round -/
  counts : Table Nat := []
  /-- SCATTER: packets of this round stored in this device's expert queues -/
  stored : Table Nat := []
  /-- the expert map held for the round (R486) -/
  map : List Byte := []
  /-- next sequence number per destination queue, by device, partition and queue (R488) -/
  seqs : Table Nat := []
  /-- uids of packets and return rows that are still under way -/
  under : List Nat := []
  dispatchClosed : Bool := false
  returnClosed : Bool := true
  dispatchFrom : List Nat := []
  returnFrom : List Nat := []
  round : Nat := 0
  deriving DecidableEq, Repr

/-- A bank of the Barometer (R500 to R506); its biases and the totals of its last window stand in the register file. -/
structure Bank where
  counting : Bool := false
  /-- counts of the window in progress, and breaths elapsed in it -/
  cur : Table Nat := []
  elapsed : Nat := 0
  /-- totals of the completed window, and the breath at whose intake its update is due -/
  last : Table Nat := []
  due : Option Nat := none
  windows : Nat := 0
  /-- software writes of bias words that await the next intake: register offset, value (R504) -/
  held : List (Nat × Nat) := []
  deriving DecidableEq, Repr

end Sys2Proof.Machine
end

