-- ==== Sys2Proof/Machine/HostTypes.lean ====
section
/-!
DEFINITION. The state of the host port (15_host_port), of the Plovlink and twin ports and the domain
(16_plovlink_and_domain), of the breath timer (13_breath_and_scheduling), of boot, reset and power
(17_boot_reset_power), and of the test port (19_package_and_electrical).
-/
namespace Sys2Proof.Machine

/-! ### Sessions and functions (R694 to R698, R713 to R726) -/

/-- HUB_SES_STATUS.STATE. -/
inductive SesState where
  | off | running | draining | halted
  deriving DecidableEq, Repr

def SesState.code : SesState → Nat
  | .off => 0 | .running => 1 | .draining => 2 | .halted => 3

/-- A session record (R713), the written tail and head, the completion phase (R715, R722). -/
structure Session where
  fn : Nat := 0
  enable : Bool := false
  state : SesState := .off
  sqLog : Nat := 6
  cqLog : Nat := 6
  sqBase : Nat := 0
  cqBase : Nat := 0
  irq : Bool := false
  holdoff : Nat := 0
  vector : Nat := 0
  err : Nat := 0
  sqHead : Nat := 0
  tail : Nat := 0
  cqTail : Nat := 0
  head : Nat := 0
  phase : Bool := true
  /-- no record is written any more: a function-level reset (R697), or a record write that failed (R717) -/
  silent : Bool := false
  /-- within HOLDOFF_US of the last message, and a message is held back (R726) -/
  quiet : Bool := false
  owed : Bool := false
  deriving DecidableEq, Repr

/-- What configuration requests change of the functions (R695, R699): VF Enable, the functions in D3hot, log2 of the BAR4
sizes that differ from those the standing configuration gives. -/
structure Pcie where
  vfEnable : Bool := false
  d3hot : List Nat := []
  bar4 : Table Nat := []
  deriving DecidableEq, Repr

/-- A host read through an aperture that waits for bytes of another device (R702). -/
structure HostRead where
  uid : Nat
  addr : Nat
  bytes : Nat
  /-- asked for by the JTAG port (R3) -/
  jtag : Bool := false
  deriving DecidableEq, Repr

/-! ### Plovlink and twin ports (R744 to R771) -/

/-- A block kept for re-sending: its SEQ, its 832 data bytes, how often it was re-sent (R749). -/
structure SentBlock where
  seq : Nat
  data : List Byte
  resends : Nat := 0
  deriving DecidableEq, Repr

/-- One lane of a port: the SEQ it sends next, the replay buffer of the last 16 blocks, the SEQ it expects, failed arrivals
of that block, and whether a NAK is owed to the peer (R749). -/
structure Lane where
  next : Nat := 0
  sent : List SentBlock := []
  expect : Nat := 0
  fails : Nat := 0
  nak : Bool := false
  deriving DecidableEq, Repr

/-- A port. Its state and cause stand in PLV_PORT_STATUS. -/
structure LinkPort where
  present : Bool := false
  /-- the application of R755 is selected and the module is out of low-power mode -/
  media : Bool := false
  lanes : Table Lane := []
  /-- write packets landed since the last report, by circuit; circuits to be named in TEARDOWN notices -/
  reports : Table Nat := []
  teardowns : List Nat := []
  /-- the first block of every lane after the breath start carries TICK (R780); every block carries PERIOD_NAK (R783) -/
  tick : Bool := false
  nakPeriod : Bool := false
  /-- transit blocks by slot of departure: inbound port, outbound circuit, payload (R768) -/
  transit : Table (Nat × Nat × List Byte) := []
  /-- consecutive readings of a lane at or above LOSS_LIMIT; of the port below it; and likewise for INSPECT (R757) -/
  cleanHigh : Table Nat := []
  cleanLow : Nat := 0
  spreadHigh : Nat := 0
  spreadLow : Nat := 0
  /-- the set of live members the peer has flooded (R774) -/
  live : Nat := 0
  /-- the module's transmit powers, which IDLE blocks carry to the peer (R756) -/
  txPower : List Nat := []
  /-- sectors sent in this breath, by circuit × 8 + class (R621) -/
  used : Table Nat := []
  deriving DecidableEq, Repr

/-! ### The breath timer and the domain breath (R594 to R601, R779 to R783, R909, R910) -/

/-- A tick taken for the next breath (R780): BREATH, PERIOD_US, NEXT_PERIOD. -/
structure Tick where
  breath : Nat
  period : Nat
  next : Nat
  deriving DecidableEq, Repr

/-- The breath timer. Period and source in force stand in the second copies of BRT_PERIOD and BRT_SRC. -/
structure Timer where
  on : Bool := false
  /-- the first breath has begun -/
  begun : Bool := false
  /-- an accepted edge, or a tick, that the next breath begins with -/
  edge : Bool := false
  tick : Option Tick := none
  heldPeriod : Option Nat := none
  heldSource : Option Nat := none
  /-- a period that the master proposes, and whether its ticks announce it in this breath (R783) -/
  proposed : Option Nat := none
  announced : Bool := false
  nak : Bool := false
  /-- period that the last tick proposes to this device -/
  coming : Option Nat := none
  /-- consecutive breaths begun in holdover -/
  misses : Nat := 0
  master : Bool := false
  traceTriggers : Nat := 0
  deriving DecidableEq, Repr

/-! ### The twin (R785 to R791) -/

/-- Heartbeats and mirror updates: the update under way names the commands it lists (those below `upTo`) and how many held
host writes it carries. -/
structure Twin where
  heard : Bool := false
  upTo : Nat := 0
  carried : Nat := 0
  waiting : Bool := false
  /-- updates sent and received -/
  position : Nat := 0
  received : Nat := 0
  deriving DecidableEq, Repr

/-! ### Power (R824 to R834) -/

/-- Demands on the clock level and the times their rules count, in µs since the last change. -/
structure Power where
  droop : Bool := false
  /-- the droop demand has lapsed and ends at the next breath start (R828) -/
  droopEnds : Bool := false
  emergency : Bool := false
  shelf : Bool := false
  cool : Bool := false
  /-- the alert lands are low; a level-12 demand lasts 10 ms beyond (R832) -/
  shelfLow : Bool := false
  coolLow : Bool := false
  capAge : Nat := 100000
  thermAge : Nat := 100000
  /-- consecutive averages of 1 ms below 95 % of the cap -/
  capBelow : Nat := 0
  /-- the last average of input power, in W -/
  watts : Nat := 0
  /-- a cap that applies from the next breath start (R831) -/
  nextCap : Option Nat := none
  deriving DecidableEq, Repr

/-- Supplies that are good (R824, R877), the level of RST_N, the 25 MHz reference (R814, R815, R880). -/
structure Supplies where
  vstby : Bool := true
  vio : Bool := true
  vddq : Bool := true
  vin : Bool := true
  vbak : Bool := true
  reference : Bool := true
  rstHigh : Bool := true
  /-- THERMTRIP_N is driven low (R830) -/
  tripped : Bool := false
  deriving DecidableEq, Repr

/-! ### Boot, flash and the standing configuration (R798 to R812) -/

/-- A firmware slot: the image with its header (R800), its version, whether its signature passes. -/
structure FwSlot where
  image : List Byte := []
  version : Nat := 0
  good : Bool := false
  proven : Bool := false
  revoked : Bool := false
  deriving DecidableEq, Repr

/-- A configuration slot: header and records (R807); empty when erased. The flag bytes stand apart. -/
structure CfgSlot where
  bytes : List Byte := []
  proven : Bool := false
  revoked : Bool := false
  deriving DecidableEq, Repr

/-- The reset under way (R816 to R819), as R819 orders the reaches: 0 power-on, 1 cold, 2 system, 3 device warm, 4 core. -/
structure ResetRun where
  reach : Nat
  sources : List Nat
  deriving DecidableEq, Repr

structure Boot where
  stage : Nat := 0
  done : Bool := false
  recovery : Bool := false
  /-- strap lands as they stand; MGT_STRAPS holds them as latched -/
  bootSrc : Nat := 0
  clkMode : Nat := 0
  fwA : FwSlot := { version := 1, good := true, proven := true }
  fwB : FwSlot := {}
  cfgA : CfgSlot := {}
  cfgB : CfgSlot := {}
  useB : Bool := false
  cfgUseB : Bool := false
  cfgDefault : Bool := false
  /-- the firmware image in the hub's boot memory, and whether its check value agrees (R803) -/
  kept : List Byte := []
  keptGood : Bool := false
  activate : Bool := false
  /-- the firmware of this boot stands in boot memory and its signature is good; RCU_BOOT.FAILS as the boot began -/
  fwReady : Bool := false
  failsAt : Nat := 0
  /-- bytes received on the UART, and the block expected (XMODEM-1K) -/
  uart : List Byte := []
  uartBlock : Nat := 1
  warm : Bool := false
  /-- a device reset that a RESET_REQUEST has scheduled: REACH -/
  requested : Option Nat := none
  deriving DecidableEq, Repr

/-! ### The management port (R740, R743, R890) -/

/-- What the bus owner has assigned: the I3C dynamic address, the endpoint ID, the PLDM terminus ID; 0 for none. -/
structure Mgmt where
  i3c : Nat := 0
  eid : Nat := 0
  tid : Nat := 0
  deriving DecidableEq, Repr

/-- Counts since power-on that sensors 0x0030 and 0x0031 show (R743). -/
structure SincePower where
  jobsFaulted : Nat := 0
  tokens : Nat := 0
  deriving DecidableEq, Repr

/-! ### The test port (R894 to R898) -/

/-- The test access port: instruction register, boundary-scan register and its update stage, bypass bit. -/
structure Jtag where
  ir : Nat := 0xFF
  boundary : Nat := 0
  update : Nat := 0
  bypass : Bool := false
  deriving DecidableEq, Repr

end Sys2Proof.Machine
end

