-- ==== Sys2Proof/Machine/FabricTypes.lean ====
section
/-!
DEFINITION. The state of one partition's fabric: tokens, switch channels, cells, valves, stop slots, rings and steps
(03_fabric, 04_valves, 05_stops, 06_tiling_and_streams, 07_memory_tiers).
-/
namespace Sys2Proof.Machine

/-! ### Sites (R103, R104) -/

/-- The kinds of cell. -/
inductive CellKind where
  | compute | memory | valve | tilePort
  deriving DecidableEq, Repr

/-- R104: the kind of cell at a site index. -/
def siteKind (site : Nat) : CellKind :=
  let c := site % 16
  let r := site / 16
  if r = 0 then .tilePort
  else if r = 5 || r = 10 || r = 15 then .valve
  else if (c + r) % 2 = 0 then .compute
  else .memory

/-- Sites of a partition (R103). -/
def siteCount : Nat := 320

/-- R224: the sites of a kind in ascending site order. -/
def sitesOf (k : CellKind) : List Nat := (List.range siteCount).filter (fun s => siteKind s == k)

/-- R224: the record index of a site within its kind's section. -/
def recordIndex (site : Nat) : Nat :=
  ((List.range site).filter (fun s => siteKind s == siteKind site)).length

/-! ### Tokens (R117 to R120) -/

/-- The KIND field of a token; 0b11 is treated as control (R120). -/
inductive TokKind where
  | data | control | gap | reserved
  deriving DecidableEq, Repr

/-- A token of either network; a scalar token's payload is its low 32 bits (R117, R119). Its parity bits are a function
of the rest (R118, R119, `Token.vectorParity`, `Token.scalarParity`); a parity error is an event of its own. -/
structure Token where
  payload : BitVec 512 := 0
  tag : Nat := 0
  epoch : Nat := 0
  fin : Bool := false
  kind : TokKind := .data
  deriving DecidableEq, Repr

/-- Whether the count of ones in the low `n` bits is odd. -/
def oddOnes (v : Nat) : Nat → Bool
  | 0 => false
  | n + 1 => (v.testBit n) != oddOnes v n

def TokKind.code : TokKind → Nat
  | .data => 0 | .control => 1 | .gap => 2 | .reserved => 3

/-- Bits [528:512] of a vector token. -/
def Token.header (t : Token) : Nat := t.tag % 4096 + 4096 * (t.epoch % 4) + 16384 * bit t.fin + 32768 * t.kind.code

/-- R118: parity bit of payload word `w`; bit 0 also covers TAG, EPOCH, END and KIND. -/
def Token.vectorParity (t : Token) (w : Nat) : Bool :=
  let ones := oddOnes (bitsOf t.payload.toNat (32 * w + 31) (32 * w)) 32
  if w = 0 then ones != oddOnes t.header 17 else ones

/-- R117: the 545 bits of a vector token. -/
def Token.vectorBits (t : Token) : BitVec 545 :=
  BitVec.ofNat 545 (t.payload.toNat + 2 ^ 512 * t.header
    + 2 ^ 529 * ((List.range 16).foldl (fun a w => a + 2 ^ w * bit (t.vectorParity w)) 0))

/-- R119: the 50 bits of a scalar token, parity even over bits [48:0]. -/
def Token.scalarBits (t : Token) : BitVec 50 :=
  let low := t.payload.toNat % 2 ^ 32 + 2 ^ 32 * t.header
  BitVec.ofNat 50 (low + 2 ^ 49 * bit (oddOnes low 49))

/-- R121: a control token's value, payload word 0. -/
def Token.value (t : Token) : Nat := t.payload.toNat % 2 ^ 32

/-- R120: KIND = 0b11 is treated as control. -/
def Token.isControl (t : Token) : Bool := t.kind == .control || t.kind == .reserved

def Token.bytes (t : Token) : List Byte := leBytes 64 t.payload.toNat

/-! ### Channels (R106 to R112) -/

/-- One side of a channel: a site, a port (0 N, 1 E, 2 S, 3 W, 4 L; 5 is the cell's own side of L), a network
(false vector, true scalar), a channel 0 to 3. -/
structure Chan where
  site : Nat
  port : Nat
  scalar : Bool
  ch : Nat
  deriving DecidableEq, Repr

/-- The key of a channel in the tables of `Fabric`. -/
def Chan.key (c : Chan) : Nat := ((c.site * 6 + c.port) * 2 + bit c.scalar) * 4 + c.ch

/-- R112: buffer entries of a channel. -/
def Chan.depth (c : Chan) : Nat := if c.scalar then 8 else 4

/-- A token kept by a link's sender until its good arrival (R163, R164); `sends` counts its transmissions. -/
structure Sent where
  ch : Nat
  tok : Token
  sends : Nat
  deriving DecidableEq, Repr

/-! ### Cells -/

/-- A tag context of a compute, memory or tile-port cell (R125): unconsumed tokens per input in arrival order, inputs
whose END was consumed, and what the compute cell has taken in for the context. -/
structure Ctx where
  tag : Nat
  opened : Nat
  waiting : List (Nat × Token) := []
  ended : List Nat := []
  taken : Table (List Token) := []
  anchor : Option Int := none
  auxSent : Bool := false
  kDone : Nat := 0
  mismatch : Bool := false
  lost : Bool := false
  kOver : Bool := false
  deriving DecidableEq, Repr

/-- The conversion stage of a compute cell (R136, R137). -/
structure Conv where
  tag : Nat
  anchor : Int
  lanes : Table LedgerLane
  nextRow : Nat := 0
  rows : Nat
  poisoned : Bool
  lost : Bool
  kOver : Bool
  cTokens : List Token
  gathered : OutFlags := {}
  deriving DecidableEq, Repr

/-- A row in the vector program (R138 to R141): the row, the next instruction, the registers v0 to v7. -/
structure VecRow where
  tag : Nat
  row : Nat
  pc : Nat := 0
  regs : List (List Word)
  last : Bool
  deriving DecidableEq, Repr

/-- A run of an address generator (R152 to R154): position in the walk, base tag, index base where MODE is index. -/
structure GenRun where
  pos : Nat := 0
  tag : Nat
  base : Option Nat := none
  null : Bool := false
  deriving DecidableEq, Repr

/-- An access waiting for a bank (R149): path 0 mover port, 1 accumulate read, 2 write, 3 network read. -/
structure Access where
  path : Nat
  gen : Nat
  addr : Nat
  age : Nat := 0
  tok : Token := {}
  reissues : Nat := 0
  null : Bool := false
  deriving DecidableEq, Repr

/-- A token at a valve: its input (0 to 3 data, 4 CTL), its packet, its age counter, and whether it holds a matching
store entry (R180, R181, R204). -/
structure VTok where
  input : Nat
  pkt : Nat
  tok : Token
  age : Nat := 0
  stored : Bool := false
  deriving DecidableEq, Repr

/-- A packet or a control token's packet at a valve (R179, R184). -/
structure VPkt where
  id : Nat
  input : Nat
  tag : Nat
  ended : Bool := false
  /-- the control value that governs it, once its pair is complete -/
  pair : Option Nat := none
  pairedAt : Nat := 0
  ctlId : Option Nat := none
  firedToks : Nat := 0
  copy : Nat := 0
  outTag : Nat := 0
  outCh : Nat := 0
  drop : Bool := false
  started : Bool := false
  fresh : Bool := true
  deriving DecidableEq, Repr

/-- A loop instance of a LOOP valve (R192 to R195). -/
structure LoopInst where
  outer : Nat
  iter : Nat
  trip : Nat
  live : Nat
  deriving DecidableEq, Repr

/-- A valve's own state (R180 to R217). -/
structure Valve where
  toks : List VTok := []
  pkts : List VPkt := []
  loops : List LoopInst := []
  openTags : List Nat := []
  nextPkt : Nat := 0
  pairs : Nat := 0
  minted : Nat := 0
  orderNext : Option Nat := none
  aggTag : List (Nat × Nat) := []
  /-- packets in progress per open input channel -/
  arriving : Table Nat := []
  /-- packet partly emitted on each output -/
  emitting : Table Nat := []
  drops : Nat := 0
  highWater : Nat := 0
  atBound : Bool := false
  deriving DecidableEq, Repr

/-- One cell (R123 to R155). -/
structure Cell where
  ctxs : List Ctx := []
  nextOpen : Nat := 0
  fires : Nat := 0
  ledger : Table LedgerLane := []
  ledgerTag : Option Nat := none
  conv : Option Conv := none
  vec : Option VecRow := none
  rowQueue : List VecRow := []
  /-- tiles taken by the cell so far, from which packet indices of R82 and R85 count -/
  tilesDone : Nat := 0
  gens : Table GenRun := []
  /-- generators with a step-issue trigger that the running step has not yet started (R153) -/
  armed : List Nat := []
  accs : List Access := []
  valve : Valve := {}
  deriving DecidableEq, Repr

/-- The fabric of one partition. -/
structure Fabric where
  /-- tokens on the way to a channel's receiving side -/
  wires : Table (List Token) := []
  /-- tokens in a receiving side's buffer (R112) -/
  bufs : Table (List Token) := []
  /-- credits a sending side has spent and not yet got back -/
  spent : Table Nat := []
  /-- credits on their way back (R112) -/
  due : Table Nat := []
  /-- replay buffers per link direction and network (R163) -/
  replay : Table (List Sent) := []
  /-- link directions whose receiver has asked for a re-send -/
  resend : List Nat := []
  cells : Table Cell := []
  /-- tokens a cell has emitted and its switch has not yet taken -/
  outs : Table (List Token) := []
  /-- halted by a fault (R167) -/
  halted : Bool := false
  deriving DecidableEq, Repr

/-! ### Stops (05_stops) -/

/-- R219: the state of a slot. -/
inductive SlotState where
  | empty | loading | ready | active | failed
  deriving DecidableEq, Repr

def SlotState.code : SlotState → Nat
  | .empty => 0 | .loading => 1 | .ready => 2 | .active => 3 | .failed => 4

/-- A queue binding of a stop (R226). -/
structure Binding where
  queue : Nat
  carried : Bool
  reads : Bool
  writes : Bool
  capacity : Nat
  maxPacket : Nat
  deriving DecidableEq, Repr

/-- A loaded stop: its header fields and the non-zero 32-bit words of its block, by byte offset (R223 to R226). -/
structure StopCfg where
  stopId : Nat := 0
  drainBudget : Nat := 0
  logicalPart : Nat := 0
  bindings : List Binding := []
  words : Table Nat := []
  deriving DecidableEq, Repr

/-- A slot of a partition (R218, R219). `image` is the handle whose stop it holds. -/
structure Slot where
  state : SlotState := .empty
  stopId : Nat := 0
  image : Nat := 0
  cfg : StopCfg := {}
  deriving DecidableEq, Repr

/-- Where a stop block is read from (R230). -/
inductive LoadSrc where
  | store (pos : Nat)
  | t2 (addr : DWord)
  deriving DecidableEq, Repr

/-- A stop load, waiting or running (R232, R233). -/
structure Load where
  slot : Nat
  src : LoadSrc
  image : Nat := 0
  stopId : Nat := 0
  cmd : Option CmdRef := none
  front : Option Nat := none
  restart : Bool := false
  started : Bool := false
  repeated : Bool := false
  /-- the block, once read and checked -/
  block : Option StopCfg := none
  deriving DecidableEq, Repr

/-- The phases of a switch (R236 to R241). -/
inductive SwitchPhase where
  | waiting | draining | drained | committing
  deriving DecidableEq, Repr

/-- A switch in progress. -/
structure Switch where
  target : Nat
  phase : SwitchPhase := .waiting
  cmd : Option CmdRef := none
  drainCycles : Nat := 0
  /-- status the switch completes with; 0x0000 unless it fails -/
  status : Nat := 0
  deriving DecidableEq, Repr

/-! ### Rings and steps (06_tiling_and_streams) -/

/-- A fill of an inbound ring that has been issued (R303, R304): its number on the ring, the step it is for, its length,
its source (none for a null entry, R298); `uid` names its transfer. -/
structure Fill where
  index : Nat
  uid : Nat
  step : Nat
  bytes : Nat
  src : Option Nat
  done : Bool := false
  injected : Bool := false
  deriving DecidableEq, Repr

/-- A slot of an outbound ring in use (R306): its number, the step that filled it and which of the step's fills it is,
its tokens; closed, of a committed step; where the ring table sends it. -/
structure OutSlot where
  index : Nat
  step : Nat
  nth : Nat
  tokens : Nat := 0
  closed : Bool := false
  committed : Bool := false
  mode : Nat := 3
  base : Nat := 0
  list : Nat := 0
  uid : Nat := 0
  deriving DecidableEq, Repr

/-- A ring's counters and slots (R302); it stands under key 4 × column + channel. -/
structure Ring where
  tail : Nat := 0
  head : Nat := 0
  keep : Nat := 0
  commit : Nat := 0
  fills : List Fill := []
  outs : List OutSlot := []
  /-- fills issued on the ring, and per step (uid) -/
  nextFill : Nat := 0
  given : List (Nat × Nat) := []
  stopped : Bool := false
  /-- an index list entry of another device has been asked for -/
  asked : Bool := false
  deriving DecidableEq, Repr

/-- An admitted or running fabric step of a partition (R313 to R315, R362, R607). -/
structure StepInst where
  uid : Nat
  job : Nat
  image : Nat
  stepId : Nat
  stopId : Nat
  cls : Nat
  chain : Nat
  order : Nat
  /-- sequences the step serves, in row order -/
  rows : List Nat := []
  worst : Nat := 0
  bounds : List Nat := []
  attempt : Nat := 0
  carried : Bool := false
  /-- its implicit switch has run: it issues next (R608) -/
  chosen : Bool := false
  /-- issued at least once: its bounds are read (R288), and a replay keeps them -/
  bound : Bool := false
  /-- the checkpoint at which a suspended step was cut, until it issues again; 0 is not cut (R639) -/
  cut : Nat := 0
  /-- first status other than success that the step met (K_OVER, ANCHOR_MISMATCH, BOUND_RANGE) -/
  status : Nat := 0
  deriving DecidableEq, Repr

/-- A claimed or started load of the Front schedule (R343 to R349), by entry index of its image. -/
structure FrontEntry where
  image : Nat
  index : Nat
  present : Bool := false
  /-- fell due since the last intake's claims (R344) -/
  due : Bool := false
  /-- claimed, and not yet present; its load runs once `started` -/
  claimed : Bool := false
  started : Bool := false
  deriving DecidableEq, Repr

/-- The state of one partition (R22), apart from the stores that are part of memory. -/
structure Partition where
  fabric : Fabric := {}
  slots : Table Slot := []
  epoch : Nat := 0
  active : Option Nat := none
  loads : List Load := []
  switch : Option Switch := none
  draining : Bool := false
  /-- tile ports closed: no fetch, no injection, no generator start on step issue (R237) -/
  closed : Bool := false
  rings : Table Ring := []
  admitted : List StepInst := []
  running : Option StepInst := none
  /-- a step whose attempt was discarded and which has not issued again; it waits for the next intake (R362, R364) -/
  replay : Option StepInst := none
  parked : Bool := false
  job : Nat := 0
  /-- function that holds the partition and its reservations in KiB (R709, R710); 255 is no function -/
  owner : Nat := 0
  staging : Nat := 64
  lull : Nat := 128
  front : List FrontEntry := []
  inService : Bool := true
  deriving DecidableEq, Repr

/-- What a suspended job keeps of a partition beside the bytes of its save area (R632 to R636): the fabric with its valves,
its rings, the slots, and a step cut at a checkpoint. -/
structure Saved where
  fabric : Fabric := {}
  rings : Table Ring := []
  slots : Table Slot := []
  active : Option Nat := none
  epoch : Nat := 0
  replay : Option StepInst := none
  deriving DecidableEq, Repr

end Sys2Proof.Machine
end

