-- ==== Sys2Proof/Machine/JobTypes.lean ====
section
/-!
DEFINITION. Jobs, their faults and restarts (18_faults_and_recovery), and the fault ring.
-/
namespace Sys2Proof.Machine

/-- MGT_JOB_STATE.STATE (R864). -/
inductive JobState where
  | none | running | halted | resetting | reloading | replaying | waiting | stopped
  deriving DecidableEq, Repr

def JobState.code : JobState → Nat
  | .none => 0 | .running => 1 | .halted => 2 | .resetting => 3 | .reloading => 4 | .replaying => 5
  | .waiting => 6 | .stopped => 7

/-- What a fault says of itself (R860). `part` 0x0F is the hub; `unit` as R860 numbers it. -/
structure FaultInfo where
  status : Nat
  kind : Nat
  part : Nat := 15
  unit : Nat := 0
  location : Nat := 0
  stepId : Nat := 0xFFFFFFFF
  detail : Nat := 0
  addr : Nat := 0
  deriving DecidableEq, Repr

/-- R629 to R638: where a suspended job stands. -/
inductive SuspendState where
  | no | suspending | saving | saved | resuming | restoring
  deriving DecidableEq, Repr

/-- A job of this device (R847 to R851, R629). -/
structure Job where
  state : JobState := .running
  restarts : Nat := 0
  /-- breath numbers at which the job entered HALTED since its storm count was last cleared (R850) -/
  storm : List Nat := []
  waitReason : Nat := 0
  lastSerial : Nat := 0
  /-- status of the job's first fault of the current restart -/
  firstFault : Nat := 0
  /-- origin and SERIAL pairs of JOB_FAULT messages already received (R845) -/
  seen : List (Nat × Nat) := []
  /-- breaths since HALTED (R847 stage 1) -/
  held : Nat := 0
  /-- devices that have reported their reset (R848) -/
  reports : List Nat := []
  restartBreath : Option Nat := none
  firstStep : Bool := false
  /-- slots to reload: partition, slot, stop, image, was it active (R847 stage 2) -/
  reload : List (Nat × Nat × Nat × Nat × Bool) := []
  suspend : SuspendState := .no
  cmd : Option CmdRef := none
  /-- partitions whose warm reset of this restart has ended; the reloads of stage 3 have been asked for; breaths since stage
  3 began -/
  landed : List Nat := []
  reloadAsked : Bool := false
  waited : Nat := 0
  deriving DecidableEq, Repr

/-- The fault ring (R859 to R861): SERIAL of the last entry, the hub page's entries not yet in T3. -/
structure FaultRing where
  serial : Nat := 0
  page : List (Nat × List Byte) := []
  on : Bool := false
  lost : Bool := false
  deriving DecidableEq, Repr

end Sys2Proof.Machine
end

