-- ==== Sys2Proof/Machine/MoverTypes.lean ====
section
/-!
DEFINITION. Mover channels, writes on their way, fences, check units and digest engines (08_movers_and_checks).
-/
namespace Sys2Proof.Machine

/-- The fields of a mover descriptor (R377). -/
structure Move where
  tile : Bool
  src : Nat
  dst : Nat
  len : Nat
  /-- FMT_SRC and FMT_DST where CONVERT is 1 -/
  conv : Option (Nat × Nat) := none
  cls : Nat
  check : Bool := false
  unit : Nat := 255
  poly : Nat := 0
  seq : Nat := 0
  /-- CHK_EXPECT where COMPARE is 1 -/
  expect : Option Nat := none
  /-- a Front TILE_LOAD copies this many panels of `len` bytes, `stride` bytes apart in their home (R343) -/
  pieces : Nat := 1
  stride : Nat := 0
  deriving DecidableEq, Repr

/-- Who a transfer is for: a command; a Front entry (partition, image handle, entry index); a long operation. -/
inductive WorkFor where
  | command (c : CmdRef)
  | front (part image index : Nat)
  | longOp (id : Nat)
  deriving DecidableEq, Repr

/-- A descriptor a channel has accepted (R372, R373); `port` is none for firmware (R381). -/
structure Work where
  uid : Nat
  owner : WorkFor
  port : Option Port
  mv : Move
  deriving DecidableEq, Repr

/-- A channel (R371 to R373, R404, R407): the head of the queue runs while `running` is set. -/
structure Mover where
  queue : List Work := []
  running : Bool := false
  /-- check unit that the running descriptor holds -/
  unit : Option Nat := none
  halted : Bool := false
  /-- ring fills and write-outs the channel carries (R374), by uid -/
  ringWork : List Nat := []
  /-- the running descriptor's packets to another device have been handed over; its status and value once they have left -/
  sent : Option (Nat × List Byte) := none
  deriving DecidableEq, Repr

/-- A write that has left its mover and is not yet visible (R393, R400). -/
structure Flight where
  uid : Nat
  chan : Nat
  addr : Nat
  bytes : List Byte
  remote : Bool := false
  /-- port × 64 + circuit of a remote write (R763), its REQ_ID, its offset in its transfer, the transfer's tag -/
  route : Nat := 0
  req : Nat := 0
  off : Nat := 0
  tag : Nat := 0
  deriving DecidableEq, Repr

/-- What a LANDING_FENCE is issued for: a command, or the firmware's own (R55, R348, R530, R555). -/
inductive FenceFor where
  | command (c : CmdRef)
  | kv (job seq : Nat)
  | logits (part step job image : Nat) (rows : List Nat)
  | front (part image index : Nat)
  | lull (id : Nat)
  deriving DecidableEq, Repr

/-- A waiting LANDING_FENCE (R397 to R401): the uids it covers, and the status forced on it by halted or discarded
work. -/
structure Fence where
  id : Nat
  owner : FenceFor
  chan : Nat
  covers : List Nat
  bad : Nat := 0
  deriving DecidableEq, Repr

/-- A CHECK_RANGE that runs on a unit (R414). -/
structure CheckRun where
  cmd : CmdRef
  mv : Move
  deriving DecidableEq, Repr

/-- A check unit (R413, R425): the channel it serves (255 for CHECK_RANGE), its last result. -/
structure CheckUnit where
  serves : Option Nat := none
  run : Option CheckRun := none
  chan : Nat := 0
  poly : Nat := 0
  last : Nat := 0
  deriving DecidableEq, Repr

/-- A DIGEST that runs on an engine (R415). -/
structure DigestRun where
  cmd : CmdRef
  src : Nat
  len : Nat
  mode : Nat
  ctx : Nat
  result : Nat
  expect : Nat
  deriving DecidableEq, Repr

/-- What stands in the place of a channel's number where a transfer is the hub's own. -/
abbrev hubChan : Nat := 255

/-- A packet that waits for a slot of its circuit (R748, R763, R765): kind 0 WRITE, 1 READ_REQ, 2 RESPONSE, 3 QUEUE,
4 CONTROL. `arg` is the ARG field; of a CONTROL packet it is the message type; of a READ_REQ or WRITE the offset within its
transfer. `route` is port × 64 + circuit once the packet has left, `tag` the tag of its command. -/
structure TxItem where
  uid : Nat
  chan : Nat := hubChan
  kind : Nat
  dest : Nat
  srcPart : Nat := 15
  cls : Nat := 0
  job : Nat := 0
  addr : Nat := 0
  len : Nat := 0
  status : Nat := 0
  arg : Nat := 0
  body : List Byte := []
  route : Nat := 0
  tag : Nat := 0
  deriving DecidableEq, Repr

/-! ### Queues (09_queue_unit) -/

/-- A packet or a gap marker in a queue (R440, R446): `order` is its place in arrival order once visible; `words` the
words not yet delivered. -/
structure Packet where
  producer : Nat
  seq : Nat
  level : Nat
  words : List (List Byte)
  marker : Bool := false
  order : Nat := 0
  visible : Bool := false
  /-- words delivered where a step skipped the rest (R450, R454) -/
  cutAt : Option Nat := none
  deriving DecidableEq, Repr

/-- R435: a producer record. -/
structure Producer where
  id : Nat
  lastSeq : Nat
  nextSeq : Nat := 1
  deriving DecidableEq, Repr

/-- The fields of a gap marker (R447). -/
structure Marker where
  producer : Nat
  seq : Nat
  lastProducer : Nat
  lastSeq : Nat
  count : Nat
  words : Nat
  level : Nat
  reasons : Nat
  mixed : Bool
  no : Nat
  order : Nat := 0
  visible : Bool := false
  deriving DecidableEq, Repr

/-- Drops that wait for the marker a step holds (R446). -/
structure PendingDrop where
  producer : Nat
  seq : Nat
  level : Nat
  words : Nat
  reasons : Nat
  deriving DecidableEq, Repr

/-- A pop port's reading in the running step (R456, R457). -/
structure PopRun where
  col : Nat
  queue : Nat
  reads : Nat
  tagStep : Bool
  done : Nat := 0
  /-- the packet on its way out, the words of it delivered, a skip that has been asked for -/
  current : Option Packet := none
  sent : Nat := 0
  skip : Bool := false
  deriving DecidableEq, Repr

/-- A queue (R426 to R451). -/
structure Queue where
  base : Nat
  capacity : Nat
  maxPacket : Nat
  notify : Nat := 0
  notifyArg : Nat := 0
  stallLimit : Nat := 0
  /-- image that created it; 0 where a session did -/
  image : Nat := 0
  producers : List Producer := []
  /-- complete packets, and packets whose END word has not come -/
  packets : List Packet := []
  partials : List Packet := []
  /-- producers whose packet is being discarded, and whether it is a duplicate -/
  discarding : List (Nat × Bool) := []
  marker : Option Marker := none
  markerHeld : Option Marker := none
  markerNo : Nat := 0
  pending : List PendingDrop := []
  held : List Packet := []
  /-- reading list of the running step by tile port column, and the part a replay has still to deliver (R450) -/
  readList : List (Nat × Packet) := []
  replayList : List (Nat × Packet) := []
  /-- snapshot of NEXT_SEQ per producer (R439) -/
  snapshot : List (Nat × Nat) := []
  current : Option (Nat × Packet) := none
  nextOrder : Nat := 1
  /-- pops that wait (R467): the command, MAX_WORDS, DST -/
  waiting : List (CmdRef × Nat × Nat) := []
  deriving DecidableEq, Repr

/-- A word on its way into a queue (R440, R442). -/
structure InWord where
  queue : Nat
  producer : Nat
  level : Nat
  bytes : List Byte
  fin : Bool
  deriving DecidableEq, Repr

/-- The queue unit of a partition: its queues, its carve (R427) in words. -/
structure QueuePart where
  queues : Table Queue := []
  staging : Nat := 0
  lull : Nat := 0
  region : Nat := 0
  carved : Bool := false
  pops : List PopRun := []
  /-- words on their way from the push ports (R442) -/
  incoming : List InWord := []
  deriving DecidableEq, Repr

end Sys2Proof.Machine
end

