-- ==== Sys2Proof/Machine/ServeTypes.lean ====
section
/-!
DEFINITION. Sequences, prefixes, Drones and their passes (11_serving), sampler rows (12_mutes_and_sampling), long
operations (13_breath_and_scheduling), circuits (16_plovlink_and_domain).
-/
namespace Sys2Proof.Machine

/-- R521: the state of a sequence. -/
inductive SeqState where
  | free | prefill | handoff | decode | idle | lulling | lulled | resuming
  deriving DecidableEq, Repr

def SeqState.code : SeqState → Nat
  | .free => 0 | .prefill => 1 | .handoff => 2 | .decode => 3 | .idle => 4 | .lulling => 5 | .lulled => 6
  | .resuming => 7

/-- The copied sampling block of a sequence (R568 to R570). -/
structure SampleBlock where
  temperature : Word := 0
  topP : Word := 0x3F800000
  minP : Word := 0
  topK : Nat := 0
  seed : Nat := 0
  maskKind : Nat := 0
  keepMute : Bool := false
  deliverStop : Bool := false
  stops : List Nat := []
  maskAddr : Nat := 0
  deriving DecidableEq, Repr

/-- The committed mute state (R571) and the automaton stack, bottom first (R570). -/
structure MuteState where
  aut : Nat := 0
  addr : Nat := 0
  stack : List Nat := []
  deriving DecidableEq, Repr

/-- A sequence record (R520) and the progress of its current request. -/
structure Seq where
  state : SeqState := .free
  level : Nat := 0
  specK : Nat := 0
  stream : Bool := false
  keep : Bool := false
  committed : Nat := 0
  prefixId : Nat := 0
  prefixPages : Nat := 0
  reservedPos : Nat := 0
  /-- page table and scale table (R526): addresses of each logical page's first frame and scale block -/
  pages : List Nat := []
  scales : List Nat := []
  delivered : Nat := 0
  maxTokens : Nat := 0
  prompt : Nat := 0
  promptLen : Nat := 0
  out : Nat := 0
  sampling : Nat := 0
  nextToken : Nat := 0
  image : Nat := 0
  group : Nat := 0
  lull : Nat := 0
  cmd : Option CmdRef := none
  block : SampleBlock := {}
  mute : MuteState := {}
  guesses : List Nat := []
  cancelled : Bool := false
  /-- a chain of prefill steps is set up or running; B and the forced tokens of a restart (R852) -/
  chain : Option Nat := none
  base : Nat := 0
  forced : Bool := false
  /-- tokens delivered for the request, in order (OUT, R725) -/
  tokens : List Nat := []
  /-- the request continues the mute state of an earlier one under KEEP_MUTE (R572, R858) -/
  keptMute : Bool := false
  /-- PREFIX_BUILD's own sequence (R544) -/
  building : Bool := false
  /-- tokens were delivered since the last progress record (R57) -/
  progressed : Bool := false
  /-- the deployment that pinned the request (R666, R669) -/
  deploy : Option Nat := none
  /-- restarted speculative sequence: no guesses in its first pass (R856) -/
  plainPass : Bool := false
  kvChannels : List Nat := []
  /-- frames of one logical page: layers times head groups (R525) -/
  perPage : Nat := 0
  /-- NEXT_TOKEN of the prefill has been drawn (or is forced); a fence of the handoff completed badly (R531, R532) -/
  tokenReady : Bool := false
  fenceBad : Bool := false
  /-- mute states of the rows of the next pass that are not void, once they are prepared (R584, R585, R590) -/
  prep : List MuteState := []
  prepared : Bool := false
  deriving DecidableEq, Repr

/-- A shared prefix (R544 to R546). -/
structure Prefix where
  job : Nat
  image : Nat
  length : Nat
  pages : List Nat
  scales : List Nat
  refs : Nat := 0
  retiring : Bool := false
  perPage : Nat := 0
  deriving DecidableEq, Repr

/-- An entry of the batch table (R517). -/
structure BatchEntry where
  seq : Nat
  committed : Nat
  specK : Nat
  firstRow : Nat
  nextToken : Nat
  guesses : List Nat
  pages : List Nat
  scales : List Nat
  prefixPages : Nat
  deriving DecidableEq, Repr

/-- An image's decode group (R512 to R517, R533): its pass and its tickets. -/
structure Group where
  job : Nat
  members : List Nat
  batch : List BatchEntry := []
  nextStep : Nat := 0
  /-- steps of the pass that have been admitted (R515, R607) -/
  admitted : Nat := 0
  running : Bool := false
  /-- the running step spans a breath boundary (R611) -/
  carried : Bool := false
  /-- R541's commit of this pass has been made -/
  passDone : Bool := false
  headSince : Nat := 0
  heldFor : Nat := 0
  urgent : Bool := false
  tickets : List Nat := []
  deriving DecidableEq, Repr

/-- A running Drone step (R513 to R518). -/
structure DroneStep where
  uid : Nat
  job : Nat
  image : Nat
  stepId : Nat
  index : Nat
  rows : Nat
  longest : Nat
  op : Nat := 0
  attempt : Nat := 0
  /-- exchange it waits in: kind, source offset, bytes, destination offset -/
  exchange : Option (Nat × Nat × Nat × Nat) := none
  /-- snapshot of the push counters (R536) -/
  snapshot : List (Nat × Nat) := []
  /-- the member's anchor maxima while D_ATTN waits in its KIND 2 exchange (R535) -/
  anchors : List Int := []
  sampled : Bool := false
  status : Nat := 0
  deriving DecidableEq, Repr

/-- A Drone engine (R510, R536). Its scratch stands in the memory under a space of its own. -/
structure Drone where
  step : Option DroneStep := none
  /-- NEXT_SEQ per destination queue, by partition × 256 + queue (R536) -/
  pushSeq : List (Nat × Nat) := []
  deriving DecidableEq, Repr

/-- A row of logits at the sampler (R565, R566): the token it drew, once it has. -/
structure SamplerRow where
  job : Nat
  seq : Nat
  row : Nat
  pos : Nat
  image : Nat
  /-- columns that have come: first token, logits (R565) -/
  cols : List (Nat × List Word)
  /-- a row of a batch, one of several that a commit takes; otherwise the last row of a prefill -/
  pass : Bool := false
  isVoid : Bool := false
  done : Bool := false
  mute : MuteState := {}
  token : Option Nat := none
  status : Nat := 0
  cmd : Option CmdRef := none
  block : SampleBlock := {}
  deriving DecidableEq, Repr

/-- A long operation (R640, R641): what it is, whose command it completes, how far it has come. -/
inductive LongKind where
  | imageDigest
  | imageLoad (image : Nat)
  | switchIn (image : Nat)
  | lull (job seq dst : Nat)
  | resume (job seq : Nat)
  | scrubT3
  | shardFetch (shard : Nat)
  | rescan (shard : Nat)
  | versionLoad (deploy version : Nat)
  | configure (id : Nat)
  deriving DecidableEq, Repr

/-- The engine a long operation runs on (R640), and how many of its kind take a step in a breath (R641). -/
def LongKind.engine : LongKind → Nat
  | .imageDigest => 1
  | .imageLoad _ => 0
  | .switchIn _ => 0
  | .shardFetch _ => 1
  | .rescan _ => 1
  | .lull _ _ _ => 2
  | .resume _ _ => 2
  | .scrubT3 => 3
  | .configure _ => 4
  | .versionLoad _ _ => 5

def engineCount : Nat → Nat
  | 0 => 8
  | 1 => 4
  | 2 => 12
  | 5 => 64
  | _ => 1

structure LongOp where
  id : Nat
  kind : LongKind
  cls : Nat
  cmd : Option CmdRef := none
  step : Nat := 0
  /-- attempts of R660 that have failed for the item in hand -/
  attempt : Nat := 0
  busy : Bool := false
  deriving DecidableEq, Repr

/-- A circuit record (R759, R760), under port × 64 + circuit number. -/
structure Circuit where
  ends : Bool
  far : Nat := 0
  job : Nat := 0
  outPort : Nat := 0
  outCircuit : Nat := 0
  deriving DecidableEq, Repr

end Sys2Proof.Machine
end

