-- ==== Sys2Proof/Machine/ImageTypes.lean ====
section
/-!
DEFINITION. Images as the loader keeps them (05_stops, 06_tiling_and_streams, 07_memory_tiers), the chains of steps that
requests make (R314), and the areas firmware places in T2 (R261, R628, R671).
-/
namespace Sys2Proof.Machine

/-- An entry of a bound table (R286). -/
structure BoundRec where
  source : Nat
  op : Nat
  div : Nat
  add : Int
  min : Nat
  max : Nat
  arg : Nat
  deriving DecidableEq, Repr

/-- An entry of a ring table (R308). -/
structure RingRec where
  port : Nat
  ch : Nat
  fills : Nat
  mode : Nat
  slot : Nat
  base : Nat
  list : Nat
  bytes : Nat
  deriving DecidableEq, Repr

/-- A step record with its bound table, ring table and op list (R252, R286, R308, R513). -/
structure StepRec where
  id : Nat
  stopId : Nat
  part : Nat
  cls : Nat
  engine : Nat
  wc : Nat
  cross : Nat
  circuits : Nat
  t1 : Nat
  queueBytes : Nat
  queues : Nat
  checkpoints : Nat
  bounds : List BoundRec := []
  rings : List RingRec := []
  ops : List (List Byte) := []
  deriving DecidableEq, Repr

/-- A stop of the directory (R251), where it was placed (R261), and its block (R223). -/
structure StopRec where
  id : Nat
  part : Nat
  home : Nat
  block : Nat
  pos : Option Nat := none
  t2 : Option Nat := none
  cfg : StopCfg := {}
  deriving DecidableEq, Repr

/-- An entry of the Front schedule (R343). -/
structure FrontRec where
  stepId : Nat
  lead : Nat
  kind : Nat
  part : Nat
  arg0 : Nat
  arg1 : Nat
  arg2 : Nat
  arg3 : Nat
  deriving DecidableEq, Repr

/-- A tile manifest record (R340). -/
structure TileRec where
  id : Nat
  hint : Nat
  fmt : Nat
  sparse : Bool
  panels : Nat
  k : Nat
  addr : Nat
  panelBytes : Nat
  scales : Nat
  deriving DecidableEq, Repr

/-- A page manifest record (R341). -/
structure PageRec where
  hint : Nat
  shard : Nat
  src : Nat
  dst : Nat
  deriving DecidableEq, Repr

/-- The version of the library that an image was loaded for: model, version, and the T2 region of each logical
partition (R671, R672). -/
structure LibVersion where
  model : Nat
  version : Nat
  deploy : Nat
  regions : List Nat
  /-- memory key of the library's data area, from which the image's T3 offsets count (R672) -/
  data : Nat
  deriving DecidableEq, Repr

/-- A loaded image, or one being loaded (R258, R264). `fn` is the function that loaded it. -/
structure Image where
  job : Nat
  fn : Nat
  addr : Nat
  len : Nat
  secStops : Nat
  /-- physical partition of each logical one -/
  parts : List Nat
  t1 : List Nat
  qkib : List Nat
  queues : List Nat
  circuits : Nat := 0
  stops : List StopRec := []
  steps : List StepRec := []
  front : List FrontRec := []
  tiles : List TileRec := []
  pages : List PageRec := []
  /-- the load has completed (R264) -/
  ready : Bool := false
  /-- pages of the page manifest that stand in T2 (R351 to R353) -/
  landed : List Nat := []
  /-- PAGE_LOAD work has been issued since the last switch-in -/
  switching : Bool := false
  /-- pages that are mapped to a shared copy: page manifest index, memory key of the copy (R682) -/
  shared : List (Nat × Nat) := []
  lib : Option LibVersion := none
  deriving DecidableEq, Repr

/-- A chain of fabric steps (R314, R530): the ENGINE 0 steps of an image for one request. `next` counts the steps that
have been admitted, `done` those that have committed. -/
structure Chain where
  id : Nat
  job : Nat
  image : Nat
  seq : Nat
  next : Nat := 0
  done : Nat := 0
  headSince : Nat := 0
  heldFor : Nat := 0
  urgent : Bool := false
  /-- a forced-prefix chain of a restart (R852, R853) -/
  forced : Bool := false
  /-- no further step is admitted: a CANCEL in PREFILL (R561) -/
  dropped : Bool := false
  deriving DecidableEq, Repr

/-- The phases of a version that a deployment loads (R670). -/
inductive LoadPhase where
  | fetching | placing | switchingIn | available
  deriving DecidableEq, Repr

def LoadPhase.code : LoadPhase → Nat
  | .fetching => 1 | .placing => 2 | .switchingIn => 3 | .available => 4

/-- The load that a deployment runs (R670, R675 to R680). -/
structure DeployLoad where
  version : Nat
  phase : LoadPhase := .fetching
  image : Nat := 0
  drain : Bool := false
  /-- the drain path is taken from the next intake (R679) -/
  drainNext : Bool := false
  cmd : Option CmdRef := none
  /-- devices on which the version is AVAILABLE, and the breath at which it becomes CURRENT (R676) -/
  reports : List Nat := []
  breath : Option Nat := none
  /-- the old version is loaded again after this status and shard (R680) -/
  failed : Option (Nat × Nat) := none
  /-- the version that a drain has unloaded -/
  back : Nat := 0
  deriving DecidableEq, Repr

/-- A deployment (R665): its model, job, function and part map; the current version with its image, 0 for none; the
retiring versions with their images, the newest first. -/
structure Deploy where
  model : Nat
  job : Nat
  fn : Nat
  map : List Nat
  current : Nat := 0
  image : Nat := 0
  olds : List (Nat × Nat) := []
  load : Option DeployLoad := none
  draining : Bool := false
  deriving DecidableEq, Repr

/-- What an area of a stack is for (R261, R628, R566, R671). -/
inductive AreaFor where
  | save (job : Nat)
  | logits (job : Nat)
  | stop (image : Nat)
  | region (deploy version : Nat)
  deriving DecidableEq, Repr

/-- An area that firmware has placed in a stack. -/
structure Area where
  stack : Nat
  base : Nat
  bytes : Nat
  use : AreaFor
  deriving DecidableEq, Repr

end Sys2Proof.Machine
end

