-- ==== Sys2Proof/Machine/Memory.lean ====
section
/-!
DEFINITION. The addressed memory of the device: T1, T2, T3, the queue stores and the stop stores under one key
(R49, R50: SPACE and OFFSET of this device), held as (address, byte) pairs in one canonical form.
-/
namespace Sys2Proof.Machine

/-- Memory as plain data: addresses strictly rising, no entry equal to what an unlisted address reads as. -/
abbrev Memory := List Host.Cell

/-- What a byte that nothing has written reads as: 0. DESIGN CHOICE 8: the spec gives no power-on contents. -/
def memDefault : Byte := 0

/-- The key of a byte of this device: SPACE in [56:53], OFFSET in [52:0] (R49). -/
def memKey (space offset : Nat) : Nat := space * 2 ^ 53 + offset

/-- The byte at a key. -/
def Memory.get (m : Memory) (a : Nat) : Byte :=
  match m with
  | [] => memDefault
  | (k, b) :: r => if k = a then b else if a < k then memDefault else Memory.get r a

/-- The memory with a byte written: the canonical form is kept (writing the default removes the entry). -/
def Memory.put (m : Memory) (a : Nat) (b : Byte) : Memory :=
  match m with
  | [] => if b = memDefault then [] else [(a, b)]
  | (k, c) :: r =>
    if a < k then (if b = memDefault then (k, c) :: r else (a, b) :: (k, c) :: r)
    else if k = a then (if b = memDefault then r else (a, b) :: r)
    else (k, c) :: Memory.put r a b

/-- Every address of the list is above `a`, and they rise, and no byte is the default. -/
def Memory.above (a : Nat) : Memory → Bool
  | [] => true
  | (k, b) :: r => decide (a < k) && decide (b ≠ memDefault) && Memory.above k r

/-- The canonical form. -/
def Memory.wf : Memory → Bool
  | [] => true
  | (k, b) :: r => decide (b ≠ memDefault) && Memory.above k r

/-- The reach keeps the contents of T2 and T3-DDR, and the training of their controllers; the reaches are numbered as R819
orders them: 0 power-on, 1 cold, 2 system, 3 device warm, 4 core. -/
def keepsMemory (r : Nat) : Bool := decide (3 ≤ r)

/-- R817: the memory that a reach leaves: T3-CXL always, T2 and T3-DDR where the reach keeps them. -/
def keptCell (r a : Nat) : Bool :=
  let s := a / 2 ^ 53
  s == 3 || (keepsMemory r && (s == 1 || s == 2))

/-- A change of memory: a byte written; a range zeroed; what a reset of a reach does. -/
inductive MemOp where
  | byte (a : Nat) (b : Byte)
  | zero (a n : Nat)
  | reset (reach : Nat)
  deriving DecidableEq, Repr

/-- What a change makes of the byte at `a`; none where it leaves it. -/
def MemOp.at (a : Nat) : MemOp → Option Byte
  | .byte k b => if k = a then some b else none
  | .zero k n => if k ≤ a && a < k + n then some memDefault else none
  | .reset r => if keptCell r a then none else some memDefault

/-- The memory after a change. -/
def Memory.apply (m : Memory) : MemOp → Memory
  | .byte a b => Memory.put m a b
  | .zero k n => m.filter (fun c => !(decide (k ≤ c.1) && decide (c.1 < k + n)))
  | .reset r => m.filter (fun c => keptCell r c.1)

/-- The memory after a list of changes, in order. -/
def Memory.applyAll (m : Memory) : List MemOp → Memory
  | [] => m
  | o :: r => Memory.applyAll (Memory.apply m o) r

/-- What a list of changes leaves in the byte at `a`; none where none of them changes it. -/
def lastWrite (a : Nat) : List MemOp → Option Byte
  | [] => none
  | o :: r => match lastWrite a r with
    | some c => some c
    | none => o.at a

end Sys2Proof.Machine
end

