-- ==== Sys2Proof/Machine/RegMap.lean ====
section
/-!
DEFINITION. The register map: every BAR0 register that the spec's register tables give (R43, R44), with its writable
bits, its write-one-to-clear bits, its reset value (R13) and the selection it reports on (R704). The session records
and doorbell pages (R713, R714), the size table (R32) and HUB_IDENT (R5) are read from their own state.
-/
namespace Sys2Proof.Machine

/-- Where a register lies: in the device's own blocks, in each PRT window, in each DRN window (R43, R44). -/
inductive RegBlock where
  | dev | prt | drn
  deriving DecidableEq, Repr

/-- What a register reports on, where its table says "the selected ...": the state holds one copy per instance. -/
inductive RegSel where
  | none | cell | ring | t2 | mov | chk | que | quepart | route | arb | deploy | port | circ | slot | vr | job
  deriving DecidableEq, Repr

/-- One register, or an array of `count` of them `stride` bytes apart. `copies`: one copy per port (R704, R736).
`only`: fields (hi, lo, least, greatest) with reserved values (R12). `pair`: 1 the low, 2 the high half of a 64-bit pair (R15). -/
structure RegDesc where
  block : RegBlock
  off : Nat
  stride : Nat := 0
  count : Nat := 1
  sel : RegSel := .none
  copies : Bool := false
  rw : Nat := 0
  w1c : Nat := 0
  reset : Nat := 0
  only : List (Nat × Nat × Nat × Nat) := []
  pair : Nat := 0
  deriving DecidableEq, Repr

/-! Offsets: in BAR0 for a device register, in its window for a PRT or DRN register. -/

/-- R34. -/
abbrev HUB_SIZE_COUNT : Nat := 0x4
/-- R42. -/
abbrev HUB_DEVICE_INDEX : Nat := 0x8
/-- R101. -/
abbrev PRT_ARITH_STATUS : Nat := 0x400
/-- R102. -/
abbrev PRT_TRUNC_COUNT_LO : Nat := 0x408
/-- R102. -/
abbrev PRT_TRUNC_COUNT_HI : Nat := 0x40C
/-- R168. -/
abbrev PRT_CELL_SEL : Nat := 0x500
/-- R169. -/
abbrev PRT_CELL_STATUS : Nat := 0x504
/-- R170. -/
abbrev PRT_CELL_FIRES : Nat := 0x508
/-- R171. -/
abbrev PRT_FABRIC_FAULT : Nat := 0x510
/-- R172. -/
abbrev PRT_STRAY_COUNT : Nat := 0x514
/-- R172. -/
abbrev PRT_LINK_REPLAY_COUNT_LO : Nat := 0x518
/-- R172. -/
abbrev PRT_LINK_REPLAY_COUNT_HI : Nat := 0x51C
/-- R172. -/
abbrev PRT_T1_REISSUE_COUNT_LO : Nat := 0x520
/-- R172. -/
abbrev PRT_T1_REISSUE_COUNT_HI : Nat := 0x524
/-- R172. -/
abbrev PRT_GAP_DISCARD_COUNT : Nat := 0x528
/-- R214. -/
abbrev PRT_VALVE_STATUS : Nat := 0x600
/-- R215. -/
abbrev PRT_VALVE_DROPS : Nat := 0x604
/-- R216. -/
abbrev PRT_VALVE_TIMEOUT : Nat := 0x608
/-- R217. -/
abbrev PRT_VALVE_PEAK : Nat := 0x60C
/-- R269. -/
abbrev PRT_SLOT_STATE : Nat := 0x700
/-- R270. -/
abbrev PRT_SLOT_STOP_ID : Nat := 0x704
/-- R271. -/
abbrev PRT_STOP_LOAD : Nat := 0x720
/-- R272. -/
abbrev PRT_STOP_LOAD_ADDR_LO : Nat := 0x724
/-- R272. -/
abbrev PRT_STOP_LOAD_ADDR_HI : Nat := 0x728
/-- R273. -/
abbrev PRT_STOP_SWITCH : Nat := 0x730
/-- R274. -/
abbrev PRT_STOP_STATUS : Nat := 0x734
/-- R275. -/
abbrev PRT_DRAIN_LAST : Nat := 0x738
/-- R275. -/
abbrev PRT_FLUSH_COUNT : Nat := 0x73C
/-- R275. -/
abbrev PRT_OCCUPANCY : Nat := 0x740
/-- R292. -/
abbrev PRT_BOUND : Nat := 0x800
/-- R294. -/
abbrev PRT_BOUND_STATUS : Nat := 0x840
/-- R294. -/
abbrev PRT_BOUND_VALUE : Nat := 0x844
/-- R310. -/
abbrev PRT_RING_SEL : Nat := 0x900
/-- R311. -/
abbrev PRT_RING_PTRS : Nat := 0x904
/-- R311. -/
abbrev PRT_RING_KEEP : Nat := 0x908
/-- R312. -/
abbrev PRT_RING_STATUS : Nat := 0x90C
/-- R367. -/
abbrev MEM_T2_SEL : Nat := 0x900000
/-- R367. -/
abbrev MEM_T2_STATUS : Nat := 0x900004
/-- R367. -/
abbrev MEM_T2_CE_COUNT_LO : Nat := 0x900008
/-- R367. -/
abbrev MEM_T2_CE_COUNT_HI : Nat := 0x90000C
/-- R367. -/
abbrev MEM_T2_UE_COUNT : Nat := 0x900010
/-- R367. -/
abbrev MEM_T2_UE_ADDR_LO : Nat := 0x900014
/-- R367. -/
abbrev MEM_T2_UE_ADDR_HI : Nat := 0x900018
/-- R367. -/
abbrev MEM_T2_UE_STATUS : Nat := 0x90001C
/-- R367. -/
abbrev MEM_T2_SCRUB : Nat := 0x900020
/-- R367. -/
abbrev MEM_T2_REREAD_COUNT : Nat := 0x900024
/-- R368. -/
abbrev MEM_T3_CONFIG : Nat := 0x900100
/-- R368. -/
abbrev MEM_T3_CE_COUNT : Nat := 0x900110
/-- R368. -/
abbrev MEM_T3_UE_COUNT : Nat := 0x900130
/-- R368. -/
abbrev MEM_T3_UE_ADDR_LO : Nat := 0x900134
/-- R368. -/
abbrev MEM_T3_UE_ADDR_HI : Nat := 0x900138
/-- R368. -/
abbrev MEM_T3_UE_STATUS : Nat := 0x90013C
/-- R368. -/
abbrev MEM_T3_REREAD_COUNT : Nat := 0x900140
/-- R368. -/
abbrev MEM_T3_SCRUB : Nat := 0x900144
/-- R369. -/
abbrev PRT_STEP_REPLAY_COUNT : Nat := 0xA00
/-- R369. -/
abbrev PRT_REPLAY_STATUS : Nat := 0xA04
/-- R369. -/
abbrev PRT_REPLAY_STEP : Nat := 0xA08
/-- R369. -/
abbrev PRT_FRONT_STATUS : Nat := 0xA10
/-- R369. -/
abbrev PRT_FRONT_HELD_COUNT : Nat := 0xA14
/-- R423. -/
abbrev MOV_SEL : Nat := 0x400000
/-- R423. -/
abbrev MOV_CH_STATUS : Nat := 0x400004
/-- R423. -/
abbrev MOV_ERR_STATUS : Nat := 0x400008
/-- R423. -/
abbrev MOV_ERR_ADDR_LO : Nat := 0x40000C
/-- R423. -/
abbrev MOV_ERR_ADDR_HI : Nat := 0x400010
/-- R423. -/
abbrev MOV_ERR_DONE : Nat := 0x400014
/-- R423. -/
abbrev MOV_ERR_TAG : Nat := 0x400018
/-- R423. -/
abbrev MOV_CTRL : Nat := 0x40001C
/-- R423. -/
abbrev MOV_BYTES_LO : Nat := 0x400020
/-- R423. -/
abbrev MOV_BYTES_HI : Nat := 0x400024
/-- R423. -/
abbrev MOV_HALTED : Nat := 0x400100
/-- R423. -/
abbrev MOV_DESC_FAULT_COUNT : Nat := 0x400120
/-- R425. -/
abbrev CHK_IRQ_STATUS : Nat := 0x500000
/-- R425. -/
abbrev CHK_IRQ_ENABLE : Nat := 0x500004
/-- R425. -/
abbrev CHK_SEL : Nat := 0x500008
/-- R425. -/
abbrev CHK_LAST_LO : Nat := 0x50000C
/-- R425. -/
abbrev CHK_LAST_HI : Nat := 0x500010
/-- R425. -/
abbrev CHK_UNIT_STATUS : Nat := 0x500014
/-- R425. -/
abbrev CHK_MISMATCH_COUNT : Nat := 0x500018
/-- R425. -/
abbrev DIG_STATUS : Nat := 0x500100
/-- R425. -/
abbrev DIG_BYTES_LO : Nat := 0x500104
/-- R425. -/
abbrev DIG_BYTES_HI : Nat := 0x500108
/-- R425. -/
abbrev DIG_MISMATCH_COUNT : Nat := 0x50010C
/-- R469. -/
abbrev QUE_SEL : Nat := 0x300000
/-- R469. -/
abbrev QUE_CFG : Nat := 0x300004
/-- R469. -/
abbrev QUE_CAPACITY : Nat := 0x300008
/-- R469. -/
abbrev QUE_MAX_PACKET : Nat := 0x30000C
/-- R469. -/
abbrev QUE_BASE : Nat := 0x300010
/-- R469. -/
abbrev QUE_STATUS : Nat := 0x300014
/-- R469. -/
abbrev QUE_HELD : Nat := 0x300018
/-- R469. -/
abbrev QUE_LEVELS : Nat := 0x30001C
/-- R469. -/
abbrev QUE_STORED_LO : Nat := 0x300020
/-- R469. -/
abbrev QUE_STORED_HI : Nat := 0x300024
/-- R469. -/
abbrev QUE_DROP_COUNT : Nat := 0x300028
/-- R469. -/
abbrev QUE_DUP_COUNT : Nat := 0x30002C
/-- R469. -/
abbrev QUE_MARKER_COUNT : Nat := 0x300030
/-- R469. -/
abbrev QUE_STALL_COUNT : Nat := 0x300034
/-- R469. -/
abbrev QUE_SKIP_COUNT : Nat := 0x300038
/-- R469. -/
abbrev QUE_SKIP_IGNORED : Nat := 0x30003C
/-- R469. -/
abbrev QUE_PENDING_DROPS : Nat := 0x300040
/-- R469. -/
abbrev QUE_PRODUCERS : Nat := 0x300044
/-- R470. -/
abbrev QUE_CARVE_STAGING : Nat := 0x300100
/-- R470. -/
abbrev QUE_CARVE_LULL : Nat := 0x300104
/-- R470. -/
abbrev QUE_CARVE_QUEUES : Nat := 0x300108
/-- R470. -/
abbrev QUE_CARVE_FREE : Nat := 0x30010C
/-- R470. -/
abbrev QUE_CE_COUNT_LO : Nat := 0x300110
/-- R470. -/
abbrev QUE_CE_COUNT_HI : Nat := 0x300114
/-- R470. -/
abbrev QUE_UE_STATUS : Nat := 0x300118
/-- R507. -/
abbrev GAL_ROUTE_SEL : Nat := 0x700000
/-- R507. -/
abbrev GAL_ROUTE_CFG : Nat := 0x700004
/-- R507. -/
abbrev GAL_ROUTE_SCALE : Nat := 0x700008
/-- R507. -/
abbrev GAL_ROUTE_CAP : Nat := 0x70000C
/-- R507. -/
abbrev GAL_ROUTE_INTAKE : Nat := 0x700010
/-- R507. -/
abbrev GAL_ROUTE_MAP_LO : Nat := 0x700014
/-- R507. -/
abbrev GAL_ROUTE_MAP_HI : Nat := 0x700018
/-- R507. -/
abbrev GAL_ROUTE_LISTS_LO : Nat := 0x70001C
/-- R507. -/
abbrev GAL_ROUTE_LISTS_HI : Nat := 0x700020
/-- R507. -/
abbrev GAL_ROUTE_OUT_LO : Nat := 0x700024
/-- R507. -/
abbrev GAL_ROUTE_OUT_HI : Nat := 0x700028
/-- R507. -/
abbrev GAL_ROUTE_COMBINE_LO : Nat := 0x70002C
/-- R507. -/
abbrev GAL_ROUTE_COMBINE_HI : Nat := 0x700030
/-- R507. -/
abbrev GAL_ROUTE_WEIGHTS_LO : Nat := 0x700034
/-- R507. -/
abbrev GAL_ROUTE_WEIGHTS_HI : Nat := 0x700038
/-- R507. -/
abbrev GAL_ROUTE_XSTEP_FIRST : Nat := 0x70003C
/-- R507. -/
abbrev GAL_ROUTE_XSTEP_LAST : Nat := 0x700040
/-- R507. -/
abbrev GAL_ROUTE_CSTEP : Nat := 0x700044
/-- R507. -/
abbrev GAL_ROUTE_STATE : Nat := 0x700048
/-- R508. -/
abbrev GAL_ERROR : Nat := 0x700080
/-- R508. -/
abbrev GAL_ASSIGN_LO : Nat := 0x700084
/-- R508. -/
abbrev GAL_ASSIGN_HI : Nat := 0x700088
/-- R508. -/
abbrev GAL_DROP_COUNT : Nat := 0x70008C
/-- R509. -/
abbrev BRM_CTRL : Nat := 0x700104
/-- R509. -/
abbrev BRM_ETA : Nat := 0x700108
/-- R509. -/
abbrev BRM_STATUS : Nat := 0x70010C
/-- R509. -/
abbrev BRM_TOTAL : Nat := 0x700110
/-- R509. -/
abbrev BRM_BIAS : Nat := 0x710000
/-- R509. -/
abbrev BRM_COUNT : Nat := 0x720000
/-- R564. -/
abbrev DRN_STATUS : Nat := 0x0
/-- R564. -/
abbrev DRN_STEP : Nat := 0x4
/-- R564. -/
abbrev DRN_KV_BASE_LO : Nat := 0x8
/-- R564. -/
abbrev DRN_KV_BASE_HI : Nat := 0xC
/-- R564. -/
abbrev DRN_KV_FRAMES : Nat := 0x10
/-- R564. -/
abbrev DRN_KV_SCALE_LO : Nat := 0x14
/-- R564. -/
abbrev DRN_KV_SCALE_HI : Nat := 0x18
/-- R564. -/
abbrev DRN_KV_FREE : Nat := 0x1C
/-- R564. -/
abbrev DRN_TICKETS : Nat := 0x20
/-- R564. -/
abbrev DRN_PASSES_LO : Nat := 0x24
/-- R564. -/
abbrev DRN_PASSES_HI : Nat := 0x28
/-- R564. -/
abbrev DRN_POSITIONS_LO : Nat := 0x2C
/-- R564. -/
abbrev DRN_POSITIONS_HI : Nat := 0x30
/-- R564. -/
abbrev DRN_SPEC_PROPOSED : Nat := 0x34
/-- R564. -/
abbrev DRN_SPEC_ACCEPTED : Nat := 0x38
/-- R564. -/
abbrev DRN_EXCH_MAX : Nat := 0x3C
/-- R564. -/
abbrev DRN_REPLAY_COUNT : Nat := 0x40
/-- R564. -/
abbrev DRN_REPLAY_STATUS : Nat := 0x44
/-- R564. -/
abbrev DRN_REPLAY_STEP : Nat := 0x48
/-- R564. -/
abbrev DRN_LULL_PAGES : Nat := 0x4C
/-- R593. -/
abbrev MUT_STATUS : Nat := 0x600000
/-- R593. -/
abbrev MUT_ROWS_LO : Nat := 0x600004
/-- R593. -/
abbrev MUT_ROWS_HI : Nat := 0x600008
/-- R593. -/
abbrev MUT_MASKED_ROWS : Nat := 0x60000C
/-- R593. -/
abbrev MUT_VOID_ROWS : Nat := 0x600010
/-- R593. -/
abbrev MUT_EMPTY_COUNT : Nat := 0x600014
/-- R593. -/
abbrev MUT_ERR : Nat := 0x600018
/-- R593. -/
abbrev MUT_PREP_MAX : Nat := 0x60001C
/-- R645. -/
abbrev BRT_PERIOD : Nat := 0x200000
/-- R645. -/
abbrev BRT_SRC : Nat := 0x200004
/-- R645. -/
abbrev BRT_STATUS : Nat := 0x200008
/-- R645. -/
abbrev BRT_NUMBER_LO : Nat := 0x20000C
/-- R645. -/
abbrev BRT_NUMBER_HI : Nat := 0x200010
/-- R645. -/
abbrev BRT_IN_EARLY : Nat := 0x200014
/-- R645. -/
abbrev BRT_IN_MISS : Nat := 0x200018
/-- R645. -/
abbrev BRT_PIN : Nat := 0x20001C
/-- R646. -/
abbrev SCH_ARB_SEL : Nat := 0x200100
/-- R646. -/
abbrev SCH_ARB_BUDGET : Nat := 0x200104
/-- R646. -/
abbrev SCH_AGE_LIMIT : Nat := 0x200114
/-- R646. -/
abbrev SCH_CLOCK_HELD : Nat := 0x200118
/-- R647. -/
abbrev PRT_REG_CTRL : Nat := 0xB00
/-- R647. -/
abbrev PRT_REG_REFILL : Nat := 0xB04
/-- R647. -/
abbrev PRT_REG_CAP : Nat := 0xB08
/-- R647. -/
abbrev PRT_REG_BAL_LO : Nat := 0xB0C
/-- R647. -/
abbrev PRT_REG_BAL_HI : Nat := 0xB10
/-- R647. -/
abbrev PRT_REG_HELD : Nat := 0xB14
/-- R647. -/
abbrev PRT_OWNER : Nat := 0xB80
/-- R647. -/
abbrev PRT_JOB : Nat := 0xB84
/-- R647. -/
abbrev PRT_SCHED_LAST : Nat := 0xB88
/-- R647. -/
abbrev PRT_CARRY_COUNT : Nat := 0xB8C
/-- R647. -/
abbrev PRT_URGENT_COUNT : Nat := 0xB90
/-- R692. -/
abbrev LIB_STATUS : Nat := 0xA04000
/-- R692. -/
abbrev LIB_BASE_LO : Nat := 0xA04004
/-- R692. -/
abbrev LIB_BASE_HI : Nat := 0xA04008
/-- R692. -/
abbrev LIB_BYTES_LO : Nat := 0xA0400C
/-- R692. -/
abbrev LIB_BYTES_HI : Nat := 0xA04010
/-- R692. -/
abbrev LIB_RESCAN : Nat := 0xA04014
/-- R692. -/
abbrev LIB_RESCAN_PASS : Nat := 0xA04018
/-- R692. -/
abbrev LIB_SHARD_ERR : Nat := 0xA0401C
/-- R692. -/
abbrev LIB_FETCH_RETRY_COUNT : Nat := 0xA04020
/-- R692. -/
abbrev LIB_REPAIR_COUNT : Nat := 0xA04024
/-- R692. -/
abbrev LIB_RESCAN_MISMATCH_COUNT : Nat := 0xA04028
/-- R692. -/
abbrev LIB_SHARED_COPIES : Nat := 0xA0402C
/-- R692. -/
abbrev LIB_DEPLOY_SEL : Nat := 0xA04030
/-- R692. -/
abbrev LIB_DEPLOY_STATE : Nat := 0xA04034
/-- R692. -/
abbrev LIB_DEPLOY_CURRENT : Nat := 0xA04038
/-- R692. -/
abbrev LIB_DEPLOY_OLD : Nat := 0xA0403C
/-- R692. -/
abbrev LIB_DEPLOY_PINNED : Nat := 0xA04040
/-- R692. -/
abbrev LIB_DEPLOY_OLD_PINNED : Nat := 0xA04044
/-- R735. -/
abbrev HUB_EVT_SEL : Nat := 0x190
/-- R735. -/
abbrev HUB_EVT_COUNT : Nat := 0x194
/-- R736. -/
abbrev HUB_FN_IRQ : Nat := 0x10
/-- R736. -/
abbrev HUB_APERTa_LO : Nat := 0x100
/-- R736. -/
abbrev HUB_APERTa_HI : Nat := 0x104
/-- R736. -/
abbrev HUB_HOST_ERR : Nat := 0x180
/-- R736. -/
abbrev HUB_HOST_ERR_ADDR_LO : Nat := 0x184
/-- R736. -/
abbrev HUB_HOST_ERR_ADDR_HI : Nat := 0x188
/-- R794. -/
abbrev PLV_DOMAIN_CFG : Nat := 0x800000
/-- R794. -/
abbrev PLV_DOMAIN_ID : Nat := 0x800004
/-- R794. -/
abbrev PLV_MEMBERS : Nat := 0x800008
/-- R794. -/
abbrev PLV_LIVE : Nat := 0x800014
/-- R794. -/
abbrev PLV_DOMAIN_STATUS : Nat := 0x800020
/-- R794. -/
abbrev PLV_TICK_PORTS : Nat := 0x800024
/-- R794. -/
abbrev PLV_TICK_MISS : Nat := 0x800028
/-- R794. -/
abbrev PLV_TICK_SKEW : Nat := 0x80002C
/-- R794. -/
abbrev PLV_MEDIA_CFG : Nat := 0x800030
/-- R795. -/
abbrev PLV_PORT_SEL : Nat := 0x800100
/-- R795. -/
abbrev PLV_PORT_CTRL : Nat := 0x800104
/-- R795. -/
abbrev PLV_PORT_STATUS : Nat := 0x800108
/-- R795. -/
abbrev PLV_PORT_PEER : Nat := 0x80010C
/-- R795. -/
abbrev PLV_PORT_DELAY : Nat := 0x800110
/-- R795. -/
abbrev PLV_FEC_CORR_LO : Nat := 0x800114
/-- R795. -/
abbrev PLV_FEC_CORR_HI : Nat := 0x800118
/-- R795. -/
abbrev PLV_FEC_UNCORR : Nat := 0x80011C
/-- R795. -/
abbrev PLV_REPLAY_COUNT : Nat := 0x800120
/-- R795. -/
abbrev PLV_DOWN_COUNT : Nat := 0x800124
/-- R795. -/
abbrev PLV_PRBS_ERR : Nat := 0x800128
/-- R795. -/
abbrev PLV_SLOT_CONFLICT : Nat := 0x80012C
/-- R795. -/
abbrev PLV_MEDIA_STATUS : Nat := 0x800140
/-- R795. -/
abbrev PLV_MEDIA_LANE : Nat := 0x800144
/-- R795. -/
abbrev PLV_CMIS : Nat := 0x800164
/-- R796. -/
abbrev PLV_CIRC_SEL : Nat := 0x800200
/-- R796. -/
abbrev PLV_CIRC_CFG : Nat := 0x800204
/-- R796. -/
abbrev PLV_CIRC_JOB : Nat := 0x800208
/-- R796. -/
abbrev PLV_CIRC_CMD : Nat := 0x80020C
/-- R796. -/
abbrev PLV_CIRC_BYTES_LO : Nat := 0x800210
/-- R796. -/
abbrev PLV_CIRC_BYTES_HI : Nat := 0x800214
/-- R796. -/
abbrev PLV_SLOT_SEL : Nat := 0x800300
/-- R796. -/
abbrev PLV_SLOT_BANK : Nat := 0x800304
/-- R796. -/
abbrev PLV_SLOT_TBL : Nat := 0x800400
/-- R797. -/
abbrev PLV_TWIN_CFG : Nat := 0x800500
/-- R797. -/
abbrev PLV_TWIN_STATUS : Nat := 0x800504
/-- R797. -/
abbrev PLV_TWIN_MIRROR_LO : Nat := 0x800508
/-- R797. -/
abbrev PLV_TWIN_MIRROR_HI : Nat := 0x80050C
/-- R797. -/
abbrev PLV_TWIN_HB : Nat := 0x800510
/-- R797. -/
abbrev PLV_TAKEOVER_COUNT : Nat := 0x800514
/-- R797. -/
abbrev PLV_ADOPT_FAIL : Nat := 0x800518
/-- R797. -/
abbrev PLV_XMAP_LO : Nat := 0x800600
/-- R797. -/
abbrev PLV_XMAP_HI : Nat := 0x800604
/-- R797. -/
abbrev PLV_XMAP_MISS : Nat := 0x800630
/-- R797. -/
abbrev PLV_XMAP_REFUSED : Nat := 0x800634
/-- R836. -/
abbrev RCU_CAUSE : Nat := 0x100000
/-- R836. -/
abbrev RCU_COUNT_TOTAL : Nat := 0x100004
/-- R836. -/
abbrev RCU_COUNT_SRC : Nat := 0x100008
/-- R836. -/
abbrev RCU_BOOT : Nat := 0x100018
/-- R836. -/
abbrev RCU_CTRL : Nat := 0x10001C
/-- R836. -/
abbrev RCU_VBAK : Nat := 0x100020
/-- R836. -/
abbrev RCU_LAST_BLOCK : Nat := 0x100024
/-- R837. -/
abbrev PMU_STATUS : Nat := 0x100100
/-- R837. -/
abbrev PMU_FCLK_KHZ : Nat := 0x100104
/-- R837. -/
abbrev PMU_DCLK_KHZ : Nat := 0x100108
/-- R837. -/
abbrev PMU_CAP : Nat := 0x10010C
/-- R837. -/
abbrev PMU_DROOP : Nat := 0x100110
/-- R837. -/
abbrev PMU_EVENTS : Nat := 0x100114
/-- R837. -/
abbrev PMU_IRQ : Nat := 0x100118
/-- R837. -/
abbrev PMU_RM_WATCH : Nat := 0x10011C
/-- R837. -/
abbrev PMU_DROOP_COUNT : Nat := 0x100120
/-- R837. -/
abbrev PMU_THROTTLE_COUNT : Nat := 0x100124
/-- R837. -/
abbrev PMU_EMERG_COUNT : Nat := 0x100128
/-- R837. -/
abbrev PMU_VR_SEL : Nat := 0x100140
/-- R837. -/
abbrev PMU_VR_STATUS : Nat := 0x100144
/-- R838. -/
abbrev MGT_BOOT_STATUS : Nat := 0xA00000
/-- R838. -/
abbrev MGT_STRAPS : Nat := 0xA00004
/-- R838. -/
abbrev MGT_CFG_VERSION : Nat := 0xA00008
/-- R838. -/
abbrev MGT_FW_VERSION : Nat := 0xA0000C
/-- R838. -/
abbrev MGT_PART_AVAIL : Nat := 0xA00010
/-- R838. -/
abbrev MGT_HOSTBOOT : Nat := 0xA00020
/-- R864. -/
abbrev MGT_FRING_BASE_LO : Nat := 0xA00200
/-- R864. -/
abbrev MGT_FRING_BASE_HI : Nat := 0xA00204
/-- R864. -/
abbrev MGT_FRING_HEAD : Nat := 0xA00208
/-- R864. -/
abbrev MGT_FRING_STATUS : Nat := 0xA0020C
/-- R864. -/
abbrev MGT_FAULT_CFG : Nat := 0xA00210
/-- R864. -/
abbrev MGT_FAULT_COUNT : Nat := 0xA00214
/-- R864. -/
abbrev MGT_RESTART_COUNT : Nat := 0xA00218
/-- R864. -/
abbrev MGT_KIND_COUNT : Nat := 0xA00220
/-- R864. -/
abbrev MGT_JOB_SEL : Nat := 0xA00240
/-- R864. -/
abbrev MGT_JOB_STATE : Nat := 0xA00244
/-- R864. -/
abbrev MGT_JOB_LAST : Nat := 0xA00248

/-- The HUB registers. -/
def hubRegs : List RegDesc := [
  { block := .dev, off := HUB_SIZE_COUNT },
  { block := .dev, off := HUB_DEVICE_INDEX },
  { block := .dev, off := HUB_EVT_SEL, copies := true, rw := 0x7FF },
  { block := .dev, off := HUB_EVT_COUNT, rw := 0xFFFFFFFF },
  { block := .dev, off := HUB_FN_IRQ, copies := true, rw := 0xC7FF07FF },
  { block := .dev, off := HUB_APERTa_LO, stride := 8, count := 16, copies := true, rw := 0xFFFFFFC1, pair := 1 },
  { block := .dev, off := HUB_APERTa_HI, stride := 8, count := 16, copies := true, rw := 0xFFFFFFFF, pair := 2 },
  { block := .dev, off := HUB_HOST_ERR, copies := true, w1c := 0x80000000 },
  { block := .dev, off := HUB_HOST_ERR_ADDR_LO, copies := true, pair := 1 },
  { block := .dev, off := HUB_HOST_ERR_ADDR_HI, copies := true, pair := 2 }]

/-- The PRT registers. -/
def prtRegs : List RegDesc := [
  { block := .prt, off := PRT_ARITH_STATUS, w1c := 0x3F },
  { block := .prt, off := PRT_TRUNC_COUNT_LO, rw := 0xFFFFFFFF, pair := 1 },
  { block := .prt, off := PRT_TRUNC_COUNT_HI, rw := 0xFFFFFFFF, pair := 2 },
  { block := .prt, off := PRT_CELL_SEL, copies := true, rw := 0x1FF, only := [(8, 0, 0, 319)] },
  { block := .prt, off := PRT_CELL_STATUS, sel := .cell },
  { block := .prt, off := PRT_CELL_FIRES, sel := .cell },
  { block := .prt, off := PRT_FABRIC_FAULT, w1c := 0x80000000 },
  { block := .prt, off := PRT_STRAY_COUNT, rw := 0xFFFFFFFF },
  { block := .prt, off := PRT_LINK_REPLAY_COUNT_LO, rw := 0xFFFFFFFF, pair := 1 },
  { block := .prt, off := PRT_LINK_REPLAY_COUNT_HI, rw := 0xFFFFFFFF, pair := 2 },
  { block := .prt, off := PRT_T1_REISSUE_COUNT_LO, rw := 0xFFFFFFFF, pair := 1 },
  { block := .prt, off := PRT_T1_REISSUE_COUNT_HI, rw := 0xFFFFFFFF, pair := 2 },
  { block := .prt, off := PRT_GAP_DISCARD_COUNT, rw := 0xFFFFFFFF },
  { block := .prt, off := PRT_VALVE_STATUS, sel := .cell, w1c := 0x1000000 },
  { block := .prt, off := PRT_VALVE_DROPS, sel := .cell },
  { block := .prt, off := PRT_VALVE_TIMEOUT, w1c := 0x80000000 },
  { block := .prt, off := PRT_VALVE_PEAK },
  { block := .prt, off := PRT_SLOT_STATE },
  { block := .prt, off := PRT_SLOT_STOP_ID, stride := 4, count := 4 },
  { block := .prt, off := PRT_STOP_LOAD, rw := 0x3FE03 },
  { block := .prt, off := PRT_STOP_LOAD_ADDR_LO, rw := 0xFFFFFFFF, pair := 1 },
  { block := .prt, off := PRT_STOP_LOAD_ADDR_HI, rw := 0xFFFFFFFF, pair := 2 },
  { block := .prt, off := PRT_STOP_SWITCH, rw := 0x3 },
  { block := .prt, off := PRT_STOP_STATUS, w1c := 0x20000000 },
  { block := .prt, off := PRT_DRAIN_LAST },
  { block := .prt, off := PRT_FLUSH_COUNT, rw := 0xFFFFFFFF },
  { block := .prt, off := PRT_OCCUPANCY },
  { block := .prt, off := PRT_BOUND, stride := 4, count := 16, rw := 0xFFFFFFFF },
  { block := .prt, off := PRT_BOUND_STATUS, w1c := 0x80000000 },
  { block := .prt, off := PRT_BOUND_VALUE },
  { block := .prt, off := PRT_RING_SEL, copies := true, rw := 0x3F },
  { block := .prt, off := PRT_RING_PTRS, sel := .ring },
  { block := .prt, off := PRT_RING_KEEP, sel := .ring },
  { block := .prt, off := PRT_RING_STATUS, sel := .ring, w1c := 0x80000000 },
  { block := .prt, off := PRT_STEP_REPLAY_COUNT, rw := 0xFFFFFFFF },
  { block := .prt, off := PRT_REPLAY_STATUS, w1c := 0x80000000 },
  { block := .prt, off := PRT_REPLAY_STEP },
  { block := .prt, off := PRT_FRONT_STATUS },
  { block := .prt, off := PRT_FRONT_HELD_COUNT, rw := 0xFFFFFFFF },
  { block := .prt, off := PRT_REG_CTRL, stride := 32, count := 3, rw := 0x80000000 },
  { block := .prt, off := PRT_REG_REFILL, stride := 32, count := 3, rw := 0xFFFFFFFF },
  { block := .prt, off := PRT_REG_CAP, stride := 32, count := 3, rw := 0xFFFFFFFF },
  { block := .prt, off := PRT_REG_BAL_LO, stride := 32, count := 3, pair := 1 },
  { block := .prt, off := PRT_REG_BAL_HI, stride := 32, count := 3, pair := 2 },
  { block := .prt, off := PRT_REG_HELD, stride := 32, count := 3, rw := 0xFFFFFFFF },
  { block := .prt, off := PRT_OWNER },
  { block := .prt, off := PRT_JOB },
  { block := .prt, off := PRT_SCHED_LAST },
  { block := .prt, off := PRT_CARRY_COUNT, rw := 0xFFFFFFFF },
  { block := .prt, off := PRT_URGENT_COUNT, rw := 0xFFFFFFFF }]

/-- The MEM registers. -/
def memRegs : List RegDesc := [
  { block := .dev, off := MEM_T2_SEL, copies := true, rw := 0xF, only := [(3, 0, 0, 11)] },
  { block := .dev, off := MEM_T2_STATUS, sel := .t2 },
  { block := .dev, off := MEM_T2_CE_COUNT_LO, sel := .t2, rw := 0xFFFFFFFF, pair := 1 },
  { block := .dev, off := MEM_T2_CE_COUNT_HI, sel := .t2, rw := 0xFFFFFFFF, pair := 2 },
  { block := .dev, off := MEM_T2_UE_COUNT, sel := .t2, rw := 0xFFFFFFFF },
  { block := .dev, off := MEM_T2_UE_ADDR_LO, sel := .t2, pair := 1 },
  { block := .dev, off := MEM_T2_UE_ADDR_HI, sel := .t2, pair := 2 },
  { block := .dev, off := MEM_T2_UE_STATUS, sel := .t2, w1c := 0x80000000 },
  { block := .dev, off := MEM_T2_SCRUB, sel := .t2, rw := 0x8000FFFF, reset := 0x80000018, only := [(15, 0, 1, 65535)] },
  { block := .dev, off := MEM_T2_REREAD_COUNT, sel := .t2, rw := 0xFFFFFFFF },
  { block := .dev, off := MEM_T3_CONFIG },
  { block := .dev, off := MEM_T3_CE_COUNT, stride := 4, count := 8, rw := 0xFFFFFFFF },
  { block := .dev, off := MEM_T3_UE_COUNT, rw := 0xFFFFFFFF },
  { block := .dev, off := MEM_T3_UE_ADDR_LO, pair := 1 },
  { block := .dev, off := MEM_T3_UE_ADDR_HI, pair := 2 },
  { block := .dev, off := MEM_T3_UE_STATUS, w1c := 0x80000000 },
  { block := .dev, off := MEM_T3_REREAD_COUNT, rw := 0xFFFFFFFF },
  { block := .dev, off := MEM_T3_SCRUB, rw := 0x8000FFFF, reset := 0x800000A8, only := [(15, 0, 1, 65535)] }]

/-- The MOV registers. -/
def movRegs : List RegDesc := [
  { block := .dev, off := MOV_SEL, copies := true, rw := 0xFF, only := [(7, 0, 0, 199)] },
  { block := .dev, off := MOV_CH_STATUS, sel := .mov },
  { block := .dev, off := MOV_ERR_STATUS, sel := .mov },
  { block := .dev, off := MOV_ERR_ADDR_LO, sel := .mov, pair := 1 },
  { block := .dev, off := MOV_ERR_ADDR_HI, sel := .mov, pair := 2 },
  { block := .dev, off := MOV_ERR_DONE, sel := .mov },
  { block := .dev, off := MOV_ERR_TAG, sel := .mov },
  { block := .dev, off := MOV_CTRL, sel := .mov },
  { block := .dev, off := MOV_BYTES_LO, sel := .mov, rw := 0xFFFFFFFF, pair := 1 },
  { block := .dev, off := MOV_BYTES_HI, sel := .mov, rw := 0xFFFFFFFF, pair := 2 },
  { block := .dev, off := MOV_HALTED, stride := 4, count := 7 },
  { block := .dev, off := MOV_DESC_FAULT_COUNT, rw := 0xFFFFFFFF }]

/-- The CHK registers. -/
def chkRegs : List RegDesc := [
  { block := .dev, off := CHK_IRQ_STATUS, w1c := 0xFFFFF },
  { block := .dev, off := CHK_IRQ_ENABLE, rw := 0xFFFFF },
  { block := .dev, off := CHK_SEL, copies := true, rw := 0xF },
  { block := .dev, off := CHK_LAST_LO, sel := .chk, pair := 1 },
  { block := .dev, off := CHK_LAST_HI, sel := .chk, pair := 2 },
  { block := .dev, off := CHK_UNIT_STATUS, sel := .chk },
  { block := .dev, off := CHK_MISMATCH_COUNT, rw := 0xFFFFFFFF }]

/-- The DIG registers. -/
def digRegs : List RegDesc := [
  { block := .dev, off := DIG_STATUS },
  { block := .dev, off := DIG_BYTES_LO, rw := 0xFFFFFFFF, pair := 1 },
  { block := .dev, off := DIG_BYTES_HI, rw := 0xFFFFFFFF, pair := 2 },
  { block := .dev, off := DIG_MISMATCH_COUNT, rw := 0xFFFFFFFF }]

/-- The QUE registers. -/
def queRegs : List RegDesc := [
  { block := .dev, off := QUE_SEL, copies := true, rw := 0xFFF, only := [(11, 8, 0, 11)] },
  { block := .dev, off := QUE_CFG, sel := .que, rw := 0x67FFFFFF },
  { block := .dev, off := QUE_CAPACITY, sel := .que },
  { block := .dev, off := QUE_MAX_PACKET, sel := .que },
  { block := .dev, off := QUE_BASE, sel := .que },
  { block := .dev, off := QUE_STATUS, sel := .que },
  { block := .dev, off := QUE_HELD, sel := .que },
  { block := .dev, off := QUE_LEVELS, sel := .que },
  { block := .dev, off := QUE_STORED_LO, sel := .que, rw := 0xFFFFFFFF, pair := 1 },
  { block := .dev, off := QUE_STORED_HI, sel := .que, rw := 0xFFFFFFFF, pair := 2 },
  { block := .dev, off := QUE_DROP_COUNT, sel := .que, rw := 0xFFFFFFFF },
  { block := .dev, off := QUE_DUP_COUNT, sel := .que, rw := 0xFFFFFFFF },
  { block := .dev, off := QUE_MARKER_COUNT, sel := .que, rw := 0xFFFFFFFF },
  { block := .dev, off := QUE_STALL_COUNT, sel := .que, rw := 0xFFFFFFFF },
  { block := .dev, off := QUE_SKIP_COUNT, sel := .que, rw := 0xFFFFFFFF },
  { block := .dev, off := QUE_SKIP_IGNORED, sel := .que, rw := 0xFFFFFFFF },
  { block := .dev, off := QUE_PENDING_DROPS, sel := .que },
  { block := .dev, off := QUE_PRODUCERS, sel := .que },
  { block := .dev, off := QUE_CARVE_STAGING, sel := .quepart },
  { block := .dev, off := QUE_CARVE_LULL, sel := .quepart },
  { block := .dev, off := QUE_CARVE_QUEUES, sel := .quepart },
  { block := .dev, off := QUE_CARVE_FREE, sel := .quepart, reset := 0x1000 },
  { block := .dev, off := QUE_CE_COUNT_LO, sel := .quepart, rw := 0xFFFFFFFF, pair := 1 },
  { block := .dev, off := QUE_CE_COUNT_HI, sel := .quepart, rw := 0xFFFFFFFF, pair := 2 },
  { block := .dev, off := QUE_UE_STATUS, sel := .quepart, w1c := 0x80000000 }]

/-- The GAL registers. -/
def galRegs : List RegDesc := [
  { block := .dev, off := GAL_ROUTE_SEL, copies := true, rw := 0x3F },
  { block := .dev, off := GAL_ROUTE_CFG, sel := .route, rw := 0xFFFFFF80 },
  { block := .dev, off := GAL_ROUTE_SCALE, sel := .route, rw := 0xFFFFFFFF, reset := 0x3F800000 },
  { block := .dev, off := GAL_ROUTE_CAP, sel := .route, rw := 0xFFFF, reset := 0x1 },
  { block := .dev, off := GAL_ROUTE_INTAKE, sel := .route, rw := 0xFFFFFF },
  { block := .dev, off := GAL_ROUTE_MAP_LO, sel := .route, rw := 0xFFFFFFFF, pair := 1 },
  { block := .dev, off := GAL_ROUTE_MAP_HI, sel := .route, rw := 0xFFFFFFFF, pair := 2 },
  { block := .dev, off := GAL_ROUTE_LISTS_LO, sel := .route, rw := 0xFFFFFFFF, pair := 1 },
  { block := .dev, off := GAL_ROUTE_LISTS_HI, sel := .route, rw := 0xFFFFFFFF, pair := 2 },
  { block := .dev, off := GAL_ROUTE_OUT_LO, sel := .route, rw := 0xFFFFFFFF, pair := 1 },
  { block := .dev, off := GAL_ROUTE_OUT_HI, sel := .route, rw := 0xFFFFFFFF, pair := 2 },
  { block := .dev, off := GAL_ROUTE_COMBINE_LO, sel := .route, rw := 0xFFFFFFFF, pair := 1 },
  { block := .dev, off := GAL_ROUTE_COMBINE_HI, sel := .route, rw := 0xFFFFFFFF, pair := 2 },
  { block := .dev, off := GAL_ROUTE_WEIGHTS_LO, sel := .route, rw := 0xFFFFFFFF, pair := 1 },
  { block := .dev, off := GAL_ROUTE_WEIGHTS_HI, sel := .route, rw := 0xFFFFFFFF, pair := 2 },
  { block := .dev, off := GAL_ROUTE_XSTEP_FIRST, sel := .route, rw := 0xFFFFFFFF, reset := 0xFFFFFFFF },
  { block := .dev, off := GAL_ROUTE_XSTEP_LAST, sel := .route, rw := 0xFFFFFFFF, reset := 0xFFFFFFFF },
  { block := .dev, off := GAL_ROUTE_CSTEP, sel := .route, rw := 0xFFFFFFFF, reset := 0xFFFFFFFF },
  { block := .dev, off := GAL_ROUTE_STATE, sel := .route, reset := 0x40000000 },
  { block := .dev, off := GAL_ERROR, w1c := 0x80000000 },
  { block := .dev, off := GAL_ASSIGN_LO, rw := 0xFFFFFFFF, pair := 1 },
  { block := .dev, off := GAL_ASSIGN_HI, rw := 0xFFFFFFFF, pair := 2 },
  { block := .dev, off := GAL_DROP_COUNT, rw := 0xFFFFFFFF }]

/-- The BRM registers. -/
def brmRegs : List RegDesc := [
  { block := .dev, off := BRM_CTRL, sel := .route, rw := 0x800007FF, reset := 0x1 },
  { block := .dev, off := BRM_ETA, sel := .route, rw := 0xFFFFFFFF, reset := 0x3C000000 },
  { block := .dev, off := BRM_STATUS, sel := .route },
  { block := .dev, off := BRM_TOTAL, sel := .route },
  { block := .dev, off := BRM_BIAS, stride := 4, count := 16384, rw := 0xFFFFFFFF },
  { block := .dev, off := BRM_COUNT, stride := 4, count := 32768 }]

/-- The DRN registers. -/
def drnRegs : List RegDesc := [
  { block := .drn, off := DRN_STATUS },
  { block := .drn, off := DRN_STEP, reset := 0xFFFFFFFF },
  { block := .drn, off := DRN_KV_BASE_LO, rw := 0xFFFFFFFF, pair := 1 },
  { block := .drn, off := DRN_KV_BASE_HI, rw := 0xFFFFFFFF, pair := 2 },
  { block := .drn, off := DRN_KV_FRAMES, rw := 0x1FFFFF, only := [(20, 0, 0, 1048576)] },
  { block := .drn, off := DRN_KV_SCALE_LO, rw := 0xFFFFFFFF, pair := 1 },
  { block := .drn, off := DRN_KV_SCALE_HI, rw := 0xFFFFFFFF, pair := 2 },
  { block := .drn, off := DRN_KV_FREE },
  { block := .drn, off := DRN_TICKETS },
  { block := .drn, off := DRN_PASSES_LO, rw := 0xFFFFFFFF, pair := 1 },
  { block := .drn, off := DRN_PASSES_HI, rw := 0xFFFFFFFF, pair := 2 },
  { block := .drn, off := DRN_POSITIONS_LO, rw := 0xFFFFFFFF, pair := 1 },
  { block := .drn, off := DRN_POSITIONS_HI, rw := 0xFFFFFFFF, pair := 2 },
  { block := .drn, off := DRN_SPEC_PROPOSED, rw := 0xFFFFFFFF },
  { block := .drn, off := DRN_SPEC_ACCEPTED, rw := 0xFFFFFFFF },
  { block := .drn, off := DRN_EXCH_MAX, rw := 0xFFFFFFFF },
  { block := .drn, off := DRN_REPLAY_COUNT, rw := 0xFFFFFFFF },
  { block := .drn, off := DRN_REPLAY_STATUS, w1c := 0x80000000 },
  { block := .drn, off := DRN_REPLAY_STEP },
  { block := .drn, off := DRN_LULL_PAGES, rw := 0xFFFFFFFF }]

/-- The MUT registers. -/
def mutRegs : List RegDesc := [
  { block := .dev, off := MUT_STATUS },
  { block := .dev, off := MUT_ROWS_LO, rw := 0xFFFFFFFF, pair := 1 },
  { block := .dev, off := MUT_ROWS_HI, rw := 0xFFFFFFFF, pair := 2 },
  { block := .dev, off := MUT_MASKED_ROWS, rw := 0xFFFFFFFF },
  { block := .dev, off := MUT_VOID_ROWS, rw := 0xFFFFFFFF },
  { block := .dev, off := MUT_EMPTY_COUNT, rw := 0xFFFFFFFF },
  { block := .dev, off := MUT_ERR, w1c := 0x80000000 },
  { block := .dev, off := MUT_PREP_MAX, rw := 0xFFFFFFFF }]

/-- The BRT registers. -/
def brtRegs : List RegDesc := [
  { block := .dev, off := BRT_PERIOD, rw := 0xFFF, reset := 0x64 },
  { block := .dev, off := BRT_SRC, rw := 0x3 },
  { block := .dev, off := BRT_STATUS, w1c := 0x40000000 },
  { block := .dev, off := BRT_NUMBER_LO, pair := 1 },
  { block := .dev, off := BRT_NUMBER_HI, pair := 2 },
  { block := .dev, off := BRT_IN_EARLY, rw := 0xFFFFFFFF },
  { block := .dev, off := BRT_IN_MISS, rw := 0xFFFFFFFF },
  { block := .dev, off := BRT_PIN, rw := 0x1 }]

/-- The SCH registers. -/
def schRegs : List RegDesc := [
  { block := .dev, off := SCH_ARB_SEL, copies := true, rw := 0x7, w1c := 0x80000000, only := [(2, 0, 0, 6)] },
  { block := .dev, off := SCH_ARB_BUDGET, stride := 4, count := 4, sel := .arb, rw := 0x3FFFFF },
  { block := .dev, off := SCH_AGE_LIMIT, rw := 0xFF, reset := 0x10 },
  { block := .dev, off := SCH_CLOCK_HELD, rw := 0xFFFFFFFF }]

/-- The LIB registers. -/
def libRegs : List RegDesc := [
  { block := .dev, off := LIB_STATUS },
  { block := .dev, off := LIB_BASE_LO, pair := 1 },
  { block := .dev, off := LIB_BASE_HI, pair := 2 },
  { block := .dev, off := LIB_BYTES_LO, pair := 1 },
  { block := .dev, off := LIB_BYTES_HI, pair := 2 },
  { block := .dev, off := LIB_RESCAN, rw := 0x8000FFFF, reset := 0x80000018, only := [(15, 0, 1, 65535)] },
  { block := .dev, off := LIB_RESCAN_PASS },
  { block := .dev, off := LIB_SHARD_ERR, w1c := 0x80000000 },
  { block := .dev, off := LIB_FETCH_RETRY_COUNT, rw := 0xFFFFFFFF },
  { block := .dev, off := LIB_REPAIR_COUNT, rw := 0xFFFFFFFF },
  { block := .dev, off := LIB_RESCAN_MISMATCH_COUNT, rw := 0xFFFFFFFF },
  { block := .dev, off := LIB_SHARED_COPIES },
  { block := .dev, off := LIB_DEPLOY_SEL, copies := true, rw := 0xFF },
  { block := .dev, off := LIB_DEPLOY_STATE, sel := .deploy },
  { block := .dev, off := LIB_DEPLOY_CURRENT, sel := .deploy },
  { block := .dev, off := LIB_DEPLOY_OLD, sel := .deploy },
  { block := .dev, off := LIB_DEPLOY_PINNED, sel := .deploy },
  { block := .dev, off := LIB_DEPLOY_OLD_PINNED, sel := .deploy }]

/-- The PLV registers. -/
def plvRegs : List RegDesc := [
  { block := .dev, off := PLV_DOMAIN_CFG, rw := 0x807F7F7F, w1c := 0x40000000 },
  { block := .dev, off := PLV_DOMAIN_ID, rw := 0xFFFFFFFF },
  { block := .dev, off := PLV_MEMBERS, stride := 4, count := 3, rw := 0xFFFFFFFF },
  { block := .dev, off := PLV_LIVE, stride := 4, count := 3 },
  { block := .dev, off := PLV_DOMAIN_STATUS },
  { block := .dev, off := PLV_TICK_PORTS, rw := 0x1FFFF },
  { block := .dev, off := PLV_TICK_MISS, rw := 0xFFFFFFFF },
  { block := .dev, off := PLV_TICK_SKEW },
  { block := .dev, off := PLV_MEDIA_CFG, rw := 0xFFFFFFFF, reset := 0x960190 },
  { block := .dev, off := PLV_PORT_SEL, copies := true, rw := 0x1F, only := [(4, 0, 0, 16)] },
  { block := .dev, off := PLV_PORT_CTRL, sel := .port, rw := 0x80000007, reset := 0x80000000 },
  { block := .dev, off := PLV_PORT_STATUS, sel := .port },
  { block := .dev, off := PLV_PORT_PEER, sel := .port },
  { block := .dev, off := PLV_PORT_DELAY, sel := .port },
  { block := .dev, off := PLV_FEC_CORR_LO, sel := .port, rw := 0xFFFFFFFF, pair := 1 },
  { block := .dev, off := PLV_FEC_CORR_HI, sel := .port, rw := 0xFFFFFFFF, pair := 2 },
  { block := .dev, off := PLV_FEC_UNCORR, sel := .port, rw := 0xFFFFFFFF },
  { block := .dev, off := PLV_REPLAY_COUNT, sel := .port, rw := 0xFFFFFFFF },
  { block := .dev, off := PLV_DOWN_COUNT, sel := .port, rw := 0xFFFFFFFF },
  { block := .dev, off := PLV_PRBS_ERR, sel := .port, rw := 0xFFFFFFFF },
  { block := .dev, off := PLV_SLOT_CONFLICT, sel := .port, rw := 0xFFFFFFFF },
  { block := .dev, off := PLV_MEDIA_STATUS, sel := .port },
  { block := .dev, off := PLV_MEDIA_LANE, stride := 4, count := 8, sel := .port, reset := 0xFFFF },
  { block := .dev, off := PLV_CMIS, sel := .port, rw := 0x40FFFFFF, w1c := 0x10000000 },
  { block := .dev, off := PLV_CIRC_SEL, copies := true, rw := 0x3F1F, only := [(4, 0, 0, 15)] },
  { block := .dev, off := PLV_CIRC_CFG, sel := .circ, rw := 0xFE3F7F00, only := [(31, 30, 0, 2)] },
  { block := .dev, off := PLV_CIRC_JOB, sel := .circ, rw := 0xFFFFFFFF },
  { block := .dev, off := PLV_CIRC_CMD, sel := .circ },
  { block := .dev, off := PLV_CIRC_BYTES_LO, sel := .circ, rw := 0xFFFFFFFF, pair := 1 },
  { block := .dev, off := PLV_CIRC_BYTES_HI, sel := .circ, rw := 0xFFFFFFFF, pair := 2 },
  { block := .dev, off := PLV_SLOT_SEL, copies := true, rw := 0x11F, only := [(4, 0, 0, 15)] },
  { block := .dev, off := PLV_SLOT_BANK, rw := 0x1 },
  { block := .dev, off := PLV_SLOT_TBL, stride := 4, count := 64, sel := .slot, rw := 0xFFFFFFFF },
  { block := .dev, off := PLV_TWIN_CFG, rw := 0xE01F3F00 },
  { block := .dev, off := PLV_TWIN_STATUS },
  { block := .dev, off := PLV_TWIN_MIRROR_LO, rw := 0xFFFFFFFF, pair := 1 },
  { block := .dev, off := PLV_TWIN_MIRROR_HI, rw := 0xFFFFFFFF, pair := 2 },
  { block := .dev, off := PLV_TWIN_HB },
  { block := .dev, off := PLV_TAKEOVER_COUNT, rw := 0xFFFFFFFF },
  { block := .dev, off := PLV_ADOPT_FAIL, rw := 0xFFFFFFFF },
  { block := .dev, off := PLV_XMAP_LO, stride := 8, count := 5, pair := 1 },
  { block := .dev, off := PLV_XMAP_HI, stride := 8, count := 5, pair := 2 },
  { block := .dev, off := PLV_XMAP_MISS, rw := 0xFFFFFFFF },
  { block := .dev, off := PLV_XMAP_REFUSED, rw := 0xFFFFFFFF }]

/-- The RCU registers. -/
def rcuRegs : List RegDesc := [
  { block := .dev, off := RCU_CAUSE, w1c := 0xFF },
  { block := .dev, off := RCU_COUNT_TOTAL, rw := 0xFFFFFFFF },
  { block := .dev, off := RCU_COUNT_SRC, stride := 4, count := 4, rw := 0xFFFFFFFF },
  { block := .dev, off := RCU_BOOT },
  { block := .dev, off := RCU_CTRL, reset := 0x3E8 },
  { block := .dev, off := RCU_VBAK, w1c := 0x80000000 },
  { block := .dev, off := RCU_LAST_BLOCK, w1c := 0x80000000 }]

/-- The PMU registers. -/
def pmuRegs : List RegDesc := [
  { block := .dev, off := PMU_STATUS, reset := 0x40000000 },
  { block := .dev, off := PMU_FCLK_KHZ, reset := 0x1CFDE0 },
  { block := .dev, off := PMU_DCLK_KHZ, reset := 0x124F80 },
  { block := .dev, off := PMU_CAP },
  { block := .dev, off := PMU_DROOP, rw := 0xFFFF, reset := 0x2AF8, only := [(15, 0, 10600, 11600)] },
  { block := .dev, off := PMU_EVENTS, w1c := 0x1F },
  { block := .dev, off := PMU_IRQ, rw := 0x800007FF },
  { block := .dev, off := PMU_RM_WATCH, rw := 0xFFF, reset := 0x1E, only := [(11, 0, 5, 3600)] },
  { block := .dev, off := PMU_DROOP_COUNT, rw := 0xFFFFFFFF },
  { block := .dev, off := PMU_THROTTLE_COUNT, rw := 0xFFFFFFFF },
  { block := .dev, off := PMU_EMERG_COUNT, rw := 0xFFFFFFFF },
  { block := .dev, off := PMU_VR_SEL, copies := true, rw := 0x1F, only := [(4, 0, 0, 24)] },
  { block := .dev, off := PMU_VR_STATUS, sel := .vr }]

/-- The MGT registers. -/
def mgtRegs : List RegDesc := [
  { block := .dev, off := MGT_BOOT_STATUS },
  { block := .dev, off := MGT_STRAPS },
  { block := .dev, off := MGT_CFG_VERSION },
  { block := .dev, off := MGT_FW_VERSION },
  { block := .dev, off := MGT_PART_AVAIL },
  { block := .dev, off := MGT_HOSTBOOT, rw := 0x1FFFFFF },
  { block := .dev, off := MGT_FRING_BASE_LO, rw := 0xFFFFFFFF, pair := 1 },
  { block := .dev, off := MGT_FRING_BASE_HI, rw := 0xFFFFFFFF, pair := 2 },
  { block := .dev, off := MGT_FRING_HEAD },
  { block := .dev, off := MGT_FRING_STATUS, w1c := 0x40000000 },
  { block := .dev, off := MGT_FAULT_CFG, rw := 0xFFFFFFFF, reset := 0x640800, only := [(31, 16, 1, 65535)] },
  { block := .dev, off := MGT_FAULT_COUNT, rw := 0xFFFFFFFF },
  { block := .dev, off := MGT_RESTART_COUNT, rw := 0xFFFFFFFF },
  { block := .dev, off := MGT_KIND_COUNT, stride := 4, count := 5, rw := 0xFFFFFFFF },
  { block := .dev, off := MGT_JOB_SEL, copies := true, rw := 0xFFFFFFFF },
  { block := .dev, off := MGT_JOB_STATE, sel := .job },
  { block := .dev, off := MGT_JOB_LAST, sel := .job }]

/-- Every register of the map. -/
def regTable : List RegDesc :=
  hubRegs ++ prtRegs ++ memRegs ++ movRegs ++ chkRegs ++ digRegs ++ queRegs ++ galRegs ++ brmRegs ++ drnRegs ++ mutRegs ++ brtRegs ++ schRegs ++ libRegs ++ plvRegs ++ rcuRegs ++ pmuRegs ++ mgtRegs

end Sys2Proof.Machine
end

