-- ==== Sys2Proof/Machine/Device.lean ====
section
/-!
DEFINITION. The device: everything the spec gives the block apart from the queue of waiting commands.
-/
namespace Sys2Proof.Machine

/-- A token bucket of a partition (R614, R615, R619): the settings in force, the balance, the written settings that
await the next intake. -/
structure Bucket where
  on : Bool := false
  refill : Nat := 0
  cap : Nat := 0
  bal : Int := 0
  held : Bool := false
  deriving DecidableEq, Repr

/-- A window granted to a function (R711): domain address, bytes, whether it may be written. -/
structure Window where
  base : Nat
  bytes : Nat
  write : Bool
  deriving DecidableEq, Repr

structure Device where
  mem : Memory := []
  /-- the changes of memory that the running command has made; they land as it ends -/
  wlog : List MemOp := []
  poison : List Nat := []
  regs : Table Nat := []
  /-- snapshots and holding registers of _LO/_HI pairs, by port and register (R15) -/
  snaps : Table Nat := []
  holds : Table Nat := []
  parts : Table Partition := []
  jobs : Table Job := []
  /-- suspended partitions, by job × 16 + partition (R636) -/
  saves : Table Saved := []
  ring : FaultRing := {}
  out : List Out := []
  staged : List Staged := []
  records : Table (List Record) := []
  /-- host writes that wait for the twin, and the place in fetch order up to which it has acknowledged commands (R788) -/
  held : List Out := []
  mirrorFrom : Nat := 0
  freeCounter : Nat := 0
  breath : Nat := 0
  nextUid : Nat := 1
  /-- fitted T3: DDR bytes, and bytes behind each CXL port (R50, R321) -/
  ddr : Nat := 0
  cxl : List Nat := [0, 0]
  /-- read-only ranges (R325): first key, bytes, the shard or prefix that holds it -/
  readOnly : List (Nat × Nat × Nat) := []
  grants : Table Window := []
  buckets : Table Bucket := []
  movers : Table Mover := []
  flight : List Flight := []
  fences : List Fence := []
  checks : Table CheckUnit := []
  digests : Table DigestRun := []
  txq : List TxItem := []
  /-- bytes that reads of other devices have brought: uid, offset, bytes (R748) -/
  arrived : List (Nat × Nat × List Byte) := []
  queues : Table QueuePart := []
  /-- sequences, by job × 16,384 + SEQ_ID (R519) -/
  seqs : Table Seq := []
  prefixes : Table Prefix := []
  groups : Table Group := []
  drones : Table Drone := []
  rows : List SamplerRow := []
  longOps : List LongOp := []
  /-- long operations with a step planned in this breath's run phase (R602, R641) -/
  planned : List Nat := []
  circuits : Table Circuit := []
  /-- images by handle (R262) -/
  images : Table Image := []
  nextImage : Nat := 1
  chains : List Chain := []
  /-- deployments by index (R665) -/
  deploys : Table Deploy := []
  areas : List Area := []
  routes : Table Route := []
  banks : Table Bank := []
  sessions : Table Session := []
  pcie : Pcie := {}
  hostReads : List HostRead := []
  /-- owners of events by number, and of routes by 4,096 + number; the physical function where none is listed (R711) -/
  owners : Table Nat := []
  ports : Table LinkPort := []
  /-- requests to other devices that wait for their response, by REQ_ID (R748) -/
  requests : Table TxItem := []
  timer : Timer := {}
  twin : Twin := {}
  power : Power := {}
  /-- the reset under way, while the device is held in it -/
  resetRun : Option ResetRun := none
  /-- an ITD12-A1-LE: its debug fuses are open (R1, R5) -/
  sample : Bool := false
  supplies : Supplies := {}
  boot : Boot := {}
  /-- RESET_REQUESTs of one block that has not come back into service: KIND, INDEX, command (R823) -/
  blockResets : List (Nat × Nat × CmdRef) := []
  jtag : Jtag := {}
  /-- PLDM sensor readings (R743) -/
  sensors : Table Nat := []
  mgmt : Mgmt := {}
  since : SincePower := {}
  deriving DecidableEq, Repr

end Sys2Proof.Machine
end

