-- ==== Sys2Proof/Machine/Ops.lean ====
section
/-!
DEFINITION. The named operations every unit uses: partitions, registers as storage, memory with the writes of the
running command laid over it, free values, messages, completions, faults.
-/
namespace Sys2Proof.Machine

/-! ### Partitions and cells -/

def Device.part (d : Device) (p : Nat) : Partition := Table.getD d.parts p {}
def Device.setPart (d : Device) (p : Nat) (x : Partition) : Device := { d with parts := Table.put d.parts p x }
def Device.modPart (d : Device) (p : Nat) (f : Partition → Partition) : Device := d.setPart p (f (d.part p))
def Device.fab (d : Device) (p : Nat) : Fabric := (d.part p).fabric
def Device.modFab (d : Device) (p : Nat) (f : Fabric → Fabric) : Device :=
  d.modPart p (fun x => { x with fabric := f x.fabric })
def Device.cell (d : Device) (p site : Nat) : Cell := Table.getD (d.fab p).cells site {}
def Device.modCell (d : Device) (p site : Nat) (f : Cell → Cell) : Device :=
  d.modFab p (fun x => { x with cells := Table.modify x.cells site {} f })
def Device.valve (d : Device) (p site : Nat) : Valve := (d.cell p site).valve
def Device.modValve (d : Device) (p site : Nat) (f : Valve → Valve) : Device :=
  d.modCell p site (fun c => { c with valve := f c.valve })

/-! ### Registers as storage

A register's stored bits stand under its BAR0 offset; a register that reports on a selected instance stands once per
instance, under `regKey offset instance`. -/

def regKey (off inst : Nat) : Nat := off + 2 ^ 26 * inst

/-- BAR0 offset of a register of partition `p`'s window (R43, R44). -/
def prtOff (p off : Nat) : Nat := 0x1000000 + p * 0x100000 + off
/-- BAR0 offset of a register of Drone `s`'s window. -/
def drnOff (s off : Nat) : Nat := 0x2000000 + s * 0x100000 + off

/-- R43: the block, the window's index and the offset within it of a BAR0 offset. -/
def blockOf (off : Nat) : RegBlock × Nat × Nat :=
  if 0x1000000 ≤ off && off < 0x1C00000 then (.prt, (off - 0x1000000) / 0x100000, off % 0x100000)
  else if 0x2000000 ≤ off && off < 0x2C00000 then (.drn, (off - 0x2000000) / 0x100000, off % 0x100000)
  else (.dev, 0, off)

def RegDesc.covers (r : RegDesc) (b : RegBlock) (rel : Nat) : Bool :=
  r.block == b && decide (r.off ≤ rel) &&
    (if r.count ≤ 1 then rel == r.off else (rel - r.off) % r.stride == 0 && decide ((rel - r.off) / r.stride < r.count))

/-- The register at a BAR0 offset; none where the map has no register there (R48). -/
def descAt (off : Nat) : Option RegDesc :=
  let (b, _, rel) := blockOf off
  regTable.find? (fun r => r.covers b rel)

/-- R626: the budgets after reset, P0 to P3 in ns, of an arbiter kind. -/
def arbDefaults (kind : Nat) : List Nat :=
  match kind with
  | 0 => [100, 1000, 1000, 48000]
  | 1 => [50, 500, 2000, 40000]
  | 2 => [200, 1000, 2000, 20000]
  | 3 => [200, 1000, 2000, 20000]
  | 4 => [100, 1000, 10000, 40000]
  | 5 => [500, 1000, 5000, 20000]
  | 6 => [100, 500, 5000, 20000]
  | _ => []

/-- The reset value under a key: that of the register, or of its arbiter kind. -/
def regReset (key : Nat) : Nat :=
  let off := key % 2 ^ 26
  if SCH_ARB_BUDGET ≤ off && off < SCH_ARB_BUDGET + 16 then (arbDefaults (key / 2 ^ 26)).getD ((off - SCH_ARB_BUDGET) / 4) 0
  else match descAt off with | some r => r.reset | none => 0

/-- Stored bits of a register; its reset value where nothing has been stored. -/
def Device.reg (d : Device) (key : Nat) : Nat := (Table.find? d.regs key).getD (regReset key)

def Device.setReg (d : Device) (key v : Nat) : Device := { d with regs := Table.put d.regs key (v % 2 ^ 32) }
def Device.modReg (d : Device) (key : Nat) (f : Nat → Nat) : Device := d.setReg key (f (d.reg key))

/-- Bits [hi:lo] of a stored register. -/
def Device.regField (d : Device) (key hi lo : Nat) : Nat := bitsOf (d.reg key) hi lo
def Device.setRegField (d : Device) (key hi lo v : Nat) : Device := d.modReg key (fun w => putBits w hi lo v)

/-- A saturating 32-bit counter plus `k`. -/
def Device.bump (d : Device) (key k : Nat) : Device := d.modReg key (fun n => satAdd 32 n k)

/-- A saturating 64-bit counter held as a _LO register at `key` and its _HI register 4 bytes above, plus `k`. -/
def Device.bump64 (d : Device) (key k : Nat) : Device :=
  let n := satAdd 64 (d.reg key + 2 ^ 32 * d.reg (key + 4)) k
  (d.setReg key n).setReg (key + 4) (n / 2 ^ 32)

/-- The 64-bit value of a _LO/_HI pair. -/
def Device.reg64 (d : Device) (key : Nat) : Nat := d.reg key + 2 ^ 32 * d.reg (key + 4)

/-- Sets bits of a stored register (a W1C event bit: a hardware set). -/
def Device.raise (d : Device) (key i : Nat) : Device := d.setRegField key i i 1

/-! ### Memory of this device -/

/-- The byte at a key, the running command's own writes seen first. -/
def Device.readByte (d : Device) (a : Nat) : Byte := (lastWrite a d.wlog).getD (Memory.get d.mem a)

def Device.readBytes (d : Device) (a : Nat) : Nat → List Byte
  | 0 => []
  | n + 1 => d.readByte a :: Device.readBytes d (a + 1) n

/-- Consecutive bytes written from an address on. -/
def cellsOf (a : Nat) : List Byte → List MemOp
  | [] => []
  | b :: bs => .byte a b :: cellsOf (a + 1) bs

def Device.writeBytes (d : Device) (a : Nat) (bs : List Byte) : Device := { d with wlog := d.wlog ++ cellsOf a bs }

def Device.readNat (d : Device) (a n : Nat) : Nat := leNat (d.readBytes a n)
def Device.writeNat (d : Device) (a n v : Nat) : Device := d.writeBytes a (leBytes n v)

/-! ### Free values and messages -/

/-- A value the spec leaves open (Config.freeValue); the counter advances. -/
def Device.fresh (d : Device) (w : Nat) : Nat × Device :=
  ((Config.freeValue w d.freeCounter).toNat, { d with freeCounter := d.freeCounter + 1 })

def Device.emit (d : Device) (o : Out) : Device := { d with out := d.out ++ [o] }

/-- R788: PLV_TWIN_STATUS.STATE is PAIRED or MISSING. -/
def Device.mirroring (d : Device) : Bool :=
  let st := d.regField PLV_TWIN_STATUS 31 30
  st == 1 || st == 2

/-- R788: a command fetched for a session may start. -/
def Device.mirrored (d : Device) (c : CmdRef) : Bool :=
  match c.origin with
  | .session _ => !d.mirroring || decide (c.uid < d.mirrorFrom)
  | _ => true

/-! ### Port copies and selections (R704) -/

/-- The key of a port's own copy of a register. -/
def portKey (off : Nat) (port : Port) : Nat := regKey off (port.key + 1)

/-- A port's own copy of a register. -/
def Device.portReg (d : Device) (port : Port) (off : Nat) : Nat := d.reg (portKey off port)

/-- The site a port has selected in partition `p` (R168). -/
def Device.selSite (d : Device) (port : Port) (p : Nat) : Nat := bitsOf (d.portReg port (prtOff p PRT_CELL_SEL)) 8 0

/-! ### Completions -/

/-- A value field: eight little-endian bytes. -/
def valueOf (n : Nat) : List Byte := leBytes 8 n

/-- The sixteen bytes of a completion record, without its phase (R729). -/
def Record.bytes (r : Record) (phase : Nat) : List Byte :=
  leBytes 4 r.tag.toNat ++ leBytes 2 r.status.toNat ++
    leBytes 2 (phase % 2 * 2 ^ 15 + 2 ^ 14 * bit r.progress + r.opcode / 16 % 16 * 256 + r.inst % 256) ++ padTo 8 r.value

/-- Posts a record to its origin: a session's records wait to be written, and a waiting progress record of the same request
is replaced (R722, R723); the management port's final record
leaves at once, as the response or as the later message (R741); firmware has none. -/
def Device.post (d : Device) (c : CmdRef) (r : Record) : Device :=
  match c.origin with
  | .session s =>
    { d with records := Table.modify d.records s [] (fun l => l.filter (fun q => !(q.uid == r.uid && q.progress)) ++ [r]) }
  | .mgmt => if r.progress then d else d.emit (.mctp 0x7E (BitVec.ofNat 8 (if c.late then 0x82 else 0x81) :: r.bytes 0))
  | .firmware => d
  | .jtag => d.emit (.jtag (r.bytes 0))

/-- A command's final record, eight bytes of value (R728 to R731); its staging word frees (R720). -/
def Device.complete (d : Device) (c : CmdRef) (status : Nat) (value : List Byte) : Device :=
  { d with staged := d.staged.filter (fun s => s.cmd.uid != c.uid) }.post c
    { uid := c.uid, tag := c.tag, status := BitVec.ofNat 16 status, opcode := c.opcode, inst := c.inst,
      value := padTo 8 value }

/-- Completes a command that may have none to complete (a register's or the Front's own work). -/
def Device.completeOpt (d : Device) (c : Option CmdRef) (status : Nat) (value : List Byte) : Device :=
  match c with | some c => d.complete c status value | none => d

/-- A fresh uid. -/
def Device.uid (d : Device) : Nat × Device := (d.nextUid, { d with nextUid := d.nextUid + 1 })

/-! ### Staged commands and their order (R30, R732, R733) -/

/-- Little-endian operand of a command entry. -/
def Staged.op (s : Staged) (off n : Nat) : Nat := leAt s.entry off n

def Staged.aux (s : Staged) : Nat := s.op 2 2

/-- The engine a command goes to (R29): its opcode's high digit, the digest engines apart from the check units. -/
def engineOf (opcode : Nat) : Nat := if opcode = 0x68 then 0x16 else opcode / 16

/-- A FENCE or WAIT_EVENT holds back every later command of the session (R733). -/
def Staged.barrier (s : Staged) : Bool := s.cmd.opcode == 0x01 || s.cmd.opcode == 0x03

/-- Before DONE, and in RECOVERY, only CFG_STORE and RESET_REQUEST run (R802, R806; DEDUCED 43). -/
def Device.bootLets (d : Device) (opcode : Nat) : Bool := d.boot.done || opcode == 0x7C || opcode == 0x7D

/-! A mover command for a full channel waits in the control complex (R373); the channel takes such commands in session
order, and the session's commands that need no room there go on. -/

def Device.mover (d : Device) (c : Nat) : Mover := Table.getD d.movers c {}
def Mover.room (m : Mover) : Bool := decide (m.queue.length < 64)

/-- The channel a descriptor names: none for CHANNEL 0xFFFF of a PAGE_MOVE (R377). -/
def moveChannel (e : List Byte) : Option Nat :=
  let c := leAt e 2 2
  if leAt e 0 1 = 0x20 then some c else if c = 0xFFFF then none else some (192 + c)

/-- R378: the page mover that takes a PAGE_MOVE of CHANNEL 0xFFFF. -/
def Device.choosePageMover (d : Device) : Option Nat :=
  let ok := ((List.range 8).map (fun i => 192 + i)).filter (fun c => !(d.mover c).halted && (d.mover c).room)
  match ok.find? (fun c => (d.mover c).queue.isEmpty) with
  | some c => some c
  | none => minByKey (fun c => (d.mover c).queue.length) ok

/-- The channel that accepts a descriptor now; none while it waits in the control complex (R373). -/
def Device.acceptor (d : Device) (e : List Byte) : Option Nat :=
  match moveChannel e with
  | some c => if (d.mover c).room then some c else none
  | none => d.choosePageMover

/-- A mover command that waits in the control complex for room on its channel (R373). -/
def Device.waitsForRoom (d : Device) (s : Staged) : Bool :=
  (s.cmd.opcode == 0x20 || s.cmd.opcode == 0x21) && (d.acceptor s.entry).isNone

/-- Two mover commands for room on the same channel. -/
def Staged.sameChannel (s t : Staged) : Bool :=
  (s.cmd.opcode == 0x20 || s.cmd.opcode == 0x21) && moveChannel s.entry == moveChannel t.entry

/-- R30, R373, R733: `t`, which stands before `s` in a session's order, lets `s` start. -/
def Device.letsPass (d : Device) (t s : Staged) : Bool :=
  !t.barrier && (t.started || engineOf t.cmd.opcode != engineOf s.cmd.opcode || (d.waitsForRoom t && !s.sameChannel t))

/-- The next command of an origin with this opcode that may start: every command before it lets it pass. -/
def Device.startable (d : Device) (o : Origin) (opcode : Nat) : Option Staged :=
  let mine := d.staged.filter (fun s => s.cmd.origin == o)
  mine.find? (fun s =>
    s.cmd.opcode == opcode && !s.started && d.bootLets opcode && d.mirrored s.cmd &&
    mine.all (fun t => !(decide (t.cmd.uid < s.cmd.uid)) || d.letsPass t s))

/-- Marks a staged command as started: it keeps its staging word until it completes. -/
def Device.start (d : Device) (s : Staged) : Device :=
  { d with staged := d.staged.map (fun t => if t.cmd.uid = s.cmd.uid then { t with started := true } else t) }

/-- Runs the next startable command of an origin; nothing happens where there is none. -/
def Device.run (d : Device) (o : Origin) (opcode : Nat) (f : Staged → Device → Device) : Device :=
  match d.startable o opcode with
  | some s => f s (d.start s)
  | none => d

/-! ### Jobs -/

def Device.job (d : Device) (j : Nat) : Job := Table.getD d.jobs j { state := .none }
def Device.modJob (d : Device) (j : Nat) (f : Job → Job) : Device := { d with jobs := Table.put d.jobs j (f (d.job j)) }

end Sys2Proof.Machine
end

