-- ==== Sys2Proof/Machine/Address.lean ====
section
/-!
DEFINITION. Domain addresses (R49 to R53), windows (R381, R705, R711), read-only ranges (R325), poisoned granules (R358,
R902), token buckets (R614 to R618): what every engine that moves bytes asks before and while it moves them.
-/
namespace Sys2Proof.Machine

/-! ### Domain addresses -/

def addrDevice (a : Nat) : Nat := bitsOf a 63 57
def addrSpace (a : Nat) : Nat := bitsOf a 56 53
def addrOffset (a : Nat) : Nat := bitsOf a 52 0

/-- The address of a byte of this device (R49, DEVICE = 127). -/
def selfAddr (space offset : Nat) : Nat := 127 * 2 ^ 57 + space * 2 ^ 53 + offset

/-- HUB_DEVICE_INDEX (R42). -/
def Device.inDomain (d : Device) : Bool := d.regField HUB_DEVICE_INDEX 31 31 == 1
def Device.index (d : Device) : Nat := d.regField HUB_DEVICE_INDEX 6 0

/-- R51: the device index names this device. -/
def Device.isSelf (d : Device) (dev : Nat) : Bool :=
  dev == 127 || (if d.inDomain then dev == d.index else dev == 0)

/-- The member mask of PLV_MEMBERS0 to PLV_MEMBERS2 (R772). -/
def Device.memberMask (d : Device) : Nat :=
  d.reg PLV_MEMBERS + 2 ^ 32 * d.reg (PLV_MEMBERS + 4) + 2 ^ 64 * bitsOf (d.reg (PLV_MEMBERS + 8)) 7 0

def countOnes (v : Nat) : Nat → Nat
  | 0 => 0
  | n + 1 => bit (bitOf v n) + countOnes v n

/-- Members of the domain; 1 outside one. -/
def Device.memberCount (d : Device) : Nat := if d.inDomain then countOnes d.memberMask 72 else 1

/-- R52: the device index is a member of this device's domain. -/
def Device.isMember (d : Device) (dev : Nat) : Bool := d.inDomain && decide (dev ≤ 71) && bitOf d.memberMask dev

/-- A DEVICE field of 127 replaced by this device's index (R410). -/
def Device.fullAddr (d : Device) (a : Nat) : Nat :=
  if addrDevice a = 127 then d.index * 2 ^ 57 + a % 2 ^ 57 else a

/-- R50: the range lies within its space: below the extent, and below the fitted capacity of its CXL port. -/
def Device.inSpace (d : Device) (space off n : Nat) : Bool :=
  match space with
  | 0 => decide (off + n ≤ 0x30000000)
  | 1 => decide (off + n ≤ 0xC000000000)
  | 2 => decide (off + n ≤ d.ddr)
  | 3 => decide (off / 2 ^ 41 < 2 && off % 2 ^ 41 + n ≤ d.cxl.getD (off / 2 ^ 41) 0)
  | 4 => decide (off + n ≤ 0x3000000)
  | 5 => decide (off + n ≤ 0xC000000)
  | 6 => decide (off + n ≤ 0x4000000)
  | _ => false

/-- R52: a range that this device accepts. Of another member only the space's fixed extent is known here; what its T3
holds the target says itself (R403, cause 0x4). -/
def Device.mapped (d : Device) (a n : Nat) : Bool :=
  if d.isSelf (addrDevice a) then d.inSpace (addrSpace a) (addrOffset a) n
  else if d.isMember (addrDevice a) then
    match addrSpace a with
    | 2 => true
    | 3 => decide (addrOffset a + n ≤ 0x40000000000)
    | s => d.inSpace s (addrOffset a) n
  else false

/-- The memory key of a local address. -/
def localKey (a : Nat) : Nat := memKey (addrSpace a) (addrOffset a)

/-- The partition (stack, queue store, stop store) that a local offset of a space belongs to; 12 for none. -/
def partOf (space off : Nat) : Nat :=
  match space with
  | 0 => off / 0x4000000
  | 1 => off / 0x1000000000
  | 4 => off / 0x400000
  | 5 => off / 0x1000000
  | _ => 12

def isT3 (space : Nat) : Bool := space == 2 || space == 3

/-! ### Windows (R381, R705) -/

/-- The function that holds a partition (R709); 255 for none. -/
def Device.owner (d : Device) (p : Nat) : Nat := (d.part p).owner

/-- R705, R706: the port's authority covers partition `p`; firmware is none. -/
def Device.covers (d : Device) (who : Option Port) (p : Nat) : Bool :=
  match who with
  | none => true
  | some .mgmt => true
  | some .jtag => true
  | some .pf => true
  | some (.vf n) => d.owner p == n
  | some .twin => false

/-- The sixteen windows of a virtual function (R711). -/
def Device.windows (d : Device) (fn : Nat) : List Window :=
  (List.range 16).filterMap (fun i => Table.find? d.grants (fn * 16 + i))

/-- Start of a window or a range as DEVICE, SPACE and OFFSET with this device's index in place of 127. -/
def Window.holds (d : Device) (w : Window) (a n : Nat) (write : Bool) : Bool :=
  let b := d.fullAddr w.base
  let a := d.fullAddr a
  decide (b ≤ a) && decide (a + n ≤ b + w.bytes) && (w.write || !write)

/-- Order 9 of R380: the range lies in one window that the issuer holds. A tenant holds the windows granted to it and
the T1 of the partitions assigned to it (DEDUCED 12). -/
def Device.inWindow (d : Device) (who : Option Port) (a n : Nat) (write : Bool) : Bool :=
  let self := d.isSelf (addrDevice a)
  match who with
  | none => true
  | some .mgmt => true
  | some .jtag => true
  | some .pf =>
    decide (addrSpace a ≤ 4) || (addrSpace a == 5 && self && !write) || (addrSpace a == 6 && self)
  | some (.vf f) =>
    (d.windows f).any (fun w => w.holds d a n write) ||
      (self && addrSpace a == 0 && d.owner (partOf 0 (addrOffset a)) == f &&
        d.owner (partOf 0 (addrOffset a + (n - 1))) == f)
  | some .twin => false

/-- R325: the range meets one that the library or a prefix has marked read-only. -/
def Device.isReadOnly (d : Device) (a n : Nat) : Bool :=
  d.isSelf (addrDevice a) &&
    d.readOnly.any (fun r => decide (localKey a < r.1 + r.2.1) && decide (r.1 < localKey a + n))

/-! ### Poison and parity (R357 to R359, R902, R903) -/

/-- The granule (key / 64) of a key is poisoned. -/
def Device.poisoned (d : Device) (g : Nat) : Bool := d.poison.contains g

/-- The first poisoned granule that a read of `n` bytes meets. -/
def Device.poisonIn (d : Device) (key n : Nat) : Option Nat :=
  minByKey id (d.poison.filter (fun g => decide (key / 64 ≤ g) && decide (g * 64 < key + n)))

/-- R320: the channel of a byte of a stack. -/
def t2Channel (o : Nat) : Nat := Nat.xor (bitsOf o 15 11) (bitsOf o 20 16)

/-- R321: ways in use. -/
def Device.ways (d : Device) : Nat := d.regField MEM_T3_CONFIG 7 4

/-- R322: the DDR channel of an offset: the used channel with that number, in ascending order. -/
def Device.ddrChannel (d : Device) (o : Nat) : Nat :=
  let used := (List.range 8).filter (fun c => bitOf (d.regField MEM_T3_CONFIG 15 8) c)
  used.getD (o / 4096 % max 1 d.ways) 0

/-- R358, R359: `k` poisoned returns of a granule: counted, and the first latched. -/
def Device.poisonedReturn (d : Device) (g k : Nat) : Device :=
  let space := g * 64 / 2 ^ 53
  let off := g * 64 % 2 ^ 53
  let a := selfAddr space off
  if space = 1 then
    let s := off / 0x1000000000
    let d := d.bump (regKey MEM_T2_UE_COUNT s) k
    if d.regField (regKey MEM_T2_UE_STATUS s) 31 31 = 1 then d
    else ((d.setReg (regKey MEM_T2_UE_ADDR_LO s) a).setReg (regKey MEM_T2_UE_ADDR_HI s) (a / 2 ^ 32)).setReg
      (regKey MEM_T2_UE_STATUS s) (2 ^ 31 + t2Channel (off % 0x1000000000))
  else
    let d := d.bump MEM_T3_UE_COUNT k
    if d.regField MEM_T3_UE_STATUS 31 31 = 1 then d
    else ((d.setReg MEM_T3_UE_ADDR_LO a).setReg MEM_T3_UE_ADDR_HI (a / 2 ^ 32)).setReg MEM_T3_UE_STATUS
      (2 ^ 31 + (if space = 2 then d.ddrChannel off else 8 + off / 2 ^ 41))

/-- R357: a re-read of a granule counts. -/
def Device.reread (d : Device) (g k : Nat) : Device :=
  let space := g * 64 / 2 ^ 53
  if space = 1 then d.bump (regKey MEM_T2_REREAD_COUNT (g * 64 % 2 ^ 53 / 0x1000000000)) k
  else d.bump MEM_T3_REREAD_COUNT k

/-- T2_PARITY or T3_PARITY (R370). -/
def parityStatus (g : Nat) : Nat := if g * 64 / 2 ^ 53 = 1 then 0x0A10 else 0x0A11

/-- A read that meets a poisoned granule: two re-reads, three poisoned returns, its status (R357, R358). -/
def Device.poisonRead (d : Device) (g : Nat) : Device := (d.reread g 2).poisonedReturn g 3

/-- A write of consecutive bytes at a local key (R902): whole granules of T2 and T3 lose their poison, a part of a
poisoned granule counts as one poisoned return and leaves it poisoned. -/
def Device.store (d : Device) (key : Nat) (bs : List Byte) : Device :=
  let space := key / 2 ^ 53
  let d := d.writeBytes key bs
  if d.poison.isEmpty || bs.isEmpty || !(1 ≤ space && space ≤ 3 : Bool) then d
  else
    let hit := d.poison.filter (fun g => decide (key / 64 ≤ g) && decide (g * 64 < key + bs.length))
    let whole := hit.filter (fun g => decide (key ≤ g * 64) && decide (g * 64 + 64 ≤ key + bs.length))
    let part := hit.filter (fun g => !whole.contains g)
    part.foldl (fun d g => d.poisonedReturn g 1) { d with poison := d.poison.filter (fun g => !whole.contains g) }

/-- Reads a local range: the bytes, or the first poisoned granule. -/
def Device.load (d : Device) (key n : Nat) : Option (List Byte) :=
  if (d.poisonIn key n).isSome then none else some (d.readBytes key n)

/-! ### Token buckets (R614, R615, R618) -/

def Device.bucket (d : Device) (p k : Nat) : Bucket := Table.getD d.buckets (3 * p + k) {}
def Device.modBucket (d : Device) (p k : Nat) (f : Bucket → Bucket) : Device :=
  { d with buckets := Table.modify d.buckets (3 * p + k) {} f }

/-- The bucket that one side of a partition's transfer counts against: 0 T2, 1 T3, 2 Plovlink and the twin port. -/
def Device.sideBucket (d : Device) (a : Nat) : Option Nat :=
  if !d.isSelf (addrDevice a) then some 2
  else if addrSpace a = 1 then some 0
  else if isT3 (addrSpace a) then some 1
  else none

/-- BALANCE is above 0 (R618); a bucket that is off is held at CAP and gates nothing (R615). -/
def Bucket.opens (b : Bucket) : Bool := !b.on || decide (0 < b.bal)

/-- Bytes charged to a bucket: BALANCE saturates at -2^63 (R615). -/
def Bucket.charge (n : Nat) (b : Bucket) : Bucket :=
  if b.on then { b with bal := max (-(2 ^ 63 : Int)) (b.bal - n) } else b

def Device.chargeSide (d : Device) (p a n : Nat) : Device :=
  match d.sideBucket a with | some k => d.modBucket p k (Bucket.charge n) | none => d

def Device.sideOpen (d : Device) (p a : Nat) : Bool :=
  match d.sideBucket a with | some k => (d.bucket p k).opens | none => true

end Sys2Proof.Machine
end

