-- ==== Sys2Proof/Machine/Faults.lean ====
section
/-!
DEFINITION. The fault of a job (R844 to R846, R850, R857, R859 to R862): the shared operation that every detector of a
fault calls. Taking a fault halts the job's partitions and Drones, writes the fault ring, tells the other devices and
the functions, and ends the work that R857 says ends at once.
-/
namespace Sys2Proof.Machine

/-! ### The job's things -/

/-- The partitions that a job holds. -/
def Device.jobParts (d : Device) (j : Nat) : List Nat :=
  (List.range 12).filter (fun p => j != 0 && (d.part p).job == j)

def seqKey (job id : Nat) : Nat := job * 16384 + id
def Device.seq (d : Device) (job id : Nat) : Seq := Table.getD d.seqs (seqKey job id) {}
def Device.setSeq (d : Device) (job id : Nat) (s : Seq) : Device := { d with seqs := Table.put d.seqs (seqKey job id) s }
def Device.modSeq (d : Device) (job id : Nat) (f : Seq → Seq) : Device := d.setSeq job id (f (d.seq job id))

/-- Sequences of a job, with their SEQ_ID. -/
def Device.jobSeqs (d : Device) (j : Nat) : List (Nat × Seq) :=
  d.seqs.filterMap (fun e => if e.1 / 16384 = j then some (e.1 % 16384, e.2) else none)

/-- R546: a sequence that names a prefix stops naming it; a retiring prefix with no reference is freed. -/
def Device.dropPrefix (d : Device) (pid : Nat) : Device :=
  match Table.find? d.prefixes pid with
  | none => d
  | some x =>
    let x := { x with refs := x.refs - 1 }
    if x.refs = 0 && x.retiring then
      { d with prefixes := Table.drop d.prefixes pid
               readOnly := d.readOnly.filter (fun r => r.2.2 != 2 ^ 40 + pid) }
    else { d with prefixes := Table.put d.prefixes pid x }

/-- R521: a sequence returns to FREE: its record, its pages and its prefix reference go (R570 clears its entry too). -/
def Device.freeSeq (d : Device) (job id : Nat) : Device :=
  let s := d.seq job id
  let d := { d with seqs := Table.drop d.seqs (seqKey job id) }
  if s.prefixId = 0 then d else d.dropPrefix s.prefixId

/-- The value of a GENERATE's records: tokens delivered, SEQ_ID (R543, R559). -/
def requestValue (s : Seq) (id : Nat) : List Byte := leBytes 4 s.delivered ++ leBytes 4 id

/-- R543: ends the current request of a sequence with a status: the final record; then IDLE with KEEP, else FREE. -/
def Device.endRequest (d : Device) (job id status : Nat) : Device :=
  let s := d.seq job id
  let d := d.completeOpt s.cmd status (if s.building then [] else requestValue s id)
  let d := { d with rows := d.rows.filter (fun r => !(r.job == job && r.seq == id && r.cmd.isNone)) }
  if s.keep && !s.building then
    d.setSeq job id { s with state := .idle, cmd := none, chain := none, cancelled := false, guesses := [],
                             deploy := none, forced := false }
  else d.freeSeq job id

/-! ### Messages to functions and devices -/

/-- An MSI-X message of a function (R726, R736). -/
def Device.msix (d : Device) (fn vector : Nat) : Device := d.emit (.msix fn vector)

/-- The port of a function. -/
def fnPort (fn : Nat) : Port := if fn = 0 then .pf else .vf fn

/-- A CONTROL message to another device, at P0 (R748, R845). The codes of the messages are the model's own (DESIGN
CHOICE 13): 1 JOB_FAULT, 2 reset report, 3 restart breath, 4 version available, 5 currency breath, 6 Barometer counts,
7 Gale drops, 8 period change, 9 teardown. -/
def Device.sendControl (d : Device) (dest job code : Nat) (body : List Byte) : Device :=
  let (u, d) := d.uid
  { d with txq := d.txq ++ [{ uid := u, kind := 4, dest := dest, job := job, arg := code, body := body,
                               len := body.length }] }

/-- The far devices of the end records that a job holds (R759, R762), each once. -/
def Device.farDevices (d : Device) (j : Nat) : List Nat :=
  (d.circuits.filterMap (fun e => if e.2.ends && e.2.job == j then some e.2.far else none)).eraseDups

/-! ### The fault ring (R859 to R861) -/

/-- R859: the ring's base is valid. -/
def Device.ringBase (d : Device) : Option Nat :=
  let a := d.reg64 MGT_FRING_BASE_LO
  if a != 0 && addrDevice a == 127 && isT3 (addrSpace a) && a % 65536 == 0 &&
      d.inSpace (addrSpace a) (addrOffset a) 262144 then some a else none

/-- R860: the bytes of an entry without its CRC are followed by their CRC-32C. -/
def entryBytes (b : List Byte) : List Byte := padTo 60 b ++ leBytes 4 (crc32c (padTo 60 b))

/-- Writes an entry of the ring: the next SERIAL; into T3 where the ring is on, else kept in the hub page, which holds
the latest 1,024; the head advances (R859, R861). -/
def Device.ringAppend (d : Device) (rest : List Byte) : Device :=
  let n := d.ring.serial + 1
  let e := entryBytes (leBytes 8 n ++ rest)
  let d := match d.ringBase with
    | some a =>
      { d with ring := { d.ring with serial := n, on := true } }.store (localKey a + 64 * (n % 4096)) e
    | none =>
      let page := d.ring.page ++ [(n, e)]
      let excess := page.length - 1024
      { d with ring := { d.ring with serial := n, on := false, page := page.drop excess,
                                     lost := d.ring.lost || decide (0 < excess) } }
  d.setReg MGT_FRING_HEAD n

/-- The types of an entry (R860). -/
inductive EntryType where
  | fault | remote | restarted | waiting | stopped
  deriving DecidableEq, Repr

def EntryType.code : EntryType → Nat
  | .fault => 0 | .remote => 1 | .restarted => 2 | .waiting => 3 | .stopped => 4

/-- Adds 1 to a 16-bit half of a kind counter (R864). -/
def Device.countKind (d : Device) (k : Nat) : Device :=
  let r := MGT_KIND_COUNT + 4 * (k / 2)
  if k % 2 = 1 then d.modReg r (fun v => putBits v 31 16 (satAdd 16 (bitsOf v 31 16) 1))
  else d.modReg r (fun v => putBits v 15 0 (satAdd 16 (bitsOf v 15 0) 1))

/-- R860: an entry of a job. -/
def Device.addEntry (d : Device) (t : EntryType) (j : Nat) (f : FaultInfo) (secondary : Bool) (origin originSerial : Nat)
    (recovery : Nat) : Device :=
  let x := d.job j
  let rest := leBytes 8 d.breath ++ leBytes 2 f.status ++ leBytes 1 t.code ++ leBytes 1 f.kind ++ leBytes 4 j ++
    leBytes 1 d.index ++ leBytes 1 origin ++ leBytes 1 f.part ++ leBytes 1 f.unit ++ leBytes 2 f.location ++
    leBytes 1 (bit secondary + 2 * bit (x.waitReason != 0)) ++ leBytes 1 x.waitReason ++ leBytes 4 f.stepId ++
    leBytes 4 f.detail ++ leBytes 8 f.addr ++ leBytes 4 originSerial ++ leBytes 2 (min 65535 x.restarts) ++
    leBytes 2 0 ++ leBytes 4 recovery
  let d := d.ringAppend rest
  let d := match t with
    | .fault => ((d.bump MGT_FAULT_COUNT 1).countKind f.kind)
    | .remote => d.countKind 0
    | _ => d
  if t = .fault || t = .remote then d.modJob j (fun x => { x with lastSerial := d.ring.serial }) else d

/-! ### Halting (R167, R844) -/

/-- PRT_STOP_STATUS.LAST_STATUS (R274). -/
def Device.stopStatus (d : Device) (p status : Nat) : Device :=
  d.setRegField (prtOff p PRT_STOP_STATUS) 15 0 status

/-- R240: a fault during close or drain completes the switch with the fault's status; the slots keep their states. -/
def Device.failSwitch (d : Device) (p status : Nat) : Device :=
  match (d.part p).switch with
  | none => d
  | some w =>
    let d := d.modPart p (fun x => { x with switch := none, draining := false })
    (d.stopStatus p status).completeOpt w.cmd status []

/-- R857: stop loads of a partition that wait end with the fault's status. -/
def Device.failLoads (d : Device) (p status : Nat) : Device :=
  let waiting := (d.part p).loads.filter (fun l => !l.started)
  let d := d.modPart p (fun x => { x with loads := x.loads.filter (·.started) })
  waiting.foldl (fun d l => d.completeOpt l.cmd status []) d

/-- R857: the QUEUE_POPs that wait on a partition's queues end with the fault's status. -/
def Device.failPops (d : Device) (p status : Nat) : Device :=
  let q := Table.getD d.queues p {}
  let waits := q.queues.flatMap (fun e => e.2.waiting.map (fun w => w.1))
  let d := { d with queues := Table.put d.queues p
                      { q with queues := Table.mapVals q.queues (fun _ x => { x with waiting := [] }) } }
  waits.foldl (fun d c => d.complete c status []) d

/-- R844: halts the partition and its Drone; what waits on them ends (R857), and no Front entry stays present (R351). -/
def Device.haltPart (d : Device) (status p : Nat) : Device :=
  let d := d.modFab p (fun f => { f with halted := true })
  let d := d.modPart p (fun x => { x with front := [] })
  let d := d.setRegField (drnOff p DRN_STATUS) 30 30 1
  ((d.failSwitch p status).failLoads p status).failPops p status

/-- R850: a STOPPED job's admitted requests end with the status of its last fault. -/
def Device.endAll (d : Device) (j status : Nat) : Device :=
  (d.jobSeqs j).foldl (fun d e =>
    match e.2.state with
    | .prefill => d.endRequest j e.1 status
    | .handoff => d.endRequest j e.1 status
    | .decode => d.endRequest j e.1 status
    | _ => d) d

/-- R862: the FAULT_VECTOR message of each function with a partition of the job. -/
def Device.faultVectors (d : Device) (j : Nat) : Device :=
  let fns := ((d.jobParts j).map (fun p => d.owner p)).eraseDups
  fns.foldl (fun d f =>
    if f ≤ 63 && bitOf (d.portReg (fnPort f) HUB_FN_IRQ) 31 then
      d.msix f (bitsOf (d.portReg (fnPort f) HUB_FN_IRQ) 10 0) else d) d

/-- R846: the job is between its first fault and the end of its warm reset, or stopped. -/
def JobState.down : JobState → Bool
  | .halted => true
  | .resetting => true
  | .stopped => true
  | _ => false

/-- Breath numbers of the storm window (R850). -/
def Device.stormNow (d : Device) (j : Nat) : List Nat :=
  (d.job j).storm.filter (fun b => decide (d.breath < b + 100 * d.regField MGT_FAULT_CFG 31 16))

/-- R638: a suspension or resumption under way ends with the status of a fault, and the job restarts unsuspended. A job that
is wholly saved stays so until it is resumed. -/
def Device.endSuspend (d : Device) (j status : Nat) : Device :=
  let x := d.job j
  if x.suspend = .no || x.suspend = .saved then d
  else (d.modJob j (fun x => { x with suspend := .no, cmd := none })).completeOpt x.cmd status []

/-- R844, R850: the job enters HALTED, or STOPPED where its storm limit is reached. -/
def Device.enterHalted (d : Device) (j : Nat) (f : FaultInfo) (t : EntryType) (origin serial : Nat) : Device :=
  let d := d.endSuspend j f.status
  let storm := d.stormNow j ++ [d.breath]
  let limit := d.regField MGT_FAULT_CFG 15 8
  let stop := limit != 0 && decide (limit ≤ storm.length)
  let d := d.modJob j (fun x =>
    { x with state := if stop then .stopped else .halted, storm := storm, firstFault := f.status,
             held := 0, reports := [], restartBreath := none, waitReason := 0,
             firstStep := false, restarts := if stop then x.restarts else x.restarts + 1 })
  let d := if stop then d else d.bump MGT_RESTART_COUNT 1
  let d := { d with since := { d.since with jobsFaulted := d.since.jobsFaulted + 1 } }
  let d := d.addEntry t j f false origin serial 0
  let own := d.ring.serial
  let d := (d.jobParts j).foldl (fun d p => d.haltPart f.status p) d
  let d := d.faultVectors j
  -- R845: told on to every far device of the job
  let body := leBytes 4 j ++ leBytes 4 (if t = .fault then d.index else origin) ++
    leBytes 8 (if t = .fault then own else serial)
  let d := (d.farDevices j).foldl (fun d dev => d.sendControl dev j 1 body) d
  if stop then (d.addEntry .stopped j f false origin 0 0).endAll j f.status else d

/-- A fault of job `j` raised on this device (R844 to R846); a fault that no job owns has none to halt. -/
def Device.jobFault (d : Device) (j : Nat) (f : FaultInfo) : Device :=
  if (d.job j).state = .none then d
  else if (d.job j).state.down then d.addEntry .fault j f true d.index 0 0
  else d.enterHalted j f .fault d.index 0

end Sys2Proof.Machine
end

