-- ==== Sys2Proof/Machine/FabricOps.lean ====
section
/-!
DEFINITION. The fabric's operations: routes, channels and credits, link replay, stray tokens, fabric faults, tag
contexts, the compute cell's reduction, conversion and vector program, memory cell generators (03_fabric).
-/
namespace Sys2Proof.Machine

/-! ### Configuration of the active stop -/

def Partition.slot (x : Partition) (i : Nat) : Slot := Table.getD x.slots i {}

/-- The stop the partition runs; an empty configuration where no slot is active (R220). -/
def Partition.stop (x : Partition) : StopCfg := match x.active with | some i => (x.slot i).cfg | none => {}

/-- The 32-bit word at a byte offset of the block (R223). -/
def StopCfg.word (c : StopCfg) (off : Nat) : Nat := Table.getD c.words off 0

/-- Offset of the first configuration word of a site's cell record, and the words of a record (R223, R224). -/
def cellBase (site : Nat) : Nat :=
  match siteKind site with
  | .compute => 0x2D00 + 128 * recordIndex site
  | .memory => 0x6D00 + 196 * recordIndex site
  | .valve => 0xCF00 + 32 * recordIndex site
  | .tilePort => 0xD500 + 32 * recordIndex site

def StopCfg.cellWord (c : StopCfg) (site i : Nat) : Nat := c.word (cellBase site + 4 * i)

/-- The KIND code of a cell kind (R169). -/
def CellKind.code : CellKind → Nat
  | .compute => 0 | .memory => 1 | .valve => 2 | .tilePort => 3

/-- R105: the cell takes part in the stop: ENABLE is 1 and KIND is its site's own. -/
def StopCfg.enabled (c : StopCfg) (site : Nat) : Bool :=
  let w := c.cellWord site 0
  bitOf w 3 && bitsOf w 2 0 == (siteKind site).code

/-! ### Switches and routes (R106 to R111) -/

/-- The neighbour of a site beyond a port; none at the edge. -/
def neighbour (site port : Nat) : Option Nat :=
  match port with
  | 0 => if 16 ≤ site then some (site - 16) else none
  | 1 => if site % 16 < 15 then some (site + 1) else none
  | 2 => if site + 16 < siteCount then some (site + 16) else none
  | 3 => if site % 16 = 0 then none else some (site - 1)
  | _ => none

/-- The port of the neighbour that faces a port. -/
def facing (port : Nat) : Nat := match port with | 0 => 2 | 1 => 3 | 2 => 0 | 3 => 1 | p => p

/-- Where an output channel of a switch leads: the neighbour's input, or the cell's own side for L. -/
def outputChan (site port : Nat) (scalar : Bool) (ch : Nat) : Option Chan :=
  if port = 4 then some ⟨site, 5, scalar, ch⟩
  else (neighbour site port).map (fun n => ⟨n, facing port, scalar, ch⟩)

/-- R109, R110: the route entry of an output port and channel: input port and input channel; none for "none". -/
def StopCfg.route (c : StopCfg) (site : Nat) (scalar : Bool) (port ch : Nat) : Option (Nat × Nat) :=
  let base := 0x500 + 32 * site + (if scalar then 16 else 0)
  let v := c.word base + 2 ^ 32 * c.word (base + 4) + 2 ^ 64 * c.word (base + 8) + 2 ^ 96 * c.word (base + 12)
  let e := bitsOf v (5 * (4 * port + ch) + 4) (5 * (4 * port + ch))
  if e % 8 ≤ 4 then some (e % 8, e / 8) else none

/-- Output ports and channels of a switch. -/
def outputs : List (Nat × Nat) := (List.range 5).flatMap (fun o => (List.range 4).map (fun ch => (o, ch)))

/-- R111: every output of the switch that names an input channel. -/
def StopCfg.routed (c : StopCfg) (i : Chan) : List (Nat × Nat) :=
  outputs.filter (fun o => c.route i.site i.scalar o.1 o.2 == some (i.port, i.ch))

/-! ### Fabric faults (R166, R167, R171) -/

/-- Raises a fabric fault: the partition halts, PRT_FABRIC_FAULT latches the first, the owning job faults. `info` gives
the fault ring's fields. -/
def Device.fabricFault (d : Device) (p code kind site port ch : Nat) (scalar : Bool) (info : FaultInfo) : Device :=
  let k := prtOff p PRT_FABRIC_FAULT
  let v := 2 ^ 31 + 2 ^ 23 * bit scalar + 2 ^ 21 * (ch % 4) + 2 ^ 18 * (port % 8) + 2 ^ 9 * site + code % 256
  let d := if d.regField k 31 31 = 1 then d else d.setReg k v
  let d := (d.modFab p (fun f => { f with halted := true })).failSwitch p (0x1000 + code)
  d.jobFault (d.part p).job
    { info with status := 0x1000 + code, kind := kind, part := p, location := site,
                stepId := match (d.part p).running with | some s => s.stepId | none => 0xFFFFFFFF }

/-- R115, R123, R124: a stray token is discarded and counted, and raises STRAY_TOKEN. -/
def Device.stray (d : Device) (p : Nat) (c : Chan) : Device :=
  (d.bump (prtOff p PRT_STRAY_COUNT) 1).fabricFault p 0x22 9 c.site (if c.port = 5 then 4 else c.port) c.ch c.scalar
    { status := 0x1022, kind := 9 }

/-! ### Channels, credits, replay (R112, R163) -/

def Fabric.wire (f : Fabric) (c : Chan) : List Token := Table.getD f.wires c.key []
def Fabric.buf (f : Fabric) (c : Chan) : List Token := Table.getD f.bufs c.key []
def Fabric.setWire (f : Fabric) (c : Chan) (l : List Token) : Fabric :=
  { f with wires := if l.isEmpty then Table.drop f.wires c.key else Table.put f.wires c.key l }
def Fabric.setBuf (f : Fabric) (c : Chan) (l : List Token) : Fabric :=
  { f with bufs := if l.isEmpty then Table.drop f.bufs c.key else Table.put f.bufs c.key l }

/-- The link direction and network of a channel: its four channels share a replay buffer. -/
def Chan.link (c : Chan) : Nat := (c.site * 6 + c.port) * 2 + bit c.scalar

def Fabric.credit (f : Fabric) (c : Chan) : Bool := decide (Table.getD f.spent c.key 0 < c.depth)

/-- A token put onto a channel: one credit spent, the token kept for a re-send (the last 8 of the link, R163). -/
def Fabric.send (f : Fabric) (c : Chan) (t : Token) : Fabric :=
  let r := Table.getD f.replay c.link [] ++ [{ ch := c.ch, tok := t, sends := 1 }]
  { (f.setWire c (f.wire c ++ [t])) with
    spent := Table.put f.spent c.key (Table.getD f.spent c.key 0 + 1)
    replay := Table.put f.replay c.link (r.drop (r.length - 8)) }

/-- R164: the first kept token of a channel is released on its good arrival. -/
def Fabric.accepted (f : Fabric) (c : Chan) : Fabric :=
  let r := Table.getD f.replay c.link []
  match indexWhere (fun s : Sent => s.ch == c.ch) 0 r with
  | some i => { f with replay := Table.put f.replay c.link (r.take i ++ r.drop (i + 1)) }
  | none => f

/-- An emptied buffer entry: its credit is on the way back (R112). -/
def Fabric.freeEntry (f : Fabric) (c : Chan) : Fabric :=
  { f with due := Table.put f.due c.key (Table.getD f.due c.key 0 + 1) }

/-- R111: the head token of a switch input buffer leaves on all its outputs once every one has a credit. -/
def Fabric.forward (cfg : StopCfg) (c : Chan) (f : Fabric) : Nat → Fabric
  | 0 => f
  | n + 1 =>
    match f.buf c with
    | [] => f
    | t :: rest =>
      let outs := (cfg.routed c).filterMap (fun o => outputChan c.site o.1 c.scalar o.2)
      if outs.all f.credit then
        Fabric.forward cfg c (outs.foldl (fun g o => g.send o t) ((f.setBuf c rest).freeEntry c)) n
      else f

/-- Tokens a cell has emitted go onto its switch's local input while credits last. -/
def Fabric.flushOut (c : Chan) (f : Fabric) : Nat → Fabric
  | 0 => f
  | n + 1 =>
    match Table.getD f.outs c.key [] with
    | [] => f
    | t :: rest =>
      if f.credit c then
        Fabric.flushOut c
          ({ f with outs := if rest.isEmpty then Table.drop f.outs c.key else Table.put f.outs c.key rest }.send c t) n
      else f

/-- A cell emits a token on a local output channel, epoch stamped (R222). -/
def Device.cellEmit (d : Device) (p site : Nat) (scalar : Bool) (ch : Nat) (t : Token) : Device :=
  let c : Chan := ⟨site, 4, scalar, ch⟩
  let t := { t with epoch := (d.part p).epoch }
  d.modFab p (fun f =>
    Fabric.flushOut c { f with outs := Table.put f.outs c.key (Table.getD f.outs c.key [] ++ [t]) } 16)

/-- No token of this output waits for credit. -/
def Device.outFree (d : Device) (p site : Nat) (scalar : Bool) (ch : Nat) : Bool :=
  (Table.getD (d.fab p).outs (Chan.key ⟨site, 4, scalar, ch⟩) []).isEmpty

/-! ### Arithmetic status (R101, R102) -/

/-- Sets the event bits of PRT_ARITH_STATUS. -/
def Device.arith (d : Device) (p bits : Nat) : Device := d.modReg (prtOff p PRT_ARITH_STATUS) (fun v => v ||| bits)

/-- The bits a conversion sets: SAT [2], INF_OUT [1], NAN_OUT [0]. -/
def OutFlags.bits (o : OutFlags) : Nat := bit o.nanOut + 2 * bit o.infOut + 4 * bit o.sat

/-- The running step's status becomes `s` unless it already has one (R69, R86). -/
def Device.stepStatus (d : Device) (p s : Nat) : Device :=
  d.modPart p (fun x => { x with running := x.running.map (fun r => if r.status = 0 then { r with status := s } else r) })

/-! ### Tag contexts (R125 to R129) -/

/-- Input numbers of a compute cell: 0 A, 1 B, 2 C, 3 X on the vector network; 4 KB, 5 MX on the scalar one (R132). -/
def computeInput (scalar : Bool) (ch : Nat) : Nat := if scalar then 4 + ch else ch

structure ComputeCfg where
  fmtA : Fmt
  fmtB : Fmt
  fmtOut : Fmt
  sparse : Bool
  anchorMode : Nat
  recA : Bool
  recB : Bool
  gapForward : Bool
  combine : Bool
  contexts : Nat
  usesA : Bool
  usesB : Bool
  usesC : Bool
  kSrc : Nat
  kConst : Nat
  kSlot : Nat
  rows : Nat
  cols : Nat
  vlen : Nat
  fmtC : Fmt
  reduction : Nat
  firstTile : Nat
  participants : Nat
  deriving DecidableEq, Repr

/-- R143: the fields of a compute cell's configuration. -/
def StopCfg.compute (c : StopCfg) (site : Nat) : ComputeCfg :=
  let w0 := c.cellWord site 0
  let w1 := c.cellWord site 1
  let w2 := c.cellWord site 2
  let w4 := c.cellWord site 4
  { fmtA := (Fmt.ofCode (bitsOf w0 7 4)).getD .mxfp4
    fmtB := (Fmt.ofCode (bitsOf w0 11 8)).getD .mxfp4
    fmtOut := (Fmt.ofCode (bitsOf w0 15 12)).getD .mxfp4
    sparse := bitOf w0 16
    anchorMode := if bitsOf w0 18 17 = 3 then 0 else bitsOf w0 18 17
    recA := bitOf w0 19
    recB := bitOf w0 20
    gapForward := bitsOf w0 22 21 = 0
    combine := bitOf w0 23
    contexts := bitsOf w0 26 24 + 1
    usesA := bitOf w0 27
    usesB := bitOf w0 28
    usesC := bitOf w0 29
    kSrc := if bitsOf w1 28 27 = 3 then 0 else bitsOf w1 28 27
    kConst := bitsOf w1 26 0
    kSlot := bitsOf w2 19 14
    rows := if bitsOf w2 6 0 = 0 then 64 else bitsOf w2 6 0
    cols := if bitsOf w2 13 7 = 0 then 64 else bitsOf w2 13 7
    vlen := min 16 (bitsOf w2 24 20)
    fmtC := (Fmt.ofCode (bitsOf w2 28 25)).getD .fp32
    reduction := c.cellWord site 3
    firstTile := bitsOf w4 15 0
    participants := bitsOf w4 23 16 }

/-- Inputs the configuration names as used. -/
def ComputeCfg.declares (k : ComputeCfg) (input : Nat) : Bool :=
  match input with
  | 0 => k.usesA
  | 1 => k.usesB
  | 2 => k.usesC
  | 3 => k.anchorMode = 2
  | 4 => k.kSrc = 2
  | 5 => k.recA || k.recB
  | _ => false

def ComputeCfg.family (k : ComputeCfg) : Family := k.fmtA.family.getD .float

def Cell.ctx (c : Cell) (tag : Nat) : Option Ctx := c.ctxs.find? (fun x => x.tag == tag)
def Cell.setCtx (c : Cell) (x : Ctx) : Cell :=
  { c with ctxs := c.ctxs.map (fun y => if y.tag = x.tag then x else y) }

/-- A token joins its tag's context, or opens one (R125); none where the cell has no context left (R127). -/
def Cell.join (c : Cell) (allowed input : Nat) (t : Token) : Option Cell :=
  match c.ctx t.tag with
  | some x => some (c.setCtx { x with waiting := x.waiting ++ [(input, t)] })
  | none =>
    if c.ctxs.length < allowed then
      some { c with ctxs := c.ctxs ++ [{ tag := t.tag, opened := c.nextOpen, waiting := [(input, t)] }]
                    nextOpen := c.nextOpen + 1 }
    else none

/-- The next unconsumed token of an input. -/
def Ctx.next (x : Ctx) (input : Nat) : Option Token := (x.waiting.find? (fun e => e.1 == input)).map (·.2)

def Ctx.tokens (x : Ctx) (input : Nat) : List Token := Table.getD x.taken input []

/-- Consumes the next token of an input. -/
def Ctx.take (x : Ctx) (input : Nat) : Ctx :=
  match indexWhere (fun e : Nat × Token => e.1 == input) 0 x.waiting with
  | none => x
  | some i =>
    match x.waiting[i]? with
    | none => x
    | some (_, t) =>
      { x with waiting := x.waiting.take i ++ x.waiting.drop (i + 1)
               taken := Table.put x.taken input (x.tokens input ++ [t])
               ended := if t.fin then x.ended ++ [input] else x.ended }

def Ctx.hasEnded (x : Ctx) (input : Nat) : Bool := x.ended.contains input

/-! ### The reduction of one context (R133 to R136, R327 to R329) -/

/-- Bytes of a list of tokens. -/
def tokenByte (ts : List Token) (tok byte : Nat) : Nat :=
  match ts[tok]? with | some t => bitsOf t.payload.toNat (8 * byte + 7) (8 * byte) | none => 0

/-- R328: the element of row (or column) `r` at K index `k` in a dense element segment. -/
def denseElem (f : Fmt) (ts : List Token) (r k : Nat) : Nat :=
  if f.bits = 4 then (let b := tokenByte ts (k / 2) r; if k % 2 = 0 then b % 16 else b / 16)
  else if f.bits = 8 then tokenByte ts k r
  else tokenByte ts (2 * k + r / 32) (2 * (r % 32)) + 256 * tokenByte ts (2 * k + r / 32) (2 * (r % 32) + 1)

/-- R329: tokens of one sparse unit (two groups of four). -/
def sparseUnit (f : Fmt) : Nat := if f.bits = 4 then 3 else 5

/-- R329: the (k, element) terms of group `g` of column `c`. -/
def sparseGroup (f : Fmt) (ts : List Token) (c g : Nat) : List (Nat × Nat) :=
  let u := sparseUnit f * (g / 2)
  let md := tokenByte ts u c
  let (p0, p1) := sparsePositions (if g % 2 = 0 then md % 16 else md / 16)
  let per := if f.bits = 4 then 1 else 2
  let t := u + 1 + per * (g % 2)
  let (e0, e1) :=
    if f.bits = 4 then (tokenByte ts t c % 16, tokenByte ts t c / 16) else (tokenByte ts t c, tokenByte ts (t + 1) c)
  [(4 * g + p0, e0), (4 * g + p1, e1)]

/-- R327: scale byte of row (or column) `r` for K index `k`. -/
def scaleAt (ts : List Token) (r k : Nat) : Nat := tokenByte ts (k / 32) r

/-- R327: scale tokens of a panel; none outside the MX family. -/
def ComputeCfg.scaleTokens (c : ComputeCfg) (k : Nat) : Nat :=
  match c.family with | .mx => 2 * ((k + 63) / 64) | _ => 0

/-- R143: the reduction's K. KB brings it per tag (K_SRC 0b10), a bound at step issue (0b01). -/
def ctxK (c : ComputeCfg) (bounds : List Nat) (x : Ctx) : Option Nat :=
  match c.kSrc with
  | 1 => some (bounds.getD c.kSlot 0)
  | 2 => (x.tokens 4).head?.map Token.value
  | _ => some c.kConst

/-- K indices of A and B whose elements have all been consumed. -/
def kAvailable (c : ComputeCfg) (k : Nat) (x : Ctx) : Nat :=
  let ns := c.scaleTokens k
  let na := (x.tokens 0).length - ns
  let nb := (x.tokens 1).length - ns
  let ka := if x.hasEnded 0 then k else if c.fmtA.bits = 4 then 2 * na else if c.fmtA.bits = 8 then na else na / 2
  let kb :=
    if x.hasEnded 1 then k
    else if c.sparse then 8 * (nb / sparseUnit c.fmtB)
    else if c.fmtB.bits = 4 then 2 * nb else if c.fmtB.bits = 8 then nb else nb / 2
  min k (min ka kb)

/-- The (k, element of B) terms of column `col` for K indices from k0 up to k1. -/
def bTerms (c : ComputeCfg) (tb : List Token) (col k0 k1 k : Nat) : List (Nat × Nat) :=
  if c.sparse then
    ((List.range ((k1 + 3) / 4 - k0 / 4)).flatMap (fun g => sparseGroup c.fmtB tb col (k0 / 4 + g))).filter
      (fun t => decide (t.1 < k))
  else (List.range (k1 - k0)).map (fun i => (k0 + i, denseElem c.fmtB tb col (k0 + i)))

/-- One lane after the products of K indices from k0 up to k1 (R72, R73; R68 for INT; R88 for float, whose sum is made
once, over the whole K). -/
def laneStep (c : ComputeCfg) (a : Int) (ta tb sa sb : List Token) (row col k0 k1 k : Nat) (l : LedgerLane) :
    LedgerLane × Bool :=
  let terms := bTerms c tb col k0 k1 k
  match c.family with
  | .mx =>
    terms.foldl (fun (acc : LedgerLane × Bool) t =>
      let r := acc.1.addProduct a (scaleAt sa row t.1) (scaleAt sb col t.1)
        (c.fmtA.decode (denseElem c.fmtA ta row t.1)) (c.fmtB.decode t.2)
      (r.1, acc.2 || r.2)) (l, false)
  | .int =>
    (terms.foldl (fun acc t =>
      (acc.addProduct anchorInt 127 127 (c.fmtA.decode (denseElem c.fmtA ta row t.1)) (c.fmtB.decode t.2)).1) l, false)
  | .float =>
    let ps := terms.map (fun t => f32Of (flMul (c.fmtA.decode (denseElem c.fmtA ta row t.1)) (c.fmtB.decode t.2)))
    let acc := floatAccumulate (l.val.setWidth 32) (chunksOf 32 (ps.length + 1) ps)
    ({ l with val := acc.setWidth 128 }, false)

/-- Lanes (row, column) of an output tile that are written (R66, M_EDGE and N_EDGE). -/
def ComputeCfg.lanes (c : ComputeCfg) : List (Nat × Nat) :=
  (List.range c.rows).flatMap (fun r => (List.range c.cols).map (fun u => (r, u)))

/-- The ledgers after the products of K indices from k0 up to k1; the Boolean says that some product lost bits. -/
def reduceTile (c : ComputeCfg) (a : Int) (x : Ctx) (k0 k1 k : Nat) (ls : Table LedgerLane) :
    Table LedgerLane × Bool :=
  let ns := c.scaleTokens k
  let ta := (x.tokens 0).drop ns
  let tb := (x.tokens 1).drop ns
  let sa := (x.tokens 0).take ns
  let sb := (x.tokens 1).take ns
  c.lanes.foldl (fun (acc : Table LedgerLane × Bool) rc =>
    let key := 64 * rc.1 + rc.2
    let r := laneStep c a ta tb sa sb rc.1 rc.2 k0 k1 k (Table.getD acc.1 key LedgerLane.clear)
    (Table.put acc.1 key r.1, acc.2 || r.2)) (ls, false)

/-! ### The anchor pass (R67 to R71, R79 to R84) -/

/-- Scale bytes of the valid rows (or columns) and of the blocks below K of one operand. -/
def tileScales (ts : List Token) (rows k : Nat) : List Nat :=
  (List.range ((k + 31) / 32)).flatMap (fun b => (List.range rows).map (fun r => tokenByte ts b r))

/-- R81: own maximum of an operand in an anchor packet; 0xFF where the slice has no byte other than 0xFF. -/
def sliceMax (ts : List Token) (rows k : Nat) : Nat := (maxScale (tileScales ts rows k)).getD 255

/-- R82: an anchor packet for one tile. -/
def anchorPacket (reduction tile operand m : Nat) : BitVec 512 :=
  BitVec.ofNat 512 (leNat (leBytes 4 reduction ++ leBytes 2 tile ++ [1, BitVec.ofNat 8 operand, BitVec.ofNat 8 m]))

/-- R83: the largest byte other than 0xFF among the own maximum and the received packets of an operand for a tile. -/
def mergedMax (own : Nat) (packets : List Token) (operand tile : Nat) : Option Nat :=
  maxScale (own :: (packets.filterMap (fun t =>
    let b := t.bytes
    let first := leAt b 4 2
    if leAt b 7 1 = operand && first ≤ tile && tile < first + leAt b 6 1 then some (leAt b (8 + tile - first) 1)
    else none)))

/-- The bytes MX recorded for the tile: A in [7:0], B in [15:8] (R132). -/
def recordedMax (x : Ctx) : Nat := match (x.tokens 5).head? with | some t => t.value | none => 0

/-- R80, R87: some scale byte other than 0xFF exceeds the recorded maximum. -/
def exceedsRecorded (ts : List Token) (rows k m : Nat) : Bool :=
  (tileScales ts rows k).any (fun b => b != 255 && decide (m < b))

/-- R84: every anchor packet the tile needs has arrived. -/
def anchorPacketsHere (c : ComputeCfg) (x : Ctx) (tile : Nat) : Bool :=
  let need := fun (operand : Nat) =>
    (x.tokens 3 ++ (x.waiting.filter (fun e => e.1 == 3)).map (·.2)).countP (fun t =>
      let b := t.bytes
      leAt b 7 1 == operand && decide (leAt b 4 2 ≤ tile) && decide (tile < leAt b 4 2 + leAt b 6 1))
      + 1 ≥ c.participants
  (c.recA || need 0) && (c.recB || need 1)

/-- R67, R79, R80, R83: the anchor of a context's tile, its scale bytes consumed. -/
def ctxAnchor (c : ComputeCfg) (x : Ctx) (k tile : Nat) : Int :=
  let ns := c.scaleTokens k
  let pa := (x.tokens 0).take ns
  let pb := (x.tokens 1).take ns
  let xs := x.tokens 3 ++ (x.waiting.filter (fun e => e.1 == 3)).map (·.2)
  let ownA := sliceMax pa c.rows k
  let ownB := sliceMax pb c.cols k
  let norm := fun (m : Nat) => if m = 255 then none else some m
  let ma := if c.recA then norm (recordedMax x % 256) else if c.anchorMode = 2 then mergedMax ownA xs 0 tile else norm ownA
  let mb := if c.recB then norm (recordedMax x / 256 % 256)
            else if c.anchorMode = 2 then mergedMax ownB xs 1 tile else norm ownB
  match c.family with
  | .mx => anchorMx c.fmtA c.fmtB ma mb
  | .int => anchorInt
  | .float => 0

/-! ### Raw ledger export (R85, R86) -/

/-- The 17 payloads of one exported row of 64 lanes. -/
def exportRow (lane : Nat → LedgerLane) (anchor : Int) : List (BitVec 512) :=
  (List.range 16).map (fun j =>
    BitVec.ofNat 512 (leNat ((List.range 4).flatMap (fun i => leBytes 16 (lane (4 * j + i)).val.toNat))))
  ++ [BitVec.ofNat 512 (leNat (leBytes 24
        ((List.range 64).foldl (fun acc i => acc + 2 ^ (3 * i) * (lane i).flagBits) 0)
        ++ leBytes 2 (unsignedOf 16 anchor)))]

/-- Lane `i` of an exported row. -/
def importLane (ts : List Token) (i : Nat) : LedgerLane :=
  let v := match ts[i / 4]? with
    | some t => bitsOf t.payload.toNat (128 * (i % 4) + 127) (128 * (i % 4))
    | none => 0
  let f := match ts[16]? with | some t => bitsOf t.payload.toNat (3 * i + 2) (3 * i) | none => 0
  { val := BitVec.ofNat 128 v, nan := bitOf f 0, pinf := bitOf f 1, ninf := bitOf f 2 }

/-- The anchor in an exported row's trailer. -/
def importAnchor (ts : List Token) : Int :=
  match ts[16]? with | some t => signedOf 16 (bitsOf t.payload.toNat 207 192) | none => 0

/-- R86, R89: the ledgers plus the raw exports of the C tokens, row after row; false where a trailer's anchor differs. -/
def combineExports (c : ComputeCfg) (a : Int) (cts : List Token) (ls : Table LedgerLane) : Table LedgerLane × Bool :=
  ((chunksOf 17 (cts.length + 1) cts).zipIdx).foldl
    (fun (acc : Table LedgerLane × Bool) (rt : List Token × Nat) =>
      let row := rt.2 % c.rows
      let same := importAnchor rt.1 == a || c.family == .float
      if !same then (acc.1, false)
      else
        ((List.range c.cols).foldl (fun ls u =>
          let key := 64 * row + u
          let l := Table.getD ls key LedgerLane.clear
          let o := importLane rt.1 u
          Table.put ls key
            (match c.family with
             | .float => { l with val := (f32Add (l.val.setWidth 32) (o.val.setWidth 32)).setWidth 128 }
             | _ => l.combine o)) acc.1, acc.2))
    (ls, true)

/-! ### The vector program (R138 to R142) -/

/-- Tokens of one row of 64 values in a C format. -/
def rowTokens (f : Fmt) : Nat := if f.bits = 32 then 4 else 2

/-- R138, R281: a C row as 64 FP32 values; FP32 passes bit for bit. -/
def cRow (f : Fmt) (ts : List Token) : List Word :=
  let bs := ts.flatMap Token.bytes
  (List.range 64).map (fun i =>
    let n := leAt bs (i * (f.bits / 8)) (f.bits / 8)
    if f.bits = 32 then BitVec.ofNat 32 n else f32Of (f.decode n))

def zeroRow : List Word := List.replicate 64 0

/-- The registers a row starts with: v0, v1, and +0 in v2 to v7. -/
def startRegs (v0 v1 : List Word) : List (List Word) := [v0, v1] ++ List.replicate 6 zeroRow

structure VInstr where
  op : Nat
  dst : Nat
  a : Nat
  b : Nat
  c : Nat
  bConst : Bool
  deriving DecidableEq, Repr

/-- R142: the fields of a vector instruction. -/
def vInstr (w : Nat) : VInstr :=
  { op := bitsOf w 4 0, dst := bitsOf w 7 5, a := bitsOf w 10 8, b := bitsOf w 13 11, c := bitsOf w 16 14,
    bConst := bitOf w 17 }

/-- The operation code that executes: reserved codes execute as NOP. -/
def VInstr.code (i : VInstr) : Nat := if 12 < i.op then 0 else i.op

/-- R142: MASKAPPLY by the mask in raw bits of lanes 0 and 1 of source B. -/
def maskApply (a b : List Word) : List Word :=
  let m := (b.getD 0 0).toNat + 2 ^ 32 * (b.getD 1 0).toNat
  (a.zipIdx).map (fun x => if m.testBit x.2 then x.1 else 0xFF800000#32)

def zip2 (f : Word → Word → Word) (a b : List Word) : List Word := List.zipWith f a b

/-- R142: the value an instruction writes to its destination; none for NOP. `k` gives the constants. -/
def vecResult (i : VInstr) (k : Nat → Word) (regs : List (List Word)) : Option (List Word) :=
  let a := regs.getD i.a zeroRow
  let b := if i.bConst then List.replicate 64 (k i.b) else regs.getD i.b zeroRow
  let c := regs.getD i.c zeroRow
  match i.code with
  | 1 => some (zip2 f32Add a b)
  | 2 => some (zip2 f32Mul a b)
  | 3 => some (List.zipWith (fun ab z => f32Fma ab.1 ab.2 z) (a.zip b) c)
  | 4 => some (zip2 f32Max a b)
  | 5 => some (zip2 f32Min a b)
  | 6 => some (List.replicate 64 (rowMax a))
  | 7 => some (List.replicate 64 (rowSum a))
  | 8 => some (a.map vecExp)
  | 9 => some (a.map vecRecip)
  | 10 => some (a.map vecRsqrt)
  | 11 => some (maskApply a b)
  | 12 => some a
  | _ => none

/-- One instruction of a row's program. -/
def VecRow.exec (r : VecRow) (i : VInstr) (k : Nat → Word) : VecRow :=
  { r with pc := r.pc + 1
           regs := match vecResult i k r.regs with | some v => r.regs.set i.dst v | none => r.regs }

/-- R76, R77: the payloads of one output row in FMT_OUT. Elements are packed as R60 and R328 pack them along the row; an
MX row's two scale bytes follow in a token of their own (DESIGN CHOICE 9). -/
def rowPayloads (f : Fmt) (vs : List Fl) : List (BitVec 512) × OutFlags :=
  let pack := fun (bs : List Byte) =>
    (chunksOf 64 (bs.length + 1) bs).map (fun c => BitVec.ofNat 512 (leNat c))
  match f.family with
  | some .mx =>
    let (s0, e0, f0) := mxBlock f (vs.take 32)
    let (s1, e1, f1) := mxBlock f (vs.drop 32)
    let es := e0 ++ e1
    let bytes :=
      if f.bits = 4 then (chunksOf 2 (es.length + 1) es).map (fun x => BitVec.ofNat 8 (x.getD 0 0 + 16 * x.getD 1 0))
      else es.map (fun e => BitVec.ofNat 8 e)
    (pack bytes ++ pack [BitVec.ofNat 8 s0, BitVec.ofNat 8 s1], f0.or f1)
  | _ =>
    let bytes := vs.flatMap (fun v => leBytes (f.bits / 8) (floatOut f v))
    (pack bytes, (vs.map flagsOf).foldl OutFlags.or {})

/-! ### Memory cells (R147 to R157) -/

structure GenCfg where
  mode : Nat
  tagStep : Bool
  tagBase : Nat
  trigger : Nat
  scalarCh : Nat
  accFp32 : Bool
  boundOn : Bool
  boundSlot : Nat
  base : Nat
  counts : List Nat
  strides : List Int
  deriving DecidableEq, Repr

/-- R156: the configuration of generator `g` of a memory cell; a COUNT of 0 acts as 1, and a bound replaces the COUNT
of its dimension (R152, R288). -/
def StopCfg.gen (c : StopCfg) (bounds : List Nat) (site g : Nat) : GenCfg :=
  let w := fun i => c.cellWord site (1 + 6 * g + i)
  let bo := bitOf (w 0) 20
  let bd := bitsOf (w 0) 22 21
  let bs := bitsOf (w 0) 28 23
  { mode := bitsOf (w 0) 1 0
    tagStep := bitOf (w 0) 2
    tagBase := bitsOf (w 0) 14 3
    trigger := if bitsOf (w 0) 16 15 = 1 then 1 else 0
    scalarCh := bitsOf (w 0) 18 17
    accFp32 := bitOf (w 0) 19
    boundOn := bo
    boundSlot := bs
    base := bitsOf (w 1) 12 0
    counts := (List.range 4).map (fun i =>
      let n := if bo && bd == i then bounds.getD bs 0 else bitsOf (w (2 + i)) 15 0
      if n = 0 then 1 else n)
    strides := (List.range 4).map (fun i => signedOf 16 (bitsOf (w (2 + i)) 31 16)) }

/-- Accesses of one run: dimension 3 is not walked in index mode (R153). -/
def GenCfg.total (g : GenCfg) : Nat :=
  let n := g.counts.getD 0 1 * g.counts.getD 1 1 * g.counts.getD 2 1
  if g.mode = 2 then n else n * g.counts.getD 3 1

/-- R152: the token address, the packet number and END of position `pos` of a walk. -/
def GenCfg.at (g : GenCfg) (base pos : Nat) : Nat × Nat × Bool :=
  let c0 := g.counts.getD 0 1
  let c1 := g.counts.getD 1 1
  let c2 := g.counts.getD 2 1
  let i0 := pos % c0
  let i1 := pos / c0 % c1
  let i2 := pos / (c0 * c1) % c2
  let i3 := pos / (c0 * c1 * c2)
  let s := fun k => g.strides.getD k 0
  let a : Int := base + i0 * s 0 + i1 * s 1 + i2 * s 2 + i3 * s 3
  ((a % 8192).toNat, i3, i0 + 1 == c0 && i1 + 1 == c1 && i2 + 1 == c2)

/-- R319: the memory key of a token address of the memory cell at a site. -/
def t1Key (p site addr : Nat) : Nat := memKey 0 (p * 0x4000000 + recordIndex site * 0x80000 + addr * 64)

/-- R147: the bank of a token address. -/
def bankOf (addr : Nat) : Nat := addr % 16

/-- The bound values of the running step (R288). -/
def Partition.bounds (x : Partition) : List Nat := match x.running with | some s => s.bounds | none => []

/-- R155: a token added to the token in memory: four 128-bit integers, or sixteen FP32 words. -/
def accumulate (fp32 : Bool) (old new : BitVec 512) : BitVec 512 :=
  if fp32 then
    BitVec.ofNat 512 (leNat ((List.range 16).flatMap (fun i =>
      leBytes 4 (f32Add (BitVec.ofNat 32 (bitsOf old.toNat (32 * i + 31) (32 * i)))
        (BitVec.ofNat 32 (bitsOf new.toNat (32 * i + 31) (32 * i)))).toNat)))
  else
    BitVec.ofNat 512 (leNat ((List.range 4).flatMap (fun i =>
      leBytes 16 (bitsOf old.toNat (128 * i + 127) (128 * i) + bitsOf new.toNat (128 * i + 127) (128 * i)))))

/-- R149: the access a bank serves next: one that has waited 4 cycles first, then mover port, accumulate read, write,
network read, the lower generator first. -/
def nextAccess (bank : Nat) (accs : List Access) : Option Access :=
  let here := accs.filter (fun a => bankOf a.addr == bank)
  let old := here.filter (fun a => decide (4 ≤ a.age))
  minByKey (fun a => a.path * 8 + a.gen) (if old.isEmpty then here else old)

/-! ### Occupancy (R238) -/

def Cell.occupancy (c : Cell) : Nat :=
  c.ctxs.length + c.valve.openTags.length
    + (match c.conv with | some k => k.rows - k.nextRow | none => 0)
    + (match c.vec with | some _ => 1 | none => 0) + c.rowQueue.length
    + c.gens.length + (c.valve.toks.filter (fun t => t.stored)).length

/-- R238: tokens in buffers (those on a link or waiting in a cell for credit among them: DEDUCED 10), store entries,
contexts, rows, generator runs. -/
def Fabric.occupancy (f : Fabric) : Nat :=
  (f.bufs.foldl (fun n e => n + e.2.length) 0) + (f.wires.foldl (fun n e => n + e.2.length) 0)
    + (f.outs.foldl (fun n e => n + e.2.length) 0) + (f.cells.foldl (fun n e => n + e.2.occupancy) 0)

end Sys2Proof.Machine
end

