-- ==== Sys2Proof/Machine/Movers.lean ====
section
/-!
DEFINITION. Mover channels: descriptors and their checks, starting, halting, resuming, discarding, and LANDING_FENCE
(08_movers_and_checks). The copy itself, which may touch registers, stands in MoverRuns.
-/
namespace Sys2Proof.Machine

/-! ### Channels (R371 to R378) -/

def Device.setMover (d : Device) (c : Nat) (m : Mover) : Device := { d with movers := Table.put d.movers c m }
def Device.modMover (d : Device) (c : Nat) (f : Mover → Mover) : Device := d.setMover c (f (d.mover c))

/-- R423: channel `c` shows in MOV_HALTEDk. -/
def Device.setHalted (d : Device) (c : Nat) (b : Bool) : Device :=
  (d.modMover c (fun m => { m with halted := b })).setRegField (MOV_HALTED + 4 * (c / 32)) (c % 32) (c % 32) (bit b)

/-- The partition of a tile mover channel (R371). -/
def chanPart (c : Nat) : Option Nat := if c < 192 then some (c / 16) else none

/-- R377: the fields of a descriptor. -/
def Move.ofEntry (e : List Byte) : Move :=
  let flags := leAt e 1 1
  { tile := leAt e 0 1 == 0x20
    src := leAt e 8 8
    dst := leAt e 16 8
    len := leAt e 24 4
    conv := if bitOf flags 2 then some (leAt e 28 1 % 16, leAt e 28 1 / 16) else none
    cls := leAt e 29 1
    check := bitOf flags 0
    unit := leAt e 30 1
    poly := leAt e 31 1
    seq := leAt e 32 4
    expect := if bitOf flags 1 then some (leAt e 36 8) else none }

def allZero (l : List Byte) : Bool := l.all (fun b => b == 0)

/-- The format codes that a converting move may name (R391). -/
def convCode (n : Nat) : Bool := n == 6 || n == 7 || n == 8

/-- The rules of order 1 that a move and CHECK_RANGE share (R380, R414). -/
def checkFieldsOk (m : Move) : Bool :=
  decide (1 ≤ m.cls) && decide (m.cls ≤ 4) &&
    (if m.check then decide (m.poly ≤ 3) && (decide (m.unit ≤ 15) || m.unit == 255) else m.expect.isNone)

/-- Order 1 of R380. -/
def moveMalformed (e : List Byte) : Bool :=
  let m := Move.ofEntry e
  let c := leAt e 2 2
  !(allZero (sliceOf e 44 20)) || leAt e 1 1 / 8 != 0 ||
    !(if m.tile then decide (c ≤ 191) else decide (c ≤ 7) || c == 0xFFFF) ||
    !checkFieldsOk m || (!m.tile && m.conv.isSome) ||
    (match m.conv with
     | none => leAt e 28 1 != 0
     | some (s, t) => !(convCode s && convCode t && s != t))

/-- Orders 1 and 2 of R380, checked at validation; 0 where the command passes. CLASS 1 is for firmware. -/
def Device.checkMoveEntry (d : Device) (port : Option Port) (e : List Byte) : Nat :=
  let m := Move.ofEntry e
  if moveMalformed e then 0x0501
  else if (m.tile && !d.covers port (leAt e 2 2 / 16)) || (m.cls == 1 && port.isSome) then 0x0502
  else 0

/-- R906, R421: a LANDING_FENCE, MOV_RESUME or MOV_DISCARD entry at validation. -/
def Device.checkChannelEntry (d : Device) (port : Option Port) (e : List Byte) : Nat :=
  let c := leAt e 2 2
  if decide (199 < c) || leAt e 1 1 != 0 || !(allZero (sliceOf e 8 56)) then 0x0501
  else if c < 192 then (if d.covers port (c / 16) then 0 else 0x0502)
  else match port with
    | none => 0
    | some .mgmt => 0
    | some .jtag => 0
    | _ => 0x0502

/-! ### Checks before the first beat (R380) -/

/-- R392: destination bytes of a move. -/
def Move.dstLen (m : Move) : Nat :=
  let n := m.len * m.pieces
  match m.conv with
  | none => n
  | some (s, t) => n * (if t = 8 then 4 else 2) / (if s = 8 then 4 else 2)

/-- R333: whole 64 KiB pages where a range names T3. -/
def pageRule (a n : Nat) : Bool := !isT3 (addrSpace a) || (a % 65536 == 0 && n % 65536 == 0)

/-- The job on whose circuits a channel's transfer runs (R763). -/
def Device.chanJob (d : Device) (c : Nat) : Nat := match chanPart c with | some p => (d.part p).job | none => 0

/-- R784: the twin port is UP. -/
def Device.twinUp (d : Device) : Bool := d.regField (regKey PLV_PORT_STATUS 16) 31 29 == 6

/-- R763, R784: the device is the twin, and the twin port carries what goes to it. -/
def Device.isTwin (d : Device) (dev : Nat) : Bool := d.twinUp && d.regField PLV_TWIN_STATUS 6 0 == dev

/-- R763: a circuit of the job reaches the device, or it is the twin (R784). -/
def Device.reaches (d : Device) (job dev : Nat) : Bool :=
  d.isSelf dev || d.circuits.any (fun e => e.2.ends && e.2.job == job && e.2.far == dev) || d.isTwin dev

/-- R334, R335: in a domain of 17 or more members a transfer that names another device covers whole pages. -/
def Device.remoteRule (d : Device) (a b n : Nat) : Bool :=
  (d.isSelf (addrDevice a) && d.isSelf (addrDevice b)) || decide (d.memberCount ≤ 16) ||
    (a % 65536 == 0 && b % 65536 == 0 && n % 65536 == 0)

/-- Spaces that a channel's kind reaches (R371). -/
def moveSpace (tile : Bool) (a : Nat) : Bool := decide (addrSpace a ≤ (if tile then 3 else 6))

/-- Orders 4 to 11 of R380; 0 where the descriptor passes. -/
def Device.checkMove (d : Device) (chan : Nat) (who : Option Port) (m : Move) : Nat :=
  let dn := m.dstLen
  let job := d.chanJob chan
  if 0x40000000 < m.len then 0x0503
  else if !(d.mapped m.src m.len && d.mapped m.dst dn &&
      d.reaches job (addrDevice m.src) && d.reaches job (addrDevice m.dst)) then 0x0110
  else if !(moveSpace m.tile m.src && moveSpace m.tile m.dst) then 0x0504
  else if !(pageRule m.src m.len && pageRule m.dst dn) then 0x0A01
  else if !(d.remoteRule m.src m.dst m.len && d.remoteRule m.src m.dst dn) then 0x0A02
  else if (if m.tile then
        (match m.conv with
         | none => m.src % 64 != m.dst % 64
         | some _ => m.src % 64 != 0 || m.dst % 64 != 0 || m.len % 128 != 0)
      else (addrSpace m.src == 6 && (m.src % 4 != 0 || m.len % 4 != 0)) ||
        (addrSpace m.dst == 6 && (m.dst % 4 != 0 || dn % 4 != 0))) then 0x0505
  else if !(d.inWindow who m.src m.len false && d.inWindow who m.dst dn true) then 0x0506
  else if !(who.isNone && !m.tile) && d.isReadOnly m.dst dn then 0x0A03
  else if d.fullAddr m.src < d.fullAddr m.dst + dn && d.fullAddr m.dst < d.fullAddr m.src + m.len then 0x0507
  else 0

/-! ### Ends of work -/

/-- A Front entry of an image on a partition (R345, R346). -/
def Device.frontEntry (d : Device) (p image index : Nat) : FrontEntry :=
  ((d.part p).front.find? (fun e => e.image == image && e.index == index)).getD { image := image, index := index }
def Device.modFront (d : Device) (p image index : Nat) (f : FrontEntry → FrontEntry) : Device :=
  let e := f (d.frontEntry p image index)
  d.modPart p (fun x =>
    { x with front := x.front.filter (fun y => !(y.image == image && y.index == index)) ++ [e] })

/-- R350: a Front load that ends with a status other than 0x0000 faults its job. -/
def Device.frontEnd (d : Device) (p index chan status : Nat) : Device :=
  if status = 0 then d
  else
    let parity := status = 0x0A10 || status = 0x0A11
    d.jobFault (d.part p).job
      { status := status, kind := if parity then 1 else 5, part := p, unit := 9, location := chan, detail := index }

/-- Ends a piece of work with a status and a value (R379, R393). -/
def Device.endWork (d : Device) (chan : Nat) (w : Work) (status : Nat) (value : List Byte) : Device :=
  match w.owner with
  | .command c => d.complete { c with inst := chan } status value
  | .front p _ index => d.frontEnd p index chan status
  | .longOp _ => d

/-- Frees the check unit a channel holds (R413). -/
def Device.freeUnit (d : Device) (chan : Nat) : Device :=
  match (d.mover chan).unit with
  | none => d
  | some u =>
    { (d.modMover chan (fun m => { m with unit := none })) with
      checks := Table.modify d.checks u {} (fun x => { x with serves := none }) }

/-- The lowest-numbered free check unit, or the named one where it is free (R413). -/
def Device.takeUnit (d : Device) (u : Nat) : Option Nat :=
  let free := fun i => (Table.getD d.checks i {}).serves.isNone
  if u = 255 then (List.range 16).find? free else if free u then some u else none

/-- A channel's running descriptor leaves it. -/
def Device.popWork (d : Device) (chan : Nat) : Device :=
  (d.freeUnit chan).modMover chan (fun m => { m with queue := m.queue.drop 1, running := false, sent := none })

/-- R401: fences that cover a uid take a status that its halt or discard forces. -/
def Device.spoilFences (d : Device) (uid status : Nat) : Device :=
  { d with fences := d.fences.map (fun f => if f.bad = 0 && f.covers.contains uid then { f with bad := status } else f) }

/-! ### Accepting (R373, R378) -/

/-- TILE_MOVE and PAGE_MOVE: the next such command of the origin is accepted onto its channel, once it has room. -/
def Device.acceptMove (d : Device) (o : Origin) (opcode : Nat) : Device :=
  match d.startable o opcode with
  | none => d
  | some s =>
    match d.acceptor s.entry with
    | none => d
    | some c =>
      let who := match o with | .firmware => none | _ => some s.cmd.port
      (d.start s).modMover c (fun m =>
        { m with queue := m.queue ++ [{ uid := s.cmd.uid, owner := .command s.cmd, port := who,
                                        mv := Move.ofEntry s.entry }] })

/-- R372, R373: TILE_MOVE. -/
def fxTileMove (o : Origin) (d : Device) : Device := d.acceptMove o 0x20
/-- R372, R373, R378: PAGE_MOVE. -/
def fxPageMove (o : Origin) (d : Device) : Device := d.acceptMove o 0x21

/-! ### Starting (R372, R380, R413, R618) -/

/-- The buckets that a channel's transfer counts against have BALANCE above 0 (R618). -/
def Device.moveOpen (d : Device) (chan : Nat) (m : Move) : Bool :=
  match chanPart chan with | some p => d.sideOpen p m.src && d.sideOpen p m.dst | none => true

def Device.chargeMove (d : Device) (chan : Nat) (m : Move) : Device :=
  match chanPart chan with
  | some p => (d.chargeSide p m.src (m.len * m.pieces)).chargeSide p m.dst m.dstLen
  | none => d

/-- R763, R748: read requests of at most 2,048 bytes to another device; what they bring stands under the uid, from
offset `off` on. -/
def Device.requestRemote (d : Device) (uid chan job cls srcPart off a n : Nat) : Device :=
  if d.isSelf (addrDevice a) then d
  else
    let item := fun i : Nat =>
      ({ uid := uid, chan := chan, kind := 1, dest := addrDevice a, srcPart := srcPart, cls := cls, job := job,
         addr := a + 2048 * i, len := min 2048 (n - 2048 * i), arg := off + 2048 * i } : TxItem)
    { d with txq := d.txq ++ (List.range ((n + 2047) / 2048)).map item }

/-- What a read has so far: its bytes, a poisoned granule it met, or nothing yet. -/
inductive Got where
  | bytes (l : List Byte)
  | poison (granule : Nat)
  | waiting
  deriving DecidableEq, Repr

/-- A read of `n` bytes at a domain address: of this device's memory, or what another device has sent for it. -/
def Device.readAny (d : Device) (uid off a n : Nat) : Got :=
  if d.isSelf (addrDevice a) then
    match d.poisonIn (localKey a) n with
    | some g => .poison g
    | none => .bytes (d.readBytes (localKey a) n)
  else
    let mine := d.arrived.filter (fun e => e.1 == uid && decide (off ≤ e.2.1) && decide (e.2.1 < off + n))
    let bs := (sortBy (fun x y : Nat × Nat × List Byte => decide (x.2.1 < y.2.1)) mine).flatMap (·.2.2)
    if n ≤ bs.length then .bytes (bs.take n) else .waiting

/-- Forgets what has arrived for a read. -/
def Device.forget (d : Device) (uid : Nat) : Device := { d with arrived := d.arrived.filter (fun e => e.1 != uid) }

def Device.requestMove (d : Device) (chan : Nat) (w : Work) : Device :=
  d.requestRemote w.uid chan (d.chanJob chan) w.mv.cls ((chanPart chan).getD 15) 0 w.mv.src w.mv.len

/-- The head descriptor of an idle channel begins: a refused one ends at once, one of LENGTH 0 completes at once, one
that wants a busy check unit or whose bucket is empty waits. -/
def Device.startHead (d : Device) (chan : Nat) : Device :=
  let m := d.mover chan
  match m.queue with
  | [] => d
  | w :: _ =>
    if m.running || m.halted then d
    else if w.mv.len = 0 then (d.popWork chan).endWork chan w 0 []
    else if !d.moveOpen chan w.mv then d
    else
      let st := d.checkMove chan w.port w.mv
      if st ≠ 0 then
        ((d.popWork chan).bump MOV_DESC_FAULT_COUNT 1).endWork chan w st []
      else if w.mv.check then
        match d.takeUnit w.mv.unit with
        | none => d
        | some u =>
          let d := { d with checks := Table.modify d.checks u {} (fun x =>
                              { x with serves := some chan, chan := chan, poly := w.mv.poly }) }
          ((d.modMover chan (fun m => { m with running := true, unit := some u })).chargeMove chan w.mv).requestMove
            chan w
      else
        ((d.modMover chan (fun m => { m with running := true })).chargeMove chan w.mv).requestMove chan w

/-- R461: an uncorrectable queue-store word: latched, and a fault of the job whose carve holds it. -/
def Device.queueUe (d : Device) (p word : Nat) : Device :=
  let k := regKey QUE_UE_STATUS p
  let d := if d.regField k 31 31 = 1 then d else d.setReg k (2 ^ 31 + word % 65536)
  let q := Table.getD d.queues p {}
  if q.carved && decide (word < q.staging + q.lull + q.region) then
    d.jobFault (d.part p).job
      { status := 0x0410, kind := 2, part := p, unit := 2, detail := word, addr := selfAddr 4 (p * 0x400000 + 64 * word) }
  else d

/-- R460: corrected words of a partition's queue store are counted. -/
def Device.queueCe (d : Device) (p ce : Nat) : Device := d.bump64 (regKey QUE_CE_COUNT_LO p) ce

/-- What SECDED finds in a read of a local range of the queue store: corrected words, and an uncorrectable word of the
range (R460, R461); nothing for any other space. -/
def Device.secded (d : Device) (a ce : Nat) (ue : Option Nat) : Device :=
  if d.isSelf (addrDevice a) && addrSpace a == 4 then
    let p := partOf 4 (addrOffset a)
    let d := d.queueCe p ce
    match ue with | some w => d.queueUe p w | none => d
  else d

/-- The double-bit error lies in the range the read covers. -/
def Device.ueIn (d : Device) (a n : Nat) (ue : Option Nat) : Bool :=
  d.isSelf (addrDevice a) && addrSpace a == 4 &&
    (match ue with
     | some w =>
       let b := partOf 4 (addrOffset a) * 0x400000 + 64 * w
       decide (b < addrOffset a + n) && decide (addrOffset a < b + 64)
     | none => false)

/-- R372, R380: DESCRIPTOR_START on a channel; `ce` and `ue` are what SECDED finds where its source lies in the queue
store: an uncorrectable word ends the descriptor with QUE_UE. -/
def fxDescriptorStart (chan ce : Nat) (ue : Option Nat) (d : Device) : Device :=
  if 199 < chan then d
  else
    let d := d.startHead chan
    match (d.mover chan).queue with
    | w :: _ =>
      if (d.mover chan).running then
        if d.ueIn w.mv.src w.mv.len ue then
          ((d.secded w.mv.src ce ue).popWork chan).endWork chan w 0x0410 []
        else d.secded w.mv.src ce none
      else d
    | [] => d

/-! ### Halt, resume, discard (R404 to R408, R424) -/

/-- R404 to R406: a bus error of the running descriptor. `done` leading destination bytes were accepted; after a write
error the granules of `mask` beyond them (at most 32) hold the moved data too. `bytes` are the moved data. -/
def Device.busHalt (d : Device) (chan : Nat) (write : Bool) (addr cause done mask : Nat) (bytes : List Byte) : Device :=
  match (d.mover chan).queue with
  | [] => d
  | w :: _ =>
    let key := localKey w.mv.dst
    let dn := w.mv.dstLen
    let done := min done dn
    let extra := if write then
        (List.range 32).filterMap (fun i =>
          let g := (w.mv.dst + done) / 64 + i
          let lo := max (64 * g) (w.mv.dst + done)
          let hi := min (64 * g + 64) (w.mv.dst + dn)
          if bitOf mask i && decide (lo < hi) then some (lo - w.mv.dst, hi - lo) else none)
      else []
    let self := d.isSelf (addrDevice w.mv.dst) && addrSpace w.mv.dst != 6
    let d := if self then d.store key (bytes.take done) else d
    let d := if self then
        extra.foldl (fun d e => d.store (key + e.1) (sliceOf bytes e.1 e.2)) d else d
    let tag := match w.owner with | .command c => c.tag.toNat | _ => 0
    let d := ((((d.setReg (regKey MOV_ERR_ADDR_LO chan) addr).setReg (regKey MOV_ERR_ADDR_HI chan) (addr / 2 ^ 32)).setReg
      (regKey MOV_ERR_STATUS chan)
      (2 ^ 31 + 2 ^ 8 * bit write + 16 * addrSpace addr + cause % 16)).setReg (regKey MOV_ERR_DONE chan) done).setReg
      (regKey MOV_ERR_TAG chan) tag
    let d := (d.popWork chan).setHalted chan true
    (d.spoilFences w.uid 0x0512).endWork chan w 0x0510 (valueOf done)

/-- R407: the channel leaves its halt; MOV_ERR_STATUS.VALID clears. -/
def Device.unhalt (d : Device) (chan : Nat) : Device :=
  (d.setHalted chan false).setRegField (regKey MOV_ERR_STATUS chan) 31 31 0

/-- R407, R408: MOV_RESUME; nothing changes on a channel that is not halted. -/
def Device.movResume (d : Device) (chan : Nat) : Device := if (d.mover chan).halted then d.unhalt chan else d

/-- Every waiting descriptor of a channel completes with MOV_DISCARDED. -/
def Device.discardQueue (d : Device) (chan : Nat) : Device :=
  let ws := (d.mover chan).queue
  let d := (d.freeUnit chan).modMover chan (fun m => { m with queue := [], running := false, sent := none })
  ws.foldl (fun d w => (d.spoilFences w.uid 0x0511).endWork chan w 0x0511 []) d

/-- R407, R408: MOV_DISCARD; nothing changes on a channel that is not halted. -/
def Device.movDiscard (d : Device) (chan : Nat) : Device :=
  if (d.mover chan).halted then (d.unhalt chan).discardQueue chan else d

/-- MOV_RESUME (R407, R408). -/
def fxMovResume (o : Origin) (d : Device) : Device :=
  d.run o 0x22 (fun s d => (d.movResume s.aux).complete s.cmd 0 [])
/-- MOV_DISCARD (R407, R408). -/
def fxMovDiscard (o : Origin) (d : Device) : Device :=
  d.run o 0x23 (fun s d => (d.movDiscard s.aux).complete s.cmd 0 [])

/-- The channel that a port has selected (R423, R704). -/
def Device.movSel (d : Device) (port : Port) : Nat := bitsOf (d.portReg port MOV_SEL) 7 0

/-- The port may act on the channel: page movers are the steward's (R421), a tenant's channels those of its
partitions (R708). -/
def Device.mayMove (d : Device) (port : Port) (c : Nat) : Bool :=
  if c < 192 then d.covers (some port) (c / 16) else port == .mgmt || port == .pf || port == .jtag

/-- R423, R424: a write of MOV_CTRL: DISCARD wins over RESUME. -/
def Device.movCtrl (d : Device) (port : Port) (resume discard : Bool) : Device :=
  let c := d.movSel port
  if !d.mayMove port c then d
  else if discard then d.movDiscard c
  else if resume then d.movResume c
  else d

/-- A write of 1 to MOV_CTRL.RESUME (R407). -/
def fxMovCtrlResume (port : Port) (d : Device) : Device := d.movCtrl port true false
/-- A write of 1 to MOV_CTRL.DISCARD, with or without RESUME (R407, R424). -/
def fxMovCtrlDiscard (port : Port) (d : Device) : Device := d.movCtrl port false true

/-! ### LANDING_FENCE (R397 to R402) -/

/-- What a fence on a channel covers now: accepted work, ring traffic, writes on their way, and the commands of its own
session that wait in the control complex before it. -/
def Device.coverOf (d : Device) (chan : Nat) (before : Option CmdRef) : List Nat :=
  let m := d.mover chan
  let staged := match before with
    | none => []
    | some c => (d.staged.filter (fun s =>
        s.cmd.origin == c.origin && decide (s.cmd.uid < c.uid) && !s.started &&
          (s.cmd.opcode == 0x20 || s.cmd.opcode == 0x21) && moveChannel s.entry == some chan)).map (·.cmd.uid)
  m.queue.map (·.uid) ++ m.ringWork ++ (d.flight.filter (fun f => f.chan == chan)).map (·.uid) ++
    (d.txq.filter (fun t => t.chan == chan && t.kind == 0)).map (·.uid) ++ staged

/-- A fence on a channel. A halt that stands when it is accepted was made by work accepted before it, which it covers
(R397): it ends with MOV_HALTED (R401). -/
def Device.addFence (d : Device) (owner : FenceFor) (chan : Nat) (covers : List Nat) : Device :=
  let (u, d) := d.uid
  { d with fences := d.fences ++ [{ id := u, owner := owner, chan := chan, covers := covers,
                                      bad := if (d.mover chan).halted then 0x0512 else 0 }] }

/-- LANDING_FENCE: one that covers nothing, a standing halt's maker included, completes at once (R398). -/
def fxLandingFence (o : Origin) (d : Device) : Device :=
  d.run o 0x02 (fun s d =>
    let c := { s.cmd with inst := s.aux % 256 }
    let cover := d.coverOf s.aux (some c)
    if cover.isEmpty && !(d.mover s.aux).halted then d.complete c 0 [] else d.addFence (.command c) s.aux cover)

/-- The status a fence completes with now; none while it waits (R398, R401). -/
def Device.fenceStatus (d : Device) (f : Fence) : Option Nat :=
  let m := d.mover f.chan
  let flying := d.flight.any (fun x => f.covers.contains x.uid) ||
    d.txq.any (fun t => t.kind == 0 && f.covers.contains t.uid)
  let waiting := m.queue.any (fun w => f.covers.contains w.uid) || m.ringWork.any f.covers.contains ||
    d.staged.any (fun s => f.covers.contains s.cmd.uid && !s.started)
  let runs := m.running && (match m.queue with | w :: _ => f.covers.contains w.uid | [] => false)
  if flying || runs then none
  else if f.bad ≠ 0 then some f.bad
  else if !waiting then some 0
  else if m.halted then some 0x0512
  else none

end Sys2Proof.Machine
end

