-- ==== Sys2Proof/Machine/CheckUnits.lean ====
section
/-!
DEFINITION. CHECK_RANGE on the check units and DIGEST on the digest engines (R409 to R420, R425).
-/
namespace Sys2Proof.Machine

/-! ### Check units -/

/-- R412, R419: the check interrupt, under both of its enables. -/
def Device.checkIrq (d : Device) (bitNo : Nat) : Device :=
  let d := d.raise CHK_IRQ_STATUS bitNo
  let irq := d.portReg .pf HUB_FN_IRQ
  if bitOf (d.reg CHK_IRQ_ENABLE) bitNo && bitOf irq 30 then d.msix 0 (bitsOf irq 26 16) else d

/-- R410, R411: the result of a check over bytes, at the check address. -/
def Device.checkResult (d : Device) (m : Move) (addr : Nat) (bs : List Byte) : Nat :=
  let k := CrcKind.ofCode m.poly
  k.run (crcSeed k (d.fullAddr addr) m.seq) bs

/-- R412: a result against CHK_EXPECT, in the width's low bits; the status, and what a mismatch does. -/
def Device.compareCheck (d : Device) (u : Nat) (m : Move) (r : Nat) : Nat × Device :=
  let d := { d with checks := Table.modify d.checks u {} (fun x => { x with last := r }) }
  match m.expect with
  | none => (0, d)
  | some e =>
    if e % 2 ^ (CrcKind.ofCode m.poly).width = r then (0, d)
    else (0x0601, (d.bump CHK_MISMATCH_COUNT 1).checkIrq u)

/-- R414: a CHECK_RANGE entry at validation: orders 1 and 2 of R380, CHK_MALFORMED in place of MOV_MALFORMED. -/
def checkRangeEntry (port : Option Port) (e : List Byte) : Nat :=
  let m := Move.ofEntry e
  if !(allZero (sliceOf e 44 20)) || leAt e 1 1 / 4 != 0 || leAt e 2 2 != 0 || m.dst != 0 || leAt e 28 1 != 0 ||
      !m.check || !checkFieldsOk m then 0x0602
  else if m.cls == 1 && port.isSome then 0x0502
  else 0

/-- Orders 4 to 9 of R380 for the source of CHECK_RANGE. -/
def Device.checkRangeSource (d : Device) (who : Option Port) (m : Move) : Nat :=
  if 0x40000000 < m.len then 0x0503
  else if !(d.mapped m.src m.len && d.reaches 0 (addrDevice m.src)) then 0x0110
  else if 4 < addrSpace m.src then 0x0504
  else if !pageRule m.src m.len then 0x0A01
  else if !d.remoteRule m.src m.src m.len then 0x0A02
  else if !d.inWindow who m.src m.len false then 0x0506
  else 0

/-- CHECK_RANGE: refused, or completed at once for LENGTH 0, or started on its unit once that is free (R413, R414).
`ce` and `ue` are what SECDED finds in a source in the queue store. -/
def fxCheckRange (o : Origin) (ce : Nat) (ue : Option Nat) (d : Device) : Device :=
  match d.startable o 0x60 with
  | none => d
  | some s =>
    let m := Move.ofEntry s.entry
    let who := match o with | .firmware => none | _ => some s.cmd.port
    if m.len = 0 then d.complete s.cmd 0 []
    else
      let st := d.checkRangeSource who m
      if st ≠ 0 then d.complete s.cmd st []
      else if d.ueIn m.src m.len ue then (d.secded m.src ce ue).complete s.cmd 0x0410 []
      else match d.takeUnit m.unit with
        | none => d
        | some u =>
          let c := { s.cmd with inst := u }
          let d := (d.start s).secded m.src ce none
          { d with checks := Table.modify d.checks u {} (fun x =>
                     { x with serves := some 255, run := some { cmd := c, mv := m }, chan := 255, poly := m.poly })
          }.requestRemote s.cmd.uid 255 0 m.cls 15 0 m.src m.len

/-- Ends a unit's CHECK_RANGE. -/
def Device.endCheck (d : Device) (u : Nat) (r : CheckRun) (status : Nat) (value : List Byte) : Device :=
  let d := { d with checks := Table.modify d.checks u {} (fun x => { x with serves := none, run := none }) }
  (d.forget r.cmd.uid).complete r.cmd status value

/-- CHECK_RANGE_COMPLETE: the CRC over the range, compared where COMPARE is 1 (R411, R412, R414); a poisoned granule
ends it with the parity status (R903). -/
def fxCheckRangeComplete (u : Nat) (d : Device) : Device :=
  match (Table.getD d.checks u {}).run with
  | none => d
  | some r =>
    match d.readAny r.cmd.uid 0 r.mv.src r.mv.len with
    | .waiting => d
    | .poison g => (d.poisonRead g).endCheck u r (parityStatus g) []
    | .bytes bs =>
      let v := d.checkResult r.mv r.mv.src bs
      let (st, d) := d.compareCheck u r.mv v
      d.endCheck u r st (valueOf v)

/-! ### Digest engines -/

/-- The operands of DIGEST (R415). -/
def DigestRun.ofEntry (c : CmdRef) (e : List Byte) : DigestRun :=
  { cmd := c, src := leAt e 8 8, len := leAt e 16 4, mode := leAt e 20 1, ctx := leAt e 24 8, result := leAt e 32 8,
    expect := leAt e 40 8 }

/-- CTX is used by every mode but ONE; RESULT and EXPECT by ONE and FINISH (R416). -/
def DigestRun.usesCtx (r : DigestRun) : Bool := r.mode != 0
def DigestRun.ends (r : DigestRun) : Bool := r.mode == 0 || r.mode == 3
def DigestRun.usesResult (r : DigestRun) : Bool := r.ends && r.result != 0
def DigestRun.usesExpect (r : DigestRun) : Bool := r.ends && r.expect != 0

/-- R415, R416: the form of a DIGEST entry. -/
def digestMalformed (e : List Byte) : Bool :=
  let r := DigestRun.ofEntry ⟨.firmware, .mgmt, 0, 0, 0, 0, 0, false⟩ e
  let eng := leAt e 21 1
  leAt e 1 1 != 0 || leAt e 2 2 != 0 || leAt e 22 2 != 0 || !(allZero (sliceOf e 48 16)) ||
    decide (3 < r.mode) || !(decide (eng ≤ 3) || eng == 255) || decide (0x40000000 < r.len) ||
    ((r.mode == 1 || r.mode == 2) && r.len % 64 != 0) || decide (3 < addrSpace r.src) ||
    (r.usesCtx && (r.ctx == 0 || r.ctx % 64 != 0 || decide (3 < addrSpace r.ctx))) ||
    (r.usesResult && (r.result % 32 != 0 || decide (3 < addrSpace r.result))) ||
    (r.usesExpect && (r.expect % 32 != 0 || decide (3 < addrSpace r.expect)))

/-- R416: the addresses a DIGEST uses: mapped (order 5), then in a window (order 9). -/
def Device.digestAddresses (d : Device) (who : Option Port) (r : DigestRun) : Nat :=
  let uses := [(r.src, r.len, false)] ++ (if r.usesCtx then [(r.ctx, 64, r.mode != 1), (r.ctx, 64, true)] else []) ++
    (if r.usesResult then [(r.result, 32, true)] else []) ++ (if r.usesExpect then [(r.expect, 32, false)] else [])
  if !uses.all (fun u => d.mapped u.1 u.2.1 && d.reaches 0 (addrDevice u.1)) then 0x0110
  else if !uses.all (fun u => d.inWindow who u.1 u.2.1 u.2.2) then 0x0506
  else if uses.any (fun u => u.2.2 && d.isReadOnly u.1 u.2.1) then 0x0A03
  else 0

/-- Offsets under a DIGEST's uid at which its context and its expected digest arrive from another device. -/
def ctxOff : Nat := 2 ^ 32
def expectOff : Nat := 2 ^ 33

/-- DIGEST: refused, or started on its engine once that is free (R415, R416, R420). -/
def fxDigest (o : Origin) (ce : Nat) (ue : Option Nat) (d : Device) : Device :=
  match d.startable o 0x68 with
  | none => d
  | some s =>
    let r := DigestRun.ofEntry s.cmd s.entry
    let who := match o with | .firmware => none | _ => some s.cmd.port
    if digestMalformed s.entry then d.complete s.cmd 0x0611 []
    else
      let st := d.digestAddresses who r
      if st ≠ 0 then d.complete s.cmd st []
      else if d.ueIn r.src r.len ue then (d.secded r.src ce ue).complete s.cmd 0x0410 []
      else
        let free := fun i => (Table.find? d.digests i).isNone
        let eng := leAt s.entry 21 1
        match (if eng = 255 then (List.range 4).find? free else if free eng then some eng else none) with
        | none => d
        | some e =>
          let r := { r with cmd := { s.cmd with inst := 16 + e } }
          let d := { (d.start s) with digests := Table.put d.digests e r }
          let d := d.requestRemote s.cmd.uid 255 0 4 15 0 r.src r.len
          let d := if r.mode = 2 || r.mode = 3 then d.requestRemote s.cmd.uid 255 0 4 15 ctxOff r.ctx 64 else d
          if r.usesExpect then d.requestRemote s.cmd.uid 255 0 4 15 expectOff r.expect 32 else d

def Device.endDigest (d : Device) (e : Nat) (r : DigestRun) (status : Nat) (value : List Byte) : Device :=
  ({ d with digests := Table.drop d.digests e }.forget r.cmd.uid).complete r.cmd status value

/-- A write of an engine to a domain address: memory of this device, or a packet to another (R763). -/
def Device.writeAny (d : Device) (uid chan job cls srcPart a : Nat) (bs : List Byte) : Device :=
  if d.isSelf (addrDevice a) then d.store (localKey a) bs
  else
    let item := fun i : Nat =>
      ({ uid := uid, chan := chan, kind := 0, dest := addrDevice a, srcPart := srcPart, cls := cls, job := job,
         addr := a + 2048 * i, len := (sliceOf bs (2048 * i) 2048).length, body := sliceOf bs (2048 * i) 2048,
         arg := 2048 * i } : TxItem)
    { d with txq := d.txq ++ (List.range ((bs.length + 2047) / 2048)).map item }

/-- R417: the bytes of a context. -/
def digestContext (h : List Word) (count state : Nat) : List Byte :=
  padTo 64 (h.flatMap (fun w => leBytes 4 w.toNat) ++ leBytes 8 count ++ [BitVec.ofNat 8 state])

/-- R417: working words and count of a context. -/
def contextWords (bs : List Byte) : List Word := (chunksOf 4 8 (bs.take 32)).map (fun b => BitVec.ofNat 32 (leNat b))

/-- The end of a DIGEST whose source bytes are `bs`, its context `ctx` and its expected digest `want` (R416 to R419). -/
def Device.finishDigest (d : Device) (e : Nat) (r : DigestRun) (bs ctx want : List Byte) : Device :=
  if (r.mode = 2 || r.mode = 3) && leAt ctx 40 1 != 1 then d.endDigest e r 0x0612 []
  else
    let h := if r.mode = 2 || r.mode = 3 then contextWords ctx else shaInit
    let total := (if r.mode = 2 || r.mode = 3 then leAt ctx 32 8 else 0) + r.len
    let d := d.bump64 DIG_BYTES_LO r.len
    let u := r.cmd.uid
    if r.ends then
      let hf := shaBlocks h (shaPad total bs)
      let dg := hf.flatMap (fun w => beBytes 4 w.toNat)
      let d := if r.mode = 3 then d.writeAny u 255 0 4 15 r.ctx (digestContext hf total 2) else d
      let d := if r.usesResult then d.writeAny u 255 0 4 15 r.result dg else d
      if r.usesExpect && dg != want then
        ((d.bump DIG_MISMATCH_COUNT 1).checkIrq (16 + e)).endDigest e r 0x0610 (dg.take 8)
      else d.endDigest e r 0 (dg.take 8)
    else
      let h := shaBlocks h bs
      (d.writeAny u 255 0 4 15 r.ctx (digestContext h total 1)).endDigest e r 0 []

/-- What a read of an optional operand has: nothing is read where it is not used. -/
def Device.readUsed (d : Device) (used : Bool) (uid off a n : Nat) : Got :=
  if used then d.readAny uid off a n else .bytes []

/-- DIGEST_COMPLETE on an engine (R417 to R420, R903). -/
def fxDigestComplete (e : Nat) (d : Device) : Device :=
  match Table.find? d.digests e with
  | none => d
  | some r =>
    let u := r.cmd.uid
    match d.readUsed (r.mode == 2 || r.mode == 3) u ctxOff r.ctx 64 with
    | .waiting => d
    | .poison g => (d.poisonRead g).endDigest e r (parityStatus g) []
    | .bytes ctx =>
      match d.readAny u 0 r.src r.len with
      | .waiting => d
      | .poison g => (d.poisonRead g).endDigest e r (parityStatus g) []
      | .bytes bs =>
        match d.readUsed r.usesExpect u expectOff r.expect 32 with
        | .waiting => d
        | .poison g => (d.poisonRead g).endDigest e r (parityStatus g) []
        | .bytes want => d.finishDigest e r bs ctx want

end Sys2Proof.Machine
end

