-- ==== Sys2Proof/Machine/Queues.lean ====
section
/-!
DEFINITION. The queue unit (09_queue_unit): packets, sequence numbers, drops and gap markers, reading, the queue ports of
the fabric, the queue commands.
-/
namespace Sys2Proof.Machine

/-! ### Access -/

def Device.qpart (d : Device) (p : Nat) : QueuePart := Table.getD d.queues p {}
def Device.setQpart (d : Device) (p : Nat) (x : QueuePart) : Device := { d with queues := Table.put d.queues p x }
def Device.modQpart (d : Device) (p : Nat) (f : QueuePart → QueuePart) : Device := d.setQpart p (f (d.qpart p))
def Device.queue? (d : Device) (p q : Nat) : Option Queue := Table.find? (d.qpart p).queues q
def Device.setQueue (d : Device) (p q : Nat) (x : Queue) : Device :=
  d.modQpart p (fun u => { u with queues := Table.put u.queues q x })

/-- The instance that a per-queue register stands under (R469). -/
def queInst (p q : Nat) : Nat := p * 256 + q

/-- A per-queue counter plus one. -/
def Device.queBump (d : Device) (p q off k : Nat) : Device := d.bump (regKey off (queInst p q)) k

/-! ### Words in use (R431, R449, R469) -/

def wordsOf (ps : List Packet) : Nat := ps.foldl (fun n x => n + x.words.length) 0

/-- Words that packets occupy: stored, arriving, held, and the rest of a session's current packet. -/
def Queue.packetWords (q : Queue) : Nat :=
  wordsOf q.packets + wordsOf q.partials + wordsOf q.held +
    (match q.current with | some (_, x) => x.words.length | none => 0)

/-- QUE_STATUS.USED. -/
def Queue.used (q : Queue) : Nat := q.packetWords + bit q.marker.isSome + bit q.markerHeld.isSome

/-! ### Markers (R446, R447) -/

/-- R447: the bytes of a gap marker word. -/
def Marker.bytes (m : Marker) (queue : Nat) : List Byte :=
  padTo 64 (leBytes 2 m.producer ++ leBytes 2 queue ++ leBytes 4 m.seq ++ leBytes 2 m.lastProducer ++ leBytes 2 0 ++
    leBytes 4 m.lastSeq ++ leBytes 4 m.count ++ leBytes 4 m.words ++ leBytes 1 m.level ++ leBytes 1 m.reasons ++
    leBytes 1 (bit m.mixed) ++ leBytes 1 0 ++ leBytes 4 m.no)

/-- A marker formed from one drop. -/
def Queue.formMarker (q : Queue) (x : PendingDrop) (count : Nat) : Queue :=
  { q with
    marker := some { producer := x.producer, seq := x.seq, lastProducer := x.producer, lastSeq := x.seq,
                     count := count, words := x.words, level := x.level, reasons := x.reasons, mixed := false,
                     no := (q.markerNo + 1) % 2 ^ 32, order := q.nextOrder }
    markerNo := (q.markerNo + 1) % 2 ^ 32
    nextOrder := q.nextOrder + 1 }

/-- A further drop joins a marker, which keeps its level and its place. -/
def Marker.merge (m : Marker) (x : PendingDrop) : Marker :=
  { m with lastProducer := x.producer, lastSeq := x.seq, count := m.count + 1, words := m.words + x.words,
           reasons := m.reasons ||| x.reasons, mixed := m.mixed || x.producer != m.producer }

/-- R446: what a drop does to the queue's marker; whether one was formed. -/
def Queue.noteDrop (q : Queue) (x : PendingDrop) : Queue × Bool :=
  if q.markerHeld.isSome then ({ q with pending := q.pending ++ [x] }, false)
  else match q.marker with
    | some m => ({ q with marker := some (m.merge x) }, false)
    | none => (q.formMarker x 1, true)

/-- A later word of a dropped packet counts among the words of its record. -/
def Queue.noteWord (q : Queue) : Queue :=
  if q.markerHeld.isSome then
    { q with pending := match q.pending.reverse with
                        | x :: r => (({ x with words := x.words + 1 } : PendingDrop) :: r).reverse
                        | [] => [] }
  else { q with marker := q.marker.map (fun m => { m with words := m.words + 1 }) }

/-- The reasons of a drop (R447). -/
def dropFull : Nat := 1
def dropProducerOver : Nat := 2
def dropOverlong : Nat := 4

/-- R444: a drop: counted, noted in a marker, the words written so far reclaimed. -/
def Device.dropPacket (d : Device) (p q : Nat) (x : Queue) (producer seq level words reasons : Nat) : Device :=
  let x := { x with partials := x.partials.filter (fun y => y.producer != producer) }
  let (x, formed) := x.noteDrop { producer := producer, seq := seq, level := level, words := words, reasons := reasons }
  let d := (d.setQueue p q x).queBump p q QUE_DROP_COUNT 1
  if formed then d.queBump p q QUE_MARKER_COUNT 1 else d

/-! ### Sequence numbers (R434 to R439) -/

/-- R434. -/
def seqAbove (s n : Nat) : Bool :=
  let k := (s + 2 ^ 32 - n % 2 ^ 32) % 2 ^ 32
  decide (1 ≤ k) && decide (k ≤ 2 ^ 31 - 1)

def Queue.producer? (q : Queue) (id : Nat) : Option Producer := q.producers.find? (fun r => r.id == id)

def Queue.setProducer (q : Queue) (r : Producer) : Queue :=
  if (q.producer? r.id).isSome then { q with producers := q.producers.map (fun x => if x.id = r.id then r else x) }
  else { q with producers := q.producers ++ [r] }

/-- What becomes of a packet when its first word arrives. -/
inductive Verdict where
  | accepted (seq : Nat)
  | duplicate
  | tooMany (seq : Nat)
  deriving DecidableEq, Repr

/-- R436 to R438: the check of a packet's first word. A fabric push port's packet (`seq` none) takes NEXT_SEQ. -/
def Queue.verdict (q : Queue) (id : Nat) (seq : Option Nat) : Verdict × Queue :=
  match q.producer? id with
  | none =>
    let s := seq.getD 1
    if 128 ≤ q.producers.length then (.tooMany s, q)
    else (.accepted s, q.setProducer { id := id, lastSeq := s, nextSeq := if seq.isNone then 2 else 1 })
  | some r =>
    let s := seq.getD r.nextSeq
    let r := if seq.isNone then { r with nextSeq := (r.nextSeq + 1) % 2 ^ 32 } else r
    if seqAbove s r.lastSeq then (.accepted s, q.setProducer { r with lastSeq := s })
    else (.duplicate, q.setProducer r)

/-! ### Writing words (R440, R444) -/

/-- One word of a packet of a producer reaches a queue: `seq` is given where the producer stamps it. -/
def Device.queueWord (d : Device) (p q id level : Nat) (seq : Option Nat) (bytes : List Byte) (fin : Bool) : Device :=
  match d.queue? p q with
  | none => d
  | some x =>
    match x.discarding.find? (fun e => e.1 == id) with
    | some (_, dup) =>
      let x := if dup then x else x.noteWord
      d.setQueue p q (if fin then { x with discarding := x.discarding.filter (fun e => e.1 != id) } else x)
    | none =>
      let store := fun (d : Device) (x : Queue) (y : Packet) (rest : List Packet) =>
        if x.maxPacket < y.words.length + 1 then
          (d.dropPacket p q (if fin then x else { x with discarding := x.discarding ++ [(id, false)] })
            id y.seq y.level (y.words.length + 1) dropOverlong)
        else if x.capacity - 1 < x.packetWords + 1 then
          (d.dropPacket p q (if fin then x else { x with discarding := x.discarding ++ [(id, false)] })
            id y.seq y.level (y.words.length + 1) dropFull)
        else
          let y := { y with words := y.words ++ [padTo 64 bytes] }
          if fin then
            (d.setQueue p q { x with partials := rest, packets := x.packets ++ [y] }).bump64
              (regKey QUE_STORED_LO (queInst p q)) 1
          else d.setQueue p q { x with partials := rest ++ [y] }
      match x.partials.find? (fun y => y.producer == id) with
      | some y => store d x y (x.partials.filter (fun y => y.producer != id))
      | none =>
        match x.verdict id seq with
        | (.duplicate, x) =>
          (d.setQueue p q (if fin then x else { x with discarding := x.discarding ++ [(id, true)] })).queBump p q
            QUE_DUP_COUNT 1
        | (.tooMany s, x) =>
          d.dropPacket p q (if fin then x else { x with discarding := x.discarding ++ [(id, false)] }) id s level 1
            dropProducerOver
        | (.accepted s, x) => store d x { producer := id, seq := s, level := level, words := [] } x.partials

/-- A whole packet pushed by one producer, word by word. -/
def Device.pushPacket (d : Device) (p q id level : Nat) (seq : Option Nat) : List (List Byte) → Device
  | [] => d
  | [w] => d.queueWord p q id level seq w true
  | w :: ws => (d.queueWord p q id level seq w false).pushPacket p q id level seq ws

/-- What a pushed packet met: 0 stored, 1 dropped, 2 duplicate (R462), judged before it is pushed. -/
def Device.pushVerdict (d : Device) (p q id : Nat) (seq : Option Nat) (n : Nat) : Nat :=
  match d.queue? p q with
  | none => 1
  | some x =>
    match (x.verdict id seq).1 with
    | .duplicate => 2
    | .tooMany _ => 1
    | .accepted _ => if x.maxPacket < n || x.capacity - 1 < x.packetWords + n then 1 else 0

/-! ### Events and notices (R443, R734) -/

/-- An event's count (R735). -/
def Device.eventCount (d : Device) (e : Nat) : Nat := d.reg (regKey HUB_EVT_COUNT e)
def Device.addEvent (d : Device) (e n : Nat) : Device := d.setReg (regKey HUB_EVT_COUNT e) (d.eventCount e + n)

/-- R443: a notice of a queue. Waking a Drone changes no state of its own: the Drone finds its work in its queue. -/
def Device.notice (d : Device) (p : Nat) (x : Queue) : Device :=
  match x.notify with
  | 1 => d.addEvent x.notifyArg 1
  | 3 => if d.owner p ≤ 63 then d.msix (d.owner p) x.notifyArg else d
  | _ => d

/-- PACKET_VISIBLE: the first packet of a queue whose END word is written, or its marker, becomes visible (R440, R441,
R446); a packet takes its arrival order and raises its notice. -/
def fxPacketVisible (p q : Nat) (marker : Bool) (d : Device) : Device :=
  match d.queue? p q with
  | none => d
  | some x =>
    if marker then
      d.setQueue p q { x with marker := x.marker.map (fun m => { m with visible := true }) }
    else
      match indexWhere (fun y : Packet => !y.visible) 0 x.packets with
      | none => d
      | some i =>
        let ps := x.packets.mapIdx (fun j y => if j = i then { y with visible := true, order := x.nextOrder } else y)
        (d.setQueue p q { x with packets := ps, nextOrder := x.nextOrder + 1 }).notice p x

/-! ### Choosing what a reader gets (R448) -/

/-- What a reader takes next. -/
inductive Item where
  | packet (i : Nat) (x : Packet)
  | marker (m : Marker)
  deriving DecidableEq, Repr

/-- Level order, level 0 first; within a level arrival order. -/
def orderKey (level order : Nat) : Nat := level * 2 ^ 64 + order

/-- The next item in reading order. -/
def Queue.nextItem (q : Queue) : Option Item :=
  let ps := q.packets.mapIdx (fun i x => (i, x))
  let best := minByKey (fun e : Nat × Packet => orderKey e.2.level e.2.order) (ps.filter (fun e => e.2.visible))
  let mk := match q.marker with | some m => if m.visible then some m else none | none => none
  match best, mk with
  | none, none => none
  | some e, none => some (.packet e.1 e.2)
  | none, some m => some (.marker m)
  | some e, some m =>
    if orderKey m.level m.order < orderKey e.2.level e.2.order then some (.marker m) else some (.packet e.1 e.2)

/-- A marker as an item of a reading list. -/
def Marker.packet (m : Marker) (queue : Nat) : Packet :=
  { producer := m.producer, seq := m.seq, level := m.level, words := [m.bytes queue], marker := true, order := m.order,
    visible := true }

/-! ### The push ports (R438, R442, R455) -/

/-- Tile port configuration word 0 of a column (R455). -/
def Partition.tileWord (x : Partition) (col : Nat) : Nat := x.stop.cellWord col 0

/-- The queue that a binding entry of the active stop names (R226). -/
def Partition.bindingQueue (x : Partition) (i : Nat) : Option Binding := x.stop.bindings[i]?

/-- R433: the producer ID of a fabric push port. -/
def Device.pushProducer (d : Device) (p col : Nat) : Nat := 192 * d.index + 16 * p + col

/-- PUSH_TOKEN_ARRIVAL: a token at tile port `col`'s vector local channel 2 enters the push port (R442, R455). -/
def fxPushTokenArrival (p col : Nat) (d : Device) : Device :=
  let x := d.part p
  let w := x.tileWord col
  let c : Chan := ⟨col, 5, false, 2⟩
  if p < 12 && col < 16 && bitOf w 6 && !x.fabric.halted then
    match x.fabric.buf c, x.bindingQueue (bitsOf w 13 8) with
    | t :: rest, some b =>
      let d := d.modFab p (fun f => (f.setBuf c rest).freeEntry c)
      d.modQpart p (fun u => { u with incoming := u.incoming ++
        [{ queue := b.queue, producer := d.pushProducer p col, level := bitsOf w 22 20, bytes := t.bytes, fin := t.fin }] })
    | _, _ => d
  else d

/-- QUEUE_WORD_WRITE: the first word on its way into the partition's queues is written (R436, R440, R444). -/
def fxQueueWordWrite (p : Nat) (d : Device) : Device :=
  let u := d.qpart p
  match u.incoming with
  | [] => d
  | w :: rest =>
    let d := d.setQpart p { u with incoming := rest }
    d.queueWord p w.queue w.producer w.level none w.bytes w.fin

/-! ### The pop ports (R449 to R457) -/

/-- R439, R456: at a step's issue every bound queue's NEXT_SEQ of push bindings is noted, and every pop port starts:
`count` gives the reads of a column. -/
def Device.queuesIssue (d : Device) (p : Nat) (count : Nat → Nat) : Device :=
  let x := d.part p
  let cols := (List.range 16).filter (fun c => x.stop.enabled c)
  let pops := cols.filterMap (fun c =>
    let w := x.tileWord c
    if bitOf w 7 then
      (x.bindingQueue (bitsOf w 19 14)).map (fun b =>
        ({ col := c, queue := b.queue, reads := count (bitsOf w 29 24), tagStep := bitOf w 23 } : PopRun))
    else none)
  let pushes := cols.filterMap (fun c =>
    let w := x.tileWord c
    if bitOf w 6 then (x.bindingQueue (bitsOf w 13 8)).map (fun b => (b.queue, d.pushProducer p c)) else none)
  d.modQpart p (fun u =>
    { u with
      pops := pops
      queues := Table.mapVals u.queues (fun q y =>
        { y with snapshot := (pushes.filter (fun e => e.1 == q)).map (fun e =>
                   (e.2, ((y.producer? e.2).map (·.nextSeq)).getD 1))
                 readList := [], replayList := [] }) })

/-- R449, R446: a step's commit releases what it held; its pending drops form a marker. -/
def Queue.commit (q : Queue) : Queue × Bool :=
  let q := { q with held := [], readList := [], replayList := [], markerHeld := none, snapshot := [] }
  match q.pending with
  | [] => (q, false)
  | x :: rest =>
    let q := { q with pending := [] }.formMarker x 1
    ({ q with marker := q.marker.map (fun m => rest.foldl Marker.merge m) }, true)

def Device.queuesCommit (d : Device) (p : Nat) : Device :=
  let u := d.qpart p
  let d := d.setQpart p { u with pops := [], queues := Table.mapVals u.queues (fun _ x => x.commit.1) }
  u.queues.foldl (fun d e => if e.2.commit.2 then d.queBump p e.1 QUE_MARKER_COUNT 1 else d) d

/-- R439, R450: a replay sets NEXT_SEQ back and delivers the reading list again first. The pop ports start over. -/
def Device.queuesReplay (d : Device) (p : Nat) : Device :=
  d.modQpart p (fun u =>
    { u with
      pops := u.pops.map (fun r => { r with done := 0, current := none, sent := 0, skip := false })
      incoming := []
      queues := Table.mapVals u.queues (fun _ x =>
        { x with replayList := x.readList, readList := [], partials := [], discarding := []
                 producers := x.producers.map (fun r =>
                   match x.snapshot.find? (fun e => e.1 == r.id) with
                   | some e => { r with nextSeq := e.2 }
                   | none => r) }) })

def QueuePart.setPop (u : QueuePart) (r : PopRun) : QueuePart :=
  { u with pops := u.pops.map (fun x => if x.col = r.col then r else x) }

/-- The tag of read `n` of a step (R455). -/
def PopRun.tag (r : PopRun) : Nat := if r.tagStep then r.done % 4096 else 0

/-- A packet or marker chosen by a pop port: held until the step commits, and noted in the reading list. -/
def Queue.takeForStep (q : Queue) (qid col : Nat) : Option (Packet × Queue) :=
  match q.replayList.find? (fun e => e.1 == col) with
  | some e => some (e.2, { q with replayList := q.replayList.erase e, readList := q.readList ++ [e] })
  | none =>
    match q.nextItem with
    | none => none
    | some (.packet i x) =>
      some (x, { q with packets := q.packets.eraseIdx i, held := q.held ++ [x], readList := q.readList ++ [(col, x)] })
    | some (.marker m) =>
      let x := m.packet qid
      some (x, { q with marker := none, markerHeld := some m, readList := q.readList ++ [(col, x)] })

/-- Sends the next word of a pop port's current packet as a token: the last word, or the word a skip ends at, has END
(R454, R457). -/
def Device.popSend (d : Device) (p : Nat) (r : PopRun) (x : Packet) : Device :=
  let last := r.skip || r.sent + 1 = x.words.length || x.cutAt == some (r.sent + 1)
  let t : Token := { payload := BitVec.ofNat 512 (leNat (x.words.getD r.sent [])), tag := r.tag, fin := last,
                     kind := if x.marker then .gap else .data }
  let d := d.cellEmit p r.col false 2 t
  let r' := if last then
      { r with current := none, sent := 0, skip := false, done := if x.marker then r.done else r.done + 1 }
    else { r with sent := r.sent + 1 }
  let d := d.modQpart p (fun u => u.setPop r')
  if last && r.skip then
    match d.queue? p r.queue with
    | some q =>
      let cut := { x with cutAt := some (r.sent + 1) }
      let held := fun y : Packet => if y = x then { y with words := y.words.take (r.sent + 1) } else y
      d.setQueue p r.queue { q with readList := q.readList.map (fun e => if e = (r.col, x) then (r.col, cut) else e)
                                    held := q.held.map held }
    | none => d
  else d

/-- POP_PORT_CHOOSE: a pop port with reads left chooses its next item, or sends the next word of the one it has
(R448, R450, R456, R457). `ce` and `ue` are what SECDED finds in the read: an uncorrectable word faults the job (R461). -/
def fxPopPortChoose (p col ce : Nat) (ue : Option Nat) (d : Device) : Device :=
  let x := d.part p
  if x.fabric.halted || x.running.isNone then d
  else match (d.qpart p).pops.find? (fun r => r.col == col) with
    | none => d
    | some r =>
      let d := d.queueCe p ce
      match ue with
      | some w => d.queueUe p w
      | none =>
        match r.current with
        | some y => d.popSend p r y
        | none =>
          if r.reads ≤ r.done then d
          else match d.queue? p r.queue with
            | none => d
            | some q =>
              match q.takeForStep r.queue col with
              | none => d
              | some (y, q) =>
                let r := { r with current := some y, sent := 0 }
                ((d.setQueue p r.queue q).modQpart p (fun u => u.setPop r)).popSend p r y

/-- STALL_MARKER_TIMEOUT: a read that found no packet for STALL_LIMIT × 64 cycles gets a stall marker (R451). The serial
of a stall marker is not stated: a free value. -/
def fxStallMarkerTimeout (p col : Nat) (d : Device) : Device :=
  let x := d.part p
  if x.fabric.halted || x.running.isNone then d
  else match (d.qpart p).pops.find? (fun r => r.col == col) with
    | none => d
    | some r =>
      match d.queue? p r.queue with
      | none => d
      | some q =>
        if r.current.isSome || r.reads ≤ r.done || q.stallLimit = 0 || (q.takeForStep r.queue col).isSome then d
        else
          let (no, d) := d.fresh 32
          let m : Marker := { producer := 0xFFFF, seq := 0, lastProducer := 0, lastSeq := 0, count := 0, words := 0,
                              level := 0, reasons := 8, mixed := false, no := no }
          let t : Token := { payload := BitVec.ofNat 512 (leNat (m.bytes r.queue)), tag := r.tag, fin := true,
                             kind := .gap }
          ((d.cellEmit p col false 2 t).modQpart p (fun u => u.setPop { r with done := r.done + 1 })).queBump p r.queue
            QUE_STALL_COUNT 1

/-- POP_SKIP_TOKEN: a token on a pop port's channel 3 (R454, R456). -/
def fxPopSkipToken (p col : Nat) (d : Device) : Device :=
  let x := d.part p
  let c : Chan := ⟨col, 5, false, 3⟩
  match x.fabric.buf c with
  | [] => d
  | _ :: rest =>
    if !(p < 12 && col < 16) || x.fabric.halted then d
    else match (d.qpart p).pops.find? (fun r => r.col == col) with
      | none => d
      | some r =>
        let d := d.modFab p (fun f => (f.setBuf c rest).freeEntry c)
        match r.current with
        | some y =>
          if r.sent + 1 < y.words.length && !r.skip then
            (d.modQpart p (fun u => u.setPop { r with skip := true })).queBump p r.queue QUE_SKIP_COUNT 1
          else d.queBump p r.queue QUE_SKIP_IGNORED 1
        | none => d.queBump p r.queue QUE_SKIP_IGNORED 1

/-! ### Flush, restart, carve (R243, R427, R428, R459) -/

/-- R243: a queue flushed at a switch's commit keeps its sequence state; the words discarded. -/
def Device.flushQueue (d : Device) (p q : Nat) : Nat × Device :=
  match d.queue? p q with
  | none => (0, d)
  | some x =>
    (x.used, d.setQueue p q { x with packets := [], partials := [], held := [], marker := none, markerHeld := none,
                                     pending := [], readList := [], replayList := [], current := none })

/-- R459: the warm reset empties a queue and clears its producer records, drops and reading lists. -/
def Queue.restart (q : Queue) : Queue :=
  { base := q.base, capacity := q.capacity, maxPacket := q.maxPacket, notify := q.notify, notifyArg := q.notifyArg,
    stallLimit := q.stallLimit, image := q.image, markerNo := q.markerNo, nextOrder := q.nextOrder }

def Device.queuesRestart (d : Device) (p : Nat) : Device :=
  d.modQpart p (fun u => { u with queues := Table.mapVals u.queues (fun _ x => x.restart), pops := [], incoming := [] })

/-- R428: the lowest word of a contiguous range of `n` free words in the queue region. -/
def QueuePart.firstFit (u : QueuePart) (n : Nat) : Option Nat :=
  let lo := u.staging + u.lull
  let hi := lo + u.region
  let used := u.queues.map (fun e => (e.2.base, e.2.base + e.2.capacity))
  let starts := sortBy (fun a b => decide (a < b)) (lo :: used.map (·.2))
  starts.find? (fun s => decide (lo ≤ s) && decide (s + n ≤ hi) &&
    used.all (fun r => decide (s + n ≤ r.1) || decide (r.2 ≤ s)))

/-- R427: a queue ceases to exist; pops that wait on it complete with QUE_UNKNOWN (R904). -/
def Device.removeQueue (d : Device) (p q : Nat) : Device :=
  match d.queue? p q with
  | none => d
  | some x =>
    let d := d.modQpart p (fun u => { u with queues := Table.drop u.queues q })
    let d := { d with regs := d.regs.filter (fun e => !(e.1 / 2 ^ 26 == queInst p q && decide (0x300004 ≤ e.1 % 2 ^ 26) &&
                        decide (e.1 % 2 ^ 26 ≤ 0x300044))) }
    x.waiting.foldl (fun d w => d.complete w.1 0x0406 []) d

/-! ### Commands (R462 to R467, R904, R905) -/

/-- The reserved bytes of a queue command, as (offset, length) (R462). -/
def queueReserved (opcode : Nat) : List (Nat × Nat) :=
  match opcode with
  | 0x30 => [(1, 3), (11, 1), (24, 40)]
  | 0x32 => [(1, 3), (11, 1), (28, 36)]
  | 0x33 => [(1, 3), (10, 2), (24, 40)]
  | _ => [(1, 3), (10, 54)]

/-- R905: the address operand of a QUEUE_PUSH or QUEUE_POP and its bytes. -/
def queueRange (e : List Byte) : Option (Nat × Nat × Bool) :=
  match leAt e 0 1 with
  | 0x32 => some (leAt e 16 8, 64 * leAt e 24 4, false)
  | 0x33 => some (leAt e 16 8, 64 * leAt e 12 4, true)
  | _ => none

/-- R905: the checks of a queue command at validation; 0 where it passes. -/
def Device.checkQueueEntry (d : Device) (port : Option Port) (e : List Byte) : Nat :=
  let op := leAt e 0 1
  let p := leAt e 8 1
  let q := leAt e 9 1
  let bad := decide (12 ≤ p) || !((queueReserved op).all (fun r => allZero (sliceOf e r.1 r.2))) ||
    (op == 0x30 && leAt e 10 1 / 4 != 0) ||
    (op == 0x32 && (leAt e 24 4 == 0 || decide (7 < leAt e 10 1))) || (op == 0x33 && leAt e 12 4 == 0) ||
    (match queueRange e with | some (a, _, _) => decide (4 < addrSpace a) || a % 64 != 0 | none => false)
  if bad then 0x0401
  else if !d.covers port p then 0x0102
  else if op != 0x30 && (d.queue? p q).isNone then 0x0406
  else if op == 0x32 && decide (((d.queue? p q).map (·.maxPacket)).getD 0 < leAt e 24 4) then 0x0401
  else match queueRange e with
    | some (a, n, w) =>
      if !(d.mapped a n && d.reaches 0 (addrDevice a)) then 0x0110
      else if !d.inWindow port a n w then 0x0506
      else 0
    | none => 0

/-- QUEUE_CREATE (R463). -/
def fxQueueCreate (o : Origin) (d : Device) : Device :=
  d.run o 0x30 (fun s d =>
    let p := s.op 8 1
    let q := s.op 9 1
    let n := s.op 10 1 % 4
    let cap := s.op 12 4
    let mx := s.op 16 4
    let arg := s.op 20 2
    if mx = 0 || cap < mx + 1 || 65536 < cap || (if n = 2 then 11 else 2047) < arg then d.complete s.cmd 0x0401 []
    else if (d.queue? p q).isSome then d.complete s.cmd 0x0402 []
    else match (if (d.part p).job = 0 || !(d.qpart p).carved then none else (d.qpart p).firstFit cap) with
      | none => d.complete s.cmd 0x0404 []
      | some base =>
        (d.setQueue p q { base := base, capacity := cap, maxPacket := mx, notify := n, notifyArg := arg,
                          stallLimit := s.op 22 2 }).complete s.cmd 0 (leBytes 2 base))

/-- QUEUE_DESTROY (R464, R904). -/
def fxQueueDestroy (o : Origin) (d : Device) : Device :=
  d.run o 0x31 (fun s d =>
    let p := s.op 8 1
    let q := s.op 9 1
    match d.queue? p q with
    | none => d.complete s.cmd 0x0406 []
    | some x => if x.image ≠ 0 then d.complete s.cmd 0x0405 [] else (d.removeQueue p q).complete s.cmd 0 [])

/-- R433: the producer ID of a command's origin. -/
def Origin.producer : Origin → Nat
  | .session s => 0x5000 + s
  | .mgmt => 0x7001
  | .firmware => 0x7000
  | .jtag => 0x7001

/-- The packet of a QUEUE_PUSH whose words have been read is pushed (R465). -/
def Device.finishPush (d : Device) (s : Staged) (bs : List Byte) : Device :=
  let p := s.op 8 1
  let q := s.op 9 1
  let id := s.cmd.origin.producer
  let seq := s.op 12 4
  match d.queue? p q with
  | none => d.complete s.cmd 0x0406 []
  | some x =>
    if x.maxPacket < s.op 24 4 then d.complete s.cmd 0x0401 []
    else
      let v := d.pushVerdict p q id (some seq) (s.op 24 4)
      (d.pushPacket p q id (s.op 10 1) (some seq) (chunksOf 64 (s.op 24 4) bs)).complete s.cmd 0 (leBytes 1 v)

/-- A started command of an origin with this opcode, the earliest. -/
def Device.startedOp (d : Device) (o : Origin) (opcode : Nat) : Option Staged :=
  d.staged.find? (fun s => s.cmd.origin == o && s.cmd.opcode == opcode && s.started)

/-- Carries a QUEUE_PUSH on with what its SRC has given (R465, R903). -/
def Device.runPush (d : Device) (s : Staged) : Device :=
  match d.readAny s.cmd.uid 0 (s.op 16 8) (64 * s.op 24 4) with
  | .waiting => d
  | .poison g => (d.poisonRead g).complete s.cmd (parityStatus g) []
  | .bytes bs => (d.forget s.cmd.uid).finishPush s bs

/-- QUEUE_PUSH (R465): reads its words, from another device over Plovlink where SRC names one, and pushes the packet. -/
def fxQueuePush (o : Origin) (ce : Nat) (ue : Option Nat) (d : Device) : Device :=
  match d.startedOp o 0x32 with
  | some s => d.runPush s
  | none =>
    d.run o 0x32 (fun s d =>
      let a := s.op 16 8
      let n := 64 * s.op 24 4
      if d.ueIn a n ue then (d.secded a ce ue).complete s.cmd 0x0410 []
      else ((d.secded a ce none).requestRemote s.cmd.uid hubChan 0 4 15 0 a n).runPush s)

/-- R466: the value of a QUEUE_POP. -/
def popValue (words level kind : Nat) (more : Bool) : List Byte :=
  leBytes 4 words ++ leBytes 1 level ++ leBytes 1 kind ++ leBytes 1 (bit more)

/-- Delivers up to `n` words of a packet to a session: the words are written, the rest stays current (R449, R466). -/
def Device.popDeliver (d : Device) (p q : Nat) (x : Queue) (c : CmdRef) (y : Packet) (n dst : Nat) : Device :=
  let give := y.words.take n
  let rest := y.words.drop n
  let d := d.setQueue p q { x with current := if rest.isEmpty then none else some (c.origin.key, { y with words := rest }) }
  (d.writeAny c.uid hubChan 0 4 15 dst give.flatten).complete c 0
    (popValue give.length y.level (bit y.marker) (!rest.isEmpty))

/-- R466, R467: one attempt of a QUEUE_POP; none where it finds no visible packet. `ue` gives the words written before
an uncorrectable word, and that word. -/
def Device.tryPop (d : Device) (p q : Nat) (c : CmdRef) (n dst ce : Nat) (ue : Option (Nat × Nat)) : Option Device :=
  match d.queue? p q with
  | none => some (d.complete c 0x0406 [])
  | some x =>
    let item : Option (Packet × Queue) :=
      match x.current with
      | some (k, y) => if k = c.origin.key then some (y, { x with current := none }) else none
      | none =>
        match x.nextItem with
        | none => none
        | some (.packet i y) => some (y, { x with packets := x.packets.eraseIdx i })
        | some (.marker m) => some (m.packet q, { x with marker := none })
    match item with
    | none => none
    | some (y, x) =>
      let d := d.queueCe p ce
      match ue with
      | some (k, w) =>
        let give := (y.words.take n).take k
        some (((d.setQueue p q x).writeAny c.uid hubChan 0 4 15 dst give.flatten |>.queueUe p w).complete c 0x0410
          (leBytes 4 give.length))
      | none => some (d.popDeliver p q x c y n dst)

/-- R857: between the halt of the queue's job and the start of stage 4 a QUEUE_POP completes with the fault status. -/
def Device.popFault (d : Device) (p : Nat) : Option Nat :=
  let j := d.job (d.part p).job
  match j.state with
  | .halted => some j.firstFault
  | .resetting => some j.firstFault
  | .reloading => some j.firstFault
  | .waiting => some j.firstFault
  | .stopped => some j.firstFault
  | _ => none

/-- The queue where a QUEUE_POP of an origin waits, with what it waits for. -/
def Device.waitingPop (d : Device) (o : Origin) : Option (Nat × Nat × CmdRef × Nat × Nat) :=
  (d.queues.flatMap (fun e => e.2.queues.flatMap (fun f =>
    (f.2.waiting.filter (fun w => w.1.origin == o)).map (fun w => (e.1, f.1, w.1, w.2.1, w.2.2))))).head?

def Queue.unwait (q : Queue) (uid : Nat) : Queue := { q with waiting := q.waiting.filter (fun w => w.1.uid != uid) }

/-- QUEUE_POP: one that waits takes a packet that has come; else the next one of the origin runs (R466, R467). -/
def fxQueuePop (o : Origin) (ce : Nat) (ue : Option (Nat × Nat)) (d : Device) : Device :=
  match d.waitingPop o with
  | some (p, q, c, n, dst) =>
    (match d.queue? p q with
     | none => d
     | some x =>
       match x.current with
       | some _ => d
       | none => ((d.setQueue p q (x.unwait c.uid)).tryPop p q c n dst ce ue).getD d)
  | none =>
    d.run o 0x33 (fun s d =>
      let p := s.op 8 1
      let q := s.op 9 1
      let n := s.op 12 4
      let dst := s.op 16 8
      match d.popFault p with
      | some st => d.complete s.cmd st []
      | none =>
        match d.queue? p q with
        | none => d.complete s.cmd 0x0406 []
        | some x =>
          if d.isReadOnly dst (64 * n) then d.complete s.cmd 0x0A03 []
          else if (match x.current with | some (k, _) => k != s.cmd.origin.key | none => false) then
            d.complete s.cmd 0x0407 []
          else match d.tryPop p q s.cmd n dst ce ue with
            | some d => d
            | none =>
              if x.stallLimit = 0 then d.complete s.cmd 0x0403 []
              else d.setQueue p q { x with waiting := x.waiting ++ [(s.cmd, n, dst)] })

/-- QUEUE_POP_TIMEOUT: a pop that waits on a queue completes with QUE_EMPTY (R467). -/
def fxQueuePopTimeout (o : Origin) (d : Device) : Device :=
  match d.waitingPop o with
  | none => d
  | some (p, q, c, _, _) =>
    match d.queue? p q with
    | none => d
    | some x => (d.setQueue p q (x.unwait c.uid)).complete c 0x0403 []

/-- QUEUE_SKIP (R466). -/
def fxQueueSkip (o : Origin) (d : Device) : Device :=
  d.run o 0x34 (fun s d =>
    let p := s.op 8 1
    let q := s.op 9 1
    match d.queue? p q with
    | none => d.complete s.cmd 0x0406 []
    | some x =>
      match x.current with
      | some (k, y) =>
        if k = s.cmd.origin.key then
          ((d.setQueue p q { x with current := none }).queBump p q QUE_SKIP_COUNT 1).complete s.cmd 0
            (valueOf y.words.length)
        else (d.queBump p q QUE_SKIP_IGNORED 1).complete s.cmd 0 []
      | none => (d.queBump p q QUE_SKIP_IGNORED 1).complete s.cmd 0 [])

end Sys2Proof.Machine
end

