-- ==== Sys2Proof/Machine/Stops.lean ====
section
/-!
DEFINITION. Stops: the stop block, loading a stop into a slot, switching stops, and the commands and registers that ask
for it (05_stops, R218 to R247, R262, R265, R266, R271 to R275, R295).
-/
namespace Sys2Proof.Machine

/-! ### The stop block (R223 to R228) -/

/-- R227: BLOCK_CRC is the CRC-32C of the block with bytes 8 to 11 read as 0. -/
def blockCrcOk (b : List Byte) : Bool := leAt b 8 4 == crc32c (patchBytes b 8 (leBytes 4 0))

/-- R226: a queue-binding entry. -/
def Binding.ofBytes (e : List Byte) : Binding :=
  { queue := leAt e 0 2, carried := bitOf (leAt e 2 1) 0, reads := bitOf (leAt e 2 1) 1, writes := bitOf (leAt e 2 1) 2,
    capacity := leAt e 4 4, maxPacket := leAt e 8 2 }

/-- R223 to R226: a block's header, bindings and non-zero configuration words. -/
def StopCfg.ofBlock (b : List Byte) : StopCfg :=
  let ws := (chunksOf 4 13440 (sliceOf b 0x500 0xD200)).mapIdx (fun i w => (0x500 + 4 * i, leNat w))
  { stopId := leAt b 0 4
    drainBudget := leAt b 4 4
    logicalPart := leAt b 13 1
    bindings := (List.range (leAt b 12 1)).map (fun i => Binding.ofBytes (sliceOf b (0x100 + 16 * i) 16))
    words := ws.filter (fun w => w.2 != 0) }

/-- R228: the memory key of a block position of a partition's stop store. -/
def storeKey (p pos : Nat) : Nat := memKey 5 (p * 0x1000000 + pos * 0x10000)

/-! ### Images and slots -/

def Device.image? (d : Device) (h : Nat) : Option Image := Table.find? d.images h
def Device.modImage (d : Device) (h : Nat) (f : Image → Image) : Device :=
  { d with images := Table.mapVals d.images (fun k x => if k = h then f x else x) }

/-- The function of a port; none for the steward, the firmware and the debug port. -/
def portFn : Port → Option Nat
  | .pf => some 0
  | .vf n => some n
  | _ => none

/-- R707: a tenant's command does not see another function's image. -/
def Image.seen (x : Image) (port : Port) : Bool := match port with | .vf n => x.fn == n | _ => true

/-- R266: the stop of a loaded image of the job that holds the stop's partition, and that partition. -/
def Device.findStop (d : Device) (port : Port) (h stop : Nat) : Option (StopRec × Nat) :=
  match d.image? h with
  | none => none
  | some x =>
    match x.stops.find? (fun r => r.id == stop) with
    | none => none
    | some r =>
      let p := x.parts.getD r.part 12
      if x.ready && x.seen port && decide (p < 12) && (d.part p).job == x.job then some (r, p) else none

def Device.slotState (d : Device) (p i : Nat) : SlotState := ((d.part p).slot i).state
def Device.setSlot (d : Device) (p i : Nat) (s : Slot) : Device :=
  d.modPart p (fun x => { x with slots := Table.put x.slots i s })

/-- The image and stop whose block stands at a position of a stop store. -/
def Device.storeOwner (d : Device) (p pos : Nat) : Option (Nat × StopRec) :=
  d.images.findSome? (fun e =>
    (e.2.stops.find? (fun r => r.pos == some pos && e.2.parts.getD r.part 12 == p)).map (fun r => (e.1, r)))

/-! ### Asking for a load (R232, R247, R262, R271, R272) -/

/-- R247: what refuses a load into a slot; 0 where it may wait its turn. -/
def Device.loadRefusal (d : Device) (p slot : Nat) : Nat :=
  let x := d.part p
  if (x.slot slot).state = .active then 0x1051
  else if (x.slot slot).state = .loading then 0x1052
  else match x.switch with
    | some w => if w.target = slot then 0x1052 else 0
    | none => 0

/-- Ends a load or switch that a command, a register or the Front asked for. -/
def Device.endStop (d : Device) (p status : Nat) (cmd : Option CmdRef) (value : List Byte) : Device :=
  (d.stopStatus p status).completeOpt (cmd.map (fun c => { c with inst := p })) status value

def Device.addLoad (d : Device) (p : Nat) (l : Load) : Device :=
  let st := d.loadRefusal p l.slot
  if st ≠ 0 then d.endStop p st l.cmd [] else d.modPart p (fun x => { x with loads := x.loads ++ [l] })

/-- Where a stop of an image stands (R261). -/
def StopRec.source (r : StopRec) : LoadSrc :=
  match r.pos with | some b => .store b | none => .t2 (BitVec.ofNat 64 (r.t2.getD 0))

/-- STOP_LOAD (R262, R266). -/
def fxStopLoad (o : Origin) (d : Device) : Device :=
  d.run o 0x12 (fun s d =>
    match d.findStop s.cmd.port (s.op 8 4) (s.op 12 4) with
    | none => d.complete s.cmd 0x1055 []
    | some (r, p) =>
      if 3 < s.op 16 1 then d.complete { s.cmd with inst := p } 0x1050 []
      else d.addLoad p { slot := s.op 16 1, src := r.source, image := s.op 8 4, stopId := r.id, cmd := some s.cmd })

/-- A write of PRT_STOP_LOAD with GO set (R271, R272, R274): its fields are stored; the load starts, or is lost while
LOAD_BUSY is 1, or is refused. -/
def fxPrtStopLoadGo (port : Port) (p word : Nat) (d : Device) : Device :=
  if !(d.covers (some port) p && decide (p < 12)) then d
  else
    let d := d.setReg (prtOff p PRT_STOP_LOAD) (word % 2 ^ 18 - word / 4 % 128 * 4)
    if !bitOf word 31 then d
    else if !(d.part p).loads.isEmpty then d.raise (prtOff p PRT_STOP_STATUS) 29
    else
      let slot := word % 4
      if bitOf word 9 then
        let a := d.reg64 (prtOff p PRT_STOP_LOAD_ADDR_LO)
        if addrSpace a != 1 || a % 65536 != 0 || !(d.isSelf (addrDevice a)) || !d.mapped a 65536 then
          d.endStop p 0x0110 none []
        else d.addLoad p { slot := slot, src := .t2 (BitVec.ofNat 64 a) }
      else
        let pos := bitsOf word 17 10
        match d.storeOwner p pos with
        | some (h, r) => d.addLoad p { slot := slot, src := .store pos, image := h, stopId := r.id }
        | none => d.addLoad p { slot := slot, src := .store pos }

/-! ### Running a load (R229 to R235) -/

def Device.modLoad (d : Device) (p : Nat) (f : Load → Load) : Device :=
  d.modPart p (fun x => { x with loads := x.loads.map (fun l => if l.started then f l else l) })

/-- The running load of a partition leaves it with a status; a Front load's bad end faults its job (R350). -/
def Device.endLoad (d : Device) (p : Nat) (l : Load) (status : Nat) : Device :=
  let d := d.modPart p (fun x => { x with loads := x.loads.filter (fun m => !m.started) })
  let d := d.endStop p status l.cmd (if status = 0 then leBytes 4 l.stopId else [])
  match l.front with
  | some i => (d.modFront p l.image i (fun e => { e with claimed := false, started := false })).frontEnd p i 15 status
  | none => d

/-- R233, R234: a block that fails its check. A load from the stop store repeats once from the image's backing copy,
then the job faults with STOP_STORE_PARITY. -/
def Device.loadCrc (d : Device) (p : Nat) (l : Load) : Device :=
  let failed := fun (d : Device) => d.setSlot p l.slot { state := .failed }
  match l.src with
  | .t2 _ => (failed d).endLoad p l 0x1053
  | .store pos =>
    match d.storeOwner p pos with
    | none => (failed d).endLoad p l 0x1053
    | some (h, r) =>
      if l.repeated then
        ((failed d).endLoad p { l with front := none } 0x1053).fabricFault p 0x28 1 0 0 0 false
          { status := 0x1028, kind := 1, unit := 10, addr := selfAddr 5 (p * 0x1000000 + pos * 0x10000) }
      else
        match d.image? h with
        | none => (failed d).endLoad p l 0x1053
        | some x =>
          let bytes := d.readBytes (localKey (x.addr + x.secStops + 65536 * r.block)) 65536
          (d.store (storeKey p pos) bytes).modLoad p (fun m => { m with repeated := true })

/-! ### Switching (R236 to R246) -/

/-- R242: the new stop carries a queue of the old stop. -/
def Binding.carriedBy (b : Binding) (new : StopCfg) : Bool :=
  b.carried && new.bindings.any (fun n =>
    n.carried && n.queue == b.queue && n.capacity == b.capacity && n.maxPacket == b.maxPacket)

/-- R244: both stops carry a queue with different shapes. -/
def carryMismatch (old new : StopCfg) : Bool :=
  old.bindings.any (fun b => b.carried && new.bindings.any (fun n =>
    n.carried && n.queue == b.queue && !(n.capacity == b.capacity && n.maxPacket == b.maxPacket)))

/-- Tokens taken from the fabric that their tile ports have not handed on: words on their way into queues, and, once no
step runs, closed ring slots of committed steps whose write-out has not been issued (R238). -/
def Device.taken (d : Device) (p : Nat) : Nat :=
  let x := d.part p
  (d.qpart p).incoming.length +
    (if x.running.isSome then 0
     else x.rings.foldl (fun n r => n + ((r.2.outs.filter (fun o => o.closed && o.committed)).foldl
       (fun m o => m + o.tokens) 0)) 0)

/-- R238: PRT_OCCUPANCY. -/
def Device.occupancy (d : Device) (p : Nat) : Nat := (d.fab p).occupancy + d.taken p

def Device.modSwitch (d : Device) (p : Nat) (f : Switch → Switch) : Device :=
  d.modPart p (fun x => { x with switch := x.switch.map f })

/-- The switch of a partition ends; tile ports reopen. -/
def Device.endSwitch (d : Device) (p : Nat) (w : Switch) (status : Nat) : Device :=
  let d := d.modPart p (fun x => { x with switch := none, draining := false, closed := false })
  d.endStop p status w.cmd (leBytes 4 w.drainCycles)

/-- R243: the queues that the old stop binds and the new one does not carry are flushed, and counted. -/
def Device.flushOld (d : Device) (p : Nat) (old new : StopCfg) : Device :=
  ((old.bindings.filter (fun b => !b.carriedBy new)).map (·.queue)).eraseDups.foldl (fun d q =>
    let (n, d) := d.flushQueue p q
    d.bump (prtOff p PRT_FLUSH_COUNT) n) d

/-- R241, actions 1 to 4; R245: the same slot may stay ACTIVE. -/
def Device.commitSwitch (d : Device) (p : Nat) (w : Switch) : Device :=
  let x := d.part p
  let new := (x.slot w.target).cfg
  let d := d.modPart p (fun x =>
    let slots := match x.active with
      | some a => Table.put x.slots a { x.slot a with state := .ready }
      | none => x.slots
    { x with slots := Table.put slots w.target { Table.getD slots w.target {} with state := .active }
             active := some w.target, epoch := (x.epoch + 1) % 4, rings := [] })
  let d := match x.active with | some a => d.flushOld p (x.slot a).cfg new | none => d
  d.modSwitch p (fun w => { w with phase := .committing })

/-- The drain has ended: commit, wait for a LOADING target, or end with STOP_CRC where its load has failed (R247). -/
def Device.afterDrain (d : Device) (p : Nat) (w : Switch) : Device :=
  match d.slotState p w.target with
  | .loading => d.modSwitch p (fun w => { w with phase := .drained })
  | .ready => if carryMismatch (d.part p).stop ((d.part p).slot w.target).cfg then d.endSwitch p w 0x1054
              else d.commitSwitch p w
  | .active => d.commitSwitch p w
  | _ => d.endSwitch p w 0x1053

/-- A switch that has drained goes on once its target is no longer LOADING (R247). -/
def Device.targetLoaded (d : Device) (p : Nat) : Device :=
  match (d.part p).switch with
  | none => d
  | some w => if w.phase = .drained && d.slotState p w.target != .loading then d.afterDrain p w else d

/-! ### The stages of a load (R229 to R235) -/

/-- The next waiting load of a partition starts once no load runs (R232, R233); a Front load waits while
its slot is ACTIVE (R346) or its T2 bucket is empty (R618). `storeFails`: a stop-store read failed parity three times
(R229). -/
def Device.startLoad (d : Device) (p : Nat) (storeFails : Bool) : Device :=
  let x := d.part p
  if x.loads.any (·.started) then d
  else
    match x.loads.find? (fun l => !(l.front.isSome &&
        ((x.slot l.slot).state == .active ||
          (match l.src with | .t2 _ => !(d.bucket p 0).opens | .store _ => false)))) with
    | none => d
    | some l =>
      if (x.slot l.slot).state = .active then
        (d.modPart p (fun x => { x with loads := x.loads.erase l })).endStop p 0x1051 l.cmd []
      else
        let d := d.modPart p (fun x => { x with loads := { l with started := true } :: x.loads.erase l })
        let d := d.setSlot p l.slot { state := .loading }
        let d := match l.src, l.front with
          | .t2 _, some _ => d.modBucket p 0 (Bucket.charge 65536)
          | _, _ => d
        match l.src with
        | .store _ => if storeFails then d.loadCrc p { l with started := true } else d
        | .t2 _ => d

/-- The block stands in the load buffer and its CRC is checked (R233, R234). A poisoned granule
of T2 ends the load with T2_PARITY (DESIGN CHOICE 22). -/
def Device.blockRead (d : Device) (p : Nat) (storeFails : Bool) : Device :=
  match (d.part p).loads.find? (fun l => l.started && l.block.isNone) with
  | none => d
  | some l =>
    let key := match l.src with | .store pos => storeKey p pos | .t2 a => localKey a.toNat
    match (match l.src with | .store _ => none | .t2 _ => d.poisonIn key 65536) with
    | some g => ((d.poisonRead g).setSlot p l.slot { state := .failed }).endLoad p l (parityStatus g)
    | none =>
      let b := d.readBytes key 65536
      if storeFails || !blockCrcOk b then d.loadCrc p l
      else d.modLoad p (fun m => { m with block := some (StopCfg.ofBlock b) })

/-- STOP_LOAD_START (R232, R233, R229). -/
def fxStopLoadStart (p : Nat) (storeFails : Bool) (d : Device) : Device := (d.startLoad p storeFails).targetLoaded p
/-- STOP_BLOCK_READ_COMPLETE (R233, R234). -/
def fxStopBlockReadComplete (p : Nat) (storeFails : Bool) (d : Device) : Device :=
  (d.blockRead p storeFails).targetLoaded p

/-- R233, action 4: the last configuration word is written: STOP_ID is recorded, the slot is READY, and a switch that
waits for it commits (R247). -/
def Device.stopLoaded (d : Device) (p : Nat) : Device :=
  match (d.part p).loads.find? (fun l => l.started && l.block.isSome) with
  | none => d
  | some l =>
    match l.block with
    | none => d
    | some cfg =>
      let d := d.setSlot p l.slot { state := .ready, stopId := cfg.stopId, image := l.image, cfg := cfg }
      (d.endLoad p { l with stopId := cfg.stopId } 0).targetLoaded p

/-! ### Asking for a switch (R244, R247, R262, R265, R273) -/

/-- R244, R247: what refuses a switch before close; 0 where it may begin. -/
def Device.switchRefusal (d : Device) (p target : Nat) : Nat :=
  let x := d.part p
  if x.switch.isSome then 0x1052
  else match (x.slot target).state with
    | .empty => 0x1050
    | .failed => 0x1050
    | .ready => if carryMismatch x.stop (x.slot target).cfg then 0x1054 else 0
    | .loading =>
      match x.loads.find? (fun l => l.started && l.slot == target) with
      | some l =>
        match (d.image? l.image).bind (fun i => i.stops.find? (fun r => r.id == l.stopId)) with
        | some r => if carryMismatch x.stop r.cfg then 0x1054 else 0
        | none => 0
      | none => 0
    | .active => 0

def Device.addSwitch (d : Device) (p target : Nat) (cmd : Option CmdRef) : Device :=
  let st := d.switchRefusal p target
  if st ≠ 0 then d.endStop p st cmd []
  else d.modPart p (fun x => { x with switch := some { target := target, cmd := cmd } })

/-- R265: the slot that holds a stop of an image, or into which it is being loaded. -/
def Device.slotOf (d : Device) (p image stop : Nat) : Option Nat :=
  (List.range 4).find? (fun i =>
    let s := (d.part p).slot i
    match s.state with
    | .ready => s.image == image && s.stopId == stop
    | .active => s.image == image && s.stopId == stop
    | .loading => (d.part p).loads.any (fun l => l.started && l.slot == i && l.image == image && l.stopId == stop)
    | _ => false)

/-- STOP_SWITCH (R262, R265, R266). -/
def fxStopSwitch (o : Origin) (d : Device) : Device :=
  d.run o 0x13 (fun s d =>
    match d.findStop s.cmd.port (s.op 8 4) (s.op 12 4) with
    | none => d.complete s.cmd 0x1055 []
    | some (r, p) =>
      match d.slotOf p (s.op 8 4) r.id with
      | none => d.endStop p 0x1050 (some s.cmd) []
      | some i => d.addSwitch p i (some s.cmd))

/-- A write of PRT_STOP_SWITCH with GO set (R273, R274). -/
def fxPrtStopSwitchGo (port : Port) (p word : Nat) (d : Device) : Device :=
  if !(d.covers (some port) p && decide (p < 12)) then d
  else
    let d := d.setReg (prtOff p PRT_STOP_SWITCH) (word % 4)
    if !bitOf word 31 then d
    else if (d.part p).switch.isSome then d.raise (prtOff p PRT_STOP_STATUS) 29
    else d.addSwitch p (word % 4) none

/-- SWITCH_START: a switch begins when no step of the partition runs (R236, R237); with no active slot it commits at once
(R246). -/
def fxSwitchStart (p : Nat) (d : Device) : Device :=
  let x := d.part p
  match x.switch with
  | none => d
  | some w =>
    if w.phase != .waiting || x.running.isSome || x.replay.isSome || x.fabric.halted then d
    else
      let d := d.modPart p (fun x => { x with closed := true, draining := true })
      if x.active.isNone then d.afterDrain p w else d.modSwitch p (fun w => { w with phase := .draining })

/-- DRAIN_END: occupancy is 0 (R239). `cycles` are the fabric cycles since close, which the model does not count. -/
def fxDrainEnd (p cycles : Nat) (d : Device) : Device :=
  match (d.part p).switch with
  | none => d
  | some w =>
    if w.phase != .draining || d.occupancy p ≠ 0 then d
    else
      let d := d.setReg (prtOff p PRT_DRAIN_LAST) cycles
      let w := { w with drainCycles := cycles }
      (d.modSwitch p (fun _ => w)).afterDrain p w

/-- SWITCH_COMPLETE: commit ends; tile ports reopen under the new stop (R241, action 5). -/
def fxSwitchComplete (p : Nat) (d : Device) : Device :=
  match (d.part p).switch with
  | none => d
  | some w => if w.phase = .committing then d.endSwitch p w 0 else d

/-- STOP_DRAIN_TIMEOUT: the drain budget has passed with occupancy above 0 (R239). -/
def fxStopDrainTimeout (p : Nat) (d : Device) : Device :=
  match (d.part p).switch with
  | none => d
  | some w =>
    if w.phase != .draining || d.occupancy p = 0 then d
    else
      (d.setReg (prtOff p PRT_DRAIN_LAST) ((d.part p).stop.drainBudget + 1)).fabricFault p 0x25 4 0 0 0 false
        { status := 0x1025, kind := 4 }

/-! ### BOUND_SET (R295) -/

/-- BOUND_SET: PRT_BOUNDn of the partition that the image's logical partition runs on. -/
def fxBoundSet (o : Origin) (d : Device) : Device :=
  d.run o 0x14 (fun s d =>
    match d.image? (s.op 8 4) with
    | none => d.complete s.cmd 0x1055 []
    | some x =>
      let p := x.parts.getD (s.op 12 1) 12
      if !(x.ready && x.seen s.cmd.port && decide (p < 12) && (d.part p).job == x.job && decide (s.op 13 1 ≤ 15)) then
        d.complete s.cmd 0x1055 []
      else
        (d.setReg (prtOff p (PRT_BOUND + 4 * s.op 13 1)) (s.op 16 4)).complete { s.cmd with inst := p } 0 [])

end Sys2Proof.Machine
end

