-- ==== Sys2Proof/Machine/Gale.lean ====
section
/-!
DEFINITION. The Gale engine: score packets, the choice of experts, lists, scatter packets, returns, rounds and gates
(10_expert_routing, R471 to R497, R507).
-/
namespace Sys2Proof.Machine

/-! ### Routes and their registers -/

def Device.route (d : Device) (r : Nat) : Route := Table.getD d.routes r {}
def Device.setRoute (d : Device) (r : Nat) (x : Route) : Device := { d with routes := Table.put d.routes r x }
def Device.modRoute (d : Device) (r : Nat) (f : Route → Route) : Device := d.setRoute r (f (d.route r))

def Device.galReg (d : Device) (r off : Nat) : Nat := d.reg (regKey off r)
def Device.galReg64 (d : Device) (r off : Nat) : Nat := d.galReg r off + 2 ^ 32 * d.galReg r (off + 4)

/-- GAL_ROUTE_CFG (R507). -/
structure RouteCfg where
  valid : Bool
  scatter : Bool
  scoreFn : Nat
  norm : Bool
  k : Nat
  experts : Nat
  rowTokens : Nat
  deriving DecidableEq, Repr

def Device.routeCfg (d : Device) (r : Nat) : RouteCfg :=
  let w := d.galReg r GAL_ROUTE_CFG
  { valid := bitOf w 31, scatter := bitOf w 30, scoreFn := bitsOf w 29 28, norm := bitOf w 27, k := bitsOf w 26 24 + 1,
    experts := bitsOf w 23 15 + 1, rowTokens := bitsOf w 14 7 }

/-- GAL_ROUTE_INTAKE: the score intake queue and the return intake queue (R507). -/
def Device.scoreQueue (d : Device) (r : Nat) : Nat × Nat :=
  let w := d.galReg r GAL_ROUTE_INTAKE
  (bitsOf w 3 0, bitsOf w 11 4)
def Device.returnQueue (d : Device) (r : Nat) : Nat × Nat :=
  let w := d.galReg r GAL_ROUTE_INTAKE
  (bitsOf w 15 12, bitsOf w 23 16)

/-- The stop writes queue `q` of its partition. -/
def StopCfg.writes (c : StopCfg) (q : Nat) : Bool := c.bindings.any (fun b => b.queue == q && b.writes)

/-- R484: the round of a route is stopped, and the cause latched. -/
def Device.galError (d : Device) (r cause : Nat) : Device :=
  let d := d.modRoute r (fun x => { x with stopped := true })
  if d.regField GAL_ERROR 31 31 = 1 then d else d.setReg GAL_ERROR (2 ^ 31 + 256 * (r % 64) + cause)

/-! ### Choosing experts (R475 to R478) -/

/-- R475: the value of every expert, from the raw scores. -/
def scoreValues (fn : Nat) (s : List Word) : List Word :=
  let neg := fun w : Word => f32Mul w 0xBF800000#32
  match fn with
  | 1 => s.map (fun x => vecRecip (f32Add (vecExp (f32Mul x 0xBF800000#32)) 0x3F800000#32))
  | 2 =>
    let m := match s with | [] => 0 | x :: l => l.foldl f32Max x
    let z := s.foldl (fun z x => f32Add z (vecExp (f32Add x (neg m)))) 0
    s.map (fun x => f32Mul (vecExp (f32Add x (neg m))) (vecRecip z))
  | _ => s

/-- R477: key `a` of expert `i` ranks above key `b` of expert `j`. -/
def keyAbove (a : Word) (i : Nat) (b : Word) (j : Nat) : Bool :=
  let x := f32Val a
  let y := f32Val b
  if x.isNan then y.isNan && decide (i < j)
  else if y.isNan then true
  else if flLess y x then true
  else if flLess x y then false
  else decide (i < j)

/-- R476: an expert's bias, widened to FP32. -/
def Device.bias (d : Device) (r e : Nat) : Word :=
  let w := d.reg (BRM_BIAS + 0x400 * r + 4 * (e / 2))
  f32Of (fFp16.decode (if e % 2 = 1 then bitsOf w 31 16 else bitsOf w 15 0))

/-- R477: the `k` experts of greatest key, rank 0 first. -/
def topExperts (keys : List Word) (k : Nat) : List Nat :=
  let ranked := sortBy (fun (a b : Nat × Word) => keyAbove a.2 a.1 b.2 b.1) (keys.mapIdx (fun i w => (i, w)))
  (ranked.take k).map (·.1)

/-- R478: the gate weights of the chosen experts, in rank order. -/
def gateWeights (norm : Bool) (scale : Word) (g : List Word) : List Word :=
  let z := match g with | [] => 0 | x :: l => l.foldl f32Add x
  g.map (fun x => f32Mul (if norm then f32Mul x (vecRecip z) else x) scale)

/-! ### Score packets (R473, R474, R479, R484) -/

/-- The next item of a queue, released at once as a session read is (R449, R474). -/
def Device.takeItem (d : Device) (p q : Nat) : Option (Packet × Device) :=
  match d.queue? p q with
  | none => none
  | some x =>
    match x.nextItem with
    | none => none
    | some (.packet i y) => some (y, d.setQueue p q { x with packets := x.packets.eraseIdx i })
    | some (.marker m) => some (m.packet q, d.setQueue p q { x with marker := none })

/-- Assignments held on the device, over all routes. -/
def Device.assignments (d : Device) : Nat := d.routes.foldl (fun n e => n + e.2.assigns.length) 0

/-- A new round opens at a route's first score packet (R486, R495, R497). -/
def Device.openRound (d : Device) (r : Nat) : Device :=
  if (d.route r).isOpen then d
  else
    let cfg := d.routeCfg r
    let map := if cfg.scatter then d.readBytes (localKey (d.galReg64 r GAL_ROUTE_MAP_LO)) (16 + 4 * cfg.experts) else []
    d.modRoute r (fun x =>
      { x with isOpen := true, stopped := false, counts := [], stored := if x.dispatchClosed then [] else x.stored
               map := map, dispatchClosed := false, returnClosed := !cfg.scatter, round := (x.round + 1) % 65536
               dispatchFrom := if x.dispatchClosed then [] else x.dispatchFrom, returnFrom := [] })

/-- Adds to the window of a route's bank (R479, R501, R506). -/
def Device.countExperts (d : Device) (r : Nat) (es : List Nat) : Device :=
  let b := Table.getD d.banks r {}
  if !b.counting then d
  else { d with banks := Table.put d.banks r
                  { b with cur := es.foldl (fun t e => Table.modify t e 0 (· + 1)) b.cur } }

/-- The scores of a packet's words, expert 0 first (R473). -/
def packetScores (experts : Nat) (words : List (List Byte)) : List Word :=
  (words.flatMap (fun w => (List.range 16).map (fun i => BitVec.ofNat 32 (leAt w (4 * i) 4)))).take experts

/-- SCORE_PACKET_READ: the Gale engine reads the next item of a route's score intake queue. -/
def fxScorePacketRead (r : Nat) (d : Device) : Device :=
  let cfg := d.routeCfg r
  let (p, q) := d.scoreQueue r
  if 63 < r || !cfg.valid || (d.route r).stopped then d
  else match d.takeItem p q with
    | none => d
    | some (y, d) =>
      if y.marker then d
      else
        let h := y.words.headD []
        let d := d.openRound r
        let named := leAt h 0 1
        if named ≠ r then d.galError r 1
        else if y.words.length ≠ (cfg.experts + 15) / 16 + 1 then d.galError r 3
        else if 65536 < d.assignments + cfg.k then d.galError r 2
        else
          let f := scoreValues cfg.scoreFn (packetScores cfg.experts (y.words.drop 1))
          let es := topExperts (f.mapIdx (fun e x => f32Add x (d.bias r e))) cfg.k
          let ws := gateWeights cfg.norm (BitVec.ofNat 32 (d.galReg r GAL_ROUTE_SCALE)) (es.map (fun e => f.getD e 0))
          let hidden := leAt h 8 8
          let (u, d) := d.uid
          let d := if cfg.scatter then d.requestRemote u hubChan (d.part p).job 2 p 0 hidden (64 * cfg.rowTokens) else d
          let new := (List.zip es ws).mapIdx (fun i (e : Nat × Word) =>
            ({ part := p, level := leAt h 1 1 % 8, token := leAt h 4 2, rank := i, expert := e.1, weight := e.2,
               hidden := hidden, uid := u } : Assign))
          ((d.modRoute r (fun x => { x with assigns := x.assigns ++ new })).countExperts r es).bump64 GAL_ASSIGN_LO
            es.length

/-! ### Issue (R480 to R483, R487 to R489) -/

/-- R483: ascending level, token, rank. -/
def Assign.before (a b : Assign) : Bool :=
  decide ((a.level * 65536 + a.token) * 8 + a.rank < (b.level * 65536 + b.token) * 8 + b.rank)

/-- Writes to a domain address by the Gale engine. -/
def Device.galWrite (d : Device) (u p a : Nat) (bs : List Byte) : Device :=
  d.writeAny u hubChan (d.part p).job 2 p a bs

/-- R480, R481: an assignment of a LIST route. -/
def Device.listAssign (d : Device) (r : Nat) (cfg : RouteCfg) (a : Assign) : Device :=
  let cap := bitsOf (d.galReg r GAL_ROUTE_CAP) 15 0
  let n := Table.getD (d.route r).counts a.expert 0
  let slot := a.token * cfg.k + a.rank
  let combine := d.galReg64 r GAL_ROUTE_COMBINE_LO + 8 * slot
  let weight := d.galReg64 r GAL_ROUTE_WEIGHTS_LO + 4 * slot
  if cap ≤ n then
    ((d.galWrite a.uid a.part combine (leBytes 8 (2 ^ 64 - 1))).galWrite a.uid a.part weight (leBytes 4 0)).bump
      GAL_DROP_COUNT 1
  else
    let entry := d.galReg64 r GAL_ROUTE_LISTS_LO + 8 * (a.expert * (cap + 1) + (n + 1))
    let row := d.galReg64 r GAL_ROUTE_OUT_LO + (a.expert * cap + n) * (64 * cfg.rowTokens)
    (((d.galWrite a.uid a.part entry (leBytes 8 a.hidden)).galWrite a.uid a.part combine (leBytes 8 row)).galWrite
      a.uid a.part weight (leBytes 4 a.weight.toNat)).modRoute r
        (fun x => { x with counts := Table.put x.counts a.expert (n + 1) })

/-- R482: entry 0 of every list, written last. -/
def Device.listHeads (d : Device) (r : Nat) (cfg : RouteCfg) (p u : Nat) : Device :=
  let cap := bitsOf (d.galReg r GAL_ROUTE_CAP) 15 0
  (List.range cfg.experts).foldl (fun d e =>
    d.galWrite u p (d.galReg64 r GAL_ROUTE_LISTS_LO + 8 * e * (cap + 1))
      (leBytes 8 (Table.getD (d.route r).counts e 0))) d

/-- The map's entry of an expert: device, partition, queue (R486). -/
def Route.dest (x : Route) (e : Nat) : Nat × Nat × Nat :=
  let w := leAt x.map (16 + 4 * e) 4
  (bitsOf w 6 0, bitsOf w 11 8, bitsOf w 23 16)

/-- A packet of a route stored in an expert queue of this device (R495). -/
def Device.galStored (d : Device) (r e : Nat) : Device :=
  d.modRoute r (fun x =>
    let x := if x.dispatchClosed then { x with dispatchClosed := false, stored := [], dispatchFrom := [] } else x
    { x with stored := Table.modify x.stored e 0 (· + 1) })

/-- R487 to R489: an assignment of a SCATTER route, its hidden row `row`. -/
def Device.scatterAssign (d : Device) (r : Nat) (cfg : RouteCfg) (a : Assign) (row : List Byte) : Device :=
  let x := d.route r
  let (dev, part, q) := x.dest a.expert
  let home := if addrDevice a.hidden = 127 then d.index else addrDevice a.hidden
  let slot := a.token * cfg.k + a.rank
  let at_ := fun base : Nat => home * 2 ^ 57 + base % 2 ^ 57
  let ret := at_ (d.galReg64 r GAL_ROUTE_LISTS_LO + slot * (64 * cfg.rowTokens))
  let combine := at_ (d.galReg64 r GAL_ROUTE_COMBINE_LO + 8 * slot)
  let weight := at_ (d.galReg64 r GAL_ROUTE_WEIGHTS_LO + 4 * slot)
  let d := (d.galWrite a.uid a.part combine (leBytes 8 (2 ^ 64 - 1))).galWrite a.uid a.part weight
    (leBytes 4 a.weight.toNat)
  let dk := (dev * 16 + part) * 256 + q
  let seq := Table.getD x.seqs dk 1
  let d := d.modRoute r (fun x => { x with seqs := Table.put x.seqs dk ((seq + 1) % 2 ^ 32) })
  let head := padTo 64 (leBytes 1 r ++ leBytes 1 a.rank ++ leBytes 1 a.level ++ [0] ++ leBytes 2 a.expert ++
    leBytes 2 a.token ++ leBytes 4 a.weight.toNat ++ leBytes 4 seq ++ leBytes 8 ret ++ leBytes 8 combine)
  let words := head :: chunksOf 64 cfg.rowTokens row
  if d.isSelf dev then
    let v := d.pushVerdict part q (0x4000 + d.index) (some seq) words.length
    let d := d.pushPacket part q (0x4000 + d.index) a.level (some seq) words
    if v = 1 then d.bump GAL_DROP_COUNT 1 else if v = 0 then d.galStored r a.expert else d
  else
    let (u, d) := d.uid
    let item : TxItem := { uid := u, kind := 3, dest := dev, srcPart := a.part, cls := 3, job := (d.part a.part).job,
                           addr := dev * 2 ^ 57 + memKey 4 (part * 0x400000 + q), arg := part * 256 + q, len := 64 * words.length,
                           body := words.flatten }
    { (d.modRoute r (fun x => { x with under := x.under ++ [u] })) with txq := d.txq ++ [item] }

/-- What of a route's work is still under way: packets, return rows and entries to other devices (R485, R494). -/
def Device.galBusy (d : Device) (r : Nat) : Bool :=
  (d.route r).under.any (fun u => d.txq.any (fun t => t.uid == u) || d.flight.any (fun f => f.uid == u))

/-- The hidden rows of held assignments, once every one has arrived (R487). -/
def Device.hiddenRow (d : Device) (cfg : RouteCfg) (a : Assign) : Got := d.readAny a.uid 0 a.hidden (64 * cfg.rowTokens)

/-- GALE_ISSUE: the assignments of partition `p`'s dispatch step are issued once it has drained (R483). -/
def fxGaleIssue (r p : Nat) (d : Device) : Device :=
  let cfg := d.routeCfg r
  let mine := sortBy Assign.before ((d.route r).assigns.filter (fun a => a.part == p))
  if 63 < r || !cfg.valid || mine.isEmpty || (d.route r).stopped || d.occupancy p ≠ 0 || (d.fab p).halted then d
  else
    let rest := fun (d : Device) => d.modRoute r (fun x => { x with assigns := x.assigns.filter (fun a => a.part != p) })
    if cfg.scatter then
      match mine.find? (fun a => d.hiddenRow cfg a == .waiting) with
      | some _ => d
      | none =>
        match mine.findSome? (fun a => match d.hiddenRow cfg a with | .poison g => some g | _ => none) with
        | some g =>
          (d.poisonRead g).jobFault (d.part p).job
            { status := parityStatus g, kind := 1, part := p, unit := if parityStatus g = 0x0A10 then 4 else 5,
              addr := selfAddr (g * 64 / 2 ^ 53) (g * 64 % 2 ^ 53) }
        | none =>
          mine.foldl (fun d a =>
            match d.hiddenRow cfg a with
            | .bytes row => d.scatterAssign r cfg a row
            | _ => d) (rest d)
    else
      let (u, d) := d.uid
      (mine.foldl (fun d a => d.listAssign r cfg a) (rest d)).listHeads r cfg p u

/-- GALE_DROP_REPORT: a packet that another device's queue dropped (R491). -/
def fxGaleDropReport (r : Nat) (d : Device) : Device :=
  if r ≤ 63 && (d.routeCfg r).valid then d.bump GAL_DROP_COUNT 1 else d

/-! ### Returns (R493, R494) -/

/-- RETURN_PACKET_READ: the next item of a route's return intake queue: its row lands, then its combine entry. -/
def fxReturnPacketRead (r : Nat) (d : Device) : Device :=
  let cfg := d.routeCfg r
  let (p, q) := d.returnQueue r
  if 63 < r || !cfg.valid || !cfg.scatter then d
  else match d.takeItem p q with
    | none => d
    | some (y, d) =>
      if y.marker then d
      else
        let h := y.words.headD []
        let ret := leAt h 16 8
        let (u, d) := d.uid
        let d := (d.galWrite u p ret (y.words.drop 1).flatten).galWrite u p (leAt h 24 8) (leBytes 8 ret)
        d.modRoute r (fun x => { x with under := x.under ++ [u] })

/-! ### Rounds and gates (R485, R494 to R497) -/

/-- The devices that the map's entries name. -/
def Route.devices (x : Route) (experts : Nat) : List Nat := ((List.range experts).map (fun e => (x.dest e).1)).eraseDups

/-- R495: a dispatch close counts; the round closes here once SOURCES have come, the tallies written first. -/
def Device.takeDispatchClose (d : Device) (r from_ : Nat) : Device :=
  let cfg := d.routeCfg r
  let d := d.modRoute r (fun x =>
    if x.dispatchClosed then { x with dispatchClosed := false, stored := [], dispatchFrom := [from_] }
    else { x with dispatchFrom := if x.dispatchFrom.contains from_ then x.dispatchFrom else x.dispatchFrom ++ [from_] })
  let x := d.route r
  let map := if x.map.isEmpty then d.readBytes (localKey (d.galReg64 r GAL_ROUTE_MAP_LO)) (16 + 4 * cfg.experts) else x.map
  let d := d.modRoute r (fun x => { x with map := map })
  if x.dispatchFrom.length < leAt map 2 2 then d
  else
    let tally := leAt map 8 8
    let (u, d) := d.uid
    let own := (List.range cfg.experts).filter (fun e => d.isSelf ((d.route r).dest e).1)
    let d := own.foldl (fun d e =>
      d.galWrite u ((d.route r).dest e).2.1 (tally + 4 * e) (leBytes 4 (Table.getD x.stored e 0))) d
    d.modRoute r (fun x => { x with dispatchClosed := true })

/-- R496: a return close counts; the return round closes here once RETURNS have come. -/
def Device.takeReturnClose (d : Device) (r from_ : Nat) : Device :=
  let d := d.modRoute r (fun x =>
    { x with returnFrom := if x.returnFrom.contains from_ then x.returnFrom else x.returnFrom ++ [from_] })
  let x := d.route r
  if x.returnFrom.length < leAt x.map 4 2 then d
  else d.modRoute r (fun x => { x with returnClosed := true, isOpen := false })

/-- DISPATCH_CLOSE: a dispatch close of device `from_` arrives. -/
def fxDispatchClose (r from_ : Nat) (d : Device) : Device :=
  if r ≤ 63 && (d.routeCfg r).valid && (d.routeCfg r).scatter then d.takeDispatchClose r from_ else d
/-- RETURN_CLOSE: a return close of device `from_` arrives. -/
def fxReturnClose (r from_ : Nat) (d : Device) : Device :=
  if r ≤ 63 && (d.routeCfg r).valid && (d.routeCfg r).scatter && !(d.route r).returnClosed then d.takeReturnClose r from_
  else d

/-- Routes in service. -/
def Device.validRoutes (d : Device) : List Nat := (List.range 64).filter (fun r => (d.routeCfg r).valid)

/-- A stop that runs on partition `p` makes its steps dispatch steps of a route (R497). -/
def Device.dispatches (d : Device) (r p : Nat) (c : StopCfg) : Bool :=
  (d.scoreQueue r).1 == p && c.writes (d.scoreQueue r).2
/-- A step is in the route's expert range (R496). -/
def Device.isExpertStep (d : Device) (r stepId : Nat) : Bool :=
  decide (d.galReg r GAL_ROUTE_XSTEP_FIRST ≤ stepId) && decide (stepId ≤ d.galReg r GAL_ROUTE_XSTEP_LAST) &&
    d.galReg r GAL_ROUTE_XSTEP_FIRST != 0xFFFFFFFF

/-- R485, R494: Gale work that keeps the running step of partition `p` from ending. -/
def Device.galHolds (d : Device) (p : Nat) : Bool :=
  let x := d.part p
  match x.running with
  | none => false
  | some s =>
    d.validRoutes.any (fun r =>
      let waits := fun pq : Nat × Nat => match d.queue? pq.1 pq.2 with
        | some y => !y.packets.isEmpty || !y.partials.isEmpty | none => false
      (d.dispatches r p x.stop &&
        ((d.route r).stopped || (d.route r).assigns.any (fun a => a.part == p) || waits (d.scoreQueue r) ||
          d.galBusy r)) ||
      ((d.routeCfg r).scatter && d.isExpertStep r s.stepId && (waits (d.returnQueue r) || d.galBusy r)))

/-- Steps of the device, running or admitted, with their partition. -/
def Device.steps (d : Device) : List (Nat × StepInst) :=
  (List.range 12).flatMap (fun p =>
    let x := d.part p
    (match x.running with | some s => [(p, s)] | none => []) ++ x.admitted.map (fun s => (p, s)))

/-- The configuration of the stop a step names (R252). -/
def Device.stopCfgOf (d : Device) (s : StepInst) : StopCfg :=
  match (d.image? s.image).bind (fun i => i.stops.find? (fun r => r.id == s.stopId)) with
  | some r => r.cfg
  | none => {}

/-- R495, R496: what the commit of step `s` of partition `p` does to the rounds of the routes: the last dispatch step
sends dispatch closes, the last expert step return closes. Codes 10 and 11 of DESIGN CHOICE 13. -/
def Device.galCommit (d : Device) (p : Nat) (s : StepInst) (c : StopCfg) : Device :=
  d.validRoutes.foldl (fun d r =>
    let cfg := d.routeCfg r
    let x := d.route r
    let others := d.steps.filter (fun e => e.2.uid != s.uid)
    let d :=
      if d.dispatches r p c && x.isOpen && !x.stopped && others.all (fun e => !d.dispatches r e.1 (d.stopCfgOf e.2)) then
        if cfg.scatter then
          (x.devices cfg.experts).foldl (fun d dev =>
            if d.isSelf dev then d.takeDispatchClose r d.index
            else d.sendControl dev s.job 10 (leBytes 1 r ++ leBytes 1 d.index)) d
        else d.modRoute r (fun x => { x with isOpen := false })
      else d
    if cfg.scatter && d.isExpertStep r s.stepId && others.all (fun e => !d.isExpertStep r e.2.stepId) then
      x.dispatchFrom.foldl (fun d dev =>
        if d.isSelf dev then d.takeReturnClose r d.index
        else d.sendControl dev s.job 11 (leBytes 1 r ++ leBytes 1 d.index)) d
    else d) d

/-- R497: the gates of the SCATTER routes on a step of partition `p` whose stop is `c`. -/
def Device.galGate (d : Device) (p stepId : Nat) (c : StopCfg) : Bool :=
  d.validRoutes.all (fun r =>
    !(d.routeCfg r).scatter ||
      ((!d.isExpertStep r stepId || (d.route r).dispatchClosed) &&
       (d.galReg r GAL_ROUTE_CSTEP != stepId || stepId == 0xFFFFFFFF || (d.route r).returnClosed) &&
       (!d.dispatches r p c || (d.route r).returnClosed)))

/-- R847 stage 2, R505: the rounds of a job's routes are discarded. -/
def Device.galRestart (d : Device) (j : Nat) : Device :=
  d.validRoutes.foldl (fun d r =>
    if (d.part (d.scoreQueue r).1).job = j || ((d.routeCfg r).scatter && (d.part (d.returnQueue r).1).job = j) then
      let d := d.modRoute r (fun x =>
        { x with assigns := [], isOpen := false, stopped := false, counts := [], stored := [], under := [],
                 dispatchClosed := false, returnClosed := true, dispatchFrom := [], returnFrom := [] })
      { d with banks := Table.modify d.banks r {} (fun b => { b with cur := [], counting := false, due := none }) }
    else d) d

/-! ### Route registers (R507) -/

/-- GAL_ROUTE_WRITE: a write of a route register through a port's selection: ignored while the route is VALID and a
round is open, or where the value is reserved. -/
def Device.galRouteWrite (d : Device) (r off v : Nat) : Device :=
  if (d.routeCfg r).valid && (d.route r).isOpen then d
  else if off = GAL_ROUTE_CFG && (bitsOf v 29 28 == 3 || decide (bitsOf v 23 15 < bitsOf v 26 24) || bitsOf v 14 7 == 0) then d
  else if off = GAL_ROUTE_CAP && v % 65536 = 0 then d
  else
    let mask := match descAt off with | some x => x.rw | none => 0
    d.setReg (regKey off r) (v &&& mask)

/-- The port may act on a route: a tenant on the routes granted to it (R708, R711). -/
def Device.mayRoute (d : Device) (port : Port) (r : Nat) : Bool :=
  match port with
  | .vf n => Table.getD d.owners (4096 + r) 0 == n
  | .twin => false
  | _ => true

/-- GAL_ROUTE_WRITE. `off` is the register's offset in the GAL block. -/
def fxGalRouteWrite (port : Port) (off v : Nat) (d : Device) : Device :=
  let r := d.portReg port GAL_ROUTE_SEL % 64
  if !(d.mayRoute port r && decide (4 ≤ off) && decide (off ≤ 0x44) && off % 4 == 0) then d
  else d.galRouteWrite r (0x700000 + off) v

end Sys2Proof.Machine
end

