-- ==== Sys2Proof/Machine/Barometer.lean ====
section
/-!
DEFINITION. The Barometer (R500 to R506, R509): windows, the update of the biases, software writes.
-/
namespace Sys2Proof.Machine

def Device.bank (d : Device) (b : Nat) : Bank := Table.getD d.banks b {}
def Device.modBank (d : Device) (b : Nat) (f : Bank → Bank) : Device := { d with banks := Table.put d.banks b (f (d.bank b)) }

/-- BRM_CTRL.ENABLE and BRM_CTRL.WINDOW of a bank. -/
def Device.brmOn (d : Device) (b : Nat) : Bool := d.regField (regKey BRM_CTRL b) 31 31 == 1
def Device.brmWindow (d : Device) (b : Nat) : Nat := max 1 (d.regField (regKey BRM_CTRL b) 10 0)

/-- The register of expert `e`'s bias in bank `b`, and the half that holds it. -/
def biasReg (b e : Nat) : Nat := BRM_BIAS + 0x400 * b + 4 * (e / 2)

def Device.setBias (d : Device) (b e v : Nat) : Device :=
  if e % 2 = 1 then d.setRegField (biasReg b e) 31 16 v else d.setRegField (biasReg b e) 15 0 v

/-- FP16 maximum and minimum by value; a NaN stays. -/
def halfMax (a b : Nat) : Nat := if flLess (fFp16.decode a) (fFp16.decode b) then b else a
def halfMin (a b : Nat) : Nat := if flLess (fFp16.decode b) (fFp16.decode a) then b else a

/-- R503: one expert's new bias from the sign of T − E × load. -/
def newBias (eta clamp old : Nat) (delta : Int) : Nat :=
  let e := f32Of (fFp16.decode eta)
  let step : Word := if 0 < delta then e else if delta < 0 then e ^^^ 0x80000000#32 else 0
  let h := fFp16.encode (f32Val (f32Add (f32Of (fFp16.decode old)) step))
  let c := clamp % 0x8000
  halfMin (halfMax h (c + 0x8000)) c

/-- R503: the update of a bank from its last window. -/
def Device.brmUpdate (d : Device) (b : Nat) : Device :=
  let n := (d.routeCfg b).experts
  let load := fun e => Table.getD (d.bank b).last e 0
  let total := (List.range n).foldl (fun t e => t + load e) 0
  let r := d.reg (regKey BRM_ETA b)
  let d := (List.range n).foldl (fun d e =>
    let w := d.reg (biasReg b e)
    let old := if e % 2 = 1 then bitsOf w 31 16 else bitsOf w 15 0
    d.setBias b e (newBias (bitsOf r 15 0) (bitsOf r 31 16) old ((total : Int) - (n : Int) * load e))) d
  d.modBank b (fun x => { x with windows := (x.windows + 1) % 65536, due := none })

/-- Counts of a completed window stand in BRM_COUNT and BRM_TOTAL. -/
def Device.brmShow (d : Device) (b : Nat) : Device :=
  let n := (d.routeCfg b).experts
  let d := (List.range n).foldl (fun d e => d.setReg (BRM_COUNT + 0x800 * b + 4 * e) (Table.getD (d.bank b).last e 0)) d
  d.setReg (regKey BRM_TOTAL b) ((List.range n).foldl (fun t e => t + Table.getD (d.bank b).last e 0) 0)

/-- R502: in SCATTER mode the window's counts go to every other device of the map. -/
def Device.brmSend (d : Device) (b : Nat) : Device :=
  let cfg := d.routeCfg b
  if !cfg.scatter then d
  else
    let body := leBytes 2 b ++ (List.range cfg.experts).flatMap (fun e => leBytes 4 (Table.getD (d.bank b).last e 0))
    let job := (d.part (d.scoreQueue b).1).job
    (((d.route b).devices cfg.experts).filter (fun x => !d.isSelf x)).foldl (fun d x => d.sendControl x job 6 body) d

/-- R501, R503, R504: what the intake of breath `n` does to a bank: the update that is due, the held software writes, the
window that ends and the one that begins. -/
def Device.brmIntake (d : Device) (n b : Nat) : Device :=
  let on := d.brmOn b
  let d := if on && (d.bank b).due == some n then d.brmUpdate b else d
  let held := (d.bank b).held
  let d := held.foldl (fun d w => d.setReg w.1 w.2) d
  let d := d.modBank b (fun x => { x with held := [] })
  if !on then d.modBank b (fun x => { x with counting := false, cur := [], elapsed := 0, due := none })
  else if n % d.brmWindow b = 0 then
    let d := if (d.bank b).counting then
        ((d.modBank b (fun x => { x with last := x.cur, due := some (n + 1) })).brmShow b).brmSend b
      else d
    d.modBank b (fun x => { x with counting := true, cur := [], elapsed := 0 })
  else d.modBank b (fun x => { x with elapsed := min 1024 (x.elapsed + 1) })

/-- Order 4 of R602. -/
def Device.brmIntakeAll (d : Device) (n : Nat) : Device := (List.range 64).foldl (fun d b => d.brmIntake n b) d

/-- BAROMETER_COUNT_EXCHANGE: the window counts of another device of the route's map arrive and are added (R502). -/
def fxBarometerCountExchange (b : Nat) (counts : List Nat) (d : Device) : Device :=
  if !(decide (b < 64) && d.brmOn b && (d.bank b).due.isSome) then d
  else
    (d.modBank b (fun x =>
      { x with last := (counts.zipIdx).foldl (fun t e => Table.modify t e.2 0 (· + e.1)) x.last })).brmShow b

/-- BRM_BIAS_WRITE: held, and applied at the next intake (R504). `off` is the register's offset in the BRM biases. -/
def fxBrmBiasWrite (port : Port) (off v : Nat) (d : Device) : Device :=
  let b := off / 0x400
  if !(d.mayRoute port b && decide (b < 64) && off % 4 == 0) then d
  else d.modBank b (fun x => { x with held := x.held ++ [(BRM_BIAS + off, v % 2 ^ 32)] })

/-- R509: FP16 NaN or infinity. -/
def halfSpecial (v : Nat) : Bool := bitsOf v 14 10 == 31

/-- BRM_CTRL_WRITE: BRM_CTRL, or BRM_ETA where `eta` (R509); a reserved field value leaves that field. -/
def fxBrmCtrlWrite (port : Port) (eta : Bool) (v : Nat) (d : Device) : Device :=
  let b := d.portReg port GAL_ROUTE_SEL % 64
  if !d.mayRoute port b then d
  else if eta then
    let k := regKey BRM_ETA b
    let d := if halfSpecial (bitsOf v 31 16) then d else d.setRegField k 31 16 (bitsOf v 31 16)
    if halfSpecial (bitsOf v 15 0) then d else d.setRegField k 15 0 (bitsOf v 15 0)
  else
    let k := regKey BRM_CTRL b
    let d := d.setRegField k 31 31 (bitsOf v 31 31)
    if bitsOf v 10 0 = 0 || 1024 < bitsOf v 10 0 then d else d.setRegField k 10 0 (bitsOf v 10 0)

end Sys2Proof.Machine
end

