-- ==== Sys2Proof/Machine/Rings.lean ====
section
/-!
DEFINITION. Rings of the tile ports: fills, injection, outbound slots, write-outs (06_tiling_and_streams, R296 to R309).
-/
namespace Sys2Proof.Machine

/-! ### A ring and its step (R300, R302, R308) -/

/-- R300: the ring of a channel in the active stop. -/
structure RingCfg where
  slots : Nat
  home : Nat
  base : Nat
  tokens : Nat
  tagBase : Nat
  deriving DecidableEq, Repr

/-- Channel `ch` (0 in0, 1 in1, 2 out0, 3 out1) of tile port `col`; none where it has no ring. -/
def StopCfg.ring (c : StopCfg) (col ch : Nat) : Option RingCfg :=
  let w := c.cellWord col (1 + ch)
  let size := c.cellWord col (if ch < 2 then 5 else 6)
  if c.enabled col && bitOf w 0 then
    some { slots := bitsOf w 4 1 + 1, home := bitsOf w 11 5, base := bitsOf w 24 12
           tokens := if ch % 2 = 0 then bitsOf size 12 0 else bitsOf size 28 16
           tagBase := if ch = 0 then bitsOf (c.cellWord col 7) 11 0 else bitsOf (c.cellWord col 7) 27 16 }
  else none

def ringKey (col ch : Nat) : Nat := 4 * col + ch
def Device.portRing (d : Device) (p col ch : Nat) : Ring := Table.getD (d.part p).rings (ringKey col ch) {}
def Device.modRing (d : Device) (p col ch : Nat) (f : Ring → Ring) : Device :=
  d.modPart p (fun x => { x with rings := Table.modify x.rings (ringKey col ch) {} f })

/-- R300: the memory key of slot `n mod SLOTS` of a ring of partition `p`. -/
def RingCfg.key (c : RingCfg) (p n : Nat) : Nat :=
  memKey 0 (p * 0x4000000 + c.home * 0x80000 + (c.base + n % c.slots * c.tokens) * 64)

/-- The step record of a step instance. -/
def Device.stepRec (d : Device) (s : StepInst) : Option StepRec :=
  (d.image? s.image).bind (fun i => i.steps.find? (fun r => r.id == s.stepId))

/-- The step's entry for a ring. -/
def Device.ringEntry (d : Device) (s : StepInst) (col ch : Nat) : Option RingRec :=
  (d.stepRec s).bind (fun r => r.rings.find? (fun e => e.port == col && e.ch == ch))

/-- R308: the fills a step uses on a ring; none while the bound that gives them is unread (R288). -/
def StepInst.fills (s : StepInst) (e : RingRec) : Option Nat :=
  if e.slot = 255 then some e.fills else if s.bound then some (s.bounds.getD e.slot 0) else none

/-- Fills of a step issued on a ring. -/
def Ring.givenTo (r : Ring) (uid : Nat) : Nat := ((r.given.find? (fun e => e.1 == uid)).map (·.2)).getD 0

def Ring.give (r : Ring) (uid : Nat) : Ring :=
  { r with given := (uid, r.givenTo uid + 1) :: r.given.filter (fun e => e.1 != uid) }

/-- Steps of a partition whose stop is ACTIVE, in admission order: the one that runs or awaits its replay, and the
admitted ones. -/
def Device.stepsOf (d : Device) (p : Nat) : List StepInst :=
  let x := d.part p
  sortBy (fun a b => decide (a.order < b.order))
    ((x.running.toList ++ x.replay.toList ++ x.admitted).filter (fun s =>
      match x.active with
      | some i => (x.slot i).image == s.image && (x.slot i).stopId == s.stopId
      | none => false))

/-- R309: a refused or failed fill or write-out stops the ring. -/
def Device.ringError (d : Device) (p col ch status : Nat) : Device :=
  let d := d.modRing p col ch (fun r => { r with stopped := true })
  let k := regKey (prtOff p PRT_RING_STATUS) (ringKey col ch)
  d.setReg k (2 ^ 31 + status)

/-- A read that a job's work makes meets persistent parity: the job faults (R357, R903). -/
def Device.parityFault (d : Device) (j p g : Nat) (stepId : Nat := 0xFFFFFFFF) : Device :=
  (d.poisonRead g).jobFault j
    { status := parityStatus g, kind := 1, part := p, unit := if parityStatus g = 0x0A10 then 4 else 5, stepId := stepId
      location := if parityStatus g = 0x0A10 then g * 64 % 2 ^ 53 / 0x1000000000 else 0
      addr := selfAddr (g * 64 / 2 ^ 53) (g * 64 % 2 ^ 53) }

/-! ### Where a fill reads and a write-out writes (R298, R299, R308, R566) -/

/-- What the ring table gives for a step's i-th fill. -/
inductive RingAddr where
  | at (a : Nat)
  | null
  | refused (status : Nat)
  | poison (granule : Nat)
  | wait
  deriving DecidableEq, Repr

/-- The uid under which a ring asks another device for an index list entry. -/
def listUid (p col ch : Nat) : Nat := 2 ^ 62 + p * 64 + ringKey col ch

/-- R298: entry `i` of an index list, in this device's memory or as another device has sent it. -/
def Device.listEntry (d : Device) (p col ch list i base : Nat) : RingAddr :=
  let a := (list + 8 * i) % 2 ^ 64
  if !(d.mapped a 8 && d.reaches (d.part p).job (addrDevice a)) then .refused 0x0110
  else if !d.isSelf (addrDevice a) && decide (16 < d.memberCount) then .refused 0x0A02
  else match d.readAny (listUid p col ch) 0 a 8 with
    | .waiting => .wait
    | .poison g => .poison g
    | .bytes bs => if leNat bs = 2 ^ 64 - 1 then .null else .at ((leNat bs + base) % 2 ^ 64)

/-- R566, R628: the logit buffer of a job in a partition's stack. -/
def Device.logitArea (d : Device) (job p : Nat) : Option Nat :=
  (d.areas.find? (fun a => a.stack == p && a.use == .logits job)).map (·.base)

/-- R308: the address of a step's i-th fill. -/
def Device.ringAddr (d : Device) (p col ch mode base list tokens i : Nat) : RingAddr :=
  match mode with
  | 0 => .at (unsignedOf 64 ((base : Int) + i * signedOf 64 list))
  | 1 => d.listEntry p col ch list i base
  | 2 =>
    match d.logitArea (d.part p).job p with
    | some b => .at (selfAddr 1 (p * 0x1000000000 + b + 64 * tokens * i))
    | none => .null
  | _ => .null

/-- Asks another device for an index list entry. -/
def Device.askList (d : Device) (p col ch list i : Nat) : Device :=
  if (d.portRing p col ch).asked then d
  else (d.modRing p col ch (fun r => { r with asked := true })).requestRemote (listUid p col ch) (16 * p + col)
    (d.part p).job 1 p 0 ((list + 8 * i) % 2 ^ 64) 8

def Device.listTaken (d : Device) (p col ch : Nat) : Device :=
  (d.forget (listUid p col ch)).modRing p col ch (fun r => { r with asked := false })

/-- R309, R52, R333, R334, R325: what refuses a fill or write-out; 0 where it may go. -/
def Device.ringRefusal (d : Device) (p a n : Nat) (write : Bool) : Nat :=
  if !(d.mapped a n && d.reaches (d.part p).job (addrDevice a)) then 0x0110
  else if 3 < addrSpace a then 0x0504
  else if !pageRule a n then 0x0A01
  else if !d.remoteRule a a n then 0x0A02
  else if write && d.isReadOnly a n then 0x0A03
  else 0

/-! ### Fills (R303, R304) -/

def Device.addRingWork (d : Device) (chan uid : Nat) : Device :=
  d.modMover chan (fun m => { m with ringWork := m.ringWork ++ [uid] })
def Device.endRingWork (d : Device) (chan uid : Nat) : Device :=
  d.modMover chan (fun m => { m with ringWork := m.ringWork.filter (fun u => u != uid) })

/-- R303: the step whose fill an inbound ring issues next, with its entry, the fill's number in the step. -/
def Device.nextFill (d : Device) (p col ch : Nat) : Option (StepInst × RingRec × Nat) :=
  let r := d.portRing p col ch
  (d.stepsOf p).findSome? (fun s =>
    match d.ringEntry s col ch with
    | none => none
    | some e =>
      let i := r.givenTo s.uid
      match s.fills e with
      | some n => if i < n && s.cut == 0 then some (s, e, i) else none
      | none => none)

/-- Puts an issued fill into the ring. -/
def Device.issueFill (d : Device) (p col ch : Nat) (s : StepInst) (e : RingRec) (src : Option Nat) : Device :=
  let (u, d) := d.uid
  let d := d.modRing p col ch (fun r =>
    { (r.give s.uid) with nextFill := r.nextFill + 1
                          fills := r.fills ++ [{ index := r.nextFill, uid := u, step := s.uid, bytes := e.bytes, src := src }] })
  match src with
  | none => d
  | some a => (d.addRingWork (16 * p + col) u).requestRemote u (16 * p + col) s.job s.cls p 0 a e.bytes

/-- RING_FILL_ISSUE: an inbound ring issues its next fill once its slot is free (R298, R299, R303, R309). -/
def fxRingFillIssue (p col ch : Nat) (d : Device) : Device :=
  let r := d.portRing p col ch
  if !(decide (p < 12) && decide (col < 16) && decide (ch < 2)) || (d.fab p).halted || (d.part p).closed || r.stopped then d
  else match (d.part p).stop.ring col ch, d.nextFill p col ch with
    | some c, some (s, e, i) =>
      if r.keep + c.slots ≤ r.nextFill || r.fills.any (fun f => f.index % c.slots == r.nextFill % c.slots) then d
      else match d.ringAddr p col ch e.mode e.base e.list c.tokens i with
        | .wait => d.askList p col ch e.list i
        | .refused st => d.ringError p col ch st
        | .poison g => d.parityFault s.job p g s.stepId
        | .null => (d.listTaken p col ch).issueFill p col ch s e none
        | .at a =>
          let st := d.ringRefusal p a e.bytes false
          if st ≠ 0 then d.ringError p col ch st
          else (if e.mode = 1 then d.listTaken p col ch else d).issueFill p col ch s e (some a)
    | _, _ => d

/-- The fill's last byte is in its slot (R302, R303). -/
def Device.fillDone (d : Device) (p col ch : Nat) (c : RingCfg) (f : Fill) (bs : List Byte) : Device :=
  let d := ((d.store (c.key p f.index) bs).forget f.uid).endRingWork (16 * p + col) f.uid
  let d := d.bump64 (regKey MOV_BYTES_LO (16 * p + col)) bs.length
  d.modRing p col ch (fun r =>
    { r with tail := r.tail + 1
             fills := r.fills.map (fun g => if g.uid = f.uid then { g with done := true } else g) })

/-- RING_FILL_COMPLETE: the ring's oldest fill under way lands in its slot; a null entry's fill writes zeros (R298). -/
def fxRingFillComplete (p col ch : Nat) (d : Device) : Device :=
  let r := d.portRing p col ch
  if !(decide (p < 12) && decide (col < 16) && decide (ch < 2)) then d
  else match (d.part p).stop.ring col ch, r.fills.find? (fun f => !f.done) with
    | some c, some f =>
      (match f.src with
       | none => d.fillDone p col ch c f (List.replicate f.bytes 0)
       | some a =>
         match d.readAny f.uid 0 a f.bytes with
         | .waiting => d
         | .poison g => d.parityFault (d.part p).job p g
         | .bytes bs => d.fillDone p col ch c f bs)
    | _, _ => d

/-- The tokens of a slot: bytes beyond the fill's length are 0 (R304). -/
def Device.slotTokens (d : Device) (p : Nat) (c : RingCfg) (f : Fill) : List Token :=
  let bs := d.readBytes (c.key p f.index) (min f.bytes (64 * c.tokens))
  (List.range c.tokens).map (fun k =>
    { payload := BitVec.ofNat 512 (leNat (sliceOf bs (64 * k) 64)), tag := (c.tagBase + f.index) % 4096,
      fin := k + 1 == c.tokens })

/-- R639: the checkpoint that a step stands at: groups of fills of its first ring-table entry wholly injected; none where
it is not after the last fill of a group that another follows. -/
def Device.checkpointOf (d : Device) (p : Nat) (s : StepInst) : Option Nat :=
  match d.stepRec s with
  | none => none
  | some r =>
    match r.rings.head? with
    | none => none
    | some e =>
      let g := ((s.fills e).getD 0) / (r.checkpoints + 1)
      let n := ((d.portRing p e.port e.ch).fills.filter (fun f => f.step == s.uid && f.injected)).length
      if r.checkpoints = 0 || 2 ≤ e.ch then none
      else if g = 0 then (if n = 0 then some 1 else none)
      else if n % g = 0 && 1 ≤ n / g && n / g ≤ r.checkpoints then some (n / g) else none

/-- R639: a carried step of a job whose suspension is pending has reached its next checkpoint: its tile ports stop
injecting. -/
def Device.cutDue (d : Device) (p : Nat) (s : StepInst) : Bool :=
  s.carried && (d.job s.job).suspend == .suspending && (d.checkpointOf p s).isSome

/-- RING_INJECT: the running step's next complete fill enters the fabric as one packet (R304). -/
def fxRingInject (p col ch : Nat) (d : Device) : Device :=
  let x := d.part p
  let r := d.portRing p col ch
  if !(decide (p < 12) && decide (col < 16) && decide (ch < 2)) || x.fabric.halted || x.closed then d
  else match x.stop.ring col ch, x.running with
    | some c, some s =>
      (match r.fills.find? (fun f => f.step == s.uid && !f.injected) with
       | none => d
       | some f =>
         if !f.done || d.cutDue p s then d
         else
           let d := d.modRing p col ch (fun r =>
             { r with head := r.head + 1
                      fills := r.fills.map (fun g => if g.uid = f.uid then { g with injected := true } else g) })
           (d.slotTokens p c f).foldl (fun d t => d.cellEmit p col false ch t) d)
    | _, _ => d

/-! ### Outbound slots (R306) -/

/-- The slot that takes the next token: the open one, or a fresh one where a slot is free. -/
def Ring.openSlot (r : Ring) (c : RingCfg) (s : StepInst) (e : Option RingRec) : Option OutSlot :=
  match r.outs.find? (fun o => !o.closed) with
  | some o => some o
  | none =>
    if r.tail < r.keep + c.slots then
      let nth := r.givenTo s.uid
      some (match e with
        | some e => { index := r.tail, step := s.uid, nth := nth, mode := e.mode, base := e.base, list := e.list }
        | none => { index := r.tail, step := s.uid, nth := nth })
    else none

/-- A slot put back into the ring after a token: TAIL and the step's fills count it once it closes. -/
def Ring.putSlot (r : Ring) (o : OutSlot) : Ring :=
  let rest := r.outs.filter (fun y => y.index != o.index)
  let r := { r with outs := rest ++ [o] }
  if o.closed then { (r.give o.step) with tail := r.tail + 1 } else r

/-- OUTBOUND_TOKEN: the next token of a tile port's output channel is written into the ring's TAIL slot, which closes when
it is full or at END. -/
def fxOutboundToken (p col ch : Nat) (d : Device) : Device :=
  let x := d.part p
  let r := d.portRing p col ch
  let b : Chan := ⟨col, 5, false, ch - 2⟩
  if !(decide (p < 12) && decide (col < 16) && (ch == 2 || ch == 3)) || x.fabric.halted || r.stopped then d
  else match x.stop.ring col ch, x.running, x.fabric.buf b with
    | some c, some s, t :: rest =>
      (match r.openSlot c s (d.ringEntry s col ch) with
       | none => d
       | some o =>
         let d := (d.modFab p (fun f => (f.setBuf b rest).freeEntry b)).store (c.key p o.index + 64 * o.tokens) t.bytes
         let o := { o with tokens := o.tokens + 1, closed := t.fin || o.tokens + 1 == c.tokens }
         d.modRing p col ch (fun r => r.putSlot o))
    | _, _, _ => d

/-- The tag of a write-out's packets, which stands for ring `ch` of their channel. -/
def ringTag (ch : Nat) : Nat := 2 ^ 32 + ch

/-- Bytes to a domain address on their way: granules of this device that become visible one by one, or packets to another
device (R393, R764). -/
def Device.sendBytes (d : Device) (uid chan job cls srcPart a : Nat) (bs : List Byte) : Device :=
  let d := if chan ≤ 199 then d.bump64 (regKey MOV_BYTES_LO chan) bs.length else d
  if !d.isSelf (addrDevice a) then d.writeAny uid chan job cls srcPart a bs
  else
    let first := 64 - a % 64
    let rest := chunksOf 64 (bs.length / 64 + 1) (bs.drop first)
    let parts := (a, bs.take first) :: rest.zipIdx.map (fun e => (a + first + 64 * e.2, e.1))
    { d with flight := d.flight ++ (parts.filter (fun e => !e.2.isEmpty)).map (fun e =>
        { uid := uid, chan := chan, addr := e.1, bytes := e.2 }) }

/-- RING_WRITE_OUT: the ring's next closed slot of a committed step goes to its destination (R306, R308, R309). -/
def fxRingWriteOut (p col ch : Nat) (d : Device) : Device :=
  let x := d.part p
  let r := d.portRing p col ch
  if !(decide (p < 12) && decide (col < 16) && (ch == 2 || ch == 3)) || x.fabric.halted || r.stopped then d
  else match x.stop.ring col ch, r.outs.find? (fun o => o.closed && o.committed) with
    | some c, some o =>
      let chan := 16 * p + col
      let left := fun d : Device => (d.endRingWork chan o.uid).modRing p col ch (fun r =>
        { r with head := r.head + 1, keep := r.keep + 1, outs := r.outs.filter (fun y => y.index != o.index) })
      (match d.ringAddr p col ch o.mode o.base o.list c.tokens o.nth with
       | .wait => d.askList p col ch o.list o.nth
       | .refused st => d.ringError p col ch st
       | .poison g => d.parityFault x.job p g
       | .null => left (d.listTaken p col ch)
       | .at a =>
         let st := d.ringRefusal p a (64 * o.tokens) true
         if st ≠ 0 then d.ringError p col ch st
         else
           let d := if o.mode = 1 then d.listTaken p col ch else d
           let d := d.sendBytes o.uid chan x.job 2 p a (d.readBytes (c.key p o.index) (64 * o.tokens))
           left { d with txq := d.txq.map (fun t => if t.uid = o.uid then { t with tag := ringTag ch } else t) })
    | _, _ => d

/-! ### Commit and replay of a step's rings (R305 to R307) -/

/-- R305: the slots that a step consumed are released. -/
def Ring.release (r : Ring) (uid : Nat) : Ring :=
  let n := (r.fills.filter (fun f => f.step == uid)).length
  { r with keep := r.keep + n, fills := r.fills.filter (fun f => f.step != uid),
           given := r.given.filter (fun e => e.1 != uid) }

/-- R306: at its step's commit a slot closes and belongs to COMMIT; `uids` name the write-outs. -/
def Ring.commitOut (r : Ring) (uid u : Nat) : Ring :=
  let openN := (r.outs.filter (fun o => !o.closed)).length
  let mine := (r.outs.filter (fun o => o.step == uid)).length
  { r with outs := r.outs.map (fun o =>
             if o.step = uid then { o with closed := true, committed := true, uid := u + o.nth } else o)
           tail := r.tail + openN, commit := r.commit + mine, given := r.given.filter (fun e => e.1 != uid) }

/-- R307: inbound slots are injected again; outbound slots closed after COMMIT go. -/
def Ring.rewind (r : Ring) (uid : Nat) (inbound : Bool) : Ring :=
  if inbound then
    let n := (r.fills.filter (fun f => f.step == uid && f.injected)).length
    { r with head := r.head - n, fills := r.fills.map (fun f => if f.step = uid then { f with injected := false } else f) }
  else
    let outs := r.outs.filter (·.committed)
    let gone := (r.outs.filter (fun o => !o.committed && o.closed)).length
    { r with outs := outs, tail := r.tail - gone, given := r.given.filter (fun e => e.1 != uid) }

/-- Every ring of a partition at the commit of a step: inbound slots released, outbound slots handed on for write-out. -/
def Device.ringsCommit (d : Device) (p uid : Nat) : Device :=
  (d.part p).rings.foldl (fun d e =>
    if e.1 % 4 < 2 then d.modPart p (fun x => { x with rings := Table.modify x.rings e.1 {} (fun r => r.release uid) })
    else
      let u := d.nextUid
      let slots := e.2.outs.filter (fun o => o.step == uid)
      let d := { d with nextUid := u + 1 + slots.foldl (fun (n : Nat) (o : OutSlot) => max n (o.nth + 1)) 0 }
      let d := d.modPart p (fun x => { x with rings := Table.modify x.rings e.1 {} (fun r => r.commitOut uid u) })
      slots.foldl (fun d o => d.addRingWork (16 * p + e.1 / 4) (u + o.nth)) d) d

/-- R290: the fills of a step that does not run are released. -/
def Device.ringsDrop (d : Device) (p uid : Nat) : Device :=
  let fills := (d.part p).rings.flatMap (fun e => (e.2.fills.filter (fun f => f.step == uid)).map (fun f => (e.1, f.uid)))
  let d := fills.foldl (fun d e => (d.forget e.2).endRingWork (16 * p + e.1 / 4) e.2) d
  d.modPart p (fun x => { x with rings := Table.mapVals x.rings (fun k r =>
    if k % 4 < 2 then
      let done := (r.fills.filter (fun f => f.step == uid && f.done)).length
      let all := (r.fills.filter (fun f => f.step == uid)).length
      { (r.release uid) with tail := r.tail + (all - done), head := r.head + all }
    else r) })

/-- R307: every ring of a partition rewinds for a replay. -/
def Device.ringsRewind (d : Device) (p uid : Nat) : Device :=
  d.modPart p (fun x => { x with rings := Table.mapVals x.rings (fun k r => r.rewind uid (decide (k % 4 < 2))) })

end Sys2Proof.Machine
end

