-- ==== Sys2Proof/Machine/Kv.lean ====
section
/-!
DEFINITION. KV pools and pages (R522 to R528), tickets and the handoff (R530 to R532), the end of a prefix build (R544).
-/
namespace Sys2Proof.Machine

/-! ### Of an image (R513, R525, R567) -/

/-- The Drone steps of Drone `s`, in step-table order (R515). -/
def Image.droneSteps (x : Image) (s : Nat) : List StepRec := x.steps.filter (fun r => r.engine == 1 && r.part == s)
/-- The fabric steps, in step-table order: a request's chain (R314, R530). -/
def Image.fabricSteps (x : Image) : List StepRec := x.steps.filter (fun r => r.engine == 0)
/-- The decode group: the Drones that the image's Drone steps name, ascending. -/
def Image.group (x : Image) : List Nat :=
  (List.range 12).filter (fun s => x.steps.any (fun r => r.engine == 1 && r.part == s))

def Image.droneOps (x : Image) : List (List Byte) := (x.steps.filter (fun r => r.engine == 1)).flatMap (·.ops)

/-- R567: the vocabulary. -/
def Image.vocab (x : Image) : Nat :=
  (x.droneOps.filter (fun o => leAt o 0 1 == 0x4E)).foldl (fun v o => max v (leAt o 12 4 + leAt o 16 4)) 0

/-- Frames of a logical page, L × G (R525): the layers that D_KV_WRITE operations name, and the head groups that D_ATTN's
heads fill (DEDUCED 23). -/
def Image.framesPerPage (x : Image) : Nat :=
  let layers := (x.droneOps.filter (fun o => leAt o 0 1 == 0x4B)).foldl (fun v o => max v (leAt o 8 2 + 1)) 1
  let groups := (x.droneOps.filter (fun o => leAt o 0 1 == 0x49)).foldl
    (fun v o => max v (((leAt o 11 1 + 1) * leAt o 12 2 + 1023) / 1024)) 1
  layers * groups

/-- R516: the committed-length bound: MAX of bound slot 1 of the Drone steps. -/
def Image.contextBound (x : Image) : Nat :=
  match x.steps.find? (fun r => r.engine == 1) with
  | some r => match r.bounds[1]? with | some b => b.max | none => 0
  | none => 0
/-- R533: MAX of bound slot 0 of the group's first step. -/
def Image.rowBound (x : Image) : Nat :=
  match x.steps.find? (fun r => r.engine == 1) with
  | some r => match r.bounds[0]? with | some b => b.max | none => 0
  | none => 0

/-! ### Pools (R527, R564) -/

def Device.kvBase (d : Device) (s : Nat) : Nat := d.reg64 (drnOff s DRN_KV_BASE_LO)
def Device.kvFrames (d : Device) (s : Nat) : Nat := bitsOf (d.reg (drnOff s DRN_KV_FRAMES)) 20 0
def Device.kvScale (d : Device) (s : Nat) : Nat := d.reg64 (drnOff s DRN_KV_SCALE_LO)

/-- The Drone whose pool holds a frame's address, and the frame's number. -/
def Device.frameOf (d : Device) (a : Nat) : Option (Nat × Nat) :=
  (List.range 12).findSome? (fun s =>
    if d.kvBase s ≤ a && a < d.kvBase s + 65536 * d.kvFrames s then some (s, (a - d.kvBase s) / 65536) else none)

/-- Runs of frames in use, as (Drone, first frame, frames): the own pages of sequences, and prefixes. -/
def Device.runsInUse (d : Device) : List (Nat × Nat × Nat) :=
  let run := fun (n a : Nat) => (d.frameOf a).map (fun f => (f.1, f.2, n))
  d.seqs.flatMap (fun e => (e.2.pages.drop e.2.prefixPages).filterMap (run e.2.perPage)) ++
    d.prefixes.flatMap (fun e => e.2.pages.filterMap (run e.2.perPage))

/-- R527: the first run of `n` free frames of Drone `s`'s pool, given the runs in use. -/
def firstRun (used : List (Nat × Nat × Nat)) (frames s n : Nat) : Option Nat :=
  let mine := (used.filter (fun r => r.1 == s)).map (fun r => (r.2.1, r.2.1 + r.2.2))
  let starts := sortBy (fun a b => decide (a < b)) (0 :: mine.map (·.2))
  starts.find? (fun f => decide (f + n ≤ frames) && mine.all (fun r => decide (f + n ≤ r.1) || decide (r.2 ≤ f)))

/-- DRN_KV_FREE: frames not allocated. -/
def Device.kvFree (d : Device) (s : Nat) : Nat :=
  d.kvFrames s - ((d.runsInUse.filter (fun r => r.1 == s)).foldl (fun n r => n + r.2.2) 0)

/-- The group member after `m`, wrapping (R528). -/
def nextMember (group : List Nat) (m : Nat) : Nat :=
  match group.find? (fun s => decide (m < s)) with
  | some s => s
  | none => group.headD 0

/-- R528: places `k` logical pages of `n` frames from member `m` on; none where a pool cannot hold one. -/
def Device.placePages (d : Device) (group : List Nat) (n : Nat) :
    Nat → Nat → List (Nat × Nat × Nat) → Option (List (Nat × Nat))
  | 0, _, _ => some []
  | k + 1, m, used =>
    match firstRun used (d.kvFrames m) m n with
    | none => none
    | some f =>
      (d.placePages group n k (nextMember group m) ((m, f, n) :: used)).map (fun l =>
        (d.kvBase m + 65536 * f, d.kvScale m + 2048 * f) :: l)

/-- R528, R545: reserves pages of a sequence through position `upto` (exclusive); none where the pools cannot. -/
def Device.reservePages (d : Device) (s : Seq) (group : List Nat) (upto : Nat) : Option Seq :=
  let want := (upto + 31) / 32
  let k := want - s.pages.length
  let start := match s.pages.getLast? with
    | some a => match d.frameOf a with | some f => nextMember group f.1 | none => group.headD 0
    | none => group.headD 0
  (d.placePages group s.perPage k start d.runsInUse).map (fun l =>
    { s with pages := s.pages ++ l.map (·.1), scales := s.scales ++ l.map (·.2)
             reservedPos := 32 * max want s.pages.length })

/-! ### Handoff (R530 to R532) and prefix builds (R544) -/

def Device.group? (d : Device) (image : Nat) : Option Group := Table.find? d.groups image
def Device.modGroup (d : Device) (image : Nat) (f : Group → Group) : Device :=
  match d.group? image with
  | some g => { d with groups := Table.put d.groups image (f g) }
  | none => d

/-- R544: a build sequence's KV is in its pages: they become a prefix, read-only, and the sequence returns to FREE. -/
def Device.finishPrefix (d : Device) (job id : Nat) : Device :=
  let s := d.seq job id
  let pid := Table.freshFrom d.prefixes 1 (d.prefixes.length + 1)
  let x : Prefix := { job := job, image := s.image, length := s.committed, pages := s.pages, scales := s.scales,
                      perPage := s.perPage }
  let tag := 2 ^ 40 + pid
  let ro := s.pages.map (fun a => (localKey a, 65536 * s.perPage, tag)) ++
    s.scales.map (fun a => (localKey a, 2048 * s.perPage, tag))
  let d := { d with prefixes := Table.put d.prefixes pid x, readOnly := d.readOnly ++ ro }
  let d := d.completeOpt s.cmd 0 (leBytes 4 pid)
  { d with seqs := Table.drop d.seqs (seqKey job id) }

/-- R531: a sequence in HANDOFF whose fences have all completed with 0x0000, and whose first token is drawn, gets its
ticket and enters DECODE; a prefix build ends. -/
def Device.tryTicket (d : Device) (job id : Nat) : Device :=
  let s := d.seq job id
  if s.state != .handoff || s.fenceBad || d.fences.any (fun f => f.owner == .kv job id) then d
  else if s.building then d.finishPrefix job id
  else if !s.tokenReady then d
  else (d.setSeq job id { s with state := .decode }).modGroup s.image (fun g => { g with tickets := g.tickets ++ [id] })

/-- R531: the fences of a sequence's handoff, on the channels that wrote its pages; one that covers nothing has completed
at once (R398). -/
def Device.kvFences (d : Device) (job id : Nat) : Device :=
  (d.seq job id).kvChannels.eraseDups.foldl (fun d c =>
    let cover := d.coverOf c none
    if cover.isEmpty && !(d.mover c).halted then d else d.addFence (.kv job id) c cover) d

/-! ### Chains (R314, R530, R561, R852, R853) -/

def Device.chain? (d : Device) (id : Nat) : Option Chain := d.chains.find? (fun c => c.id == id)
def Device.modChain (d : Device) (id : Nat) (f : Chain → Chain) : Device :=
  { d with chains := d.chains.map (fun c => if c.id = id then f c else c) }

/-- Steps of a chain that are admitted, running or to be replayed. -/
def Device.chainSteps (d : Device) (id : Nat) : List (Nat × StepInst) :=
  (List.range 12).flatMap (fun p =>
    let x := d.part p
    ((x.running.toList ++ x.replay.toList ++ x.admitted).filter (fun s => s.chain == id)).map (fun s => (p, s)))

/-- A chain goes: its admitted steps that have not issued go with it (DESIGN CHOICE 24). -/
def Device.dropChain (d : Device) (id : Nat) : Device :=
  let d := { d with chains := d.chains.filter (fun c => c.id != id) }
  (List.range 12).foldl (fun d p =>
    let gone := (d.part p).admitted.filter (fun s => s.chain == id)
    let d := gone.foldl (fun d s => d.ringsDrop p s.uid) d
    d.modPart p (fun x => { x with admitted := x.admitted.filter (fun s => s.chain != id) })) d

/-- Ends the request of a chain with a status: the chain's own steps go first. -/
def Device.endChainRequest (d : Device) (c : Chain) (status : Nat) : Device :=
  let d := d.dropChain c.id
  let s := d.seq c.job c.seq
  if s.chain = some c.id then d.endRequest c.job c.seq status else d

/-- R561: the request of a cancelled chain ends once no step of it is admitted or running. -/
def Device.endCancelled (d : Device) (c : Chain) : Device :=
  if c.dropped && (d.chainSteps c.id).isEmpty then d.endChainRequest c 0x1107 else d

/-- R530, R853: the last step of a chain has committed. -/
def Device.finishChain (d : Device) (c : Chain) : Device :=
  let s := d.seq c.job c.seq
  let d := d.dropChain c.id
  if s.chain ≠ some c.id then d
  else
    let forced := c.forced && decide (0 < s.delivered)
    let s := { s with state := .handoff, chain := none, fenceBad := false,
                      committed := if forced then s.base + s.promptLen + s.delivered - 1 else s.base + s.promptLen,
                      nextToken := if forced then (s.tokens.getLast?).getD 0 else s.nextToken,
                      tokenReady := forced, plainPass := c.forced && decide (0 < s.specK) }
    let d := d.setSeq c.job c.seq s
    if c.dropped then d.endRequest c.job c.seq 0x1107
    else (d.kvFences c.job c.seq).tryTicket c.job c.seq

/-- The mover channels on which a step's outbound rings write pages (R530). -/
def Device.pageChannels (d : Device) (p : Nat) (s : StepInst) : List Nat :=
  match d.stepRec s with
  | none => []
  | some r => (r.rings.filter (fun e => decide (2 ≤ e.ch) && e.mode != 2)).map (fun e => 16 * p + e.port)

/-- A step of a chain has committed with a status (R69, R86 where it is not 0). -/
def Device.chainCommit (d : Device) (p : Nat) (s : StepInst) : Device :=
  match d.chain? s.chain with
  | none => d
  | some c =>
    let d := d.modSeq c.job c.seq (fun q => { q with kvChannels := q.kvChannels ++ d.pageChannels p s })
    if s.status ≠ 0 then d.endChainRequest c s.status
    else
      let c := { c with done := c.done + 1 }
      let d := d.modChain c.id (fun _ => c)
      let total := match d.image? c.image with | some i => i.fabricSteps.length | none => 0
      if total ≤ c.done then d.finishChain c else d.endCancelled c

end Sys2Proof.Machine
end

