-- ==== Sys2Proof/Machine/Steps.lean ====
section
/-!
DEFINITION. Fabric steps: issue and bounds, commit, overrun, replay (R278, R286 to R290, R313 to R315, R361 to R365, R842).
-/
namespace Sys2Proof.Machine

/-! ### Bounds (R286 to R290, R294) -/

/-- What a bound's read gives. -/
inductive BoundRead where
  | raw (v : Nat)
  | refused
  | poison (granule : Nat)
  deriving DecidableEq, Repr

/-- R286, R288: the raw value of a bound. -/
def Device.boundRaw (d : Device) (p : Nat) (b : BoundRec) : BoundRead :=
  match b.source with
  | 0 => .raw (b.arg % 2 ^ 32)
  | 1 => .raw (d.reg (prtOff p (PRT_BOUND + 4 * (b.arg % 16))))
  | _ =>
    if !(d.isSelf (addrDevice b.arg) && d.mapped b.arg 4) then .refused
    else match d.poisonIn (localKey b.arg) 4 with
      | some g => .poison g
      | none => .raw (d.readNat (localKey b.arg) 4)

/-- R287: OP(raw + ADD). -/
def BoundRec.value (b : BoundRec) (raw : Nat) : Int :=
  let s : Int := (raw : Int) + b.add
  match b.op with
  | 1 => -((-s) / (b.div : Int))
  | 2 => s / (b.div : Int)
  | _ => s

/-- R287, R294: REASON of a value out of range; none where it is in range. -/
def BoundRec.reason (b : BoundRec) (v : Int) : Option Nat :=
  if v < b.min then some 0 else if (b.max : Int) < v then some 1 else none

/-- R294: the first out-of-range bound is latched. -/
def Device.latchBound (d : Device) (p slot reason : Nat) (v : Int) : Device :=
  let k := prtOff p PRT_BOUND_STATUS
  if d.regField k 31 31 = 1 then d
  else (d.setReg k (2 ^ 31 + 256 * reason + slot % 64)).setReg (prtOff p PRT_BOUND_VALUE) (unsignedOf 32 v)

/-- What reading a step's bounds gives: its values, an out-of-range slot, or a poisoned word. -/
inductive Bounds where
  | ok (values : List Nat)
  | out (slot reason : Nat) (value : Int)
  | poison (granule : Nat)
  deriving DecidableEq, Repr

/-- R288: all entries read at once; the lowest slot that fails is the case that is latched. -/
def Device.readBounds (d : Device) (p : Nat) : Nat → List BoundRec → Bounds
  | _, [] => .ok []
  | i, b :: bs =>
    match d.boundRaw p b with
    | .refused => .out i 2 0
    | .poison g => .poison g
    | .raw r =>
      match b.reason (b.value r) with
      | some k => .out i k (b.value r)
      | none =>
        match d.readBounds p (i + 1) bs with
        | .ok vs => .ok ((b.value r).toNat :: vs)
        | x => x

/-! ### Issue (R313 to R315, R608) -/

/-- R313: every ring that the step fills has its first fill, or needs none; a ring whose count the unread bound gives
counts as needing none. -/
def Device.fillsReady (d : Device) (p : Nat) (s : StepInst) : Bool :=
  match d.stepRec s with
  | none => true
  | some r =>
    r.rings.all (fun e =>
      decide (2 ≤ e.ch) ||
        (match s.fills e with
         | none => true
         | some 0 => true
         | some _ => ((d.portRing p e.port e.ch).fills.find? (fun f => f.step == s.uid)).any (·.done)))

/-- R314: no earlier-admitted step of its chain is still waiting to issue. -/
def Device.chainFree (d : Device) (s : StepInst) : Bool :=
  (List.range 12).all (fun p =>
    ((d.part p).admitted ++ (d.part p).replay.toList).all (fun t =>
      t.chain != s.chain || t.uid == s.uid || decide (s.order < t.order)))

/-- R313: the step that a free partition issues next. -/
def Device.nextStep (d : Device) (p : Nat) : Option StepInst :=
  let cand := sortBy (fun (a b : StepInst) => decide (a.cls < b.cls) || (a.cls == b.cls && decide (a.order < b.order)))
    ((d.part p).admitted.filter (fun s => d.chainFree s))
  match cand.find? (·.chosen) with
  | some s => some s
  | none =>
    match cand.find? (fun s => d.fillsReady p s) with
    | some s => some s
    | none => cand.head?

/-- Read generators with a step-issue trigger, armed for the step (R153). -/
def Device.armGenerators (d : Device) (p : Nat) : Device :=
  let x := d.part p
  (sitesOf .memory).foldl (fun d site =>
    if x.stop.enabled site then
      let gs := (List.range 4).filter (fun g =>
        let gc := x.stop.gen [] site g
        gc.mode == 1 && gc.trigger == 0)
      if gs.isEmpty then d else d.modCell p site (fun c => { c with armed := gs })
    else d) d

/-- The step's stop is the active one. -/
def Partition.runs (x : Partition) (s : StepInst) : Bool :=
  match x.active with
  | some i => (x.slot i).image == s.image && (x.slot i).stopId == s.stopId
  | none => false

/-- R290: a step with a bound out of range ends with no output, and its request with BOUND_RANGE. -/
def Device.boundRange (d : Device) (p : Nat) (s : StepInst) (slot reason : Nat) (v : Int) : Device :=
  let d := d.latchBound p slot reason v
  let d := (d.ringsDrop p s.uid).modPart p (fun x => { x with admitted := x.admitted.filter (fun t => t.uid != s.uid) })
  match d.chain? s.chain with
  | some c => d.endChainRequest c 0x1032
  | none => d

/-- A step issues on its partition (R288, R439, R456). -/
def Device.startStep (d : Device) (p : Nat) (s : StepInst) : Device :=
  let d := d.modPart p (fun x =>
    { x with running := some s, admitted := x.admitted.filter (fun t => t.uid != s.uid) })
  (d.queuesIssue p (fun slot => s.bounds.getD slot 0)).armGenerators p

/-- STEP_ISSUE: a free partition issues its next admitted step; where the step's stop is not ACTIVE, its implicit switch
starts instead and the step issues after it (R608). -/
def fxStepIssue (p : Nat) (d : Device) : Device :=
  let x := d.part p
  if !decide (p < 12) || x.running.isSome || x.replay.isSome || x.switch.isSome || x.closed || x.fabric.halted then d
  else match d.nextStep p with
    | none => d
    | some s =>
      if !x.runs s then
        match d.slotOf p s.image s.stopId with
        | none => d
        | some i =>
          let st := d.switchRefusal p i
          if st ≠ 0 then d.stopStatus p st
          else d.modPart p (fun x =>
            { x with switch := some { target := i }
                     admitted := x.admitted.map (fun t => if t.uid = s.uid then { t with chosen := true } else t) })
      else if s.bound then d.startStep p s
      else match d.readBounds p 0 (match d.stepRec s with | some r => r.bounds | none => []) with
        | .ok vs => d.startStep p { s with bounds := vs, bound := true }
        | .out slot reason v => d.boundRange p s slot reason v
        | .poison g => d.parityFault s.job p g s.stepId

/-! ### Commit (R278, R305, R306, R315, R449, R495, R530) -/

/-- Nothing of the step is left to do: occupancy 0, generators started, fills injected, pop reads done, Gale work done. -/
def Device.stepDone (d : Device) (p : Nat) (s : StepInst) : Bool :=
  let x := d.part p
  decide (d.occupancy p = 0) && x.fabric.cells.all (fun c => c.2.armed.isEmpty) &&
    (match d.stepRec s with
     | none => true
     | some r =>
       r.rings.all (fun e =>
         decide (2 ≤ e.ch) ||
           (match s.fills e with
            | none => true
            | some n =>
              decide (n ≤ ((d.portRing p e.port e.ch).fills.filter (fun f => f.step == s.uid && f.injected)).length)))) &&
    (d.qpart p).pops.all (fun r => decide (r.reads ≤ r.done) && r.current.isNone) && !d.galHolds p

/-- R566: the fences over the logit rows of a committed step, one per channel of its sampler-row entries. -/
def Device.logitFences (d : Device) (p : Nat) (s : StepInst) : Device :=
  match d.stepRec s with
  | none => d
  | some r =>
    let cols := ((r.rings.filter (fun e => decide (2 ≤ e.ch) && e.mode == 2)).map (·.port)).eraseDups
    cols.foldl (fun d col =>
      d.addFence (.logits p s.uid s.job s.image s.rows) (16 * p + col) (d.coverOf (16 * p + col) none)) d

/-- A step commits. -/
def Device.commitStep (d : Device) (p : Nat) (s : StepInst) : Device :=
  let cfg := (d.part p).stop
  let d := ((d.ringsCommit p s.uid).queuesCommit p).galCommit p s cfg
  let d := d.modPart p (fun x => { x with running := none })
  (d.logitFences p s).chainCommit p s

/-- STEP_COMMIT: the running step of a partition has ended. -/
def fxStepCommit (p : Nat) (d : Device) : Device :=
  let x := d.part p
  match x.running with
  | none => d
  | some s => if !decide (p < 12) || x.fabric.halted || !d.stepDone p s then d else d.commitStep p s

/-- STEP_OVERRUN: the running step's effective worst case has passed (R842). -/
def fxStepOverrun (p : Nat) (d : Device) : Device :=
  let x := d.part p
  match x.running with
  | none => d
  | some s =>
    if !decide (p < 12) || x.fabric.halted then d
    else d.fabricFault p 0x27 5 0 0 0 false { status := 0x1027, kind := 5, stepId := s.stepId }

/-! ### Replay (R361 to R365) -/

/-- R363: the stop has a generator in accumulate mode. -/
def StopCfg.accumulates (c : StopCfg) : Bool :=
  (sitesOf .memory).any (fun site => c.enabled site && (List.range 4).any (fun g => (c.gen [] site (4 + g)).mode == 3))

/-- R362, action 1: every token, context, ledger and valve store entry goes; the cells' counts of beats stay. -/
def Fabric.discard (f : Fabric) : Fabric :=
  { halted := f.halted
    cells := Table.mapVals f.cells (fun _ c =>
      { fires := c.fires, tilesDone := c.tilesDone,
        valve := { minted := c.valve.minted, drops := c.valve.drops, highWater := c.valve.highWater } }) }

/-- R365, R369: a replay is counted, and the first latched. -/
def Device.latchReplay (d : Device) (p unit site : Nat) (s : StepInst) : Device :=
  let d := d.bump (prtOff p PRT_STEP_REPLAY_COUNT) 1
  let k := prtOff p PRT_REPLAY_STATUS
  if d.regField k 31 31 = 1 then d
  else (d.setReg k (2 ^ 31 + 2 ^ 28 * (unit % 8) + 2 ^ 26 * (s.attempt % 4) + site % 512)).setReg
    (prtOff p PRT_REPLAY_STEP) s.stepId

/-- LEDGER_PARITY_FAILURE: a parity failure in ledgers (unit 0), a conversion stage (1) or vector registers (2) at a site
ends the attempt and starts a replay, or faults (R361 to R363, R365). -/
def fxLedgerParityFailure (p unit site : Nat) (d : Device) : Device :=
  let x := d.part p
  match x.running with
  | none => d
  | some s =>
    if !decide (p < 12) || x.fabric.halted || siteKind site != .compute || decide (2 < unit) then d
    else if x.stop.accumulates || decide (2 ≤ s.attempt) then
      d.fabricFault p 0x26 1 site 0 0 false { status := 0x1026, kind := 1, stepId := s.stepId }
    else
      let d := d.latchReplay p unit site s
      let d := d.modPart p (fun x => { x with running := none, replay := some { s with attempt := s.attempt + 1, status := 0 }
                                              fabric := x.fabric.discard })
      (d.ringsRewind p s.uid).queuesReplay p

/-- STEP_REPLAY_REISSUE: the attempt has been discarded, and the step issues again with the bounds it read; where it does
not fit the time left in the run phase (`fits`), it waits for the next intake (R362, R364). -/
def fxStepReplayReissue (p : Nat) (fits : Bool) (d : Device) : Device :=
  let x := d.part p
  match x.replay with
  | none => d
  | some s =>
    if !decide (p < 12) || x.fabric.halted || x.parked then d
    else if fits then (d.modPart p (fun x => { x with running := some s, replay := none })).armGenerators p
    else d.modPart p (fun x => { x with parked := true })

end Sys2Proof.Machine
end

