-- ==== Sys2Proof/Machine/Valve.lean ====
section
/-!
DEFINITION. Valves (04_valves): pairing and the matching store, the five kinds, gap markers, the pairing timeout, and
the valve registers that act.
-/
namespace Sys2Proof.Machine

/-- The five kinds of valve (R211 VKIND). -/
inductive VKind where
  | select | merge | filter | loop | rate
  deriving DecidableEq, Repr

structure ValveCfg where
  kind : VKind
  dataScalar : Bool
  inMask : Nat
  outMask : Nat
  gapPass : Bool
  ordered : Bool
  ctlVector : Bool
  aggregate : Bool
  term : Nat
  nCtl : Bool
  contexts : Nat
  idx : Bool
  bound : Nat
  ctlTest : Nat
  pairLimit : Nat
  tagLo : Nat
  tagCount : Nat
  orderBase : Nat
  rateN : Nat
  trip : Nat
  deriving DecidableEq, Repr

/-- R211: the fields of a valve's configuration. -/
def StopCfg.valve (c : StopCfg) (site : Nat) : ValveCfg :=
  let w0 := c.cellWord site 0
  let w1 := c.cellWord site 1
  let w2 := c.cellWord site 2
  let w3 := c.cellWord site 3
  { kind := match bitsOf w0 6 4 with | 0 => .select | 1 => .merge | 2 => .filter | 3 => .loop | _ => .rate
    dataScalar := bitOf w0 7
    inMask := bitsOf w0 11 8
    outMask := bitsOf w0 15 12
    gapPass := bitsOf w0 17 16 = 0
    ordered := bitOf w0 18
    ctlVector := bitOf w0 19
    aggregate := bitOf w0 20
    term := bitsOf w0 22 21
    nCtl := bitOf w0 23
    contexts := bitsOf w0 29 24 + 1
    idx := bitOf w0 30
    bound := bitsOf w1 6 0
    ctlTest := bitsOf w1 9 7
    pairLimit := bitsOf w1 31 16
    tagLo := bitsOf w2 11 0
    tagCount := bitsOf w2 24 12
    orderBase := bitsOf w3 11 0
    rateN := bitsOf w3 24 12
    trip := c.cellWord site 4 }

/-- R176: the value the valve uses. -/
def ctlValue (test raw : Nat) : Nat :=
  match test with
  | 1 => bit (raw != 0)
  | 2 => bit (match f32.decode raw with
      | .nan => false | .inf n => !n | .fin n m _ => !n && m != 0)
  | 3 => bit (match f32.decode raw with
      | .nan => false | .inf n => n | .fin n m _ => n && m != 0)
  | 4 => bit (decide (0 < signedOf 32 raw))
  | _ => raw

/-- Input 4 is CTL; 0 to 3 are D0 to D3 (R173). None for a channel the valve does not declare. -/
def ValveCfg.input (k : ValveCfg) (scalar : Bool) (ch : Nat) : Option Nat :=
  if ch = 3 && scalar = !k.ctlVector then some 4
  else if scalar = k.dataScalar && bitOf k.inMask ch then some ch
  else none

/-- Entries in use (R180). -/
def Valve.occupancy (v : Valve) : Nat := (v.toks.filter (fun t => t.stored)).length

/-- A data packet of this input needs a control token (R178, R194, R195, R200). -/
def ValveCfg.needsCtl (k : ValveCfg) (input : Nat) : Bool :=
  match k.kind with
  | .select | .merge | .filter => true
  | .loop => if input = 0 then k.term == 1 else k.term == 2
  | .rate => !k.aggregate && k.nCtl

/-- The control packets that have not paired. -/
def Valve.freeCtls (v : Valve) : List VPkt := v.pkts.filter (fun q => q.input == 4 && q.ctlId.isNone)

/-- R179, R189: pairs one unpaired data packet, in order of arrival, if its partner is here. -/
def Valve.pairOne (k : ValveCfg) (v : Valve) (q : VPkt) : Valve :=
  if q.input = 4 || q.pair.isSome then v
  else if !k.needsCtl q.input then
    { v with pairs := v.pairs + 1
             pkts := v.pkts.map (fun r => if r.id = q.id then { r with pair := some k.rateN, pairedAt := v.pairs } else r) }
  else
    match v.freeCtls.find? (fun c =>
        c.tag == q.tag && (k.kind != .merge || (c.pair.getD 0) % 4 == q.input)) with
    | none => v
    | some c =>
      { v with pairs := v.pairs + 1
               pkts := v.pkts.map (fun r =>
                 if r.id = q.id then { r with pair := c.pair, pairedAt := v.pairs, ctlId := some c.id }
                 else if r.id = c.id then { r with ctlId := some q.id } else r) }

def Valve.pairAll (k : ValveCfg) (v : Valve) : Valve := v.pkts.foldl (Valve.pairOne k) v

/-- The packet a token belongs to. -/
def Valve.pkt (v : Valve) (id : Nat) : Option VPkt := v.pkts.find? (fun q => q.id == id)

/-- R190, R202: it is the packet's turn. -/
def ValveCfg.turn (k : ValveCfg) (v : Valve) (q : VPkt) : Bool :=
  match k.kind with
  | .merge => !k.ordered || q.tag == v.orderNext.getD k.orderBase
  | .rate =>
    if k.aggregate then
      let o := q.tag / k.rateN
      let pos := match v.aggTag.find? (fun e => e.1 == o) with | some e => e.2 | none => 0
      q.tag % k.rateN == pos && v.aggTag.all (fun e => e.1 == o)
    else true
  | _ => true

/-- The output a packet would use, before it starts: channel, and whether it is dropped (R187 to R195, R200). -/
def ValveCfg.outOf (k : ValveCfg) (v : Valve) (q : VPkt) : Nat × Bool :=
  let val := q.pair.getD 0
  match k.kind with
  | .select => (val % 4, !bitOf k.outMask (val % 4))
  | .merge => (0, false)
  | .filter => (0, val % 2 == 0)
  | .loop =>
    if q.input = 0 then
      (if k.term = 2 then (0, false)
       else if (if k.term = 1 then val else k.trip) = 0 then (1, false) else (0, false))
    else
      match v.loops.find? (fun l => l.live == q.tag) with
      | some l => (if (if k.term = 2 then val % 2 == 1 else decide (l.iter + 1 < l.trip)) then (0, false) else (1, false))
      | none => (0, true)
  | .rate => (0, !k.aggregate && (if k.nCtl then val else k.rateN) == 0)

/-- REPEAT's count for a packet: values above 4,096 act as 4,096 (R177). -/
def ValveCfg.copies (k : ValveCfg) (q : VPkt) : Nat := if k.nCtl then min 4096 (q.pair.getD 0) else k.rateN

def ValveCfg.isRepeat (k : ValveCfg) : Bool := k.kind == .rate && !k.aggregate

/-- The token a packet fires next, if it has arrived. -/
def Valve.nextTok (k : ValveCfg) (v : Valve) (q : VPkt) : Option VTok :=
  let ts := v.toks.filter (fun t => t.pkt == q.id)
  if k.isRepeat then
    -- copies walk the kept tokens; in the last copy fired tokens leave, so the first kept is next
    (if q.copy + 1 = k.copies q || k.copies q = 0 then ts.head? else ts[q.firedToks]?)
  else ts.head?

/-- R184: the beat of a packet is ready. -/
def ValveCfg.ready (k : ValveCfg) (v : Valve) (q : VPkt) : Bool :=
  q.input != 4 && q.pair.isSome && (Valve.nextTok k v q).isSome && k.turn v q
  && (let (o, drop) := if q.started then (q.outCh, q.drop) else k.outOf v q
      drop || (match Table.find? v.emitting o with | some id => id == q.id | none => true))
  && !(k.kind == .loop && q.input == 0 && !q.started && k.contexts ≤ v.loops.length
       && (k.outOf v q).1 == 0)

/-- R184, R198: the packet whose beat fires. -/
def ValveCfg.pick (k : ValveCfg) (v : Valve) : Option VPkt :=
  let r := v.pkts.filter (k.ready v)
  let backs := r.filter (fun q => q.input == 1)
  let r := if k.kind = .loop && !backs.isEmpty then backs else r
  minByKey (fun q => q.pairedAt * 4 + q.input) r

/-- R193: the next mint. -/
def ValveCfg.mint (k : ValveCfg) (v : Valve) : Nat := k.tagLo + v.minted % (max 1 k.tagCount)

/-- What starting a packet decides: output, tag, loop instances, drop count; `idx` is the iteration whose BODY packet
starts (R199). -/
def Valve.start (k : ValveCfg) (v : Valve) (q : VPkt) : Valve × VPkt × Option Nat :=
  let (o, drop) := k.outOf v q
  let val := q.pair.getD 0
  let q := { q with started := true, outCh := o, drop := drop, outTag := q.tag }
  match k.kind with
  | .loop =>
    if q.input = 0 then
      if o = 1 then (v, q, none)
      else
        let t := k.mint v
        ({ v with minted := v.minted + 1
                  loops := v.loops ++ [{ outer := q.tag, iter := 0, trip := if k.term = 1 then val else k.trip, live := t }] },
         { q with outTag := t }, some 0)
    else
      match v.loops.find? (fun l => l.live == q.tag) with
      | none => (v, q, none)
      | some l =>
        if o = 0 then
          let t := k.mint v
          ({ v with minted := v.minted + 1
                    loops := v.loops.map (fun m => if m.live = q.tag then { m with iter := m.iter + 1, live := t } else m) },
           { q with outTag := t }, some (l.iter + 1))
        else (v, { q with outTag := l.outer }, none)
  | .filter => ({ v with drops := if drop then (v.drops + 1) % 2 ^ 32 else v.drops }, q, none)
  | .rate =>
    if k.aggregate then (v, { q with outTag := q.tag / k.rateN }, none)
    else ({ v with drops := if drop then (v.drops + 1) % 2 ^ 32 else v.drops },
          { q with outTag := q.tag * k.copies q % 4096 }, none)
  | _ => (v, q, none)

/-- The packet, its tokens and its control token leave once its END has fired (R183, R186). -/
def Valve.finish (k : ValveCfg) (v : Valve) (q : VPkt) : Valve :=
  let keep := fun (id : Nat) => id != q.id && some id != q.ctlId
  let v := { v with pkts := v.pkts.filter (fun r => keep r.id)
                    toks := v.toks.filter (fun t => keep t.pkt)
                    emitting := v.emitting.filter (fun e => e.2 != q.id) }
  let v := { v with openTags := v.openTags.filter (fun t => v.pkts.any (fun r => r.tag == t)) }
  match k.kind with
  | .merge => if k.ordered then { v with orderNext := some ((v.orderNext.getD k.orderBase + 1) % 4096) } else v
  | .loop =>
    if q.outCh = 1 && q.input = 1 then { v with loops := v.loops.filter (fun l => l.live != q.tag) } else v
  | .rate =>
    if k.aggregate then
      let o := q.tag / k.rateN
      let rest := v.aggTag.filter (fun e => e.1 != o)
      let pos := q.tag % k.rateN + 1
      { v with aggTag := if pos = k.rateN then rest else rest ++ [(o, pos)] }
    else v
  | _ => v

/-- R184 to R202: one beat. -/
def valveFire (p site : Nat) (d : Device) : Device :=
  let k := (d.part p).stop.valve site
  let v := d.valve p site
  match k.pick v with
  | none => d
  | some q =>
    match Valve.nextTok k v q with
    | none => d
    | some t =>
      let (v, q, idx) := if q.started then (v, q, none) else v.start k q
      if !q.drop && !d.outFree p site k.dataScalar q.outCh then d
      else
        let fin := t.tok.fin
        let clear := k.kind == .rate && k.aggregate && q.tag % k.rateN + 1 != k.rateN
        let outTag := if k.isRepeat then (q.tag * k.copies q + q.copy) % 4096 else q.outTag
        let out : Token := { t.tok with tag := outTag, fin := fin && !clear }
        let lastCopy := !k.isRepeat || q.copy + 1 == k.copies q || k.copies q == 0
        -- the fired token leaves, but REPEAT keeps it for the copies to come
        let v := { v with toks := if lastCopy then v.toks.erase t else v.toks
                          emitting := if q.drop then v.emitting
                                      else if fin && !clear then Table.drop v.emitting q.outCh
                                      else Table.put v.emitting q.outCh q.id }
        let q' := if fin && !lastCopy then { q with copy := q.copy + 1, firedToks := 0 }
                  else { q with firedToks := q.firedToks + 1 }
        let v := { v with pkts := v.pkts.map (fun r => if r.id = q'.id then q' else r) }
        let v := if fin && lastCopy then v.finish k q' else v
        let d := d.modCell p site (fun c => { c with valve := v, fires := (c.fires + 1) % 2 ^ 32 })
        let d := match idx with
          | some i =>
            if k.idx && bitOf k.outMask q.outCh then
              d.cellEmit p site true 2 { payload := BitVec.ofNat 512 i, tag := out.tag, fin := true }
            else d
          | none => d
        if !q.drop then d.cellEmit p site k.dataScalar q.outCh out
        else if k.kind = .select then d.stray p ⟨site, 5, k.dataScalar, q.input⟩
        else d

/-- A token parks: HIGH_WATER, AT_BOUND and PRT_VALVE_PEAK follow the occupancy (R214, R217). -/
def notePark (p site : Nat) (k : ValveCfg) (d : Device) : Device :=
  let n := (d.valve p site).occupancy
  let d := d.modValve p site (fun v =>
    { v with highWater := max v.highWater n, atBound := v.atBound || n == k.bound })
  let key := prtOff p PRT_VALVE_PEAK
  if d.regField key 6 0 < n then d.setReg key (site * 128 + n) else d

/-- The head token of one of the valve's channels is taken in, if it can be: it fires at once, pairs, parks, or stays
at the channel's head (R175, R178 to R182, R197, R203). -/
def valveAccept (p : Nat) (c : Chan) (d : Device) : Nat → Device
  | 0 => d
  | n + 1 =>
    match (d.fab p).buf c with
    | [] => d
    | t :: rest =>
      let site := c.site
      let k := (d.part p).stop.valve site
      let v := d.valve p site
      let freed := d.modFab p (fun f => (f.setBuf c rest).freeEntry c)
      if !(d.part p).stop.enabled site then d
      else
        match k.input c.scalar c.ch with
        | none => d
        | some input =>
          let exit := if k.kind = .loop then 1 else 0
          if t.kind = .gap then
            if input = 4 || !k.gapPass then valveAccept p c (freed.bump (prtOff p PRT_GAP_DISCARD_COUNT) 1) n
            else if (Table.find? v.emitting exit).isSome || !d.outFree p site k.dataScalar exit then d
            else valveAccept p c (freed.cellEmit p site k.dataScalar exit { t with fin := true }) n
          else if input != 4 && t.isControl then freed.stray p c
          else
            match Table.find? v.arriving input with
            | some id =>
              if input = 4 then
                -- R175: the rest of a CTL packet is consumed and ignored
                valveAccept p c (freed.modValve p site (fun v =>
                  { v with arriving := if t.fin then Table.drop v.arriving 4 else v.arriving })) n
              else
                let v' := { v with toks := v.toks ++ [{ input := input, pkt := id, tok := t }]
                                   arriving := if t.fin then Table.drop v.arriving input else v.arriving
                                   pkts := v.pkts.map (fun q => if q.id = id then { q with ended := t.fin } else q) }
                takeIn p c k v' { input := input, pkt := id, tok := t } freed d
            | none =>
              if input = 1 && k.kind = .loop && !(v.loops.any (fun l => l.live == t.tag)) then freed.stray p c
              else if k.kind != .loop && !v.openTags.contains t.tag && k.contexts ≤ v.openTags.length then d
              else
                let id := v.nextPkt
                let q : VPkt := { id := id, input := input, tag := t.tag, ended := t.fin,
                                  pair := if input = 4 then some (ctlValue k.ctlTest t.value) else none }
                let v' := { v with toks := v.toks ++ [{ input := input, pkt := id, tok := t }]
                                   pkts := v.pkts ++ [q]
                                   nextPkt := id + 1
                                   openTags := if k.kind = .loop || v.openTags.contains t.tag then v.openTags
                                               else v.openTags ++ [t.tag]
                                   arriving := if t.fin then v.arriving else Table.put v.arriving input id }
                takeIn p c k v' { input := input, pkt := id, tok := t } freed d
where
  /-- R181, R182: whether the arriving token fires now, pairs without an entry, parks, or holds at the head. `freed` is
  the device with the token off its channel, `held` the device with it still at the head. -/
  takeIn (p : Nat) (c : Chan) (k : ValveCfg) (v : Valve) (t : VTok) (freed held : Device) : Device :=
    let site := c.site
    let v := v.pairAll k
    let d := freed.modValve p site (fun _ => v)
    let paired := match v.pkt t.pkt with | some q => q.ctlId.isSome | none => false
    let firesNow := match k.pick v with
      | some q => q.id == t.pkt && Valve.nextTok k v q == some t
          && (let o := if q.started then (q.outCh, q.drop) else k.outOf v q
              o.2 || d.outFree p site k.dataScalar o.1)
      | none => false
    if t.input = 4 && paired then d.modValve p site (fun v => { v with toks := v.toks.erase t })
    else if firesNow && !k.isRepeat then valveFire p site d
    else if v.occupancy < k.bound then
      let d := d.modValve p site (fun v =>
        { v with toks := v.toks.map (fun u => if u = t then { u with stored := true } else u) })
      let d := notePark p site k d
      if firesNow then valveFire p site d else d
    else held

/-- The steps of a valve that a halted partition no longer takes (R167). -/
def Device.valveLive (d : Device) (p site : Nat) : Bool :=
  decide (p < 12) && !(d.fab p).halted && siteKind site == .valve && decide (site < siteCount)

/-- R123, R181: the next token of a valve's input channel arrives. -/
def fxValveTokenArrival (p site : Nat) (scalar : Bool) (ch : Nat) (d : Device) : Device :=
  let c : Chan := ⟨site, 5, scalar, ch⟩
  if !d.valveLive p site then d
  else
    match (d.fab p).wire c with
    | [] => d
    | t :: rest =>
      let d := d.modFab p (fun f => (f.setWire c rest).accepted c)
      if t.epoch ≠ (d.part p).epoch then (d.modFab p (fun f => f.freeEntry c)).stray p c
      else valveAccept p c (d.modFab p (fun f => f.setBuf c (f.buf c ++ [t]))) 8

/-- The channels of a site's cell input. -/
def inputChans (site : Nat) : List Chan :=
  [false, true].flatMap (fun sc => (List.range 4).map (fun ch => ⟨site, 5, sc, ch⟩))

/-- R184, R185, R209: the valve fires its earliest ready beat; with none among its parked tokens, a token at a channel's
head may now be taken in. `parityOk` is false where the fired entry fails its parity check. -/
def fxValveBeat (p site : Nat) (parityOk : Bool) (d : Device) : Device :=
  if !d.valveLive p site || !(d.part p).stop.enabled site then d
  else
    let k := (d.part p).stop.valve site
    match k.pick (d.valve p site) with
    | some q =>
      if !parityOk && (match Valve.nextTok k (d.valve p site) q with | some t => t.stored | none => false) then
        d.fabricFault p 0x24 1 site 4 q.input k.dataScalar { status := 0x1024, kind := 1, detail := q.tag }
      else valveFire p site d
    | none => (inputChans site).foldl (fun d c => valveAccept p c d 1) d

/-- R204: the parked tokens that age: those whose packet has no partner, or waits its turn. -/
def Valve.aging (k : ValveCfg) (v : Valve) : List VTok :=
  v.toks.filter (fun t => t.stored &&
    (match v.pkt t.pkt with
     | some q =>
       if q.input = 4 then q.ctlId.isNone
       else q.pair.isNone || (!k.turn v q && !k.isRepeat)
     | none => false))

/-- R205, R216, R207: the age of the `i`-th waiting token passes PAIR_LIMIT. `withDrain` says that the drain budget runs
out in the same cycle. -/
def fxValvePairingTimeout (p site i : Nat) (withDrain : Bool) (d : Device) : Device :=
  let k := (d.part p).stop.valve site
  let v := d.valve p site
  match (v.aging k)[i]? with
  | none => d
  | some t =>
    if !d.valveLive p site then d
    else
      let isCtl := t.input = 4
      let key := prtOff p PRT_VALVE_TIMEOUT
      let word := 2 ^ 31 + 2 ^ 22 * site + 2 ^ 18 * bit isCtl + 2 ^ 16 * (if isCtl then 3 else t.input) + t.tok.tag % 4096
      let d := if d.regField key 31 31 = 1 then d else d.setReg key word
      let d := d.modValve p site (fun v =>
        { v with toks := v.toks.map (fun u => if u = t then { u with age := k.pairLimit + 1 } else u) })
      let d := if withDrain && (d.part p).draining then d.failSwitch p 0x1025 else d
      d.fabricFault p 0x23 3 site 4 (if isCtl then 3 else t.input) (if isCtl then !k.ctlVector else k.dataScalar)
        { status := 0x1023, kind := 3, detail := t.tok.tag }

/-- R214: CLEAR_HW sets HIGH_WATER of the port's selected valve to its occupancy. -/
def fxPrtValveClearHw (port : Port) (p : Nat) (d : Device) : Device :=
  let site := d.selSite port p
  if 12 ≤ p || siteKind site != .valve then d
  else d.modValve p site (fun v => { v with highWater := v.occupancy })

/-- R217: CLEAR sets PEAK and SITE to 0. -/
def fxPrtValvePeakClear (p : Nat) (d : Device) : Device :=
  if 12 ≤ p then d else d.setReg (prtOff p PRT_VALVE_PEAK) 0

end Sys2Proof.Machine
end

