-- ==== Sys2Proof/Machine/ImageCheck.lean ====
section
/-!
DEFINITION. Reading a Novuiven image and the checks of it that need nothing but the image (05_stops, R248 to R252; checks
1 to 4, 6 and 7 of R258; R907, R908).
-/
namespace Sys2Proof.Machine

/-! ### The size table (R34 to R41) -/

def sizesA : List (Nat × Nat) := [
  (0x0001, 1), (0x0002, 12), (0x0003, 12), (0x0004, 16), (0x0005, 20), (0x0006, 128), (0x0007, 128), (0x0008, 48),
  (0x0009, 16), (0x000A, 4), (0x000B, 18), (0x0101, 1900000), (0x0102, 2), (0x0103, 64), (0x0104, 4), (0x0105, 12),
  (0x0106, 2), (0x0107, 8), (0x0108, 64), (0x0109, 64), (0x010A, 64), (0x010B, 4096), (0x010C, 2048), (0x010D, 1024),
  (0x010E, 64), (0x010F, 0x3FF), (0x0110, 128), (0x0111, 26), (0x0112, 4), (0x0113, 16777216), (0x0114, 12000),
  (0x0115, 40000), (0x0116, 2000), (0x0201, 67108864), (0x0202, 524288), (0x0203, 16), (0x0204, 768), (0x0205, 256),
  (0x0206, 68719476736), (0x0207, 3276800), (0x0208, 6553600), (0x0209, 8), (0x020A, 8800)]

def sizesB : List (Nat × Nat) := [
  (0x020E, 4194304), (0x020F, 256), (0x0210, 64), (0x0211, 65536), (0x0212, 16), (0x0213, 16), (0x0214, 3),
  (0x0301, 1200000), (0x0302, 125000), (0x0303, 192), (0x0304, 8), (0x0305, 16), (0x0306, 4), (0x0307, 4), (0x0401, 20),
  (0x0402, 4000), (0x0403, 4), (0x0404, 5), (0x0405, 24), (0x0501, 4096), (0x0502, 63), (0x0503, 2048), (0x0601, 16),
  (0x0602, 4), (0x0603, 25000), (0x0604, 64), (0x0605, 200000), (0x0606, 72), (0x0607, 8), (0x0701, 512), (0x0702, 8),
  (0x0703, 1024), (0x0704, 262144), (0x0705, 64), (0x0706, 8), (0x0707, 256), (0x0708, 4096)]

/-- R39: the size table, in the order of its NAMEs; the fitted T3 figures are the device's own. -/
def Device.sizeTable (d : Device) : List (Nat × Nat) :=
  sizesA ++ [(0x020B, d.ddr), (0x020C, 2), (0x020D, d.cxl.foldl (· + ·) 0)] ++ sizesB

/-- R37: a name's value; an absent name reads 0. -/
def Device.sizeOf (d : Device) (name : Nat) : Nat := ((d.sizeTable.find? (fun e => e.1 == name)).map (·.2)).getD 0

/-! ### Reading an image (R248 to R252, R286, R308, R340, R341, R343, R513) -/

/-- An image as read: its bytes and the fields of its header. -/
structure Raw where
  b : List Byte
  lparts : Nat
  stopCount : Nat
  stepCount : Nat
  secs : List (Nat × Nat)
  deriving DecidableEq, Repr

/-- R248: the header's fields. -/
def Raw.ofBytes (b : List Byte) : Raw :=
  { b := b, lparts := leAt b 12 2, stopCount := leAt b 16 4, stepCount := leAt b 20 4
    secs := (List.range 8).map (fun i => (leAt b (64 + 8 * i) 4, leAt b (68 + 8 * i) 4)) }

def Raw.sec (r : Raw) (i : Nat) : Nat × Nat := r.secs.getD i (0, 0)
/-- `n` records of `size` bytes from an offset of the image. -/
def Raw.records (r : Raw) (off size n : Nat) : List (List Byte) :=
  (List.range n).map (fun i => sliceOf r.b (off + size * i) size)
def Raw.caps (r : Raw) : List (List Byte) := r.records (r.sec 0).1 16 ((r.sec 0).2 / 16)
def Raw.dir (r : Raw) : List (List Byte) := r.records (r.sec 1).1 16 r.stopCount
def Raw.stepRecs (r : Raw) : List (List Byte) := r.records (r.sec 3).1 64 r.stepCount
/-- The records of section 4, 5 or 6, after its 8-byte header. -/
def Raw.counted (r : Raw) (i : Nat) : List (List Byte) := r.records ((r.sec i).1 + 8) 32 (((r.sec i).2 - 8) / 32)
def Raw.blockCount (r : Raw) : Nat := (r.sec 2).2 / 65536
/-- Stop block `i` of section 2. -/
def Raw.block (r : Raw) (i : Nat) : List Byte := sliceOf r.b ((r.sec 2).1 + 65536 * i) 65536

/-- A bound table or a ring table at an offset (R286, R308): its entries; none where its header or its length is bad. -/
def Raw.table (r : Raw) (off : Nat) : Option (List (List Byte)) :=
  let n := leAt r.b off 1
  if n = 0 || 64 < n || r.b.length < off + 8 + 32 * n || !allZero (sliceOf r.b (off + 1) 7) then none
  else some (r.records (off + 8) 32 n)

def BoundRec.ofBytes (e : List Byte) : BoundRec :=
  { source := leAt e 0 1, op := leAt e 1 1, div := leAt e 2 2, add := signedOf 32 (leAt e 4 4), min := leAt e 8 4,
    max := leAt e 12 4, arg := leAt e 16 8 }

def RingRec.ofBytes (e : List Byte) : RingRec :=
  { port := leAt e 0 1, ch := leAt e 1 1, fills := leAt e 2 2, mode := leAt e 4 1, slot := leAt e 5 1,
    base := leAt e 8 8, list := leAt e 16 8, bytes := leAt e 24 4 }

def StopRec.ofBytes (r : Raw) (e : List Byte) : StopRec :=
  { id := leAt e 0 4, part := leAt e 4 1, home := leAt e 5 1, block := leAt e 8 4,
    cfg := StopCfg.ofBlock (r.block (leAt e 8 4)) }

/-- R513: where the op list of a Drone step begins. -/
def opListAt (boundTable bounds : Nat) : Nat := (boundTable + 8 + 32 * bounds + 63) / 64 * 64

def StepRec.ofBytes (r : Raw) (e : List Byte) : StepRec :=
  let bt := leAt e 32 4
  let rt := leAt e 36 4
  let bounds := if bt = 0 then [] else (r.table bt).getD []
  let rings := if rt = 0 then [] else (r.table rt).getD []
  let ol := opListAt bt bounds.length
  { id := leAt e 0 4, stopId := leAt e 4 4, part := leAt e 8 1, cls := leAt e 9 1, engine := leAt e 10 1,
    wc := leAt e 12 4, cross := leAt e 16 2, circuits := leAt e 18 2, t1 := leAt e 20 4, queueBytes := leAt e 24 4,
    queues := leAt e 28 2, checkpoints := leAt e 30 2, bounds := bounds.map BoundRec.ofBytes,
    rings := rings.map RingRec.ofBytes
    ops := if leAt e 10 1 = 1 then r.records (ol + 64) 64 (min 1024 (leAt r.b ol 4)) else [] }

def FrontRec.ofBytes (e : List Byte) : FrontRec :=
  { stepId := leAt e 0 4, lead := leAt e 4 2, kind := leAt e 6 1, part := leAt e 7 1, arg0 := leAt e 8 4,
    arg1 := leAt e 12 4, arg2 := leAt e 16 8, arg3 := leAt e 24 4 }

def TileRec.ofBytes (e : List Byte) : TileRec :=
  { id := leAt e 0 4, hint := leAt e 4 2, fmt := leAt e 6 1, sparse := bitOf (leAt e 7 1) 0, panels := leAt e 8 2,
    k := leAt e 12 4, addr := leAt e 16 8, panelBytes := leAt e 24 4, scales := leAt e 28 4 }

def PageRec.ofBytes (e : List Byte) : PageRec :=
  { hint := leAt e 0 2, shard := leAt e 4 4, src := leAt e 8 8, dst := leAt e 16 8 }

/-- The image of a job that the bytes at `addr` spell, mapped onto physical partitions `map`. -/
def Raw.image (r : Raw) (job fn addr : Nat) (map : List Nat) : Image :=
  { job := job, fn := fn, addr := addr, len := r.b.length, secStops := (r.sec 2).1
    parts := map.take r.lparts
    t1 := (List.range 12).map (fun i => leAt r.b (128 + 4 * i) 4)
    qkib := (List.range 12).map (fun i => leAt r.b (176 + 2 * i) 2)
    queues := (List.range 12).map (fun i => leAt r.b (200 + 2 * i) 2)
    circuits := leAt r.b 224 2
    stops := r.dir.map (StopRec.ofBytes r)
    steps := r.stepRecs.map (StepRec.ofBytes r)
    front := (r.counted 4).map FrontRec.ofBytes
    tiles := (r.counted 5).map TileRec.ofBytes
    pages := (r.counted 6).map PageRec.ofBytes }

/-! ### Verdicts (R258, R908) -/

/-- Status, kind and index of a check that fails. -/
abbrev Bad := Nat × Nat × Nat

/-- The first element of a list that fails a check, as a refusal of one kind. -/
def firstFail {α : Type} (status kind : Nat) (l : List α) (bad : Nat → α → Bool) : Option Bad :=
  (l.zipIdx.find? (fun e => bad e.2 e.1)).map (fun e => (status, kind, e.2))

def failIf (c : Bool) (status kind index : Nat) : Option Bad := if c then some (status, kind, index) else none

def firstOf (l : List (Option Bad)) : Option Bad := l.findSome? id

/-- Whether any two elements at different places stand in a relation. -/
def anyPair {α : Type} (f : α → α → Bool) : List α → Bool
  | [] => false
  | a :: l => l.any (f a) || anyPair f l

/-! ### Checks 1 to 4 -/

/-- Two ranges (first, length) meet; an empty one meets nothing (R249). -/
def rangesMeet (a b : Nat × Nat) : Bool :=
  decide (0 < a.2) && decide (0 < b.2) && decide (a.1 < b.1 + b.2) && decide (b.1 < a.1 + a.2)

/-- Check 1's header and section table (R248, R249); `want` is the operand IMAGE_BYTES. -/
def Raw.headerBad (r : Raw) (want : Nat) : Bool :=
  let lenOk := fun (i : Nat) (s : Nat × Nat) =>
    match i with
    | 0 => s.2 % 16 == 0
    | 1 => s.2 == 16 * r.stopCount
    | 2 => s.2 % 65536 == 0 && s.1 % 65536 == 0
    | 3 => s.2 == 64 * r.stepCount
    | _ => s.2 == 0 || (decide (8 ≤ s.2) && s.2 == 8 + 32 * leAt r.b s.1 4 && allZero (sliceOf r.b (s.1 + 4) 4))
  decide (r.b.length < 256) || leAt r.b 0 4 != 0x4D49564E || leAt r.b 4 2 != 1 || leAt r.b 8 4 != want ||
    r.b.length != want || r.lparts == 0 || decide (12 < r.lparts) || !allZero (sliceOf r.b 14 2) ||
    !allZero (sliceOf r.b 24 8) || !allZero (sliceOf r.b 226 30) || r.sec 7 != (0, 0) ||
    r.secs.zipIdx.any (fun e => e.1.1 % 64 != 0 || (e.1.2 != 0 && decide (want < e.1.1 + e.1.2)) ||
      rangesMeet e.1 (0, 256) || !lenOk e.2 e.1) || anyPair rangesMeet r.secs

/-- R250: a capability record's MODE and reserved bytes. -/
def capBad (e : List Byte) : Bool := decide (2 < leAt e 2 1) || leAt e 3 1 != 0 || !allZero (sliceOf e 10 6)

/-- R248: the digest of the image. -/
def Raw.digestOk (r : Raw) : Bool := sha256 (patchBytes r.b 32 (List.replicate 32 0)) == sliceOf r.b 32 32

/-- R250: a capability record holds. -/
def Device.capHolds (d : Device) (e : List Byte) : Bool :=
  let have_ := d.sizeOf (leAt e 0 2)
  let v := leAt e 4 6
  match leAt e 2 1 with
  | 0 => have_ == v
  | 1 => decide (v ≤ have_)
  | _ => decide (have_ ≤ v)

/-- Cells of a kind that a part has. -/
def CellKind.count : CellKind → Nat
  | .compute => 128 | .memory => 128 | .valve => 48 | .tilePort => 16

/-- Check 4 of a stop: ENABLE_MAP enables no more cells of a kind than the part has. -/
def tooManyCells (block : List Byte) : Bool :=
  let m := leAt block 16 40
  [CellKind.compute, .memory, .valve, .tilePort].any (fun k =>
    decide (k.count < ((sitesOf k).filter (fun s => bitOf m s)).length))

/-- Checks 1 to 4 of R258; `mapped` is the number of partitions the load maps. -/
def Device.checks1to4 (d : Device) (r : Raw) (want mapped : Nat) : Option Bad :=
  if r.headerBad want then some (0x1047, 0, 0)
  else firstOf [
    firstFail 0x1047 1 r.caps (fun _ e => capBad e),
    failIf (!r.digestOk) 0x1046 0 0,
    failIf (leAt r.b 6 2 != d.sizeOf 1) 0x1045 0 0,
    firstFail 0x1045 1 r.caps (fun _ e => !d.capHolds e),
    failIf (decide (mapped < r.lparts)) 0x1040 0 0,
    firstFail 0x1040 2 r.dir (fun _ e => decide (leAt e 8 4 < r.blockCount) && tooManyCells (r.block (leAt e 8 4)))]

/-! ### Check 6: stops (R104, R143, R174, R212, R223 to R227, R301, R430, R458, R907) -/

/-- R225, R227, R110, R104, R907: a block's own form. -/
def blockBad (b : List Byte) (c : StopCfg) : Bool :=
  let map := leAt b 16 40
  !blockCrcOk b || leAt b 14 2 != 1 || c.drainBudget == 0 || decide (64 < leAt b 12 1) ||
    !allZero (sliceOf b 56 200) || !allZero (sliceOf b 0xD700 10496) ||
    (List.range siteCount).any (fun s =>
      let w := c.cellWord s 0
      let k := bitsOf w 2 0
      decide (16 ≤ c.word (0x50C + 32 * s)) || decide (16 ≤ c.word (0x51C + 32 * s)) ||
        (k != (siteKind s).code && k != 7) || bitOf w 3 != bitOf map s) ||
    decide (2 ^ 320 ≤ map)

/-- R64: the family of a format code: 1 MX, 2 INT, 3 float, 4 FP32. -/
def familyCode (f : Nat) : Nat := if f < 4 then 1 else if f < 6 then 2 else if f < 8 then 3 else 4

/-- R63, R64, R97, R143: formats of a compute cell. -/
def computeBad (c : StopCfg) (site : Nat) : Bool :=
  let w := c.cellWord site 0
  let a := bitsOf w 7 4
  let b := bitsOf w 11 8
  let o := bitsOf w 15 12
  let cc := bitsOf (c.cellWord site 2) 28 25
  let ua := bitOf w 27
  let ub := bitOf w 28
  decide (8 < a) || decide (8 < b) || (decide (8 < o) && decide (o < 15)) ||
    (bitOf w 29 && !(decide (6 ≤ cc) && decide (cc ≤ 8))) || (ua && familyCode a == 4) || (ub && familyCode b == 4) ||
    (ua && ub && familyCode a != familyCode b) || (bitOf w 16 && ub && familyCode b == 3)

/-- Inputs and outputs a valve kind may declare, as masks (R174). -/
def valveMasks : VKind → Nat × Nat
  | .select => (1, 15) | .merge => (15, 1) | .filter => (1, 1) | .loop => (3, 3) | .rate => (1, 1)

/-- The structural checks of R212 on one valve. -/
def valveBad (c : StopCfg) (site : Nat) : Bool :=
  let k := c.valve site
  let (ins, outs) := valveMasks k.kind
  let ins := if k.dataScalar || k.ctlVector then Nat.land ins 7 else ins
  let outs := if k.dataScalar && k.idx then Nat.land outs 11 else outs
  let named := (List.range 4).filter (fun i => bitOf k.outMask i) |>.map (fun i => (k.dataScalar, i))
  decide (4 < bitsOf (c.cellWord site 0) 6 4) || k.term == 3 || decide (4 < k.ctlTest) ||
    Nat.land k.inMask ins != k.inMask || Nat.land k.outMask outs != k.outMask ||
    (k.idx && k.kind != .loop) || (k.ordered && k.kind != .merge) ||
    (k.nCtl && !(k.kind == .rate && !k.aggregate)) ||
    (k.kind == .rate && k.aggregate && (k.rateN == 0 || Nat.land k.rateN (k.rateN - 1) != 0)) ||
    (k.kind == .loop && (decide (4096 < k.tagLo + k.tagCount) || decide (k.tagCount < k.contexts + 1))) ||
    (named ++ (if k.idx then [(true, 2)] else [])).any (fun o => (c.routed ⟨site, 4, o.1, o.2⟩).isEmpty)

/-- R212: mint ranges of two LOOP valves of one stop overlap. -/
def mintsMeet (c : StopCfg) (vs : List Nat) : Bool :=
  anyPair (fun a b => rangesMeet ((c.valve a).tagLo, (c.valve a).tagCount) ((c.valve b).tagLo, (c.valve b).tagCount))
    (vs.filter (fun s => (c.valve s).kind == .loop))

/-- R301: the rings of a stop, each as (home, first token, tokens); a bad one of its own. -/
def ringsBad (c : StopCfg) (cols : List Nat) : Bool :=
  let rings := cols.flatMap (fun col => (List.range 4).filterMap (fun ch => c.ring col ch))
  rings.any (fun r => decide (r.slots < 3) || r.tokens == 0 || decide (8192 < r.base + r.slots * r.tokens)) ||
    anyPair (fun x y => x.home == y.home && rangesMeet (x.base, x.slots * x.tokens) (y.base, y.slots * y.tokens)) rings

/-- R458: push and pop bindings of a tile port. -/
def portBad (c : StopCfg) (col : Nat) : Bool :=
  let w := c.cellWord col 0
  (bitOf w 6 && (match c.bindings[bitsOf w 13 8]? with | some b => !b.writes | none => true)) ||
    (bitOf w 7 && (match c.bindings[bitsOf w 19 14]? with | some b => !b.reads | none => true))

/-- R226, R430: the form of the binding entries of a block. -/
def bindingsBad (b : List Byte) (c : StopCfg) : Bool :=
  c.bindings.zipIdx.any (fun e =>
    let raw := sliceOf b (0x100 + 16 * e.2) 16
    decide (255 < e.1.queue) || decide (8 ≤ leAt raw 2 1) || leAt raw 3 1 != 0 || !allZero (sliceOf raw 10 6) ||
      e.1.maxPacket == 0 || decide (e.1.capacity < e.1.maxPacket + 1) || decide (65536 < e.1.capacity))

/-- R430, R258: two stops of one partition bind a queue with different capacities, or carry it with different shapes. -/
def bindingsClash (a b : StopRec) : Bool :=
  a.part == b.part && a.cfg.bindings.any (fun x => b.cfg.bindings.any (fun y =>
    x.queue == y.queue && (x.capacity != y.capacity || (x.carried && y.carried && x.maxPacket != y.maxPacket))))

/-- Check 6 of a directory entry and its block (R251, R258). -/
def Raw.stopBad (r : Raw) (stops : List StopRec) (i : Nat) (s : StopRec) : Bool :=
  let e := r.dir.getD i []
  let c := s.cfg
  let b := r.block s.block
  let on := fun k => (sitesOf k).filter (fun x => c.enabled x)
  decide (2 < s.home) || leAt e 6 2 != 0 || leAt e 12 4 != 0 || decide (r.lparts ≤ s.part) ||
    decide (r.blockCount ≤ s.block) || c.stopId != s.id || c.logicalPart != s.part ||
    (stops.take i).any (fun t => t.id == s.id) || blockBad b c || bindingsBad b c ||
    (on .compute).any (computeBad c) || (on .valve).any (valveBad c) || mintsMeet c (on .valve) ||
    ringsBad c (on .tilePort) || (on .tilePort).any (portBad c) || bindingsClash s s ||
    (stops.drop (i + 1)).any (fun t => bindingsClash s t)

/-! ### Check 6: manifests (R339 to R342, R672) -/

/-- R339: a placement hint. -/
def hintBad (h lparts : Nat) : Bool :=
  let tier := bitsOf h 1 0
  let part := bitsOf h 6 3
  tier == 3 || (part != 15 && decide (lparts ≤ part)) || (bitOf h 8 && tier == 0) || (bitOf h 9 && tier != 1) ||
    bitsOf h 15 10 != 0

/-- The size S of a panel: its tiles times the tile bytes of R331. -/
def TileRec.size (t : TileRec) : Nat :=
  let elems := match t.fmt with
    | 0 => if t.sparse then 1536 else 2048
    | 4 => if t.sparse then 1536 else 2048
    | 5 => if t.sparse then 2560 else 4096
    | 6 => 8192
    | 7 => 8192
    | _ => if t.sparse then 2560 else 4096
  (t.k + 63) / 64 * (elems + (if t.fmt < 4 then 128 else 0))

/-- R340, R342: a tile manifest record. -/
def Raw.tileBad (r : Raw) (ts : List TileRec) (i : Nat) (t : TileRec) : Bool :=
  let e := (r.counted 5).getD i []
  hintBad t.hint r.lparts || decide (7 < t.fmt) || decide (2 ≤ leAt e 7 1) || leAt e 10 2 != 0 || t.panels == 0 ||
    t.k == 0 || decide (67108864 < t.k) || (t.sparse && decide (5 < t.fmt)) || t.panelBytes % 64 != 0 ||
    decide (t.panelBytes < t.size) || (t.scales != 0 && t.fmt != 4 && t.fmt != 5) ||
    (ts.take i).any (fun u => u.id == t.id)

/-- R341, R342; R672 where the image comes from the library: `own` gives a shard's first page offset and bytes. -/
def Raw.pageBad (r : Raw) (own : Option (List (Nat × Nat × Nat))) (i : Nat) (p : PageRec) : Bool :=
  let e := (r.counted 6).getD i []
  hintBad p.hint r.lparts || bitsOf p.hint 1 0 != 1 || leAt e 2 2 != 0 || leAt e 24 8 != 0 || p.src % 65536 != 0 ||
    p.dst % 65536 != 0 ||
    (match own with
     | none => false
     | some l => !l.any (fun s => s.1 == p.shard && decide (s.2.1 ≤ p.src) && decide (p.src + 65536 ≤ s.2.1 + s.2.2)))

/-! ### Check 6: steps (R252, R291, R301, R308, R458, R513, R514, R566, R567) -/

/-- R286, R291: a bound entry. -/
def boundBad (raw : List Byte) (b : BoundRec) : Bool :=
  decide (2 < b.source) || decide (2 < b.op) || b.div == 0 || decide (b.max < b.min) || leAt raw 24 8 != 0 ||
    (b.source == 0 && decide (2 ^ 32 ≤ b.arg)) || (b.source == 1 && decide (15 < b.arg)) ||
    (b.source == 2 && (b.arg % 4 != 0 || addrDevice b.arg != 127))

/-- R291: a consumer of bound slot `k` that asks for values from `lo` to `hi`. -/
def slotBad (bounds : List BoundRec) (k lo hi : Nat) : Bool :=
  match bounds[k]? with
  | none => true
  | some b => decide (b.min < lo) || decide (hi < b.max)

/-- R301, R308, R566, R291: a ring table entry of a step. -/
def ringBad (raw : List Byte) (c : StopCfg) (bounds : List BoundRec) (e : RingRec) : Bool :=
  decide (15 < e.port) || decide (3 < e.ch) || decide (2 < e.mode) || leAt raw 6 2 != 0 || leAt raw 28 4 != 0 ||
    (match c.ring e.port e.ch with
     | none => true
     | some g =>
       let most := if e.slot = 255 then e.fills else match bounds[e.slot]? with | some b => b.max | none => 0
       (e.slot != 255 && slotBad bounds e.slot 0 (g.slots - 1)) || decide (g.slots - 1 < most) ||
         (decide (e.ch < 2) && (e.bytes == 0 || decide (64 * g.tokens < e.bytes) || e.mode == 2)) ||
         (e.mode == 2 && decide (8388608 < most * 64 * g.tokens)))

/-- R291, R458: the cells of a stop whose fields a step's bounds feed. -/
def consumersBad (c : StopCfg) (bounds : List BoundRec) : Bool :=
  (sitesOf .compute).any (fun s => c.enabled s && (c.compute s).kSrc == 1 && slotBad bounds (c.compute s).kSlot 1 67108864) ||
    (sitesOf .memory).any (fun s => c.enabled s && (List.range 8).any (fun g =>
      let gc := c.gen [] s g
      gc.boundOn && gc.mode != 0 && !(decide (g < 4) && gc.mode == 3) && slotBad bounds gc.boundSlot 1 65535)) ||
    (sitesOf .tilePort).any (fun s =>
      c.enabled s && bitOf (c.cellWord s 0) 7 && slotBad bounds (bitsOf (c.cellWord s 0) 29 24) 0 65535)

/-- R63, R514: an operation of a Drone's op list. -/
def opBad (tiles : List TileRec) (o : List Byte) : Bool :=
  let item := fun (n : Nat) => tiles.find? (fun t => t.id == n)
  let code := leAt o 0 1
  let fmtIn := fun (f : Nat) => decide (8 < f)
  let fmtOut := fun (f : Nat) => decide (8 < f) && decide (f < 15)
  let kv := fun (f : Nat) => f != 1 && f != 2
  match code with
  | 0x48 => fmtIn (leAt o 28 1) || fmtOut (leAt o 29 1) ||
      (match item (leAt o 8 4) with | some t => t.sparse || familyCode t.fmt != familyCode (leAt o 28 1) | none => true)
  | 0x49 => kv (leAt o 14 1)
  | 0x4A => false
  | 0x4B => kv (leAt o 10 1)
  | 0x4C => fmtIn (leAt o 16 1) || fmtOut (leAt o 17 1)
  | 0x4D => (match item (leAt o 8 4) with | some t => t.sparse | none => true)
  | 0x4E => (match item (leAt o 20 8) with | some t => leAt o 20 8 != 0 && t.sparse | none => false)
  | 0x4F => false
  | _ => true

/-- Check 6 of a step record with its tables (R252, R291, R301, R308, R458, R513, R514, R566). -/
def Raw.stepBad (r : Raw) (x : Image) (i : Nat) (s : StepRec) : Bool :=
  let e := r.stepRecs.getD i []
  let bt := leAt e 32 4
  let rt := leAt e 36 4
  let rawB := (r.table bt).getD []
  let rawR := (r.table rt).getD []
  let ol := opListAt bt s.bounds.length
  decide (s.cls < 2) || decide (4 < s.cls) || decide (1 < s.engine) || leAt e 11 1 != 0 || !allZero (sliceOf e 40 24) ||
    (x.steps.take i).any (fun t => t.id == s.id) || (bt != 0 && (r.table bt).isNone) || (rt != 0 && (r.table rt).isNone) ||
    (rawB.zip s.bounds).any (fun y => boundBad y.1 y.2) ||
    (if s.engine = 1 then
      s.cross != 0 || s.stopId != 0xFFFFFFFF || decide (11 < s.part) || decide (s.bounds.length < 2) ||
        (match s.bounds[0]? with | some b => decide (512 < b.max) | none => true) ||
        decide (r.b.length < ol + 64) || leAt r.b ol 4 == 0 || decide (1024 < leAt r.b ol 4) ||
        !allZero (sliceOf r.b (ol + 4) 60) || decide (r.b.length < ol + 64 + 64 * leAt r.b ol 4) ||
        s.ops.any (opBad x.tiles)
    else match x.stops.find? (fun t => t.id == s.stopId) with
      | none => true
      | some t => decide (r.lparts ≤ s.part) || t.part != s.part || consumersBad t.cfg s.bounds ||
          (rawR.zip s.rings).any (fun y => ringBad y.1 t.cfg s.bounds y.2))

/-- R514: the Drones of the group hold the same number of steps, with one MAX of slot 1. -/
def groupBad (x : Image) (s : StepRec) : Bool :=
  s.engine == 1 && (match x.steps.find? (fun t => t.engine == 1) with
    | none => false
    | some t => (x.droneSteps s.part).length != (x.droneSteps t.part).length ||
        (s.bounds[1]?).map (·.max) != (t.bounds[1]?).map (·.max))

/-- The vocabulary ranges of the group's members, each member's own ranges once (R567). -/
def vocabRanges (x : Image) : List (Nat × Nat) :=
  x.group.flatMap (fun m => (((x.droneSteps m).flatMap (·.ops)).filter (fun o =>
    leAt o 0 1 == 0x4E && leAt o 16 4 != 0)).map (fun o => (leAt o 12 4, leAt o 16 4)) |>.eraseDups)

/-- R567: the ranges leave a gap below V, overlap, or pass CAP_VOCAB_MAX. -/
def vocabBad (x : Image) : Bool :=
  let rs := sortBy (fun (a b : Nat × Nat) => decide (a.1 < b.1)) (vocabRanges x)
  let last := rs.foldl (fun (p : Nat × Bool) r => (r.1 + r.2, p.2 || r.1 != p.1)) (0, false)
  last.2 || decide (262144 < last.1)

/-- The last Drone step with a D_SAMPLE: the record that a bad vocabulary names. -/
def vocabStep (x : Image) : Nat :=
  (x.steps.zipIdx.foldl (fun n e => if e.1.ops.any (fun o => leAt o 0 1 == 0x4E) then e.2 else n) 0)

/-! ### Check 6: the Front schedule (R343, R344, R349) -/

/-- R343: the T1 region of a TILE_LOAD: first byte and bytes. -/
def FrontRec.region (f : FrontRec) (tiles : List TileRec) : Nat × Nat :=
  match tiles.find? (fun t => t.id == f.arg0) with
  | some t => (f.arg2, f.arg1 / 65536 * t.size)
  | none => (f.arg2, 0)

/-- R344: the steps of a logical partition, in step-table order. -/
def Image.stepsOn (x : Image) (part : Nat) : List StepRec := x.steps.filter (fun s => s.part == part)

/-- R349: entry `i` of a Front schedule. -/
def frontBad (raw : List Byte) (lparts pageCount : Nat) (x : Image) (i : Nat) (f : FrontRec) : Bool :=
  let others := x.front.zipIdx.filter (fun e => e.2 != i && e.1.part == f.part && e.1.kind == f.kind)
  let mine := x.stepsOn f.part
  decide (2 < f.kind) || decide (lparts ≤ f.part) || leAt raw 28 4 != 0 ||
    (if f.stepId = 0xFFFFFFFF then f.kind != 1 else !mine.any (fun s => s.id == f.stepId)) ||
    (match f.kind with
     | 1 => f.arg2 != 0 || f.arg3 != 0 || decide (pageCount < f.arg0 + f.arg1)
     | 2 => decide (mine.length ≤ f.lead) || decide (4 ≤ f.arg1) || f.arg2 != 0 || f.arg3 != 0 ||
         !x.stops.any (fun t => t.id == f.arg0 && t.part == f.part) ||
         (f.lead == 0 && others.any (fun e => e.1.lead == 0 && e.1.arg1 == f.arg1))
     | _ => decide (mine.length ≤ f.lead) || f.arg2 % 64 != 0 || decide (16 ≤ f.arg3) ||
         (match x.tiles.find? (fun t => t.id == f.arg0) with
          | none => true
          | some t => decide (t.panels < f.arg1 % 65536 + f.arg1 / 65536)) ||
         decide (x.t1.getD f.part 0 < f.arg2 + (f.region x.tiles).2) ||
         (f.lead == 0 && others.any (fun e => rangesMeet (f.region x.tiles) (e.1.region x.tiles))))

/-- Check 6 of R258. -/
def Raw.check6 (r : Raw) (x : Image) (own : Option (List (Nat × Nat × Nat))) : Option Bad :=
  firstOf [
    firstFail 0x1047 2 x.stops (r.stopBad x.stops),
    firstFail 0x1047 4 x.tiles (r.tileBad x.tiles),
    firstFail 0x1047 5 x.pages (r.pageBad own),
    firstFail 0x1047 3 x.steps (r.stepBad x),
    firstFail 0x1047 3 x.steps (fun _ s => groupBad x s),
    failIf (vocabBad x) 0x1047 3 (vocabStep x),
    firstFail 0x1047 6 x.front (fun i f => frontBad ((r.counted 4).getD i []) r.lparts x.pages.length x i f)]

/-- Check 7 of R258: the bound checks of R212 on the valves of a stop. -/
def stopBoundBad (x : Image) (s : StopRec) : Bool :=
  let runs := x.steps.filter (fun t => t.engine == 0 && t.stopId == s.id)
  (sitesOf .valve).any (fun site =>
    let k := s.cfg.valve site
    let pkt := bitsOf (s.cfg.cellWord site 3) 31 25
    s.cfg.enabled site &&
      (k.bound == 0 || decide (64 < k.bound) || k.pairLimit == 0 || runs.any (fun t => decide (t.wc < 64 * k.pairLimit)) ||
        (k.isRepeat && (pkt == 0 || decide (k.bound < pkt)))))

end Sys2Proof.Machine
end

