-- ==== Sys2Proof/Machine/Image.lean ====
section
/-!
DEFINITION. Admission and placement of images: checks 5 and 8 to 12 of R258, the commit of a load, the placement copies,
IMAGE_LOAD and IMAGE_UNLOAD (05_stops, R254 to R267; R427 to R429, R628).
-/
namespace Sys2Proof.Machine

/-! ### Fit (R254 to R256) -/

/-- R27: crossings between the dies of two partitions. -/
def crossings (p q : Nat) : Nat :=
  let a := p / 3
  let b := q / 3
  if a = b then 0 else if (a + 2) % 4 = b % 4 then 2 else 1

/-- R254: the largest crossing count between two partitions of a map. -/
def maxCrossings (ps : List Nat) : Nat := ps.foldl (fun m p => ps.foldl (fun n q => max n (crossings p q)) m) 0

/-- R254: a step's effective worst case, in cycles of its engine. -/
def Image.worst (x : Image) (s : StepRec) : Nat :=
  if s.engine = 1 then s.wc else s.wc + 18 * s.cross * maxCrossings x.parts

/-- R255, R256: the first step or implicit step of an image that a breath of `period` µs does not fit. -/
def Image.unfit (x : Image) (period : Nat) : Option Bad :=
  let r := period - 4
  firstOf [
    firstFail 0x1043 3 x.steps (fun _ s => decide ((if s.engine = 1 then 1200 else 1900) * r < x.worst s)),
    firstFail 0x1043 2 x.stops (fun _ s => decide (1900 * r < s.cfg.drainBudget + 3800) ||
      decide (r < (if s.pos.isSome then 12 else 40)))]

/-- The period in force, and the one last written (R601, R910): the former stands beside the register. -/
def Device.period (d : Device) : Nat := d.reg (regKey BRT_PERIOD 1)
def Device.periodWritten (d : Device) : Nat := d.reg BRT_PERIOD

/-! ### What images hold on a partition -/

/-- The images that hold something on partition `p`, with the logical partition of each. -/
def Device.imagesOn (d : Device) (p : Nat) : List (Image × Nat) :=
  d.images.filterMap (fun e => (indexWhere (fun q => q == p) 0 e.2.parts).map (fun lp => (e.2, lp)))

def Device.jobImages (d : Device) (j : Nat) : List (Nat × Image) := d.images.filter (fun e => e.2.job == j)

/-- Stop-store positions in use (R228, R261). -/
def Device.positions (d : Device) (p : Nat) : List Nat :=
  (d.imagesOn p).flatMap (fun e => (e.1.stops.filter (fun s => s.part == e.2)).filterMap (·.pos))

/-! ### Placement in T2 (R261, R628, R671) -/

/-- Ranges of a stack that firmware may not place an area in: areas, and the Drone's KV pool with its scale blocks. -/
def Device.stackUsed (d : Device) (s : Nat) : List (Nat × Nat) :=
  let off := fun a : Nat => addrOffset a - s * 0x1000000000
  (d.areas.filter (fun a => a.stack == s)).map (fun a => (a.base, a.bytes)) ++
    [(off (d.kvBase s), 65536 * d.kvFrames s), (off (d.kvScale s), 2048 * d.kvFrames s)]

/-- First-fit from the top of a stack, 64 KiB aligned (DESIGN CHOICE 29). -/
def Device.findArea (d : Device) (s bytes : Nat) : Option Nat :=
  let used := d.stackUsed s
  let tops := 0x1000000000 :: (used.filter (fun u => decide (0 < u.2))).map (·.1)
  let cand := (tops.filter (fun t => decide (bytes ≤ t))).map (fun t => (t - bytes) / 65536 * 65536)
  (sortBy (fun a b => decide (b < a)) cand).find? (fun b => used.all (fun u => !rangesMeet (b, bytes) u))

/-- Places an area; none where the stack lacks room. -/
def Device.placeArea (d : Device) (s bytes : Nat) (use : AreaFor) : Option (Nat × Device) :=
  (d.findArea s bytes).map (fun b => (b, { d with areas := d.areas ++ [{ stack := s, base := b, bytes := bytes, use := use }] }))

def Device.dropAreas (d : Device) (gone : Area → Bool) : Device := { d with areas := d.areas.filter (fun a => !gone a) }

/-- R228, R261: positions for the stops that go to the stop store: HOME 0 first, then HOME 1 while positions remain, the
lowest free one each. An error names the HOME 0 stop that finds none. -/
def placeStops (parts : List Nat) (stops : List StopRec) (used : List (Nat × Nat)) : Except Nat (List StopRec) :=
  let one := fun (home : Nat) (acc : List (Nat × Nat) × List StopRec × Option Nat) (e : StopRec × Nat) =>
    if e.1.home ≠ home then (acc.1, acc.2.1 ++ [e.1], acc.2.2)
    else
      let p := parts.getD e.1.part 12
      match (List.range 256).find? (fun b => !acc.1.contains (p, b)) with
      | some b => ((p, b) :: acc.1, acc.2.1 ++ [{ e.1 with pos := some b }], acc.2.2)
      | none => (acc.1, acc.2.1 ++ [e.1], if home = 0 then some (acc.2.2.getD e.2) else acc.2.2)
  let a := stops.zipIdx.foldl (one 0) (used, [], none)
  match a.2.2 with
  | some i => .error i
  | none => .ok (a.2.1.zipIdx.foldl (one 1) (a.1, [], none)).2.1

/-! ### Queues of an image (R427 to R430) -/

/-- R429: the queues an image creates on its partitions: (partition, QUEUE_ID, capacity, largest packet, stop index). -/
def Image.queueList (x : Image) : List (Nat × Nat × Nat × Nat × Nat) :=
  let all := x.stops.zipIdx.flatMap (fun e => e.1.cfg.bindings.map (fun b => (x.parts.getD e.1.part 12, b, e.2)))
  let keys := (all.map (fun e => (e.1, e.2.1.queue))).eraseDups
  keys.filterMap (fun k =>
    let mine := all.filter (fun e => e.1 == k.1 && e.2.1.queue == k.2)
    mine.head?.map (fun h => (k.1, k.2, h.2.1.capacity, mine.foldl (fun m e => max m e.2.1.maxPacket) 0, h.2.2)))

/-- R427, R428: the carve of a partition with `kib` KiB more of queue region. -/
def Device.carve (d : Device) (p kib : Nat) : Device :=
  let x := d.part p
  d.modQpart p (fun u =>
    if u.carved then { u with region := u.region + 16 * kib }
    else { u with staging := 16 * x.staging, lull := 16 * x.lull, region := 16 * kib, carved := true })

/-- Creates the queues of an image, each first-fit; none where one finds no range. -/
def Device.createQueues (d : Device) (h : Nat) : List (Nat × Nat × Nat × Nat × Nat) → Option Device
  | [] => some d
  | (p, q, cap, mx, _) :: l =>
    match (d.qpart p).firstFit cap with
    | none => none
    | some b => (d.setQueue p q { base := b, capacity := cap, maxPacket := mx, image := h }).createQueues h l

/-! ### Checks 5 and 8 to 12 -/

/-- Check 5 (R612, R813): a mapped partition that is out of service, of another function, or held by another job. -/
def Device.partBusy (d : Device) (fn : Option Nat) (j p : Nat) : Bool :=
  let x := d.part p
  !x.inService || x.owner == 255 || (match fn with | some f => x.owner != f | none => false) || (x.job != 0 && x.job != j)

/-- Check 8: T1. A suspended job's T1 is free (R636). -/
def Device.check8 (d : Device) (x : Image) : Option Bad :=
  firstOf [
    firstFail 0x1041 3 x.steps (fun _ s => s.engine == 0 && decide (x.t1.getD s.part 0 < s.t1)),
    ((x.parts.zipIdx).find? (fun e =>
      let others := (d.imagesOn e.1).filter (fun y => y.1.job == (d.part e.1).job)
      decide (67108864 < x.t1.getD e.2 0 + others.foldl (fun n y => n + y.1.t1.getD y.2 0) 0))).map
        (fun e => (0x1041, 7, e.1))]

/-- Check 9: queue store and queues (R427, R430). -/
def Device.check9 (d : Device) (x : Image) : Option Bad :=
  let qs := x.queueList
  firstOf [
    firstFail 0x1042 3 x.steps (fun _ s => s.engine == 0 &&
      (decide (1024 * x.qkib.getD s.part 0 < s.queueBytes) || decide (x.queues.getD s.part 0 < s.queues))),
    (qs.find? (fun q => (d.queue? q.1 q.2.1).isSome)).map (fun q => (0x1042, 2, q.2.2.2.2)),
    ((x.parts.zipIdx).find? (fun e =>
      let others := d.imagesOn e.1
      let kib := x.qkib.getD e.2 0 + others.foldl (fun n y => n + y.1.qkib.getD y.2 0) 0
      let count := x.queues.getD e.2 0 + others.foldl (fun n y => n + y.1.queues.getD y.2 0) 0
      let mine := qs.filter (fun q => q.1 == e.1)
      let z := d.part e.1
      decide (4096 < z.staging + z.lull + kib) || decide (256 < count) ||
        decide (16 * x.qkib.getD e.2 0 < mine.foldl (fun n q => n + q.2.2.1) 0) ||
        ((d.carve e.1 (x.qkib.getD e.2 0)).createQueues 0 mine).isNone)).map (fun e => (0x1042, 7, e.1))]

/-- R762: circuits a job holds: its live end records. -/
def Device.jobCircuits (d : Device) (j : Nat) : Nat := (d.circuits.filter (fun e => e.2.ends && e.2.job == j)).length

/-- Check 11. -/
def Device.check11 (d : Device) (x : Image) : Option Bad :=
  let n := d.jobCircuits x.job
  firstOf [failIf (decide (n < x.circuits)) 0x1049 0 0, firstFail 0x1049 3 x.steps (fun _ s => decide (n < s.circuits))]

/-! ### Loading (R258 to R264, R628) -/

/-- R628, R566: the save area and the logit buffer of a job on the partitions it is new to; none where a stack is full. -/
def Device.reserveAreas (d : Device) (j : Nat) : List Nat → Option Device
  | [] => some d
  | p :: l =>
    if d.areas.any (fun a => a.stack == p && a.use == .save j) then d.reserveAreas j l
    else match d.placeArea p 0x48A1000 (.save j) with
      | none => none
      | some (_, d) => match d.placeArea p 8388608 (.logits j) with
        | none => none
        | some (_, d) => d.reserveAreas j l

/-- R261: areas in T2 for the stops that are not in the stop store. -/
def Device.placeT2Stops (d : Device) (h : Nat) (parts : List Nat) : List StopRec → Option (List StopRec × Device)
  | [] => some ([], d)
  | s :: l =>
    let p := parts.getD s.part 12
    if s.pos.isSome then (d.placeT2Stops h parts l).map (fun r => (s :: r.1, r.2))
    else match d.placeArea p 65536 (.stop h) with
      | none => none
      | some (b, d) =>
        (d.placeT2Stops h parts l).map (fun r => ({ s with t2 := some (selfAddr 1 (p * 0x1000000000 + b)) } :: r.1, r.2))

/-- What a load answers: the failing check, or the handle of the image and the device that holds it. -/
abbrev LoadResult := Except Bad (Nat × Device)

/-- Checks 1 to 12 of R258 on the bytes of an image, and the commit of everything it holds in one action. `fn` is the
function that loads it, none for the steward; `map` the physical partitions, in logical order; `lib` and `own` the
library version it is loaded for. -/
def Device.loadImage (d : Device) (fn : Option Nat) (j addr want : Nat) (map : List Nat) (b : List Byte)
    (lib : Option LibVersion) (own : Option (List (Nat × Nat × Nat))) : LoadResult :=
  let r := Raw.ofBytes b
  match d.checks1to4 r want map.length with
  | some e => .error e
  | none =>
    let x := r.image j (fn.getD (d.part (map.headD 0)).owner) addr map
    match x.parts.find? (d.partBusy fn j) with
    | some p => .error (0x104A, 7, p)
    | none =>
      match firstOf [r.check6 x own, firstFail 0x1044 2 x.stops (fun _ s => stopBoundBad x s), d.check8 x, d.check9 x] with
      | some e => .error e
      | none =>
        match placeStops x.parts x.stops (x.parts.flatMap (fun p => (d.positions p).map (fun b => (p, b)))) with
        | .error i => .error (0x1048, 2, i)
        | .ok stops =>
          let x := { x with stops := stops, lib := lib }
          match firstOf [d.check11 x, x.unfit d.period, x.unfit d.periodWritten] with
          | some e => .error e
          | none =>
            let h := d.nextImage
            match (d.reserveAreas j x.parts).bind (fun d => d.placeT2Stops h x.parts stops) with
            | none => .error (0x0A05, 0, 0)
            | some (stops, d) =>
              let d := x.parts.zipIdx.foldl (fun d e => d.carve e.1 (x.qkib.getD e.2 0)) d
              match d.createQueues h x.queueList with
              | none => .error (0x1042, 0, 0)
              | some d =>
                let d := x.parts.foldl (fun d p => d.modPart p (fun y => { y with job := j })) d
                let d := if (d.job j).state = .none then d.modJob j (fun _ => {}) else d
                .ok (h, { d with images := Table.put d.images h { x with stops := stops }, nextImage := h + 1 })

/-! ### Release (R259, R267, R428, R904) -/

/-- The carve of a partition goes with the last image on it; every queue of it ceases to exist. -/
def Device.releaseCarve (d : Device) (p : Nat) : Device :=
  let qs := (d.qpart p).queues.map (·.1)
  (qs.foldl (fun d q => d.removeQueue p q) d).setQpart p {}

/-- What a job leaves behind on partition `p` when its last image there goes (R428, R628). -/
def Device.releasePart (d : Device) (j p : Nat) : Device :=
  let d := if (d.imagesOn p).isEmpty then d.releaseCarve p else d
  if (d.imagesOn p).any (fun e => e.1.job == j) then d
  else
    let d := d.dropAreas (fun a => a.stack == p && (a.use == .save j || a.use == .logits j))
    if (d.part p).job = j then d.modPart p (fun x => { x with job := 0, front := [], rings := [] }) else d

/-- A job with no image and no deployment left is gone, with its sequences and prefixes. -/
def Device.endJob (d : Device) (j : Nat) : Device :=
  if !(d.jobImages j).isEmpty || d.deploys.any (fun e => e.2.job == j) then d
  else
    let pfx := (d.prefixes.filter (fun e => e.2.job == j)).map (·.1)
    { d with jobs := Table.drop d.jobs j
             seqs := d.seqs.filter (fun e => e.1 / 16384 != j)
             prefixes := d.prefixes.filter (fun e => e.2.job != j)
             readOnly := d.readOnly.filter (fun e => !pfx.any (fun i => e.2.2 == 2 ^ 40 + i)) }

/-- R259, R267: everything that an image holds is released. -/
def Device.releaseImage (d : Device) (h : Nat) : Device :=
  match d.image? h with
  | none => d
  | some x =>
    let d := { d with images := Table.drop d.images h, groups := Table.drop d.groups h }
    let d := d.dropAreas (fun a => a.use == .stop h)
    let d := x.parts.foldl (fun d p =>
      let d := d.modPart p (fun y =>
        { y with active := (match y.active with | some i => if (y.slot i).image = h then none else some i | none => none)
                 slots := y.slots.map (fun e => if e.2.image = h then (e.1, {}) else e)
                 front := y.front.filter (fun f => f.image != h) })
      let mine := ((d.qpart p).queues.filter (fun e => e.2.image == h)).map (·.1)
      let d := mine.foldl (fun d q => d.removeQueue p q) d
      let kib := (d.imagesOn p).foldl (fun n y => n + y.1.qkib.getD y.2 0) 0
      (d.modQpart p (fun u => { u with region := 16 * kib })).releasePart x.job p) d
    d.endJob x.job

/-! ### Placement copies (R259, R264, R640) -/

/-- The image is usable: its command completes (R264). -/
def Device.imageReady (d : Device) (h : Nat) (c : Option CmdRef) : Device :=
  let d := d.modImage h (fun x => { x with ready := true })
  let d := match d.image? h with
    | some x => if x.group.isEmpty then d
                else { d with groups := Table.put d.groups h { job := x.job, members := x.group } }
    | none => d
  d.completeOpt c 0 (leBytes 4 h)

/-- uid of the reads that copy a block of an image from another device. -/
def copyUid (h i : Nat) : Nat := 2 ^ 61 + h * 65536 + i

/-- Where a placed stop's copy stands. -/
def Image.home (x : Image) (s : StopRec) : Nat :=
  match s.pos with
  | some b => storeKey (x.parts.getD s.part 12) b
  | none => localKey (s.t2.getD 0)

/-- The copies of an image's stop blocks: at most `units` more of them, from copy `i` on. The result says whether the
last is done; a status ends the load (R259). -/
def Device.copyBlocks (d : Device) (h : Nat) (x : Image) : Nat → Nat → Device × Nat × Nat
  | 0, i => (d, i, 0)
  | n + 1, i =>
    match x.stops[i]? with
    | none => (d, i, 0)
    | some s =>
      let a := x.addr + x.secStops + 65536 * s.block
      match d.readAny (copyUid h i) 0 a 65536 with
      | .waiting => (d.requestRemote (copyUid h i) hubChan 0 4 15 0 a 65536, i, 0)
      | .poison g => (d.poisonRead g, i, parityStatus g)
      | .bytes bs => ((d.forget (copyUid h i)).store (x.home s) bs).copyBlocks h x n (i + 1)

/-! ### The commands (R262, R263, R857) -/

/-- R857: an image command of a job waits until the job runs or waits. -/
def JobState.settled : JobState → Bool
  | .none => true
  | .running => true
  | .waiting => true
  | _ => false

/-- The nibbles of PART_MAP up to the first 0xF. -/
def mapOf (n : Nat) : List Nat := ((List.range 12).map (fun i => n / 16 ^ i % 16)).takeWhile (fun q => q != 15)

/-- A PART_MAP that names no partition or one twice. -/
def mapBad (n : Nat) : Bool :=
  let used := ((List.range 12).map (fun i => n / 16 ^ i % 16)).filter (fun q => q != 15)
  used.any (fun q => decide (11 < q)) || anyPair (fun a b => a == b) used

/-- An image's load is committed: its placement copies become a long operation. -/
def Device.beginCopies (d : Device) (h : Nat) (c : Option CmdRef) : Device :=
  let (u, d) := d.uid
  { d with longOps := d.longOps ++ [{ id := u, kind := .imageLoad h, cls := 4, cmd := c }] }

/-- IMAGE_LOAD once its bytes are at hand. -/
def Device.finishImageLoad (d : Device) (s : Staged) (b : List Byte) : Device :=
  let fn := portFn s.cmd.port
  match d.loadImage fn (s.op 20 4) (s.op 8 8) (s.op 16 4) (mapOf (s.op 24 6)) b none none with
  | .error (st, kind, index) => d.complete s.cmd st (if st = 0x0A05 then [] else leBytes 4 kind ++ leBytes 4 index)
  | .ok (h, d) => d.beginCopies h (some s.cmd)

/-- IMAGE_LOAD: its operands are checked, and the digest of its bytes becomes a long operation (R258, R264, R640). -/
def fxImageLoad (o : Origin) (d : Device) : Device :=
  match d.startable o 0x10 with
  | none => d
  | some s =>
    if !(d.job (s.op 20 4)).state.settled then d
    else
      let d := d.start s
      let a := s.op 8 8
      let n := s.op 16 4
      if s.op 20 4 = 0 || !allZero (sliceOf s.entry 30 34) || s.aux != 0 || mapBad (s.op 24 6) then
        d.complete s.cmd 0x1047 []
      else if !(addrSpace a == 1 || isT3 (addrSpace a)) || !(d.mapped a (max n 1) && d.reaches 0 (addrDevice a)) then
        d.complete s.cmd 0x0110 []
      else if !d.inWindow (some s.cmd.port) a n false then d.complete s.cmd 0x0506 []
      else
        let (u, d) := (d.requestRemote s.cmd.uid hubChan 0 4 15 0 a n).uid
        { d with longOps := d.longOps ++ [{ id := u, kind := .imageDigest, cls := 4, cmd := some s.cmd }] }

/-- Steps, loads and requests that hold an image (R267). -/
def Device.imageHeld (d : Device) (h : Nat) : Bool :=
  (List.range 12).any (fun p =>
    let x := d.part p
    (x.admitted ++ x.running.toList ++ x.replay.toList).any (fun s => s.image == h) ||
      x.loads.any (fun l => l.image == h && l.started)) ||
    d.drones.any (fun e => match e.2.step with | some s => s.image == h | none => false) ||
    d.chains.any (fun c => c.image == h) ||
    d.seqs.any (fun e => e.2.image == h && e.2.state != .free && e.2.state != .idle && e.2.state != .lulled)

/-- R267: what keeps an image from being unloaded: a stop of it that is ACTIVE, or what holds it. -/
def Device.imageInUse (d : Device) (h : Nat) : Bool :=
  d.imageHeld h ||
    (List.range 12).any (fun p =>
      let x := d.part p
      match x.active with | some i => (x.slot i).image == h | none => false)

/-- IMAGE_UNLOAD (R267, R707, R857). -/
def fxImageUnload (o : Origin) (d : Device) : Device :=
  match d.startable o 0x11 with
  | none => d
  | some s =>
    let h := s.op 8 4
    match d.image? h with
    | none => (d.start s).complete s.cmd 0x1055 []
    | some x =>
      if !(d.job x.job).state.settled then d
      else
        let d := d.start s
        if !x.ready || !x.seen s.cmd.port || x.lib.isSome then d.complete s.cmd 0x1055 []
        else if !allZero (sliceOf s.entry 12 52) then d.complete s.cmd 0x1047 []
        else if d.imageInUse h then d.complete s.cmd 0x104B []
        else (d.releaseImage h).complete s.cmd 0 []

end Sys2Proof.Machine
end

