-- ==== Sys2Proof/Machine/Drone.lean ====
section
/-!
DEFINITION. The Drone engines: scratch, the batch table, the operations of R534 to R538, and Drone steps from issue to
commit (R510 to R518, R535 to R540, R843). The layouts of rows in scratch that the spec does not state are DESIGN
CHOICE 25.
-/
namespace Sys2Proof.Machine

/-! ### Scratch and rows -/

/-- The memory key of a byte of Drone `s`'s scratch (R510). -/
def drnKey (s off : Nat) : Nat := memKey (16 + s) (off % 0x1000000)

/-- A row's distance from the next where no operand gives it: its bytes, rounded up to 64. -/
def rowStride (n : Nat) : Nat := (n + 63) / 64 * 64

def Device.drone (d : Device) (s : Nat) : Drone := Table.getD d.drones s {}
def Device.modDrone (d : Device) (s : Nat) (f : Drone → Drone) : Device :=
  { d with drones := Table.put d.drones s (f (d.drone s)) }
def Device.modDroneStep (d : Device) (s : Nat) (f : DroneStep → DroneStep) : Device :=
  d.modDrone s (fun x => { x with step := x.step.map f })

/-- Bytes of `n` packed elements. -/
def Fmt.packed (f : Fmt) (n : Nat) : Nat := (n * f.bits + 7) / 8

/-- Value and block scale of element `i` of a scratch row of `n` elements: elements first, then an MX row's scale bytes. -/
def rowElem (f : Fmt) (row : List Byte) (i : Nat) : Fl := f.decode (elementAt f row i)
def rowScale (f : Fmt) (row : List Byte) (n i : Nat) : Nat :=
  if f.family = some .mx then leAt row (f.packed n + i / 32) 1 else 127
def rowBytes (f : Fmt) (n : Nat) : Nat := f.packed n + (if f.family = some .mx then (n + 31) / 32 else 0)

/-- R60: element codes packed. -/
def packCodes (f : Fmt) (es : List Nat) : List Byte :=
  if f.bits = 4 then (chunksOf 2 (es.length + 1) es).map (fun x => BitVec.ofNat 8 (x.getD 0 0 + 16 * x.getD 1 0))
  else es.map (fun e => BitVec.ofNat 8 e)

/-- A row of values in a format; none where the format is no output format of R76. -/
def encodeRow (f : Fmt) (vs : List Fl) : Option (List Byte × OutFlags) :=
  match f.family with
  | some .mx =>
    let bs := (chunksOf 32 (vs.length + 1) vs).map (mxBlock f)
    some (packCodes f (bs.flatMap (·.2.1)) ++ bs.map (fun b => BitVec.ofNat 8 b.1),
      bs.foldl (fun a b => a.or b.2.2) {})
  | some .int => none
  | _ =>
    if f = .raw then none
    else some (vs.flatMap (fun v => leBytes (f.bits / 8) (floatOut f v)), (vs.map flagsOf).foldl OutFlags.or {})

/-- Writes a row in a format code; a code that is no output format leaves free bytes (DESIGN CHOICE 25). -/
def Device.writeRow (d : Device) (s off : Nat) (code : Nat) (vs : List Fl) : Device :=
  match (Fmt.ofCode code).bind (fun f => encodeRow f vs) with
  | some (bs, fl) =>
    let d := d.writeBytes (drnKey s off) bs
    if fl.bits = 0 then d else d.arith s fl.bits
  | none =>
    let (v, d) := d.fresh (32 * vs.length)
    d.writeBytes (drnKey s off) (leBytes (4 * vs.length) v)

/-! ### The batch (R516, R517) -/

/-- A row of the pass: its batch entry, its place i within the sequence's rows, its index among the pass's rows. -/
structure PassRow where
  entry : BatchEntry
  i : Nat
  row : Nat
  deriving DecidableEq, Repr

def PassRow.pos (r : PassRow) : Nat := r.entry.committed + r.i
/-- R517: NEXT_TOKEN for i = 0, guess g_i otherwise. -/
def PassRow.token (r : PassRow) : Nat := if r.i = 0 then r.entry.nextToken else r.entry.guesses.getD (r.i - 1) 0

def Group.rows (g : Group) : List PassRow :=
  g.batch.flatMap (fun e => (List.range (1 + e.specK)).map (fun i => { entry := e, i := i, row := e.firstRow + i }))
/-- R516: raw values of bound slots 0 and 1. -/
def Group.rowCount (g : Group) : Nat := g.batch.foldl (fun n e => n + 1 + e.specK) 0
def Group.longest (g : Group) : Nat := g.batch.foldl (fun n e => max n (e.committed + 1 + e.specK)) 0

/-- R517: an entry's 128 bytes. Where firmware placed the two tables is not stated: `pt` and `st` are free. -/
def BatchEntry.bytes (e : BatchEntry) (pt st : Nat) : List Byte :=
  padTo 128 (leBytes 4 e.seq ++ leBytes 4 e.committed ++ leBytes 4 e.specK ++ leBytes 4 e.firstRow ++ leBytes 8 pt ++
    leBytes 8 st ++ leBytes 4 e.prefixPages ++ leBytes 4 e.nextToken ++ e.guesses.flatMap (leBytes 4))

/-- R517: writes the batch table into the scratch of every member. -/
def Device.writeBatch (d : Device) (image : Nat) : Device :=
  match d.group? image with
  | none => d
  | some g =>
    let head := padTo 64 (leBytes 4 g.batch.length ++ leBytes 4 g.rowCount ++ leBytes 4 g.longest)
    let r := g.batch.foldl (fun (acc : List Byte × Device) e =>
      let (pt, d) := acc.2.fresh 64
      let (st, d) := d.fresh 64
      (acc.1 ++ e.bytes pt st, d)) (head, d)
    g.members.foldl (fun d s => d.writeBytes (drnKey s 0xE00000) r.1) r.2

/-! ### Running operations -/

def Device.droneHalted (d : Device) (s : Nat) : Bool := d.regField (drnOff s DRN_STATUS) 30 30 == 1

/-- The step table's Drone steps of a member, and the op list of its running step. -/
def Device.droneOpAt (d : Device) (s : Nat) (st : DroneStep) : Option (List Byte) :=
  (d.image? st.image).bind (fun x => (x.droneSteps s)[st.index]?.bind (fun r => r.ops[st.op]?))

/-- Runs the operation that Drone `s` has come to, where it has this opcode and no exchange holds the Drone back. -/
def Device.droneRun (d : Device) (s opcode : Nat)
    (f : DroneStep → Image → Group → List Byte → Device → Device) : Device :=
  match (d.drone s).step with
  | none => d
  | some st =>
    match d.droneOpAt s st, d.image? st.image, d.group? st.image with
    | some o, some x, some g =>
      if !decide (s < 12) || d.droneHalted s || st.exchange.isSome || leAt o 0 1 != opcode then d else f st x g o d
    | _, _, _ => d

/-- The Drone goes on to its next operation. -/
def Device.nextOp (d : Device) (s : Nat) : Device := d.modDroneStep s (fun st => { st with op := st.op + 1 })

/-- The step takes a status that it completes with (R69, R86). -/
def Device.droneStatus (d : Device) (s status : Nat) : Device :=
  d.modDroneStep s (fun st => { st with status := if st.status = 0 then status else st.status })

/-- A read of the step meets a poisoned granule (R359, R903). -/
def Device.droneParity (d : Device) (s g : Nat) : Device :=
  match (d.drone s).step with
  | some st => d.parityFault st.job s g st.stepId
  | none => d

/-! ### Items (R326 to R331, R336, R340) -/

/-- The partition's own place (physical) and the region offset of panel `i` of an item, or of its scale vector. -/
def Image.itemAt (x : Image) (t : TileRec) (off step i : Nat) : Nat :=
  let n := x.parts.length
  let striped := bitsOf t.hint 6 3 == 15
  let lp := if striped then i % max 1 n else bitsOf t.hint 6 3
  let k := if striped then i / max 1 n else i
  let p := x.parts.getD lp 0
  let base := match x.lib with | some v => v.regions.getD lp 0 | none => 0
  match t.hint % 4 with
  | 0 => memKey 0 (p * 0x4000000 + off + step * k)
  | 1 => memKey 1 (p * 0x1000000000 + base + off + step * k)
  | _ => (match x.lib with | some v => v.data | none => memKey (if bitOf t.hint 2 then 3 else 2) 0) + off + step * k

/-- The memory key of a page's own T2 place: its offset in the image's region of the stack its hint names (R341, R672). -/
def Image.ownPageKey (x : Image) (i : Nat) (r : PageRec) : Nat :=
  let n := x.parts.length
  let lp := if bitsOf r.hint 6 3 = 15 then i % max 1 n else bitsOf r.hint 6 3
  let base := match x.lib with | some v => v.regions.getD lp 0 | none => 0
  memKey 1 (x.parts.getD lp 0 * 0x1000000000 + base + r.dst)

/-- The memory key of a page's T2 copy, shared or its own (R682). -/
def Image.pageKey (x : Image) (i : Nat) : Option Nat :=
  match x.shared.find? (fun s => s.1 == i) with
  | some s => some s.2
  | none => x.pages[i]?.map (x.ownPageKey i)

/-- R682: where the page that holds a key really stands. -/
def Image.remap (x : Image) (k : Nat) : Nat :=
  match x.shared.find? (fun s => match x.pages[s.1]? with
      | some r => x.ownPageKey s.1 r == k - k % 65536
      | none => false) with
  | some s => s.2 + k % 65536
  | none => k

/-- A range of T2 as the pieces in which it stands: split at pages where the image has shared copies. -/
def Image.spans (x : Image) (k n : Nat) : List (Nat × Nat) :=
  if x.shared.isEmpty then [(k, n)] else go x k n (n / 65536 + 2)
where
  /-- At most `fuel` pieces. -/
  go (x : Image) (k n : Nat) : Nat → List (Nat × Nat)
    | 0 => []
    | fuel + 1 =>
      if n = 0 then []
      else
        let len := min n (65536 - k % 65536)
        (x.remap k, len) :: go x (k + len) (n - len) fuel

/-- The bytes of an item's range, and the first poisoned granule in it. -/
def Device.itemBytes (d : Device) (x : Image) (k n : Nat) : List Byte := (x.spans k n).flatMap (fun e => d.readBytes e.1 e.2)
def Device.itemPoison (d : Device) (x : Image) (k n : Nat) : Option Nat :=
  (x.spans k n).findSome? (fun e => d.poisonIn e.1 e.2)

def Image.panelKey (x : Image) (t : TileRec) (i : Nat) : Nat := x.itemAt t t.addr t.panelBytes i
def Image.scaleKey (x : Image) (t : TileRec) (i : Nat) : Nat := x.itemAt t t.scales 256 i

/-- R326 to R328: element code and block scale of column `c` at K index `k` of a dense panel's bytes. -/
def TileRec.elemOff (t : TileRec) : Nat := if t.fmt < 4 then 128 * ((t.k + 63) / 64) else 0
def panelElem (f : Fmt) (t : TileRec) (b : List Byte) (c k : Nat) : Nat :=
  let o := t.elemOff
  if f.bits = 4 then
    let v := leAt b (o + 64 * (k / 2) + c) 1
    if k % 2 = 0 then v % 16 else v / 16
  else if f.bits = 8 then leAt b (o + 64 * k + c) 1
  else leAt b (o + 128 * k + 2 * c) 2
def panelScale (f : Fmt) (b : List Byte) (c k : Nat) : Nat :=
  if f.family = some .mx then leAt b (64 * (k / 32) + c) 1 else 127

/-! ### D_MATMUL (R67 to R76, R85, R86, R99, R100) -/

structure MatOp where
  item : Nat
  first : Nat
  panels : Nat
  k0 : Nat
  kn : Nat
  inp : Nat
  fmtIn : Nat
  fmtOut : Nat
  raw : Bool
  acc : Bool
  out : Nat
  strideIn : Nat
  strideOut : Nat
  deriving DecidableEq, Repr

def MatOp.ofBytes (o : List Byte) : MatOp :=
  let flags := leAt o 30 1
  { item := leAt o 8 4, first := leAt o 12 2, panels := leAt o 14 2, k0 := leAt o 16 4, kn := leAt o 20 4,
    inp := leAt o 24 4, fmtIn := leAt o 28 1, fmtOut := leAt o 29 1, raw := bitOf flags 0 || leAt o 29 1 == 15,
    acc := bitOf flags 1, out := leAt o 32 4, strideIn := leAt o 36 4, strideOut := leAt o 40 4 }

/-- The 17 tokens of an exported row in scratch bytes. -/
def rawTokens (b : List Byte) : List Token :=
  (chunksOf 64 18 b).map (fun c => { payload := BitVec.ofNat 512 (leNat c) })

/-- R67: the anchor of a row and a panel: the largest scale bytes of both over the item's whole K, so that no split and
no other row changes it (R539, DEDUCED 26). -/
def matAnchor (fa fb : Fmt) (t : TileRec) (row b : List Byte) : Int :=
  match fb.family with
  | some .mx =>
    let blocks := List.range ((t.k + 31) / 32)
    anchorMx fa fb (maxScale (blocks.map (fun j => rowScale fa row t.k (32 * j))))
      (maxScale (blocks.flatMap (fun j => (List.range 64).map (fun c => panelScale fb b c (32 * j)))))
  | some .int => anchorInt
  | _ => 0

/-- One lane: row times column over [k0, k1). The Boolean says that a product lost bits. -/
def matLane (fa fb : Fmt) (t : TileRec) (a : Int) (row b : List Byte) (c k0 k1 : Nat) : LedgerLane × Bool :=
  let ks := (List.range (k1 - k0)).map (fun i => k0 + i)
  match fb.family with
  | some .float =>
    let ps := ks.map (fun k => f32Of (flMul (rowElem fa row k) (fb.decode (panelElem fb t b c k))))
    ({ val := (Config.droneFloatSum 0 ps).setWidth 128 }, false)
  | _ =>
    ks.foldl (fun acc k =>
      let r := acc.1.addProduct a (rowScale fa row t.k k) (panelScale fb b c k) (rowElem fa row k)
        (fb.decode (panelElem fb t b c k))
      (r.1, acc.2 || r.2)) (LedgerLane.clear, false)

/-- R86, R100: the exported row that ACCUMULATE adds to, joined to a row's lanes; false where the anchors differ. -/
def joinRow (f : Fmt) (a : Int) (old : List Token) (ls : List LedgerLane) : List LedgerLane × Bool :=
  if f.family = some .float then
    (ls.mapIdx (fun i l => { l with val := (f32Add (l.val.setWidth 32) ((importLane old i).val.setWidth 32)).setWidth 128 }),
      true)
  else if importAnchor old != a then (ls.map (fun l => { l with nan := true }), false)
  else (ls.mapIdx (fun i l => l.combine (importLane old i)), true)

/-- One row and one panel: its 64 lanes and its anchor, written raw, or its 64 values. -/
structure MatTile where
  lanes : List LedgerLane
  anchor : Int
  same : Bool
  lost : Bool
  values : List Fl
  deriving DecidableEq, Repr

/-- The product of a row and a panel (R69 where `over`); `sa` is an INT row's scale, which the spec places nowhere: a free
value. -/
def matTile (m : MatOp) (fa fb : Fmt) (t : TileRec) (tooLong : Bool) (sa : Word) (row b sb old : List Byte) : MatTile :=
  let a := matAnchor fa fb t row b
  let k1 := min (m.k0 + m.kn) t.k
  let ls := (List.range 64).map (fun c =>
    if tooLong then ({ LedgerLane.clear with nan := true }, false) else matLane fa fb t a row b c m.k0 k1)
  let lanes := ls.map (·.1)
  let j := if m.acc then joinRow fb a (rawTokens old) lanes else (lanes, true)
  { lanes := j.1, anchor := a, same := j.2, lost := ls.any (·.2),
    values := j.1.mapIdx (fun c l =>
      match fb.family with
      | some .int => if l.nan then Fl.nan else l.intValue sa (BitVec.ofNat 32 (leAt sb (4 * c) 4))
      | some .float => if l.nan then Fl.nan else f32Val (l.val.setWidth 32)
      | _ => l.mxValue a) }

/-- One row of a D_MATMUL tooLong all its panels. -/
def Device.matRow (d : Device) (s : Nat) (m : MatOp) (fa fb : Fmt) (x : Image) (t : TileRec) (r : Nat) : Device :=
  let row := d.readBytes (drnKey s (m.inp + r * m.strideIn)) (rowBytes fa t.k)
  let tooLong := decide (kMax < m.kn)
  let (sa, d) := if fb.family = some .int then d.fresh 32 else (0, d)
  let out := m.out + r * m.strideOut
  let tiles := (List.range m.panels).map (fun i =>
    matTile m fa fb t tooLong (BitVec.ofNat 32 sa) row (d.itemBytes x (x.panelKey t (m.first + i)) t.size)
      (if fb.family = some .int then d.itemBytes x (x.scaleKey t (m.first + i)) 256 else [])
      (d.readBytes (drnKey s (out + 1088 * i)) 1088))
  let d := if tiles.any (·.lost) then d.arith s 8 else d
  let d := if tooLong then (d.arith s 16).droneStatus s 0x1031 else d
  let d := if tiles.all (·.same) then d else (d.arith s 32).droneStatus s 0x1130
  if m.raw then
    d.writeBytes (drnKey s out) (tiles.flatMap (fun y =>
      (exportRow (fun i => y.lanes.getD i LedgerLane.clear) y.anchor).flatMap (fun v => leBytes 64 v.toNat)))
  else d.writeRow s out m.fmtOut (tiles.flatMap (·.values))

/-- D_MATMUL. Formats of different families have no stated product: free bytes (DESIGN CHOICE 25). -/
def fxDMatmul (s : Nat) (d : Device) : Device :=
  d.droneRun s 0x48 (fun st x _ o d =>
    let m := MatOp.ofBytes o
    match x.tiles.find? (fun t => t.id == m.item) with
    | none => d.nextOp s
    | some t =>
      match (List.range m.panels).findSome? (fun i => d.itemPoison x (x.panelKey t (m.first + i)) t.size) with
      | some g => d.droneParity s g
      | none =>
        let rows := List.range st.rows
        match Fmt.ofCode m.fmtIn, Fmt.ofCode t.fmt with
        | some fa, some fb =>
          if fa.family = fb.family && fa.family.isSome then
            (rows.foldl (fun d r => d.matRow s m fa fb x t r) d).nextOp s
          else
            (rows.foldl (fun d r =>
              let (v, d) := d.fresh (2048 * m.panels)
              d.writeBytes (drnKey s (m.out + r * m.strideOut)) (leBytes (256 * m.panels) v)) d).nextOp s
        | _, _ =>
          (rows.foldl (fun d r =>
            let (v, d) := d.fresh (2048 * m.panels)
            d.writeBytes (drnKey s (m.out + r * m.strideOut)) (leBytes (256 * m.panels) v)) d).nextOp s)

/-! ### KV (R522 to R526, R529) -/

/-- Head groups G of an image (R522, DEDUCED 23). -/
def Image.headGroups (x : Image) : Nat :=
  (x.droneOps.filter (fun o => leAt o 0 1 == 0x49)).foldl
    (fun v o => max v (((leAt o 11 1 + 1) * leAt o 12 2 + 1023) / 1024)) 1

/-- The MXFP8 format that KV_FMT names: E4M3 or E5M2 (R523). -/
def kvFmt (code : Nat) : Fmt := if code = 2 then .e5m2 else .e4m3

/-- The domain address of the frame, and of the scale block, of a position of a sequence (R525). -/
def BatchEntry.frame (e : BatchEntry) (layer groups g pos : Nat) : Nat :=
  e.pages.getD (pos / 32) (2 ^ 64 - 1) + (layer * groups + g) * 0x10000
def BatchEntry.scale (e : BatchEntry) (layer groups g pos : Nat) : Nat :=
  e.scales.getD (pos / 32) (2 ^ 64 - 1) + (layer * groups + g) * 2048

/-- The page of a position lies in the stack of Drone `s`. -/
def BatchEntry.onStack (d : Device) (e : BatchEntry) (s pos : Nat) : Bool :=
  match e.pages[pos / 32]? with
  | some a => d.isSelf (addrDevice a) && addrSpace a == 1 && partOf 1 (addrOffset a) == s
  | none => false

/-- Keys of the elements and scales of a position in the cache (R523, R524). -/
def cacheKeys (e : BatchEntry) (layer groups g pos : Nat) (v : Bool) : Nat × Nat :=
  (localKey (e.frame layer groups g pos) + 32768 * bit v + 1024 * (pos % 32),
   localKey (e.scale layer groups g pos) + 1024 * bit v + 32 * (pos % 32))

/-- Keys of the elements and scales of a row of new K or V in scratch: all groups' elements, then all their scales. -/
def newKeys (s off groups g row : Nat) : Nat × Nat :=
  let b := off + row * rowStride (1056 * groups)
  (drnKey s (b + 1024 * g), drnKey s (b + 1024 * groups + 32 * g))

/-- D_KV_WRITE: each row's K and V at its position, into pages in this Drone's stack only. -/
def fxDKvWrite (s : Nat) (d : Device) : Device :=
  d.droneRun s 0x4B (fun _ x g o d =>
    let groups := x.headGroups
    let layer := leAt o 8 2
    let put := fun (r : PassRow) (d : Device) (gi : Nat) (v : Bool) =>
      let src := newKeys s (leAt o (if v then 16 else 12) 4) groups gi r.row
      let dst := cacheKeys r.entry layer groups gi r.pos v
      (d.store dst.1 (d.readBytes src.1 1024)).store dst.2 (d.readBytes src.2 32)
    ((g.rows.filter (fun r => r.entry.onStack d s r.pos)).foldl (fun d r =>
      (List.range groups).foldl (fun d gi => put r (put r d gi false) gi true) d) d).nextOp s)

/-! ### D_ATTN (R282, R535) -/

structure AttnOp where
  layer : Nat
  qHeads : Nat
  kvHeads : Nat
  dim : Nat
  fmt : Fmt
  q : Nat
  kNew : Nat
  out : Nat
  shift : Word
  groups : Nat
  deriving DecidableEq, Repr

def AttnOp.ofBytes (x : Image) (o : List Byte) : AttnOp :=
  { layer := leAt o 8 2, qHeads := leAt o 10 1 + 1, kvHeads := leAt o 11 1 + 1, dim := leAt o 12 2,
    fmt := kvFmt (leAt o 14 1), q := leAt o 16 4, kNew := leAt o 20 4, out := leAt o 24 4,
    shift := BitVec.ofNat 32 (leAt o 28 4), groups := x.headGroups }

/-- The KV head of a query head: query heads share KV heads in equal runs. -/
def AttnOp.kvHead (a : AttnOp) (h : Nat) : Nat := h / max 1 (a.qHeads / a.kvHeads)
/-- Head group of a KV head, and its first byte within the group (R522, R523). -/
def AttnOp.place (a : AttnOp) (kv : Nat) : Nat × Nat :=
  let per := max 1 (1024 / max 1 a.dim)
  (kv / per, a.dim * (kv % per))

/-- R535: the positions that a member covers for a row, in blocks of 32: (position, whether it comes from KNEW). -/
def Device.attnBlocks (d : Device) (s : Nat) (r : PassRow) : List (List (Nat × Bool)) :=
  let c := r.entry.committed
  let own := r.entry.onStack d s c
  (List.range (r.pos / 32 + 1)).filterMap (fun b =>
    let cache := if r.entry.onStack d s (32 * b) then ((List.range 32).map (32 * b + ·)).filter (· < c) else []
    let fresh := if own then ((List.range 32).map (32 * b + ·)).filter (fun p => decide (c ≤ p) && decide (p ≤ r.pos)) else []
    let l := cache.map (·, false) ++ fresh.map (·, true)
    if l.isEmpty then none else some l)

/-- Keys of the K or V of a KV head at a covered position. -/
def attnKeys (s : Nat) (a : AttnOp) (rows : Nat) (r : PassRow) (kv : Nat) (p : Nat × Bool) (v : Bool) : Nat × Nat :=
  let (g, _) := a.place kv
  if p.2 then
    newKeys s (a.kNew + (if v then rows * rowStride (1056 * a.groups) else 0)) a.groups g
      (r.entry.firstRow + (p.1 - r.entry.committed))
  else cacheKeys r.entry a.layer a.groups g p.1 v

/-- The elements and scale bytes of a head at a covered position. -/
def Device.attnVec (d : Device) (s : Nat) (a : AttnOp) (rows : Nat) (r : PassRow) (kv : Nat) (p : Nat × Bool) (v : Bool) :
    List Fl × List Nat :=
  let k := attnKeys s a rows r kv p v
  let o := (a.place kv).2
  ((d.readBytes (k.1 + o) a.dim).map (fun b => a.fmt.decode b.toNat),
   (d.readBytes (k.2 + o / 32) (a.dim / 32)).map (·.toNat))

/-- The FP32 constant nearest 1/√n (R282). -/
def invSqrt (n : Nat) : Word := f32Of (.fin false (isqrtBits (2 ^ 120 / max 1 n) 64 0) (-60))

/-- A sum of products of two MX vectors in one ledger lane. -/
def mxDot (fmtA fmtB : Fmt) (x y : List Fl × List Nat) : Word :=
  let an := anchorMx fmtA fmtB (maxScale x.2) (maxScale y.2)
  let l := ((x.1.zip y.1).zipIdx).foldl (fun (l : LedgerLane) e =>
    (l.addProduct an (x.2.getD (e.2 / 32) 0) (y.2.getD (e.2 / 32) 0) e.1.1 e.1.2).1) LedgerLane.clear
  f32Of (l.mxValue an)

/-- R282: the score of a position, with the operation's SHIFT; the anchor is that of the row and the position. -/
def AttnOp.score (a : AttnOp) (q k : List Fl × List Nat) : Word :=
  vecExp (f32Add (f32Mul (mxDot a.fmt a.fmt q k) (invSqrt a.dim)) (a.shift ^^^ 0x80000000#32))

/-- The query of a head: QHEADS × HEAD_DIM elements of a row, then their scales. -/
def Device.attnQuery (d : Device) (s : Nat) (a : AttnOp) (r : PassRow) (h : Nat) : List Fl × List Nat :=
  let n := a.qHeads * a.dim
  let b := a.q + r.row * rowStride (n + n / 32)
  ((d.readBytes (drnKey s (b + h * a.dim)) a.dim).map (fun e => a.fmt.decode e.toNat),
   (d.readBytes (drnKey s (b + n + h * a.dim / 32)) (a.dim / 32)).map (·.toNat))

/-- A block's P values: its positions, the block's scale byte, an element code each (R535). -/
def Device.attnP (d : Device) (s : Nat) (a : AttnOp) (rows : Nat) (r : PassRow) (h : Nat) (l : List (Nat × Bool)) :
    Nat × List ((Nat × Bool) × Nat) :=
  let q := d.attnQuery s a r h
  let blk := mxBlock .e4m3 (l.map (fun p => f32Val (a.score q (d.attnVec s a rows r (a.kvHead h) p false))))
  (blk.1, l.zip blk.2.1)

/-- Largest non-0xFF P scale and V scale of a row and head on this member; −1 where there is none (R81, R83). -/
def Device.attnMaxima (d : Device) (s : Nat) (a : AttnOp) (rows : Nat) (r : PassRow) (h : Nat) : List Int :=
  let bs := d.attnBlocks s r
  let ps := bs.map (fun l => (d.attnP s a rows r h l).1)
  let vs := bs.flatMap (fun l => l.flatMap (fun p => (d.attnVec s a rows r (a.kvHead h) p true).2))
  let num := fun o : Option Nat => match o with | some v => (v : Int) | none => -1
  [num (maxScale ps), num (maxScale vs)]

/-- Lanes padded to rows of 64, each exported (R85). -/
def exportLanes (ls : List LedgerLane) (a : Int) : List Byte :=
  (chunksOf 64 (ls.length + 1) ls).flatMap (fun row =>
    (exportRow (fun i => row.getD i LedgerLane.clear) a).flatMap (fun v => leBytes 64 v.toNat))

def optScale (i : Int) : Option Nat := if i < 0 then none else some i.toNat

/-- R535: numerator rows and the denominator row of a row and head, under the exchanged maxima. -/
def Device.attnOut (d : Device) (s : Nat) (a : AttnOp) (rows : Nat) (r : PassRow) (h : Nat) (mx : List Int) : List Byte :=
  let pm := optScale (mx.getD 0 (-1))
  let vm := optScale (mx.getD 1 (-1))
  let an := anchorMx .e4m3 a.fmt pm vm
  let ad := anchorMx .e4m3 .e4m3 pm (some 127)
  let bs := (d.attnBlocks s r).map (fun l => d.attnP s a rows r h l)
  let terms := bs.flatMap (fun b => b.2.map (fun e =>
    (b.1, Fmt.e4m3.decode e.2, d.attnVec s a rows r (a.kvHead h) e.1 true)))
  let num := (List.range a.dim).map (fun i =>
    terms.foldl (fun (l : LedgerLane) t =>
      (l.addProduct an t.1 (t.2.2.2.getD (i / 32) 0) t.2.1 (t.2.2.1.getD i (.fin false 0 0))).1) LedgerLane.clear)
  let den := terms.foldl (fun (l : LedgerLane) t =>
    (l.addProduct ad t.1 127 t.2.1 (Fmt.e4m3.decode 0x38)).1) LedgerLane.clear
  exportLanes num an ++ exportLanes (List.replicate 64 den) ad

/-- A poisoned granule among the cache bytes that an operation reads. -/
def Device.attnPoison (d : Device) (s : Nat) (a : AttnOp) (g : Group) : Option Nat :=
  g.rows.findSome? (fun r => (d.attnBlocks s r).flatten.findSome? (fun p =>
    if p.2 then none
    else (List.range a.groups).findSome? (fun gi => [false, true].findSome? (fun v =>
      let k := cacheKeys r.entry a.layer a.groups gi p.1 v
      match d.poisonIn k.1 1024 with
      | some g => some g
      | none => d.poisonIn k.2 32))))

/-- D_ATTN, first part: the member's maxima, and its part in the exchange of them. The outputs follow when the exchange
completes. -/
def fxDAttn (s : Nat) (d : Device) : Device :=
  d.droneRun s 0x49 (fun st x g o d =>
    let a := AttnOp.ofBytes x o
    match d.attnPoison s a g with
    | some gr => d.droneParity s gr
    | none =>
      let mx := g.rows.flatMap (fun r => (List.range a.qHeads).flatMap (fun h => d.attnMaxima s a st.rows r h))
      d.modDroneStep s (fun st => { st with anchors := mx, exchange := some (3, 0, 0, 0) }))

/-- D_ATTN, second part. -/
def Device.finishAttn (d : Device) (s : Nat) (mx : List Int) : Device :=
  match (d.drone s).step with
  | none => d
  | some st =>
    match d.droneOpAt s st, d.image? st.image, d.group? st.image with
    | some o, some x, some g =>
      let a := AttnOp.ofBytes x o
      let stride := a.qHeads * 1088 * ((a.dim + 63) / 64 + 1)
      let outs := g.rows.map (fun r => (a.out + r.row * stride,
        (List.range a.qHeads).flatMap (fun h =>
          d.attnOut s a st.rows r h (sliceOf mx (2 * (r.row * a.qHeads + h)) 2))))
      outs.foldl (fun d w => d.writeBytes (drnKey s w.1) w.2) d
    | _, _, _ => d

/-! ### Exchanges (R537, R538) -/

/-- D_EXCHANGE issues on a member, which waits until the last member has issued it. -/
def fxDExchange (s : Nat) (d : Device) : Device :=
  d.droneRun s 0x4A (fun _ _ _ o d =>
    d.modDroneStep s (fun st => { st with exchange := some (leAt o 8 1, leAt o 12 4, leAt o 16 4, leAt o 20 4) }))

/-- R537: the slice of `n` raw rows that member number `i` of `k` holds: the rows in equal runs, the last ones shorter. -/
def sliceRows (n k i : Nat) : Nat × Nat :=
  let per := (n + k - 1) / max 1 k
  (min n (i * per), min n ((i + 1) * per))

/-- R86, R537: the sum of one raw row over the members' copies; the Boolean says that all anchors agree. -/
def sumRows (rows : List (List Byte)) : List Byte × Bool :=
  match rows.map rawTokens with
  | [] => ([], true)
  | t :: ts =>
    let a := importAnchor t
    let same := ts.all (fun u => importAnchor u == a)
    let lane := fun i => ts.foldl (fun (l : LedgerLane) u => l.combine (importLane u i)) (importLane t i)
    let lane' := fun i => if same then lane i else { LedgerLane.clear with nan := true }
    ((exportRow lane' a).flatMap (fun v => leBytes 64 v.toNat), same)

/-- R83: anchor packets with each maximum byte replaced by the largest other than 0xFF of the members' packets. -/
def maxPackets (pkts : List (List Byte)) : List Byte :=
  match pkts with
  | [] => []
  | p :: _ =>
    p.mapIdx (fun i b =>
      if i % 64 < 8 then b
      else BitVec.ofNat 8 ((maxScale (pkts.map (fun q => leAt q i 1))).getD 255))

/-- What a member holds after an exchange, from what every member sent. -/
def exchanged (kind : Nat) (i : Nat) (sent : List (List Byte)) : List Byte × Bool :=
  match kind with
  | 0 => (sent.flatten, true)
  | 1 =>
    let n := (sent.headD []).length / 1088
    let (lo, hi) := sliceRows n sent.length i
    let rs := (List.range (hi - lo)).map (fun k => sumRows (sent.map (fun b => sliceOf b (1088 * (lo + k)) 1088)))
    (rs.flatMap (·.1), rs.all (·.2))
  | _ => (maxPackets sent, true)

/-- R83: the members' maxima merged. -/
def mergeMaxima (l : List (List Int)) : List Int :=
  match l with
  | [] => []
  | a :: r => r.foldl (fun x y => List.zipWith max x y) a

/-- EXCHANGE_COMPLETE: every member of the group has issued the same exchange; it completes on all of them. `cycles` is the
longest wait, which the model does not count. -/
def fxExchangeComplete (image cycles : Nat) (d : Device) : Device :=
  match d.group? image with
  | none => d
  | some g =>
    let waits := g.members.filterMap (fun s => (d.drone s).step.bind (fun st => st.exchange.map (fun e => (s, st, e))))
    match waits with
    | [] => d
    | (_, _, e0) :: _ =>
      if waits.length ≠ g.members.length || !(waits.all (fun w => w.2.2.1 == e0.1 && w.2.1.image == image)) ||
          g.members.any (fun s => d.droneHalted s) then d
      else
        let mx := mergeMaxima (waits.map (fun w => w.2.1.anchors))
        let sent := waits.map (fun w => d.readBytes (drnKey w.1 w.2.2.2.1) w.2.2.2.2.1)
        let d := (waits.zipIdx).foldl (fun d w =>
          let s := w.1.1
          if e0.1 = 3 then d.finishAttn s mx
          else
            let r := exchanged e0.1 w.2 sent
            let d := d.writeBytes (drnKey s w.1.2.2.2.2.2) r.1
            if r.2 then d else (d.arith s 32).droneStatus s 0x1130) d
        g.members.foldl (fun d s =>
          (d.modReg (drnOff s DRN_EXCH_MAX) (fun v => max v (min cycles (2 ^ 32 - 1)))).modDroneStep s (fun st =>
            { st with exchange := none, anchors := [], op := st.op + 1 })) d

/-! ### The other operations (R534, R536) -/

/-- A vector instruction over WIDTH lanes: ROWMAX and ROWSUM reduce over all of them in one pairwise tree; the others act
on each 64 lanes. -/
def wideResult (i : VInstr) (k : Nat → Word) (width : Nat) (regs : List (List Word)) : Option (List Word) :=
  let a := regs.getD i.a []
  match i.code with
  | 0 => none
  | 6 => some (List.replicate width ((treeFold f32Max 17 a).headD 0))
  | 7 => some (List.replicate width ((treeFold f32Add 17 a).headD 0))
  | _ => some ((List.range (width / 64)).flatMap (fun j =>
      (vecResult i k (regs.map (fun r => sliceOf r (64 * j) 64))).getD []))

/-- R534: the vector program of one row. -/
def wideProgram (is : List VInstr) (k : Nat → Word) (width : Nat) (v0 v1 : List Word) : List Word :=
  let regs := [v0, v1] ++ List.replicate 6 (List.replicate width 0)
  (is.foldl (fun (rs : List (List Word)) i =>
    match wideResult i k width rs with | some v => rs.set i.dst v | none => rs) regs).headD []

/-- A row of `n` values in a format code as FP32 words. -/
def Device.rowWords (d : Device) (s off code n : Nat) : List Word :=
  match Fmt.ofCode code with
  | none => List.replicate n 0
  | some f =>
    let b := d.readBytes (drnKey s off) (rowBytes f n)
    (List.range n).map (fun i =>
      let v := rowElem f b i
      match v with
      | .fin neg m e => f32Of (.fin neg m (e + ((rowScale f b n i : Int) - 127)))
      | v => if rowScale f b n i = 255 then f32Nan else f32Of v)

/-- D_VECTOR. -/
def fxDVector (s : Nat) (d : Device) : Device :=
  d.droneRun s 0x4C (fun st _ _ o d =>
    let w := leAt o 24 2
    let fc := leAt o 16 1
    let fo := leAt o 17 1
    let cBytes := match Fmt.ofCode fc with | some f => rowBytes f w | none => 4 * w
    let oBytes := match Fmt.ofCode fo with | some f => rowBytes f w | none => 4 * w
    let k := fun i => BitVec.ofNat 32 (d.readNat (drnKey s (leAt o 28 4 + 4 * i)) 4)
    let is := (List.range (min 8 (leAt o 18 1))).map (fun i => vInstr (leAt o (32 + 4 * i) 4))
    let outs := (List.range st.rows).map (fun r =>
      wideProgram is k w (d.rowWords s (leAt o 8 4 + r * rowStride (4 * w)) 8 w)
        (d.rowWords s (leAt o 12 4 + r * rowStride cBytes) fc w))
    ((outs.zipIdx).foldl (fun d e => d.writeRow s (leAt o 20 4 + e.2 * rowStride oBytes) fo (e.1.map f32Val)) d).nextOp s)

/-- The bytes of row `t` of an item as a scratch row: the elements along K, then an MX row's scale bytes. -/
def itemRow (f : Fmt) (t : TileRec) (panel : List Byte) (c : Nat) : List Byte :=
  let es := (List.range t.k).map (panelElem f t panel c)
  (if f.bits = 16 then es.flatMap (leBytes 2) else packCodes f es) ++
    (if f.family = some .mx then
      (List.range ((t.k + 31) / 32)).map (fun b => BitVec.ofNat 8 (panelScale f panel c (32 * b)))
     else [])

/-- D_EMBED: for each row, the item row that the row's token names. -/
def fxDEmbed (s : Nat) (d : Device) : Device :=
  d.droneRun s 0x4D (fun _ x g o d =>
    match x.tiles.find? (fun t => t.id == leAt o 8 4) with
    | none => d.nextOp s
    | some t =>
      match Fmt.ofCode t.fmt with
      | none => d.nextOp s
      | some f =>
        let stride := rowStride (rowBytes f t.k)
        match g.rows.findSome? (fun r => d.itemPoison x (x.panelKey t (r.token / 64)) t.size) with
        | some gr => d.droneParity s gr
        | none =>
          (g.rows.foldl (fun d r =>
            d.writeBytes (drnKey s (leAt o 12 4 + r.row * stride))
              (itemRow f t (d.itemBytes x (x.panelKey t (r.token / 64)) t.size) (r.token % 64))) d).nextOp s)

/-- Columns of a row of a pass come to the sampler (R541, R565). -/
def Device.passColumns (d : Device) (job image : Nat) (r : PassRow) (first : Nat) (ws : List Word) : Device :=
  let mine := fun y : SamplerRow => y.pass && y.image == image && y.row == r.row
  if d.rows.any mine then
    { d with rows := d.rows.map (fun y =>
        if mine y then { y with cols := (y.cols.filter (fun c => c.1 != first)) ++ [(first, ws)] } else y) }
  else
    { d with rows := d.rows ++ [{ job := job, seq := r.entry.seq, row := r.row, pos := r.pos, image := image,
                                   cols := [(first, ws)], pass := true }] }

/-- D_SAMPLE: passes this Drone's logit columns for every row to the sampler; the commit follows once it has finished. -/
def fxDSample (s : Nat) (d : Device) : Device :=
  d.droneRun s 0x4E (fun st _ g o d =>
    let n := leAt o 16 4
    let d := if g.passDone then d else
      g.rows.foldl (fun d r =>
        d.passColumns st.job st.image r (leAt o 12 4) (d.rowWords s (leAt o 8 4 + r.row * rowStride (4 * n)) 8 n)) d
    (d.modDroneStep s (fun st => { st with sampled := true })).nextOp s)

/-- D_PUSH: each row as one packet, stamped from the Drone's NEXT_SEQ for the queue (R433, R536). -/
def fxDPush (s : Nat) (d : Device) : Device :=
  d.droneRun s 0x4F (fun st _ _ o d =>
    let p := leAt o 8 1
    let q := leAt o 9 1
    let words := leAt o 16 4
    let id := 0x6000 + 12 * d.index + s
    let push := fun (d : Device) (r : Nat) =>
      let key := 256 * p + q
      let n := (((d.drone s).pushSeq.find? (fun e => e.1 == key)).map (·.2)).getD 1
      let bytes := d.readBytes (drnKey s (leAt o 12 4 + r * 64 * words)) (64 * words)
      let d := d.modDrone s (fun x =>
        { x with pushSeq := (x.pushSeq.filter (fun e => e.1 != key)) ++ [(key, (n + 1) % 2 ^ 32)] })
      d.pushPacket p q id (leAt o 10 1 % 8) (some n) (chunksOf 64 (words + 1) bytes)
    ((List.range st.rows).foldl push d).nextOp s)

/-! ### Drone steps (R515 to R518, R540, R843) -/

/-- The requests of a group's batch end with a status, and the pass goes no further. -/
def Device.endBatch (d : Device) (image status : Nat) : Device :=
  match d.group? image with
  | none => d
  | some g =>
    let d := { d with rows := d.rows.filter (fun r => !(r.pass && r.image == image)) }
    let d := g.batch.foldl (fun d e =>
      if (d.seq g.job e.seq).state = .decode then d.endRequest g.job e.seq status else d) d
    d.modGroup image (fun g => { g with batch := [], passDone := true })

/-- R516: the bound table of a member's step, its slots 0 and 1 reading the batch table. -/
def passBounds (r : StepRec) (rows longest : Nat) : List BoundRec :=
  r.bounds.mapIdx (fun i b =>
    if i = 0 then { b with source := 0, arg := rows }
    else if i = 1 then { b with source := 0, arg := longest } else b)

/-- DRONE_STEP_ISSUE: step `nextStep` of an image's pass issues on every member of its group (R515); a bound out of range
ends the batch's requests instead (R290, R516). -/
def fxDroneStepIssue (image : Nat) (d : Device) : Device :=
  match d.group? image, d.image? image with
  | some g, some x =>
    if g.members.isEmpty || g.admitted ≤ g.nextStep || g.batch.isEmpty ||
        g.members.any (fun s => (d.drone s).step.isSome || d.droneHalted s) then d
    else
      let recs := g.members.filterMap (fun s => (x.droneSteps s)[g.nextStep]?.map (fun r => (s, r)))
      let reads := recs.map (fun e => (e.1, e.2, d.readBounds e.1 0 (passBounds e.2 g.rowCount g.longest)))
      match reads.find? (fun e => match e.2.2 with | .ok _ => false | _ => true) with
      | some (s, _, .out i k v) =>
        ((d.latchBound s i k v).endBatch image 0x1032).modGroup image (fun g =>
          { g with nextStep := 0, admitted := 0, running := false })
      | some (s, r, .poison gr) => d.parityFault g.job s gr r.id
      | _ =>
        let d := recs.foldl (fun d e =>
          let (u, d) := d.uid
          d.modDrone e.1 (fun z =>
            { z with step := some { uid := u, job := g.job, image := image, stepId := e.2.id, index := g.nextStep,
                                    rows := g.rowCount, longest := g.longest, snapshot := z.pushSeq } })) d
        d.modGroup image (fun g => { g with running := true })
  | _, _ => d

/-- The operations of a member's step are all done, and it waits for no exchange and no sampling. -/
def Device.droneDone (d : Device) (s : Nat) (st : DroneStep) (g : Group) : Bool :=
  st.exchange.isNone && (d.droneOpAt s st).isNone && (!st.sampled || g.passDone)

/-- The last member has committed the step: the pass goes on, or has ended (R515, R564). -/
def Device.stepEnds (d : Device) (image : Nat) : Device :=
  match d.group? image, d.image? image with
  | some g, some x =>
    if g.members.any (fun s => (d.drone s).step.isSome) then d
    else
      let last := decide ((x.droneSteps (g.members.headD 0)).length ≤ g.nextStep + 1) || g.batch.isEmpty
      if !last then d.modGroup image (fun g => { g with nextStep := g.nextStep + 1, running := false, carried := false })
      else
        let d := g.members.foldl (fun d s => d.bump64 (drnOff s DRN_PASSES_LO) 1) d
        d.modGroup image (fun g => { g with nextStep := 0, admitted := 0, running := false, carried := false, passDone := false })
  | _, _ => d

/-- DRONE_STEP_COMMIT on a member (R518): every member has finished its operations (DESIGN CHOICE 27). A status other than 0x0000 ends the requests of the batch (R69, R86, R840). -/
def fxDroneStepCommit (s : Nat) (d : Device) : Device :=
  match (d.drone s).step with
  | none => d
  | some st =>
    match d.group? st.image with
    | none => d
    | some g =>
      let done := g.members.all (fun m =>
        match (d.drone m).step with | some y => d.droneDone m y g | none => true)
      if !decide (s < 12) || d.droneHalted s || !done then d
      else
        let d := d.modDrone s (fun x => { x with step := none })
        let d := if st.status ≠ 0 && !g.passDone then d.endBatch st.image st.status else d
        d.stepEnds st.image

/-- DRONE_STEP_OVERRUN on a member (R843). -/
def fxDroneStepOverrun (s : Nat) (d : Device) : Device :=
  match (d.drone s).step with
  | none => d
  | some st =>
    if !decide (s < 12) || d.droneHalted s then d
    else (d.setRegField (drnOff s DRN_STATUS) 30 30 1).jobFault st.job
      { status := 0x1121, kind := 5, part := s, unit := 3, stepId := st.stepId }

/-- R540, R564: a replay is counted, and the first latched. -/
def Device.latchDroneReplay (d : Device) (s unit : Nat) (st : DroneStep) : Device :=
  let d := d.bump (drnOff s DRN_REPLAY_COUNT) 1
  let k := drnOff s DRN_REPLAY_STATUS
  if d.regField k 31 31 = 1 then d
  else (d.setReg k (2 ^ 31 + 2 ^ 28 * (unit % 8) + 2 ^ 26 * (st.attempt % 4) + st.op % 1024)).setReg
    (drnOff s DRN_REPLAY_STEP) st.stepId

/-- DRONE_PARITY_FAILURE: in ledgers (unit 0), scratch (1) or the mailbox (2) of a member: the step replays on every
member of the group, or faults in its third attempt (R540). -/
def fxDroneParityFailure (s unit : Nat) (d : Device) : Device :=
  match (d.drone s).step with
  | none => d
  | some st =>
    if !decide (s < 12) || d.droneHalted s || decide (2 < unit) then d
    else if 2 ≤ st.attempt then
      d.jobFault st.job { status := 0x1120, kind := 1, part := s, unit := 3, stepId := st.stepId, detail := st.op }
    else
      match d.group? st.image with
      | none => d
      | some g =>
        if g.members.any (fun m => (d.drone m).step.isNone) then d
        else g.members.foldl (fun d m =>
          d.modDrone m (fun x =>
            { x with pushSeq := match x.step with | some y => y.snapshot | none => x.pushSeq
                     step := x.step.map (fun y => { y with op := 0, attempt := y.attempt + 1, exchange := none,
                                                           anchors := [], sampled := false, status := 0 }) }))
            (d.latchDroneReplay s unit st)

end Sys2Proof.Machine
end

