-- ==== Sys2Proof/Machine/Mirror.lean ====
section
/-!
DEFINITION. What a device mirrors to its twin (R786 to R788): the records of the mirror, the update that carries them, and
the host writes that wait for its acknowledgement. The layout of the records is the model's own (DESIGN CHOICE 36).
-/
namespace Sys2Proof.Machine

/-- A session's record in the mirror: 64 bytes. -/
def Session.mirror (x : Session) : List Byte :=
  padTo 64 (leBytes 1 (bit (x.state != .off)) ++ leBytes 1 x.fn ++ leBytes 1 x.sqLog ++ leBytes 1 x.cqLog ++
    leBytes 1 (bit x.phase + 2 * bit x.irq) ++ leBytes 1 x.holdoff ++ leBytes 2 x.vector ++ leBytes 8 x.sqBase ++
    leBytes 8 x.cqBase ++ leBytes 4 x.sqHead ++ leBytes 4 x.cqTail)

/-- A staged command's record: 16 bytes. -/
def Staged.mirror (s : Staged) : List Byte :=
  match s.cmd.origin with
  | .session n => padTo 16 (leBytes 2 n ++ leBytes 1 s.cmd.opcode ++ leBytes 1 1 ++ leBytes 4 s.cmd.tag.toNat ++
      leBytes 4 (s.op 8 4))
  | _ => []

/-- A request's record: 128 bytes, with up to nine tokens of its last commit. -/
def Device.seqMirror (d : Device) (job id : Nat) (q : Seq) : List Byte :=
  match q.cmd with
  | none => []
  | some c =>
    match c.origin with
    | .session n =>
      let lib := match (Table.find? d.images q.image).bind (·.lib) with | some v => (v.model, v.version) | none => (0, 0)
      let last := q.tokens.drop (q.tokens.length - (q.specK + 1))
      padTo 128 (leBytes 1 1 ++ leBytes 1 (bit q.keep + 2 * bit q.stream + 4 * bit q.keptMute) ++ leBytes 2 n ++
        leBytes 4 c.tag.toNat ++ leBytes 4 job ++ leBytes 4 id ++ leBytes 8 q.prompt ++ leBytes 8 q.out ++
        leBytes 8 q.sampling ++ leBytes 4 q.promptLen ++ leBytes 4 q.maxTokens ++ leBytes 4 q.delivered ++
        leBytes 4 q.prefixId ++ leBytes 1 q.level ++ leBytes 1 q.specK ++ leBytes 1 last.length ++ leBytes 1 0 ++
        leBytes 4 lib.1 ++ leBytes 4 lib.2 ++ last.flatMap (leBytes 4))
    | _ => []

/-- R787: the record of a request that is validated and not yet admitted. -/
def Device.reqMirror (d : Device) (s : Staged) : List Byte :=
  let h := s.op 48 4
  let lib := if 2 ^ 31 ≤ h then
      (match Table.find? d.deploys (h - 2 ^ 31) with | some y => (y.model, y.current) | none => (0, 0))
    else match (Table.find? d.images h).bind (·.lib) with | some v => (v.model, v.version) | none => (0, 0)
  match s.cmd.origin with
  | .session n =>
    let fl := s.op 54 1
    padTo 128 (leBytes 1 1 ++ leBytes 1 (bit (bitOf fl 1) + 2 * bit (bitOf fl 0)) ++ leBytes 2 n ++
      leBytes 4 s.cmd.tag.toNat ++ leBytes 4 0 ++ leBytes 4 (s.op 8 4) ++ leBytes 8 (s.op 16 8) ++ leBytes 8 (s.op 32 8) ++
      leBytes 8 (s.op 40 8) ++ leBytes 4 (s.op 24 4) ++ leBytes 4 (s.op 28 4) ++ leBytes 4 0 ++ leBytes 4 (s.op 12 4) ++
      leBytes 1 (s.op 52 1) ++ leBytes 1 (s.op 53 1) ++ leBytes 2 0 ++ leBytes 4 lib.1 ++ leBytes 4 lib.2)
  | _ => []

/-- A host write that waits, in records of at most 16 bytes: what its update carries (R786, R788). -/
def outMirror : Out → List Byte
  | .hostWrite f a b =>
    ((chunksOf 16 (b.length / 16 + 1) b).mapIdx (fun i c =>
      if c.isEmpty then []
      else padTo 128 (padTo 104 (leBytes 1 2 ++ leBytes 1 f ++ leBytes 1 c.length) ++ leBytes 8 (a.toNat + 16 * i) ++
        padTo 16 c))).flatten
  | _ => []

/-- A part of an update: offset in the mirror, length, bytes. -/
def mirrorPart (off : Nat) (bs : List Byte) : List Byte := leBytes 4 off ++ leBytes 4 bs.length ++ bs

def mirrorStagedAt : Nat := 0x40000
def mirrorSeqsAt : Nat := 0x140000

/-- An update: every session record, the staged commands and the requests, each list ended by a zero record. -/
def Device.mirrorBody (d : Device) : List Byte :=
  (d.sessions.flatMap (fun e => mirrorPart (64 * e.1) e.2.mirror)) ++
    mirrorPart mirrorStagedAt (d.staged.flatMap (fun s => s.mirror) ++ List.replicate 16 0) ++
    mirrorPart mirrorSeqsAt
      (d.seqs.flatMap (fun e => d.seqMirror (e.1 / 16384) (e.1 % 16384) e.2) ++
        (d.staged.filter (fun s => s.cmd.opcode == 0x40 && !d.seqs.any (fun e => e.2.cmd == some s.cmd))).flatMap
          (fun s => d.reqMirror s) ++
        d.held.flatMap outMirror ++ List.replicate 128 0)

/-- R784, R785, R788: the port of the messages to the twin: its own, or that of the ALT circuit while the twin port is
down. -/
def Device.twinPath (d : Device) : Nat :=
  if d.regField (regKey PLV_PORT_STATUS 16) 31 29 ≠ 6 && d.regField PLV_TWIN_CFG 29 29 = 1 then d.regField PLV_TWIN_CFG 20 16
  else 16

/-- R788: an update is sent when there is something that it has not carried, and none is under way; so a commit's update
follows the host writes of the earlier ones. -/
def Device.mirrorSend (d : Device) : Device :=
  if !d.mirroring || d.twin.waiting ||
      (d.held.isEmpty && !d.staged.any (fun s => decide (d.mirrorFrom ≤ s.cmd.uid))) then d
  else
    ({ d with twin := { d.twin with upTo := d.nextUid, carried := d.held.length, waiting := true,
                                    position := d.twin.position + 1 } } : Device).emit
      (.link d.twinPath 17 (d.regField PLV_TWIN_STATUS 6 0) (leBytes 8 (d.twin.position + 1) ++ d.mirrorBody))

/-- A host write of tokens or of a completion record: it leaves once the twin has acknowledged its update (R788). -/
def Device.hostOut (d : Device) (o : Out) : Device :=
  if d.mirroring then ({ d with held := d.held ++ [o] } : Device).mirrorSend else d.emit o

/-- R788: the acknowledgement of the update under way releases the commands and host writes it covers; the next follows. -/
def Device.mirrorAcked (d : Device) : Device :=
  if !d.twin.waiting then d
  else
    let d := { d with out := d.out ++ d.held.take d.twin.carried, held := d.held.drop d.twin.carried
                      mirrorFrom := d.twin.upTo, twin := { d.twin with waiting := false } }
    d.mirrorSend

/-- R785: once the twin is lost nothing waits for it. -/
def Device.mirrorOff (d : Device) : Device :=
  { d with out := d.out ++ d.held, held := [], twin := { d.twin with waiting := false } }

end Sys2Proof.Machine
end

