-- ==== Sys2Proof/Machine/Sampler.lean ====
section
/-!
DEFINITION. The sampler and the Mute engine (12_mutes_and_sampling): the draw, the choice of a token, automata, and the
commands MUTE_VALIDATE and SAMPLE_RUN.
-/
namespace Sys2Proof.Machine

/-! ### The draw (R575, R576) -/

/-- One round of Philox-4×32. -/
def philoxRound (c : List Nat) (k0 k1 : Nat) : List Nat :=
  let a := 0xD2511F53 * c.getD 0 0
  let b := 0xCD9E8D57 * c.getD 2 0
  [Nat.xor (Nat.xor (b / 2 ^ 32) (c.getD 1 0)) k0, b % 2 ^ 32, Nat.xor (Nat.xor (a / 2 ^ 32) (c.getD 3 0)) k1, a % 2 ^ 32]

def philox : Nat → List Nat → Nat → Nat → List Nat
  | 0, c, _, _ => c
  | n + 1, c, k0, k1 => philox n (philoxRound c k0 k1) ((k0 + 0x9E3779B9) % 2 ^ 32) ((k1 + 0xBB67AE85) % 2 ^ 32)

/-- R575: the draw u of a row whose token stands at position `pos`, an FP32 value strictly between 0 and 1. -/
def drawOf (seed pos : Nat) : Word :=
  let c := philox 10 [pos % 2 ^ 32, 0, 0, 0] (seed % 2 ^ 32) (seed / 2 ^ 32 % 2 ^ 32)
  f32Of (.fin false (2 * (c.getD 0 0 / 512) + 1) (-24))

/-! ### The choice (R573) -/

/-- x < y as IEEE 754 compares: false where either is NaN, and −0 equals +0. -/
def fLess (a b : Word) : Bool :=
  let x := f32Val a
  let y := f32Val b
  if x.isNan || y.isNan || (x.isZero && y.isZero) then false else flLess x y

def isInf (neg : Bool) (w : Word) : Bool := f32Val w == .inf neg

/-- The entry with the greatest value, the lower token first among equals. -/
def argMax : List (Nat × Word) → Option Nat
  | [] => none
  | e :: l => some (l.foldl (fun b x => if fLess b.2 x.2 then x else b) e).1

/-- Running sums of weights in A's order, formed in FP32. -/
def runningSums (s : Word) : List Word → List Word
  | [] => []
  | e :: l => f32Add s e :: runningSums (f32Add s e) l

def sumOf (l : List Word) : Word := l.foldl f32Add 0

/-- Steps 7 to 10 of R573 on A in order: (token, z). -/
def drawToken (b : SampleBlock) (u : Word) (a : List (Nat × Word)) : Option Nat :=
  let mx := (a.head?.map (·.2)).getD 0
  if isInf false mx then
    -- R573: the NaN weights fail every comparison, and the largest finite entry is taken
    match a.find? (fun e => !(isInf false e.2)) with
    | some e => some e.1
    | none => a.getLast?.map (·.1)
  else
    let w := a.map (fun e => (e.1, vecExp (f32Add e.2 (mx ^^^ 0x80000000#32))))
    let w := if fLess 0 b.minP then w.filter (fun e => !fLess e.2 b.minP) else w
    let lim := f32Mul b.topP (sumOf (w.map (·.2)))
    let n := match indexWhere (fun s => !fLess s lim) 0 (runningSums 0 (w.map (·.2))) with
      | some i => i + 1
      | none => w.length
    let w := w.take n
    let th := f32Mul u (sumOf (w.map (·.2)))
    match (w.zip (runningSums 0 (w.map (·.2)))).find? (fun e => fLess th e.2) with
    | some e => some e.1.1
    | none => w.getLast?.map (·.1)

/-- R573: the token of a row of logits under a mask, a block and a draw; none for MUTE_EMPTY. -/
def sampleRow (logits : List Word) (mask : Nat → Bool) (b : SampleBlock) (u : Word) : Option Nat :=
  let a := ((logits.zipIdx.filter (fun e => mask e.2)).map (fun e =>
    (e.2, if (f32Val e.1).isNan then 0xFF800000#32 else e.1)))
  if !a.any (fun e => fLess 0xFF800000#32 e.2) then none
  else match a.find? (fun e => isInf false e.2) with
    | some e => some e.1
    | none =>
      if (f32Val b.temperature).isZero then argMax a
      else
        let r := vecRecip b.temperature
        let z := a.map (fun e => (e.1, f32Mul e.2 r))
        let o := sortBy (fun (x y : Nat × Word) => fLess y.2 x.2) z
        drawToken b u (if 0 < b.topK then o.take b.topK else o)

/-! ### Automata (R578 to R583) -/

/-- The header of an automaton at a memory key. -/
structure Automaton where
  key : Nat
  symbols : Nat
  pushdown : Bool
  vocab : Nat
  states : Nat
  start : Nat
  masks : Nat
  maskOff : Nat
  stateOff : Nat
  edgeOff : Nat
  edges : Nat
  mlistOff : Nat
  deriving DecidableEq, Repr

/-- R577: bytes of one mask. -/
def maskBytes (v : Nat) : Nat := ((v + 7) / 8 + 63) / 64 * 64

def Device.automaton (d : Device) (key : Nat) : Automaton :=
  let h := d.readBytes key 64
  { key := key, symbols := leAt h 7 1, pushdown := leAt h 6 1 == 1, vocab := leAt h 8 4, states := leAt h 12 4,
    start := leAt h 16 4, masks := leAt h 20 4, maskOff := leAt h 24 4, stateOff := leAt h 28 4, edgeOff := leAt h 32 4,
    edges := leAt h 36 4, mlistOff := leAt h 40 4 }

/-- Bytes from the header to the end of the furthest record region; the mask lists run to one list per state. -/
def Automaton.extent (a : Automaton) : Nat :=
  max (max (a.maskOff + a.masks * maskBytes a.vocab) (a.stateOff + 16 * a.states))
    (max (a.edgeOff + 16 * a.edges) (if a.pushdown then a.mlistOff + 4 * (a.symbols + 1) else 64))

/-- R578, R583: the automaton header at an address passes its check, for vocabulary `v`. -/
def Device.automatonOk (d : Device) (who : Port) (addr v : Nat) : Bool :=
  let h := d.readBytes (localKey addr) 64
  let a := d.automaton (localKey addr)
  d.isSelf (addrDevice addr) && addrSpace addr == 1 && addr % 64 == 0 && d.mapped addr 64 &&
    leAt h 0 4 == 0x4554554D && leAt h 4 2 == 1 && decide (leAt h 6 1 ≤ 1) && allZero (sliceOf h 44 20) && a.vocab == v &&
    decide (1 ≤ a.states) && decide (a.states ≤ 16777216) && decide (a.start < a.states) &&
    [a.maskOff, a.stateOff, a.edgeOff, a.mlistOff].all (fun o => o % 64 == 0) &&
    d.mapped addr a.extent && d.inWindow (some who) addr a.extent false

/-- A state record: mask, first edge, edges, END, STACK_MASK (R579). -/
def Device.autState (d : Device) (a : Automaton) (s : Nat) : Nat × Nat × Nat × Bool × Bool :=
  let r := d.readBytes (a.key + a.stateOff + 16 * s) 16
  (leAt r 0 4, leAt r 4 4, leAt r 8 2, bitOf (leAt r 10 1) 0, bitOf (leAt r 10 1) 1)

/-- R582: the index of the mask of a state; none where an index is out of range (R583). -/
def Device.maskIndex (d : Device) (a : Automaton) (m : MuteState) : Option Nat :=
  if a.states ≤ m.aut then none
  else
    let (mask, _, _, _, stacked) := d.autState a m.aut
    let top := m.stack.getLast?.getD 0
    let j := if stacked then d.readNat (a.key + a.mlistOff + 4 * (a.symbols + 1) * mask + 4 * top) 4 else mask
    if j < a.masks && top ≤ a.symbols then some j else none

/-- R581: the first edge of a state that a token takes; an index out of range is MUTE_TABLE. -/
def Device.takeEdge (d : Device) (a : Automaton) (m : MuteState) (t : Nat) : Nat → Nat → Except Nat MuteState
  | 0, _ => .error 0x0703
  | n + 1, e =>
    if a.edges ≤ e then .error 0x0705
    else
      let r := d.readBytes (a.key + a.edgeOff + 16 * e) 16
      let op := leAt r 12 1
      let sym := leAt r 13 1
      let psh := leAt r 14 1
      let next := leAt r 8 4
      let fits := decide (leAt r 0 4 ≤ t) && decide (t ≤ leAt r 4 4) &&
        (decide (op ≤ 1) || (decide (op ≤ 3) && m.stack.getLast? == some sym))
      if !fits then d.takeEdge a m t n (e + 1)
      else
        let bad := fun s : Nat => s == 0 || decide (a.symbols < s)
        let stack := match op with
          | 1 => m.stack ++ [sym]
          | 2 => m.stack.dropLast
          | 3 => m.stack.dropLast ++ [psh]
          | _ => m.stack
        if a.states ≤ next || (op != 0 && bad sym) || (op == 3 && bad psh) then .error 0x0705
        else if 64 < stack.length then .error 0x0702
        else .ok { m with aut := next, stack := stack }

/-- R581: one step on a token; the Boolean says that the state entered has END. -/
def Device.stepMute (d : Device) (m : MuteState) (t : Nat) : Except Nat (MuteState × Bool) :=
  let a := d.automaton (localKey m.addr)
  if a.states ≤ m.aut then .error 0x0705
  else
    let (_, first, count, _, _) := d.autState a m.aut
    match d.takeEdge a m t count first with
    | .error e => .error e
    | .ok m => .ok (m, (d.autState a m.aut).2.2.2.1)

/-- The bitmap at a key allows a token (R577). -/
def Device.maskBit (d : Device) (key t : Nat) : Bool := bitOf (d.readByte (key + t / 8)).toNat (t % 8)

/-- R577, R582: the mask of a row under a block and a mute state; an error is MUTE_TABLE. -/
def Device.maskOf (d : Device) (b : SampleBlock) (m : MuteState) : Except Nat (Nat → Bool) :=
  match b.maskKind with
  | 0 => .ok (fun _ => true)
  | 1 => .ok (d.maskBit (localKey b.maskAddr))
  | _ =>
    let a := d.automaton (localKey m.addr)
    match d.maskIndex a m with
    | none => .error 0x0705
    | some j => .ok (d.maskBit (a.key + a.maskOff + j * maskBytes a.vocab))

/-! ### The sampling block (R568, R569) -/

def SampleBlock.ofBytes (l : List Byte) : SampleBlock :=
  { temperature := BitVec.ofNat 32 (leAt l 0 4), topP := BitVec.ofNat 32 (leAt l 4 4), minP := BitVec.ofNat 32 (leAt l 8 4),
    topK := leAt l 12 4, seed := leAt l 16 8, maskKind := leAt l 24 1, keepMute := bitOf (leAt l 25 1) 0,
    deliverStop := bitOf (leAt l 25 1) 1
    stops := (List.range (min 4 (leAt l 26 1))).map (fun i => leAt l (40 + 4 * i) 4), maskAddr := leAt l 32 8 }

/-- A value in [lo, hi] of IEEE order that is not NaN. -/
def fBetween (lo w hi : Word) : Bool := !(f32Val w).isNan && !fLess w lo && !fLess hi w

/-- R569: what makes a sampling block malformed, for vocabulary `v`; the mask is an allow-list in this device's memory, or
an automaton. -/
def Device.blockMalformed (d : Device) (who : Port) (l : List Byte) (v : Nat) : Bool :=
  let b := SampleBlock.ofBytes l
  let one : Word := 0x3F800000#32
  !fBetween 0 b.temperature 0x7F7FFFFF#32 || b.temperature == 0x80000000#32 || !(fBetween 0 b.topP one && fLess 0 b.topP) ||
    !(fBetween 0 b.minP one && fLess b.minP one) || decide (v < b.topK) || decide (2 < b.maskKind) ||
    decide (4 ≤ leAt l 25 1) || decide (4 < leAt l 26 1) || !allZero (sliceOf l 27 5) || !allZero (sliceOf l 56 8) ||
    (match b.maskKind with
     | 0 => false
     | 1 => b.maskAddr % 64 != 0 || !(d.isSelf (addrDevice b.maskAddr)) || !d.mapped b.maskAddr (maskBytes v) ||
         !d.inWindow (some who) b.maskAddr (maskBytes v) false
     | _ => !d.automatonOk who b.maskAddr v)

/-! ### Operands that may lie in host memory (R727) -/

/-- What reading an operand's memory gives. -/
inductive OpRead where
  | ok (l : List Byte)
  | refused (status : Nat)
  | poison (granule : Nat)
  | waiting
  deriving DecidableEq, Repr

/-- R727: a host address, which only a session of a function may name. -/
def hostAddr (who : Port) (a : Nat) : Bool :=
  addrDevice a == 126 && (match who with | .pf => true | .vf _ => true | _ => false)

/-- R52, R705, R727: what refuses an operand's range before it is used; 0 where it may be used. -/
def Device.opRange (d : Device) (who : Port) (a n : Nat) (write : Bool) : Nat :=
  if hostAddr who a then 0
  else if !(d.mapped a n && d.reaches 0 (addrDevice a)) || decide (3 < addrSpace a) then 0x0110
  else if !d.inWindow (some who) a n write then 0x0506
  else 0

/-- Reads `n` bytes of an operand: `host` is what a host read brings, none where it fails. -/
def Device.readOp (d : Device) (c : CmdRef) (off a n : Nat) (host : Option (List Byte)) : OpRead :=
  if hostAddr c.port a then match host with | some l => .ok (padTo n l) | none => .refused 0x0110
  else
    let st := d.opRange c.port a n false
    if st ≠ 0 then .refused st
    else match d.readAny c.uid off a n with
      | .bytes l => .ok l
      | .poison g => .poison g
      | .waiting => .waiting

/-- The packets that bring an operand from another device, asked for once. -/
def Device.askOp (d : Device) (c : CmdRef) (off a n : Nat) : Device :=
  if addrDevice a = 126 || d.opRange c.port a n false ≠ 0 then d else d.requestRemote c.uid hubChan 0 2 15 off a n

/-! ### Errors (R593) -/

/-- MUT_ERR latches the first non-zero status; MUT_EMPTY_COUNT counts MUTE_EMPTY. -/
def Device.muteError (d : Device) (status seq : Nat) : Device :=
  let d := if status = 0x0701 then d.bump MUT_EMPTY_COUNT 1 else d
  if status / 256 ≠ 7 || d.regField MUT_ERR 31 31 = 1 then d
  else d.setReg MUT_ERR (2 ^ 31 + 2 ^ 14 * (status % 256) + seq % 2 ^ 14)

/-! ### Commands (R591) -/

/-- R591: reserved bytes of a Mute-range entry. -/
def checkMuteEntry (e : List Byte) : Nat :=
  let n := if leAt e 0 1 = 0x50 then 20 else 36
  if leAt e 1 1 != 0 || leAt e 2 2 != 0 || !allZero (e.drop n) then 0x0704 else 0

/-- MUTE_VALIDATE. -/
def fxMuteValidate (o : Origin) (d : Device) : Device :=
  d.run o 0x50 (fun s d =>
    let a := s.op 8 8
    if d.automatonOk s.cmd.port a (s.op 16 4) then
      let x := d.automaton (localKey a)
      d.complete s.cmd 0 (leBytes 4 x.states ++ leBytes 4 x.edges)
    else d.complete s.cmd 0x0704 [])

/-- SAMPLE_RUN: one row, an empty stack, nothing written (R591). `logits` and `sampling` are what host reads bring. -/
def Device.runSample (d : Device) (s : Staged) (logits sampling : Option (List Byte)) : Device :=
  let v := s.op 16 4
  match d.readOp s.cmd 0 (s.op 8 8) (4 * v) logits, d.readOp s.cmd (4 * v) (s.op 20 8) 64 sampling with
  | .waiting, _ => d
  | _, .waiting => d
  | .refused st, _ => d.complete s.cmd st []
  | _, .refused st => d.complete s.cmd st []
  | .poison g, _ => (d.poisonRead g).complete s.cmd (parityStatus g) []
  | _, .poison g => (d.poisonRead g).complete s.cmd (parityStatus g) []
  | .ok ls, .ok bs =>
    let d := d.forget s.cmd.uid
    let b := SampleBlock.ofBytes bs
    if d.blockMalformed s.cmd.port bs v then d.complete s.cmd 0x0704 []
    else
      let m : MuteState := { aut := s.op 32 4, addr := if b.maskKind = 2 then b.maskAddr else 0 }
      match d.maskOf b m with
      | .error st => d.complete s.cmd st []
      | .ok mask =>
        let row := (chunksOf 4 (v + 1) ls).map (fun w => BitVec.ofNat 32 (leNat w))
        match sampleRow row mask b (drawOf b.seed (s.op 28 4)) with
        | none => d.complete s.cmd 0x0701 []
        | some t =>
          if b.maskKind ≠ 2 then d.complete s.cmd 0 (leBytes 4 t ++ leBytes 4 m.aut)
          else match d.stepMute m t with
            | .error st => d.complete s.cmd st (leBytes 4 t)
            | .ok (m, _) => d.complete s.cmd 0 (leBytes 4 t ++ leBytes 4 m.aut)

def fxSampleRun (o : Origin) (logits sampling : Option (List Byte)) (d : Device) : Device :=
  match d.startedOp o 0x51 with
  | some s => d.runSample s logits sampling
  | none =>
    match d.startable o 0x51 with
    | none => d
    | some s =>
      let d := d.start s
      if s.op 16 4 = 0 || 262144 < s.op 16 4 || s.op 20 8 % 64 ≠ 0 || s.op 8 8 % 4 ≠ 0 then d.complete s.cmd 0x0704 []
      else ((d.askOp s.cmd 0 (s.op 8 8) (4 * s.op 16 4)).askOp s.cmd (4 * s.op 16 4) (s.op 20 8) 64).runSample s logits sampling

end Sys2Proof.Machine
end

