-- ==== Sys2Proof/Machine/Serve.lean ====
section
/-!
DEFINITION. Requests: the Drone-range commands, sampling of rows, mask preparation and the commit of a pass
(11_serving, 12_mutes_and_sampling, R666 to R669).
-/
namespace Sys2Proof.Machine

/-! ### Entries at validation (R560) -/

/-- Bytes of an entry that its opcode names no field for, and the other form rules of R560: DRN_MALFORMED, or 0. -/
def checkDroneEntry (e : List Byte) : Nat :=
  let z := fun (l : List (Nat × Nat)) => l.all (fun r => allZero (sliceOf e r.1 r.2))
  let seqBad := decide (16383 < leAt e 8 4)
  let bad := leAt e 1 1 != 0 || leAt e 2 2 != 0 ||
    (match leAt e 0 1 with
     | 0x40 => seqBad || !z [(55, 9)] || decide (7 < leAt e 52 1) || decide (3 < leAt e 54 1) || leAt e 24 4 == 0 ||
         leAt e 28 4 == 0 || decide (8 < leAt e 53 1) || (leAt e 8 4 != 0 && leAt e 12 4 != 0) ||
         leAt e 16 8 % 4 != 0 || leAt e 32 8 % 4 != 0 || leAt e 40 8 % 64 != 0
     | 0x42 => seqBad || leAt e 8 4 == 0 || !z [(12, 4), (24, 40)] || leAt e 16 8 % 65536 != 0 || !isT3 (addrSpace (leAt e 16 8))
     | 0x44 => !z [(24, 40)] || leAt e 8 8 % 4 != 0
     | 0x45 => !z [(12, 52)]
     | _ => seqBad || leAt e 8 4 == 0 || !z [(12, 52)])
  if bad then 0x1101 else 0

/-! ### Resolving images and sequences (R560, R666 to R668, R707) -/

/-- What an IMAGE operand names: an image and the deployment that pinned it, a status, or nothing yet (R679). -/
inductive ImageRef where
  | image (handle : Nat) (deploy : Option Nat)
  | refused (status : Nat)
  | held
  deriving DecidableEq, Repr

/-- R649: the memory key of the library region, and of its version records. -/
def Device.libKey (d : Device) : Nat := localKey (d.reg64 LIB_BASE_LO)
def Device.verKey (d : Device) (i : Nat) : Nat := d.libKey + 0x20000 + 256 * i

/-- The index of a version's record in the catalogue. -/
def Device.findVersion (d : Device) (model version : Nat) : Option Nat :=
  (List.range 4096).find? (fun i => d.readNat (d.verKey i) 4 == model && d.readNat (d.verKey i + 4) 4 == version)

/-- R655: STATE of a version; UNAVAILABLE where the catalogue has no record of it. -/
def Device.versionState (d : Device) (model version : Nat) : Nat :=
  match d.findVersion model version with | some i => d.readNat (d.verKey i + 8) 1 | none => 3

def Device.resolveImage (d : Device) (port : Port) (h : Nat) : ImageRef :=
  if h < 2 ^ 31 then
    match d.image? h with
    | some x => if x.ready && x.seen port then .image h none else .refused 0x1055
    | none => .refused 0x1055
  else
    match Table.find? d.deploys (h - 2 ^ 31) with
    | none => .refused 0x0B04
    | some y =>
      if (match port with | .vf n => n != y.fn | _ => false) then .refused 0x0B0B
      else if y.draining then .held
      else if y.current = 0 || d.versionState y.model y.current = 3 then .refused 0x0B07
      else .image y.image (some (h - 2 ^ 31))

/-- The job and number of the sequence that a command names by SEQ_ID alone: that of the lowest job with a sequence of
this number that the port's images belong to (DESIGN CHOICE 30). -/
def Device.findSeq (d : Device) (port : Port) (id : Nat) : Option (Nat × Seq) :=
  (List.find? (fun e : Nat × Seq => e.1 % 16384 == id && e.2.state != .free &&
    (match d.image? e.2.image, port with
     | some x, p => x.seen p
     | none, .vf _ => false
     | none, _ => true)) d.seqs).map (fun e => (e.1 / 16384, e.2))

/-- The lowest free SEQ_ID of a job. -/
def Device.freeSeqId (d : Device) (job : Nat) : Option Nat :=
  ((List.range 16384).drop 1).find? (fun i => (Table.find? d.seqs (seqKey job i)).isNone)

/-- R787: the sequences that hold a mirrored record. -/
def Device.mirrorFull (d : Device) : Bool :=
  d.mirroring && decide (16384 ≤ (d.seqs.filter (fun e => e.2.cmd.isSome)).length)

/-! ### GENERATE and PREFIX_BUILD (R528, R544, R545, R559 to R561, R569, R572) -/

/-- The prefill of a request: its chain of fabric steps (R314, R530). -/
def Device.startChain (d : Device) (job image id : Nat) (forced : Bool) : Device :=
  let (u, d) := d.uid
  let d := { d with chains := d.chains ++ [({ id := u, job := job, image := image, seq := id, forced := forced } : Chain)] }
  d.modSeq job id (fun s => { s with chain := some u, state := .prefill })

/-- R572: the mute state of a request at its start. -/
def Device.startMute (d : Device) (old : MuteState) (b : SampleBlock) : MuteState :=
  if b.maskKind ≠ 2 then { old with addr := 0 }
  else if b.keepMute && old.addr == b.maskAddr then old
  else { aut := (d.automaton (localKey b.maskAddr)).start, addr := b.maskAddr, stack := [] }

/-- The next started command of an origin under an opcode whose operands are still to come: no sequence serves it yet. -/
def Device.awaitingOp (d : Device) (o : Origin) (opcode : Nat) : Option Staged :=
  d.staged.find? (fun s => s.cmd.origin == o && s.cmd.opcode == opcode && s.started &&
    !d.seqs.any (fun e => e.2.cmd == some s.cmd))

/-- What a GENERATE starts from: SEQ_ID, its record, the image; or the status that refuses it. -/
def Device.generateFrom (d : Device) (s : Staged) (h : Nat) (dep : Option Nat) :
    Except Nat (Nat × Seq × Nat × Image) :=
  match d.image? h with
  | none => .error 0x1055
  | some x0 =>
    if x0.group.isEmpty then .error 0x1101
    else if s.op 8 4 ≠ 0 then
      match Table.find? d.seqs (seqKey x0.job (s.op 8 4)) with
      | none => .error 0x1102
      | some q =>
        if q.state = .free then .error 0x1102
        else if q.state != .idle then .error 0x1103
        else match d.image? q.image with
          | none => .error 0x0B0C
          | some x => .ok (s.op 8 4, { q with deploy := dep }, q.image, x)
    else
      match d.freeSeqId x0.job with
      | none => .error 0x1105
      | some id =>
        if s.op 12 4 = 0 then .ok (id, { deploy := dep, perPage := x0.framesPerPage }, h, x0)
        else match Table.find? d.prefixes (s.op 12 4) with
          | none => .error 0x1108
          | some p =>
            if p.job ≠ x0.job || p.image ≠ h then .error 0x1108
            else if p.retiring then .error 0x110A
            else .ok (id, { deploy := dep, perPage := x0.framesPerPage, committed := p.length, prefixId := s.op 12 4,
                            prefixPages := p.pages.length, pages := p.pages, scales := p.scales }, h, x0)

/-- R560: an image whose D_SAMPLE operations name a spec item. -/
def Image.hasSpec (x : Image) : Bool := x.droneOps.any (fun o => leAt o 0 1 == 0x4E && leAt o 20 8 != 0)

/-- Offsets under a command's uid at which its operands arrive from another device. -/
def promptOff : Nat := 4096

def tokensOf (l : List Byte) : List Nat := (chunksOf 4 (l.length + 1) l).map leNat

/-- GENERATE with its operands at hand: refused, or admitted with its pages reserved and its prefill set up. -/
def Device.admitGenerate (d : Device) (s : Staged) (h : Nat) (dep : Option Nat) (prompt sampling : OpRead) : Device :=
  let refuse := fun (d : Device) st => d.complete s.cmd st (leBytes 4 0 ++ leBytes 4 (s.op 8 4))
  match d.generateFrom s h dep with
  | .error st => refuse d st
  | .ok (id, q, h, x) =>
    let len := s.op 24 4
    let k := s.op 53 1
    if 0 < k && !x.hasSpec then refuse d 0x1101
    else if x.contextBound < q.committed + len then refuse d 0x1106
    else
      match prompt, sampling with
      | .waiting, _ => d
      | _, .waiting => d
      | .refused st, _ => refuse d st
      | _, .refused st => refuse d st
      | .poison g, _ => refuse (d.poisonRead g) (parityStatus g)
      | _, .poison g => refuse (d.poisonRead g) (parityStatus g)
      | .ok _, .ok sb =>
        let out := d.opRange s.cmd.port (s.op 32 8) (4 * s.op 28 4) true
        if d.blockMalformed s.cmd.port sb x.vocab then refuse d 0x0704
        else if out ≠ 0 then refuse d out
        else if !hostAddr s.cmd.port (s.op 32 8) && d.isReadOnly (s.op 32 8) (4 * s.op 28 4) then refuse d 0x0A03
        else
          let b := SampleBlock.ofBytes sb
          let flags := s.op 54 1
          let q := { q with level := s.op 52 1, specK := k, stream := bitOf flags 0, keep := bitOf flags 1, delivered := 0,
                            maxTokens := s.op 28 4, prompt := s.op 16 8, promptLen := len, out := s.op 32 8,
                            sampling := s.op 40 8, image := h, group := x.group.foldl (fun m i => m + 2 ^ i) 0,
                            cmd := some s.cmd, block := b, mute := d.startMute q.mute b
                            keptMute := b.maskKind == 2 && b.keepMute && q.mute.addr == b.maskAddr, guesses := [], cancelled := false,
                            base := q.committed, forced := false, tokens := [],
                            progressed := false, plainPass := false, kvChannels := [], tokenReady := false,
                            fenceBad := false, prep := [], prepared := false }
          match d.reservePages q x.group (q.committed + len + s.op 28 4 + k) with
          | none => refuse d 0x1104
          | some q =>
            let d := d.forget s.cmd.uid
            let d := if s.op 8 4 = 0 && q.prefixId ≠ 0 then
                { d with prefixes := Table.mapVals d.prefixes (fun k p =>
                           if k = q.prefixId then { p with refs := p.refs + 1 } else p) }
              else d
            (d.setSeq x.job id q).startChain x.job h id false

/-- GENERATE (R559 to R561, R666 to R668, R727, R787). `prompt` and `sampling` are what host reads bring. -/
def fxGenerate (o : Origin) (prompt sampling : Option (List Byte)) (d : Device) : Device :=
  let go := fun (d : Device) (s : Staged) (h : Nat) (dep : Option Nat) =>
    d.admitGenerate s h dep (d.readOp s.cmd promptOff (s.op 16 8) (4 * s.op 24 4) prompt)
      (d.readOp s.cmd 0 (s.op 40 8) 64 sampling)
  match d.awaitingOp o 0x40 with
  | some s =>
    match d.resolveImage s.cmd.port (s.op 48 4) with
    | .image h dep => go d s h dep
    | .refused st => d.complete s.cmd st []
    | .held => d
  | none =>
    match d.startable o 0x40 with
    | none => d
    | some s =>
      match d.resolveImage s.cmd.port (s.op 48 4) with
      | .held => d
      | .refused st => (d.start s).complete s.cmd st (leBytes 4 0 ++ leBytes 4 (s.op 8 4))
      | .image h dep =>
        if d.mirrorFull then d
        else
          let d := ((d.start s).askOp s.cmd 0 (s.op 40 8) 64).askOp s.cmd promptOff (s.op 16 8) (4 * s.op 24 4)
          go d s h dep

/-- PREFIX_BUILD with its tokens at hand (R544). -/
def Device.admitPrefix (d : Device) (s : Staged) (h : Nat) (toks : OpRead) : Device :=
  match d.image? h with
  | none => d.complete s.cmd 0x1055 []
  | some x =>
    let n := s.op 16 4
    if x.group.isEmpty then d.complete s.cmd 0x1101 []
    else if n % 32 ≠ 0 || n < 32 || 65536 < n then d.complete s.cmd 0x1109 []
    else match toks with
      | .waiting => d
      | .refused st => d.complete s.cmd st []
      | .poison g => (d.poisonRead g).complete s.cmd (parityStatus g) []
      | .ok _ =>
        match d.freeSeqId x.job with
        | none => d.complete s.cmd 0x1105 []
        | some id =>
          let q : Seq := { image := h, cmd := some s.cmd, building := true, promptLen := n, prompt := s.op 8 8,
                           perPage := x.framesPerPage,
                           group := x.group.foldl (fun m i => m + 2 ^ i) 0 }
          match d.reservePages q x.group n with
          | none => d.complete s.cmd 0x1104 []
          | some q => ((d.forget s.cmd.uid).setSeq x.job id q).startChain x.job h id false

/-- PREFIX_BUILD (R544, R559). `tokens` is what a host read brings. -/
def fxPrefixBuild (o : Origin) (tokens : Option (List Byte)) (d : Device) : Device :=
  let go := fun (d : Device) (s : Staged) =>
    match d.resolveImage s.cmd.port (s.op 20 4) with
    | .image h _ => d.admitPrefix s h (d.readOp s.cmd 0 (s.op 8 8) (4 * s.op 16 4) tokens)
    | .refused st => d.complete s.cmd st []
    | .held => d
  match d.awaitingOp o 0x44 with
  | some s => go d s
  | none =>
    match d.startable o 0x44 with
    | none => d
    | some s =>
      match d.resolveImage s.cmd.port (s.op 20 4) with
      | .held => d
      | _ => go ((d.start s).askOp s.cmd 0 (s.op 8 8) (4 * s.op 16 4)) s

/-- PREFIX_RELEASE: the prefix retires, and goes once nothing refers to it (R546). -/
def fxPrefixRelease (o : Origin) (d : Device) : Device :=
  d.run o 0x45 (fun s d =>
    match Table.find? d.prefixes (s.op 8 4) with
    | none => d.complete s.cmd 0x1108 []
    | some p =>
      if !(match d.image? p.image with | some x => x.seen s.cmd.port | none => true) then d.complete s.cmd 0x1108 []
      else
        let d := { d with prefixes := Table.put d.prefixes (s.op 8 4) { p with retiring := true, refs := p.refs + 1 } }
        (d.dropPrefix (s.op 8 4)).complete s.cmd 0 (leBytes 4 p.refs))

/-! ### CANCEL, SEQ_RELEASE, LULL, RESUME (R549, R557, R561) -/

/-- The fences of a sequence's handoff, which nothing waits for any more. -/
def Device.dropKvFences (d : Device) (job id : Nat) : Device :=
  { d with fences := d.fences.filter (fun f => !(f.owner == .kv job id)) }

/-- CANCEL of a request (R561). -/
def Device.cancelSeq (d : Device) (job id : Nat) (q : Seq) : Device :=
  match q.state with
  | .prefill =>
    match q.chain.bind d.chain? with
    | some c => (d.modChain c.id (fun c => { c with dropped := true })).endCancelled { c with dropped := true }
    | none => d.endRequest job id 0x1107
  | .handoff => (d.dropKvFences job id).endRequest job id 0x1107
  | .decode =>
    -- R849: no commit comes while the job does not run
    if (d.job job).state = .running || (d.job job).state = .replaying then d.setSeq job id { q with cancelled := true }
    else d.endRequest job id 0x1107
  | _ => d

/-- CANCEL (R561). -/
def fxCancel (o : Origin) (d : Device) : Device :=
  d.run o 0x41 (fun s d =>
    match d.findSeq s.cmd.port (s.op 8 4) with
    | none => d.complete s.cmd 0x1102 []
    | some (job, q) =>
      if q.state = .lulling || q.state = .resuming then d.complete s.cmd 0x1103 []
      else (d.complete s.cmd 0 []).cancelSeq job (s.op 8 4) q)

/-- SEQ_RELEASE (R561). -/
def fxSeqRelease (o : Origin) (d : Device) : Device :=
  d.run o 0x46 (fun s d =>
    match d.findSeq s.cmd.port (s.op 8 4) with
    | none => d.complete s.cmd 0x1102 []
    | some (job, q) =>
      if q.state = .idle || q.state = .lulled then (d.freeSeq job (s.op 8 4)).complete s.cmd 0 []
      else d.complete s.cmd 0x1103 [])

/-- R550: own logical pages that are quantised: every position below c − 256. -/
def Seq.quantPages (q : Seq) : Nat := (q.committed - 256) / 32 - q.prefixPages
/-- Own logical pages that hold committed positions. -/
def Seq.ownPages (q : Seq) : Nat := (q.committed + 31) / 32 - q.prefixPages

/-- R552: the parts of a Lull state: quantised frames, verbatim frames, and the page at which each part begins. -/
structure LullShape where
  q : Nat
  v : Nat
  deriving DecidableEq, Repr

def Seq.shape (s : Seq) : LullShape :=
  { q := s.quantPages * s.perPage, v := (s.ownPages - s.quantPages) * s.perPage }
def LullShape.sides (x : LullShape) : Nat := (x.q + x.v + 511) / 512
def LullShape.elems (x : LullShape) : Nat := (x.q + 1) / 2
def LullShape.scales (x : LullShape) : Nat := (x.v + 31) / 32
def LullShape.pages (x : LullShape) : Nat := 1 + x.sides + x.elems + x.v + x.scales

/-- A long operation is accepted (R549, R641). -/
def Device.addLong (d : Device) (k : LongKind) (cls : Nat) (cmd : Option CmdRef) : Device :=
  let (u, d) := d.uid
  { d with longOps := d.longOps ++ [{ id := u, kind := k, cls := cls, cmd := cmd }] }

/-- LULL: an IDLE sequence is packed by a long operation (R549, R559, R561). -/
def fxLull (o : Origin) (d : Device) : Device :=
  match d.startable o 0x42 with
  | none => d
  | some s =>
    let d := d.start s
    match d.findSeq s.cmd.port (s.op 8 4) with
    | none => d.complete s.cmd 0x1102 []
    | some (job, q) =>
      let dst := s.op 16 8
      let n := q.shape.pages * 65536
      if q.state != .idle then d.complete s.cmd 0x1103 []
      else if !(d.mapped dst n && d.reaches 0 (addrDevice dst)) then d.complete s.cmd 0x0110 []
      else if !d.inWindow (some s.cmd.port) dst n true then d.complete s.cmd 0x0506 []
      else if d.isReadOnly dst n then d.complete s.cmd 0x0A03 []
      else if (d.jobParts job).any (fun p => (d.part p).lull == 0) then d.complete s.cmd 0x110D []
      else (d.setSeq job (s.op 8 4) { q with state := .lulling, lull := dst }).addLong (.lull job (s.op 8 4) dst) 4 (some s.cmd)

/-- RESUME: a LULLED sequence is unpacked by a long operation, whose first step makes the checks of R557. -/
def fxResume (o : Origin) (d : Device) : Device :=
  match d.startable o 0x43 with
  | none => d
  | some s =>
    let d := d.start s
    match d.findSeq s.cmd.port (s.op 8 4) with
    | none => d.complete s.cmd 0x1102 []
    | some (job, q) =>
      if q.state != .lulled then d.complete s.cmd 0x1103 []
      else (d.setSeq job (s.op 8 4) { q with state := .resuming }).addLong (.resume job (s.op 8 4)) 4 (some s.cmd)

/-! ### Sampling a row (R565, R573, R582, R585) -/

/-- The logits of an assembled row; none while a column is missing. -/
def SamplerRow.logits (r : SamplerRow) (v : Nat) : Option (List Word) :=
  let l := (sortBy (fun x y : Nat × List Word => decide (x.1 < y.1)) r.cols).flatMap (·.2)
  if l.length < v || v = 0 then none else some (l.take v)

/-- The poisoned granule of the mask that a row reads. -/
def Device.maskPoison (d : Device) (b : SampleBlock) (m : MuteState) : Option Nat :=
  match b.maskKind with
  | 0 => none
  | 1 => none
  | _ =>
    let a := d.automaton (localKey m.addr)
    match d.maskIndex a m with
    | some j => d.poisonIn (a.key + a.maskOff + j * maskBytes a.vocab) (maskBytes a.vocab)
    | none => none
def Device.rowPoison (d : Device) (b : SampleBlock) (m : MuteState) (v : Nat) : Option Nat :=
  if b.maskKind = 1 then d.poisonIn (localKey b.maskAddr) (maskBytes v) else d.maskPoison b m

/-- R573, R582: the token of a row, or the status that its draw meets. -/
def Device.drawRow (d : Device) (b : SampleBlock) (m : MuteState) (logits : List Word) (pos : Nat) : Except Nat Nat :=
  match d.maskOf b m with
  | .error st => .error st
  | .ok mask => match sampleRow logits mask b (drawOf b.seed pos) with | some t => .ok t | none => .error 0x0701

/-- R593: a sampled row counts. -/
def Device.countRow (d : Device) (b : SampleBlock) : Device :=
  let d := d.bump64 MUT_ROWS_LO 1
  if b.maskKind = 0 then d else d.bump MUT_MASKED_ROWS 1

/-- What becomes of a token at its place in the output (R573 step 2, R581, R588): the new mute state, whether the token is
delivered, and the status that ends the request here. -/
def Device.judge (d : Device) (b : SampleBlock) (m : MuteState) (t : Except Nat Nat) : MuteState × Bool × Option Nat :=
  match t with
  | .error st => (m, false, some st)
  | .ok t =>
    let stop := b.stops.contains t
    let give := !stop || b.deliverStop
    if b.maskKind ≠ 2 then (m, give, if stop then some 0 else none)
    else match d.stepMute m t with
      | .error st => if stop then (m, give, some 0) else (m, false, some st)
      | .ok (m', fin) => (if give then m' else m, give, if stop || fin then some 0 else none)

/-- R725: tokens of a request from number `n` on go to OUT. -/
def Device.writeTokens (d : Device) (q : Seq) (n : Nat) (ts : List Nat) : Device :=
  let bytes := ts.flatMap (leBytes 4)
  let d := { d with since := { d.since with tokens := d.since.tokens + ts.length } }
  match q.cmd with
  | none => d
  | some c =>
    if bytes.isEmpty then d
    else if hostAddr c.port q.out then
      match portFn c.port with
      | some f => d.hostOut (.hostWrite f (BitVec.ofNat 64 ((q.out + 4 * n) % 2 ^ 57)) bytes)
      | none => d
    else d.writeAny c.uid hubChan 0 2 15 (q.out + 4 * n) bytes

/-- R543, R588: what ends a request after a commit; none where it goes on. `st` is what the sampler says, `failed` a failed
host write. -/
def Seq.ending (q : Seq) (x : Image) (st : Option Nat) (failed : Bool) : Option Nat :=
  if q.maxTokens ≤ q.delivered then some 0
  else match st with
    | some s => some s
    | none =>
      if q.reservedPos < q.committed + 1 + q.specK || x.contextBound < q.committed + 1 + q.specK then some 0x1106
      else if failed then some 0x0110
      else if q.cancelled then some 0x1107
      else none

/-- The last row of a prefill is drawn: token 0 of the request, NEXT_TOKEN of its first pass (R530, R566). -/
def Device.firstToken (d : Device) (y : SamplerRow) (logits : List Word) (failed : Bool) : Device :=
  let q := d.seq y.job y.seq
  let d := { d with rows := d.rows.erase y }
  if q.building || q.tokenReady || q.state != .handoff then d
  else
    let d := d.countRow q.block
    let r := d.drawRow q.block q.mute logits (y.pos + 1)
    let (m, give, st) := d.judge q.block q.mute r
    let t := match r with | .ok t => t | .error _ => 0
    let d := if give then d.writeTokens q 0 [t] else d
    let q := { q with mute := m, delivered := if give then 1 else 0, tokens := if give then [t] else [],
                      nextToken := if give then t else q.nextToken, tokenReady := true, progressed := give,
                      prep := [], prepared := false }
    let d := d.setSeq y.job y.seq q
    let d := match st with | some e => d.muteError e y.seq | none => d
    match d.image? y.image with
    | none => d
    | some x =>
      match q.ending x st failed with
      | some e => (d.dropKvFences y.job y.seq).endRequest y.job y.seq e
      | none => d.tryTicket y.job y.seq

/-- SAMPLER_ROW: the first assembled row that waits is drawn; a row of a pass keeps its token until the commit, the last row
of a prefill gives its request's first token. `failed`: the host write of that token fails (R727). -/
def fxSamplerRow (failed : Bool) (d : Device) : Device :=
  let ready := fun y : SamplerRow =>
    !y.done && (d.image? y.image).isSome &&
      (y.logits (match d.image? y.image with | some x => x.vocab | none => 0)).isSome &&
      (if y.pass then
        let q := d.seq y.job y.seq
        q.block.maskKind == 0 || q.prepared
       else (d.seq y.job y.seq).state != .prefill)
  match d.rows.find? ready with
  | none => d
  | some y =>
    match d.image? y.image, d.group? y.image with
    | some x, some g =>
      let q := d.seq y.job y.seq
      let logits := (y.logits x.vocab).getD []
      let set := fun (d : Device) (y' : SamplerRow) => { d with rows := d.rows.map (fun z => if z == y then y' else z) }
      if !y.pass then
        match d.rowPoison q.block q.mute x.vocab with
        | some gr => d.parityFault y.job 15 gr
        | none => d.firstToken y logits failed
      else
        let i := match g.batch.find? (fun e => e.seq == y.seq) with | some e => y.row - e.firstRow | none => 0
        if q.block.maskKind ≠ 0 && q.prep.length ≤ i then
          (set d { y with done := true, isVoid := true }).bump MUT_VOID_ROWS 1
        else
          let m := q.prep.getD i q.mute
          match d.rowPoison q.block m x.vocab with
          | some gr => d.parityFault y.job 15 gr
          | none =>
            let d := d.countRow q.block
            match d.drawRow q.block m logits (y.pos + 1) with
            | .ok t => set d { y with done := true, mute := m, token := some t, cols := [] }
            | .error st => set d { y with done := true, mute := m, status := st, cols := [] }
    | _, _ => d

/-! ### Mask preparation (R584, R585, R590) -/

/-- The states of the rows that are not void: the committed state, then as long as each guess lies in the mask of the row
before it and its step succeeds. -/
def Device.prepare (d : Device) (b : SampleBlock) (m : MuteState) : List Nat → List MuteState
  | [] => [m]
  | g :: gs =>
    match d.maskOf b m with
    | .error _ => [m]
    | .ok mask =>
      if !mask g then [m]
      else if b.maskKind ≠ 2 then m :: d.prepare b m gs
      else match d.stepMute m g with
        | .error _ => [m]
        | .ok (m', _) => m :: d.prepare b m' gs

/-- MASK_PREPARATION_COMPLETE of a sequence, `ns` after its commit (R584, R590, R593). -/
def fxMaskPreparationComplete (job seq ns : Nat) (d : Device) : Device :=
  let q := d.seq job seq
  if q.block.maskKind = 0 || q.prepared || !(q.state == .decode || (q.state == .handoff && q.tokenReady)) then d
  else
    let gs := if q.plainPass then [] else q.guesses.take q.specK
    (d.setSeq job seq { q with prep := d.prepare q.block q.mute gs, prepared := true }).modReg MUT_PREP_MAX
      (fun v => max v (min ns (2 ^ 32 - 1)))

/-! ### The commit of a pass (R541 to R543, R547, R586, R588) -/

/-- The draw of a row of a pass; a void row has none. -/
def SamplerRow.result (y : SamplerRow) : Option (Except Nat Nat) :=
  if y.isVoid then none
  else match y.token with
    | some t => some (.ok t)
    | none => some (.error y.status)

/-- R547, step 4: the accepted count, from the guesses and the draws of rows 0 on. -/
def acceptedCount : List Nat → List (Option (Except Nat Nat)) → Nat
  | g :: gs, some (.ok t) :: l => if g = t then acceptedCount gs l + 1 else 0
  | _, _ => 0

/-- R588: rows 0 to a in order: the tokens delivered, the mute state, and the status that ends the request. -/
def Device.deliver (d : Device) (b : SampleBlock) (room : Nat) (m : MuteState) :
    List (Option (Except Nat Nat)) → List Nat × MuteState × Option Nat
  | [] => ([], m, none)
  | none :: _ => ([], m, none)
  | some r :: l =>
    match room with
    | 0 => ([], m, none)
    | n + 1 =>
      let (m', give, st) := d.judge b m r
      let t := match r with | .ok t => [t] | .error _ => []
      match st with
      | some e => (if give then t else [], m', some e)
      | none =>
        let (ts, m'', e) := d.deliver b n m' l
        (t ++ ts, m'', e)

/-- R547, step 6: the guesses of the next pass: free values below the vocabulary (DESIGN CHOICE 28). -/
def Device.nextGuesses (d : Device) (v : Nat) : Nat → List Nat × Device
  | 0 => ([], d)
  | n + 1 =>
    let (g, d) := d.fresh 32
    let (l, d) := d.nextGuesses v n
    (g % max 1 v :: l, d)

/-- The commit of one sequence of the batch. -/
def Device.commitSeq (d : Device) (image : Nat) (x : Image) (g : Group) (fails : List Nat) (e : BatchEntry) : Device :=
  let q := d.seq g.job e.seq
  if q.state != .decode || q.image ≠ image then d
  else
    let rows := (List.range (1 + e.specK)).map (fun i =>
      (d.rows.find? (fun y => y.pass && y.image == image && y.row == e.firstRow + i)).bind (·.result))
    let a := acceptedCount e.guesses rows
    let (ts, m, st) := d.deliver q.block (q.maxTokens - q.delivered) q.mute (rows.take (a + 1))
    let failed := fails.contains e.seq
    let d := if failed then d else d.writeTokens q q.delivered ts
    let d := g.members.foldl (fun d s =>
      ((d.bump64 (drnOff s DRN_POSITIONS_LO) ts.length).bump (drnOff s DRN_SPEC_PROPOSED) e.specK).bump
        (drnOff s DRN_SPEC_ACCEPTED) a) d
    let (gs, d) := d.nextGuesses x.vocab q.specK
    let q := { q with committed := e.committed + ts.length, nextToken := ts.getLast?.getD q.nextToken,
                      delivered := q.delivered + ts.length, tokens := q.tokens ++ ts, mute := m, guesses := gs,
                      progressed := q.progressed || !ts.isEmpty, plainPass := false, prep := [], prepared := false }
    let d := d.setSeq g.job e.seq q
    let d := d.modGroup image (fun g => { g with batch := g.batch.map (fun b =>
      if b.seq = e.seq then { b with committed := q.committed, nextToken := q.nextToken,
                                     guesses := gs.take b.specK } else b) })
    let d := match st with | some s => d.muteError s e.seq | none => d
    match q.ending x st failed with
    | some s => d.endRequest g.job e.seq s
    | none => d

/-- PASS_COMMIT of an image's pass: every row is drawn or void; each sequence of the batch commits in one action. `fails`
are the sequences whose host write of tokens fails (R727). -/
def fxPassCommit (image : Nat) (fails : List Nat) (d : Device) : Device :=
  match d.group? image, d.image? image with
  | some g, some x =>
    let steps := g.members.map (fun s => (d.drone s).step)
    let all := g.rows.all (fun r => d.rows.any (fun y => y.pass && y.image == image && y.row == r.row && y.done))
    let sampled := steps.any (fun s => match s with | some y => y.sampled | none => false)
    if g.passDone || !sampled || !all || g.members.any (fun s => d.droneHalted s) then d
    else
      match steps.findSome? (fun s => s.bind (fun y => if y.status = 0 then none else some y.status)) with
      | some st => d.endBatch image st
      | none =>
        let d := g.batch.foldl (fun d e => d.commitSeq image x g fails e) d
        let d := (d.jobSeqs g.job).foldl (fun d e =>
          if e.2.image == image && e.2.state == .decode && (d.seq g.job e.1).cancelled &&
              !g.batch.any (fun b => b.seq == e.1) then d.endRequest g.job e.1 0x1107 else d) d
        let d := { d with rows := d.rows.filter (fun y => !(y.pass && y.image == image)) }
        (d.modGroup image (fun g => { g with passDone := true })).writeBatch image
  | _, _ => d

end Sys2Proof.Machine
end

