-- ==== Sys2Proof/Machine/Catalog.lean ====
section
/-!
DEFINITION. The model library's catalogue (14_model_library, R648 to R664, R681, R684 to R691): the region, its records,
the arrival check and repair of shards, and rescans.
-/
namespace Sys2Proof.Machine

/-! ### The region (R648 to R653) -/

def Device.libOn (d : Device) : Bool := d.regField LIB_STATUS 31 31 == 1
def Device.libBytes (d : Device) : Nat := d.reg64 LIB_BYTES_LO
def Device.modelKey (d : Device) (i : Nat) : Nat := d.libKey + 0x10000 + 64 * i
def Device.shardKey (d : Device) (i : Nat) : Nat := d.libKey + 0x120000 + 128 * i
/-- R650: the page CRC entry of data page `n`, and the page itself. -/
def Device.crcKey (d : Device) (n : Nat) : Nat := d.libKey + 0x4000000 + 4 * n
def Device.dataKey (d : Device) : Nat := d.libKey + 0x20000000
def Device.dataPages (d : Device) : Nat := (d.libBytes - 0x20000000) / 65536

/-- R652: a catalogue header. -/
def libHeader (generation models versions shards : Nat) : List Byte :=
  let b := leBytes 4 0x5942494C ++ leBytes 2 1 ++ leBytes 2 0 ++ leBytes 8 generation ++ leBytes 4 models ++
    leBytes 4 versions ++ leBytes 4 shards
  b ++ leBytes 4 (crc32c (padTo 65536 b))

/-- R653: what ends a change to the catalogue: the header, its counts changed by these amounts. -/
def Device.libCommit (d : Device) (models versions shards : Int) : Device :=
  let k := d.libKey
  let n := fun (off : Nat) (x : Int) => ((d.readNat (k + off) 4 : Int) + x).toNat
  let m := n 16 models
  (d.writeBytes k (libHeader (d.readNat (k + 8) 8 + 1) m (n 20 versions) (n 24 shards))).setRegField LIB_STATUS 10 0 m

/-- Tags of the read-only ranges (R325, R653, R682): the catalogue, a shard's copy, a shared copy in T2. -/
def roCatalogue : Nat := 2 ^ 41
def roShard (i : Nat) : Nat := 2 ^ 42 + i
def roShared : Nat := 2 ^ 43

def Device.markReadOnly (d : Device) (key n tag : Nat) : Device := { d with readOnly := d.readOnly ++ [(key, n, tag)] }
def Device.unmarkReadOnly (d : Device) (tag : Nat) : Device :=
  { d with readOnly := d.readOnly.filter (fun r => r.2.2 != tag) }

/-- A range of memory that is zeroed. -/
def Device.zeroRange (d : Device) (key n : Nat) : Device :=
  { d with wlog := d.wlog ++ [.zero key n]
           poison := d.poison.filter (fun g => !(decide (key ≤ 64 * g) && decide (64 * g < key + n))) }

/-! ### Records (R654 to R657) -/

/-- R656: a shard record. -/
structure ShardRec where
  index : Nat
  model : Nat
  version : Nat
  device : Nat
  state : Nat
  flags : Nat
  addr : Nat
  bytes : Nat
  digest : List Byte
  host : Nat
  deriving DecidableEq, Repr

def ShardRec.ofBytes (b : List Byte) : ShardRec :=
  { index := leAt b 0 4, model := leAt b 4 4, version := leAt b 8 4, device := leAt b 12 1, state := leAt b 13 1,
    flags := leAt b 15 1, addr := leAt b 16 8, bytes := leAt b 24 8, digest := sliceOf b 32 32, host := leAt b 64 8 }

def ShardRec.pages (s : ShardRec) : Nat := (s.bytes + 65535) / 65536

def Device.shard (d : Device) (i : Nat) : ShardRec := .ofBytes (d.readBytes (d.shardKey i) 128)

/-- R657: the shard is one of the device's own. -/
def Device.ownDevice (d : Device) (n : Nat) : Bool := n == 0x7F || n == (if d.inDomain then d.index else 0)
def Device.own (d : Device) (s : ShardRec) : Bool := d.ownDevice s.device

/-- First data page of a placed shard. -/
def Device.firstPage (d : Device) (s : ShardRec) : Nat := (localKey s.addr - d.dataKey) / 65536

/-- Version records in use, and the shard table indices of a version. -/
def Device.libVersions (d : Device) : List Nat := (List.range 4096).filter (fun i => d.readNat (d.verKey i) 4 != 0)
def Device.versionShards (d : Device) (v : Nat) : List Nat :=
  (List.range (d.readNat (d.verKey v + 16) 4)).map (d.readNat (d.verKey v + 12) 4 + ·)
def Device.ownShards (d : Device) (v : Nat) : List Nat := (d.versionShards v).filter (fun i => d.own (d.shard i))

def Device.findModel (d : Device) (m : Nat) : Option Nat :=
  (List.range 1024).find? (fun i => d.readNat (d.modelKey i) 4 == m)

/-- The version record that a shard belongs to. -/
def Device.shardVersion (d : Device) (i : Nat) : Option Nat :=
  let s := d.shard i
  if s.model = 0 then none else d.findVersion s.model s.version

/-- Data pages in use: (first, count) of each placed shard of this device. -/
def Device.usedRuns (d : Device) : List (Nat × Nat) :=
  (d.libVersions.flatMap (fun v => d.ownShards v)).filterMap (fun i =>
    let s := d.shard i
    if s.addr = 0 then none else some (d.firstPage s, s.pages))

/-- R660: the first free run of `n` data pages. -/
def Device.freeRun (d : Device) (n : Nat) : Option Nat :=
  let used := d.usedRuns
  (sortBy (fun a b => decide (a < b)) (0 :: used.map (fun u => u.1 + u.2))).find? (fun f =>
    decide (f + n ≤ d.dataPages) && used.all (fun u => !rangesMeet (f, n) u))

/-- Writes fields of a version or shard record: one change to the catalogue. -/
def Device.setVersionState (d : Device) (v st : Nat) : Device :=
  if d.readNat (d.verKey v + 8) 1 = st then d else (d.writeNat (d.verKey v + 8) 1 st).libCommit 0 0 0
def Device.setShardState (d : Device) (i st : Nat) : Device := (d.writeNat (d.shardKey i + 13) 1 st).libCommit 0 0 0

/-! ### LIB_INIT (R648, R651, R689) -/

/-- R325, R653: the ranges that firmware marks once a region is set. -/
def Device.markLibrary (d : Device) : Device :=
  let d := { d with readOnly := d.readOnly.filter (fun r => decide (r.2.2 < roCatalogue) || decide (roShared ≤ r.2.2)) }
  let d := d.markReadOnly d.libKey 0x20000000 roCatalogue
  (d.libVersions.flatMap (fun v => d.ownShards v)).foldl (fun d i =>
    let s := d.shard i
    if s.state = 2 then d.markReadOnly (localKey s.addr) (65536 * s.pages) (roShard i) else d) d

def Device.setLibrary (d : Device) (base n : Nat) : Device :=
  let d := ((d.setReg LIB_BASE_LO base).setReg LIB_BASE_HI (base / 2 ^ 32)).setReg LIB_BYTES_LO n
  (d.setReg LIB_BYTES_HI (n / 2 ^ 32)).setRegField LIB_STATUS 31 31 1

/-- R652: MAGIC, VERSION and HDR_CRC of the header at a key are correct. -/
def Device.headerOk (d : Device) (k : Nat) : Bool :=
  let b := d.readBytes k 65536
  leAt b 0 4 == 0x5942494C && leAt b 4 2 == 1 && leAt b 28 4 == crc32c (b.take 28 ++ leBytes 4 0 ++ b.drop 32) &&
    (d.poisonIn k 65536).isNone

/-- LIB_INIT (R648, R651): formats the region, or mounts what it holds. -/
def fxLibInit (o : Origin) (d : Device) : Device :=
  d.run o 0x70 (fun s d =>
    let base := s.op 8 8
    let n := s.op 16 8
    let mode := s.op 24 1
    if s.op 1 1 ≠ 0 || s.aux ≠ 0 || !allZero (sliceOf s.entry 25 39) || decide (1 < mode) || base % 65536 ≠ 0 ||
        !isT3 (addrSpace base) || !d.isSelf (addrDevice base) || n % 65536 ≠ 0 || decide (n < 0x20010000) ||
        !d.inSpace (addrSpace base) (addrOffset base) n then d.complete s.cmd 0x0B01 []
    else if !d.deploys.isEmpty then d.complete s.cmd 0x0B0A []
    else
      let k := localKey base
      if mode = 1 && !d.headerOk k then d.complete s.cmd 0x0B01 []
      else
        let d := { d with longOps := d.longOps.filter (fun l => match l.kind with
                            | .shardFetch _ => false
                            | .rescan _ => false
                            | _ => true) }
        let d := d.setLibrary base n
        let d := if mode = 1 then d.setRegField LIB_STATUS 10 0 (d.readNat (k + 16) 4)
          else ((d.zeroRange k 0x2120000).writeBytes k (libHeader 0 0 0 0)).setRegField LIB_STATUS 10 0 0
        d.markLibrary.complete s.cmd 0 (d.readBytes (k + 16) 8))

/-! ### Adding a version (R655, R656, R658) -/

/-- UTF-8, zero-padded: `n` continuation bytes are still to come. -/
def nameOk : Nat → List Byte → Bool
  | n, [] => n == 0
  | 0, b :: l =>
    let a := b.toNat
    if a = 0 then allZero l
    else if a < 0x80 then nameOk 0 l
    else if 0xC2 ≤ a && a ≤ 0xDF then nameOk 1 l
    else if 0xE0 ≤ a && a ≤ 0xEF then nameOk 2 l
    else if 0xF0 ≤ a && a ≤ 0xF4 then nameOk 3 l
    else false
  | n + 1, b :: l => decide (0x80 ≤ b.toNat) && decide (b.toNat < 0xC0) && nameOk n l

def idOk (n : Nat) : Bool := decide (1 ≤ n) && decide (n ≤ 0xFFFFFFFE)

/-- R655: a version record of a descriptor. -/
def versionOk (b : List Byte) : Bool :=
  idOk (leAt b 0 4) && idOk (leAt b 4 4) && allZero (sliceOf b 8 8) && decide (1 ≤ leAt b 16 4) &&
    decide (leAt b 16 4 ≤ 65536) && allZero (sliceOf b 20 4) && decide (1 ≤ leAt b 26 2) && decide (leAt b 26 2 ≤ 12) &&
    allZero (sliceOf b 28 4) && allZero (sliceOf b 80 48) && nameOk 0 (sliceOf b 128 32) && allZero (sliceOf b 160 96)

/-- R656: shard record `i` of a descriptor. -/
def shardOk (m v i : Nat) (b : List Byte) : Bool :=
  let a := leAt b 16 8
  leAt b 0 4 == i && leAt b 4 4 == m && leAt b 8 4 == v && (decide (leAt b 12 1 ≤ 71) || leAt b 12 1 == 0x7F) &&
    leAt b 13 2 == 0 && decide (leAt b 15 1 ≤ 1) &&
    (a == 0 || (addrDevice a == 127 && isT3 (addrSpace a) && a % 65536 == 0)) &&
    decide (1 ≤ leAt b 24 8) && decide (leAt b 24 8 ≤ 2 ^ 40) && allZero (sliceOf b 72 56)

/-- R658: the own, placed shards of a descriptor lie in the data area and overlap nothing. -/
def Device.runsOk (d : Device) (l : List ShardRec) : Bool :=
  let mine := l.filter (fun s => d.own s && s.addr != 0)
  let used := d.usedRuns
  let runs := mine.map (fun s => (d.firstPage s, s.pages))
  mine.all (fun s => decide (d.dataKey ≤ localKey s.addr) && decide (d.firstPage s + s.pages ≤ d.dataPages)) &&
    runs.all (fun r => used.all (fun u => !rangesMeet r u)) && !anyPair rangesMeet runs

/-- R658: a contiguous run of free shard records, first-fit. -/
def Device.freeShards (d : Device) (n : Nat) : Option Nat :=
  let used := d.libVersions.map (fun v => (d.readNat (d.verKey v + 12) 4, d.readNat (d.verKey v + 16) 4))
  (sortBy (fun a b => decide (a < b)) (0 :: used.map (fun u => u.1 + u.2))).find? (fun f =>
    decide (f + n ≤ 262144) && used.all (fun u => !rangesMeet (f, n) u))

/-- R658: the status that refuses a descriptor; 0 where it is accepted. -/
def Device.descriptorStatus (d : Device) (b : List Byte) : Nat :=
  let m := leAt b 0 4
  let v := leAt b 4 4
  let n := leAt b 16 4
  if !versionOk b || b.length ≠ 256 + 128 * n then 0x0B01
  else
    let recs := chunksOf 128 (n + 1) (b.drop 256)
    let l := recs.map ShardRec.ofBytes
    if !(recs.zipIdx).all (fun e => shardOk m v e.2 e.1) || !d.runsOk l ||
        (l.filter (fun s => d.own s && bitOf s.flags 0)).length ≠ 1 then 0x0B01
    else if (d.findVersion m v).isSome then 0x0B05
    else if ((d.findModel m).isNone && (d.findModel 0).isNone) || (List.range 4096).all (fun i => d.readNat (d.verKey i) 4 != 0) ||
        (d.freeShards n).isNone then 0x0B03
    else 0

/-- R654: the model record takes a version. -/
def Device.addToModel (d : Device) (m v : Nat) (name : List Byte) : Device × Int :=
  match d.findModel m with
  | some i =>
    let k := d.modelKey i
    ((d.writeNat (k + 4) 4 (d.readNat (k + 4) 4 + 1)).writeNat (k + 8) 4 (max v (d.readNat (k + 8) 4)), 0)
  | none =>
    match d.findModel 0 with
    | none => (d, 0)
    | some i => (d.writeBytes (d.modelKey i) (leBytes 4 m ++ leBytes 4 1 ++ leBytes 4 v ++ List.replicate 20 0 ++ name), 1)

/-- Long operations of the arrival check of these shards (R659, R660): `attempt` is how many attempts are taken as
failed. -/
def Device.startChecks (d : Device) (shards : List Nat) (attempt : Nat) (c : Option CmdRef) : Device :=
  shards.foldl (fun d i =>
    if d.longOps.any (fun l => l.kind == .shardFetch i) then d
    else
      let (u, d) := d.uid
      { d with longOps := d.longOps ++ [{ id := u, kind := .shardFetch i, cls := 4, cmd := c,
                                           attempt := if (d.shard i).addr = 0 then max 2 attempt else attempt }] }) d

/-- A descriptor that is accepted: its records, and the arrival check of its own shards. -/
def Device.addVersion (d : Device) (b : List Byte) (c : CmdRef) : Device :=
  let m := leAt b 0 4
  let v := leAt b 4 4
  let n := leAt b 16 4
  match (List.range 4096).find? (fun i => d.readNat (d.verKey i) 4 == 0), d.freeShards n with
  | some i, some f =>
    let (d, dm) := d.addToModel m v (sliceOf b 128 32)
    let d := d.writeBytes (d.verKey i) (b.take 12 ++ leBytes 4 f ++ sliceOf b 16 4 ++ leBytes 4 0xFFFFFFFF ++
      sliceOf b 24 56 ++ leBytes 8 d.breath ++ sliceOf b 88 168)
    let recs := chunksOf 128 (n + 1) (b.drop 256)
    let d := (recs.zipIdx).foldl (fun d e =>
      let st : Nat := if d.ownDevice (leAt e.1 12 1) then 0 else 4
      d.writeBytes (d.shardKey (f + e.2)) (e.1.take 13 ++ leBytes 1 st ++ e.1.drop 14)) d
    let d := d.libCommit dm 1 n
    d.startChecks (d.ownShards i) 0 (some c)
  | _, _ => d.complete c 0x0B03 []

/-- LIB_VERSION_ADD once its descriptor is at hand. -/
def Device.runVersionAdd (d : Device) (s : Staged) : Device :=
  match d.readOp s.cmd 0 (s.op 8 8) (s.op 16 4) none with
  | .waiting => d
  | .refused st => d.complete s.cmd st []
  | .poison g => (d.poisonRead g).complete s.cmd (parityStatus g) []
  | .ok b =>
    let d := d.forget s.cmd.uid
    let st := d.descriptorStatus b
    if st ≠ 0 then d.complete s.cmd st [] else d.addVersion b s.cmd

/-- LIB_VERSION_ADD (R658, R689, R691). -/
def fxLibVersionAdd (o : Origin) (d : Device) : Device :=
  match (match d.startedOp o 0x71 with
         | some s => if d.longOps.any (fun l => l.cmd == some s.cmd) then none else some s
         | none => none) with
  | some s => d.runVersionAdd s
  | none =>
    d.run o 0x71 (fun s d =>
      let a := s.op 8 8
      if s.op 1 1 ≠ 0 || s.aux ≠ 0 || !allZero (sliceOf s.entry 20 44) || a % 64 ≠ 0 || decide (3 < addrSpace a) then
        d.complete s.cmd 0x0B01 []
      else if !d.libOn then d.complete s.cmd 0x0B02 []
      else (d.askOp s.cmd 0 a (s.op 16 4)).runVersionAdd s)

/-! ### The end of a shard's check (R659 to R663, R686 to R688) -/

/-- Images that are loaded for a version. -/
def Device.versionImages (d : Device) (m v : Nat) : List (Nat × Image) :=
  d.images.filter (fun e => match e.2.lib with | some l => l.model == m && l.version == v | none => false)

/-- R687: the requests pinned to a version end with LIB_SHARD_FAILED. -/
def Device.endPinned (d : Device) (m v : Nat) : Device :=
  let hs := (d.versionImages m v).map (·.1)
  let gone := List.filterMap (fun e : Nat × Seq =>
    if e.2.deploy.isSome && e.2.cmd.isSome && hs.contains e.2.image then some e.1 else none) d.seqs
  gone.foldl (fun d k => d.endRequest (k / 16384) (k % 16384) 0x0B06) d

/-- R662: LIB_SHARD_ERR latches the first failure. -/
def Device.latchShard (d : Device) (i source reason : Nat) : Device :=
  if d.regField LIB_SHARD_ERR 31 31 = 1 then d
  else d.setReg LIB_SHARD_ERR (2 ^ 31 + 2 ^ 28 * source + 2 ^ 24 * reason + i)

/-- R662: a shard becomes BAD. -/
def Device.shardBad (d : Device) (i source reason : Nat) : Device :=
  let s := d.shard i
  let d := (d.latchShard i source reason).writeNat (d.shardKey i + 13) 1 3
  let d := d.unmarkReadOnly (roShard i)
  match d.shardVersion i with
  | none => d.libCommit 0 0 0
  | some v =>
    let d := ((d.writeNat (d.verKey v + 20) 4 s.index).writeNat (d.verKey v + 8) 1 3).libCommit 0 0 0
    d.endPinned s.model s.version

/-- R659: the page CRCs of a shard's pages are written. -/
def Device.writePageCrcs (d : Device) (s : ShardRec) : Device :=
  (List.range s.pages).foldl (fun d j =>
    d.writeNat (d.crcKey (d.firstPage s + j)) 4 (crc32c (d.readBytes (localKey s.addr + 65536 * j) 65536))) d

/-- A shard becomes GOOD from a source. -/
def Device.shardGood (d : Device) (i source : Nat) : Device :=
  let s := d.shard i
  let d := d.writePageCrcs s
  let d := (d.writeNat (d.shardKey i + 13) 1 2).writeNat (d.shardKey i + 14) 1 source
  let d := (d.unmarkReadOnly (roShard i)).markReadOnly (localKey s.addr) (65536 * s.pages) (roShard i)
  let d := if source = 0 then d else d.bump LIB_REPAIR_COUNT 1
  match d.shardVersion i with
  | none => d.libCommit 0 0 0
  | some v =>
    let d := d.libCommit 0 0 0
    if (d.ownShards v).all (fun j => (d.shard j).state == 2) then d.setVersionState v 2 else d

/-- The command of a check completes when its last shard is settled (R689). -/
def Device.endCheckOf (d : Device) (i : Nat) (c : Option CmdRef) : Device :=
  match c, d.shardVersion i with
  | some c, some v =>
    if d.longOps.any (fun l => l.cmd == some c) then d
    else
      let first := leBytes 4 (d.readNat (d.verKey v + 12) 4)
      if d.readNat (d.verKey v + 8) 1 = 3 then d.complete c 0x0B06 (first ++ d.readBytes (d.verKey v + 20) 4)
      else d.complete c 0 first
  | some c, none => if d.longOps.any (fun l => l.cmd == some c) then d else d.complete c 0x0B04 []
  | none, _ => d

def Device.modLong (d : Device) (id : Nat) (f : LongOp → LongOp) : Device :=
  { d with longOps := d.longOps.map (fun l => if l.id = id then f l else l) }
def Device.endLong (d : Device) (id : Nat) : Device := { d with longOps := d.longOps.filter (fun l => l.id != id) }

/-- A peer message to the twin (R784); its code is the model's own (DESIGN CHOICE 13). -/
def Device.peerSend (d : Device) (code : Nat) (body : List Byte) : Device :=
  d.emit (.link 16 code (d.regField PLV_TWIN_STATUS 6 0) body)

/-- R660: an attempt has failed: the next one, or BAD. -/
def Device.nextAttempt (d : Device) (l : LongOp) (i reason : Nat) : Device :=
  let d := d.bump LIB_FETCH_RETRY_COUNT 1
  let s := d.shard i
  if 3 ≤ l.attempt then ((d.endLong l.id).shardBad i 2 reason).endCheckOf i l.cmd
  else
    let d := d.modLong l.id (fun l => { l with attempt := l.attempt + 1, step := 0 })
    if l.attempt = 1 then
      d.peerSend 12 (leBytes 4 s.model ++ leBytes 4 s.version ++ leBytes 4 s.index ++ s.digest)
    else d

/-- R660, R661: bytes that have come from the twin or the host are written over the shard's pages; a shard without a place
is given one. None where no run of pages fits. -/
def Device.placeShard (d : Device) (i : Nat) : Option Device :=
  let s := d.shard i
  if s.addr ≠ 0 then some d
  else (d.freeRun s.pages).map (fun f =>
    let a := 127 * 2 ^ 57 + (d.dataKey + 65536 * f)
    (d.writeNat (d.shardKey i + 16) 8 a).libCommit 0 0 0)

/-- An attempt at the twin or the host ends with these bytes, or fails. -/
def Device.remoteAttempt (d : Device) (l : LongOp) (i : Nat) (bytes : Option (List Byte)) : Device :=
  let s := d.shard i
  let none' := if l.attempt = 2 then !d.twinUp else s.host == 0
  match bytes with
  | none => d.nextAttempt l i (if none' then 4 else 2)
  | some b =>
    if none' then d.nextAttempt l i 4
    else if b.length ≠ s.bytes then d.nextAttempt l i 2
    else match d.placeShard i with
      | none => ((d.endLong l.id).shardBad i (l.attempt - 1) 4).endCheckOf i l.cmd
      | some d =>
        let d := d.store (localKey (d.shard i).addr) b
        if sha256 b = s.digest then ((d.endLong l.id).shardGood i (l.attempt - 1)).endCheckOf i l.cmd
        else d.nextAttempt l i 1

/-- An attempt at the T3 copy ends. -/
def Device.localAttempt (d : Device) (l : LongOp) (i : Nat) (busError : Bool) : Device :=
  let s := d.shard i
  match d.poisonIn (localKey s.addr) s.bytes with
  | some g => (d.poisonRead g).nextAttempt l i 2
  | none =>
    if busError then d.nextAttempt l i 2
    else if sha256 (d.readBytes (localKey s.addr) s.bytes) = s.digest then
      ((d.endLong l.id).shardGood i 0).endCheckOf i l.cmd
    else d.nextAttempt l i 1

/-! ### Rescans (R684 to R688) -/

/-- The T2 copies of a shard's pages: image, page manifest index, key, for the pages of loaded images that name it. -/
def Device.shardPages (d : Device) (i : Nat) : List (Nat × Nat × Nat × Nat) :=
  let s := d.shard i
  (d.versionImages s.model s.version).flatMap (fun e =>
    (e.2.pages.zipIdx).filterMap (fun r =>
      if r.1.shard = s.index then (e.2.pageKey r.2).map (fun k => (e.1, r.2, r.1.src / 65536, k)) else none))

/-- The T2 copy of each page of a shard that stands in T2 entirely; none where a page does not. -/
def Device.t2Copy (d : Device) (i : Nat) : Option (List Nat) :=
  let s := d.shard i
  let here := (d.shardPages i).filter (fun r => match d.image? r.1 with | some x => x.landed.contains r.2.1 | none => false)
  let keys := (List.range s.pages).filterMap (fun j =>
    (here.find? (fun r => r.2.2.1 == d.firstPage s + j)).map (fun r => r.2.2.2))
  if keys.length = s.pages then some keys else none

/-- Jobs with a loaded image that names a shard (R686). -/
def Device.shardJobs (d : Device) (i : Nat) : List Nat :=
  ((d.shardPages i).filterMap (fun r => (d.image? r.1).map (·.job))).eraseDups

/-- R686: a mismatch in the T2 copy of a shard in service. -/
def Device.rescanFault (d : Device) (i : Nat) : Device :=
  let pages := d.shardPages i
  let jobs := d.shardJobs i
  let d := pages.foldl (fun d r => d.modImage r.1 (fun x => { x with landed := x.landed.filter (fun n => n != r.2.1) })) d
  let d := d.bump LIB_RESCAN_MISMATCH_COUNT 1
  let d := jobs.foldl (fun d j =>
    d.jobFault j { status := 0x0B20, kind := 6, unit := 8, detail := i }) d
  d.startChecks [i] 0 none

/-- A rescan of shard `i` ends (R684, R685, R688); `attempt` 1 of its operation says that it read the T2 copy. -/
def Device.endRescan (d : Device) (l : LongOp) (i : Nat) (busError : Bool) : Device :=
  let s := d.shard i
  let d := d.endLong l.id
  let count := fun (d : Device) =>
    let n := (d.libVersions.flatMap (fun v => d.ownShards v)).length
    d.modReg LIB_RESCAN_PASS (fun k => if n ≤ k + 1 then 0 else k + 1)
  let fail := fun (d : Device) =>
    (d.writeNat (d.shardKey i + 80) 4 (satAdd 32 (d.readNat (d.shardKey i + 80) 4) 1)).libCommit 0 0 0
  if s.state ≠ 2 then d
  else if l.attempt = 1 then
    match d.t2Copy i with
    | none => d
    | some keys =>
      let b := (keys.flatMap (fun k => d.readBytes k 65536)).take s.bytes
      if sha256 b = s.digest && keys.all (fun k => (d.poisonIn k 65536).isNone) then count d else (fail (count d)).rescanFault i
  else if !busError && (d.poisonIn (localKey s.addr) s.bytes).isNone &&
      sha256 (d.readBytes (localKey s.addr) s.bytes) = s.digest then count d
  else (fail (count d)).startChecks [i] 1 none

/-- SHARD_RESCAN_DUE: PERIOD_H hours have passed since a shard's last rescan began (R684). -/
def fxShardRescanDue (shard : Nat) (d : Device) : Device :=
  let s := d.shard shard
  if !d.libOn || d.regField LIB_RESCAN 31 31 = 0 || (d.shardVersion shard).isNone || !d.own s || s.state ≠ 2 ||
      d.longOps.any (fun l => l.kind == .rescan shard || l.kind == .shardFetch shard) then d
  else
    let d := (d.writeNat (d.shardKey shard + 72) 8 d.breath).libCommit 0 0 0
    let (u, d) := d.uid
    { d with longOps := d.longOps ++ [{ id := u, kind := .rescan shard, cls := 4, attempt := bit (d.t2Copy shard).isSome }] }

/-- SHARD_DIGEST_RESULT: the digest of the shard that a long operation checks has ended. `bytes` is what the twin or the
host has sent, none where it could not; `busError` says that a read of the T3 copy failed. -/
def fxShardDigestResult (id : Nat) (busError : Bool) (bytes : Option (List Byte)) (d : Device) : Device :=
  match d.longOps.find? (fun l => l.id == id) with
  | none => d
  | some l =>
    match l.kind with
    | .shardFetch i =>
      if l.attempt < 2 then
        if 64 * l.step < (d.shard i).bytes && !busError then d else d.localAttempt l i busError
      else d.remoteAttempt l i bytes
    | .rescan i => if 64 * l.step < (d.shard i).bytes && !busError then d else d.endRescan l i busError
    | _ => d

/-- TWIN_SHARD_REQUEST: the twin asks for a shard; a GOOD one is streamed to it (R664). -/
def fxTwinShardRequest (model version index : Nat) (digest : List Byte) (d : Device) : Device :=
  if !d.twinUp || !d.libOn then d
  else
    let head := leBytes 4 model ++ leBytes 4 version ++ leBytes 4 index
    match (match d.findVersion model version with
           | some v => (d.versionShards v).find? (fun i =>
               let s := d.shard i
               s.index == index && s.state == 2 && s.digest == digest)
           | none => none) with
    | some i =>
      let s := d.shard i
      d.peerSend 13 (head ++ leBytes 4 1 ++ d.readBytes (localKey s.addr) s.bytes)
    | none => d.peerSend 13 (head ++ leBytes 4 0)

/-! ### LIB_VERSION_CHECK and LIB_VERSION_REMOVE (R663, R681, R689) -/

/-- The version's arrival check is running. -/
def Device.checking (d : Device) (v : Nat) : Bool :=
  let l := d.versionShards v
  d.longOps.any (fun o => match o.kind with | .shardFetch i => l.contains i | _ => false)

/-- The arrival check of every own shard that is not GOOD, from attempt 1; the version is CHECKING. -/
def Device.checkVersion (d : Device) (v : Nat) (c : Option CmdRef) : Device :=
  let l := (d.ownShards v).filter (fun i => (d.shard i).state != 2)
  (d.setVersionState v 1).startChecks l 0 c

/-- LIB_VERSION_CHECK; while a check of the version runs, the command waits. -/
def fxLibVersionCheck (o : Origin) (d : Device) : Device :=
  match d.startable o 0x73 with
  | none => d
  | some s =>
    if s.op 1 1 ≠ 0 || s.aux ≠ 0 || !allZero (sliceOf s.entry 16 48) then (d.start s).complete s.cmd 0x0B01 []
    else if !d.libOn then (d.start s).complete s.cmd 0x0B02 []
    else match d.findVersion (s.op 8 4) (s.op 12 4) with
      | none => (d.start s).complete s.cmd 0x0B04 []
      | some v =>
        if s.op 8 4 = 0 then (d.start s).complete s.cmd 0x0B04 []
        else if d.checking v then d
        else if (d.ownShards v).all (fun i => (d.shard i).state == 2) then
          ((d.start s).setVersionState v 2).complete s.cmd 0 (d.readBytes (d.verKey v + 12) 4)
        else (d.start s).checkVersion v (some s.cmd)

/-- A deployment has the version in a phase other than FAILED. -/
def Device.versionDeployed (d : Device) (m v : Nat) : Bool :=
  d.deploys.any (fun e => e.2.model == m && (e.2.current == v || e.2.olds.any (fun o => o.1 == v) ||
    (match e.2.load with | some l => l.version == v | none => false)))

/-- The records of a version are cleared, and its model's with the last of them. -/
def Device.removeVersion (d : Device) (v : Nat) : Device :=
  let m := d.readNat (d.verKey v) 4
  let l := d.versionShards v
  let n := l.length
  let d := l.foldl (fun d i => d.unmarkReadOnly (roShard i)) d
  let d := { d with longOps := d.longOps.filter (fun o => match o.kind with | .rescan i => !l.contains i | _ => true) }
  let d := l.foldl (fun d i => d.writeBytes (d.shardKey i) (List.replicate 128 0)) d
  let d := d.writeBytes (d.verKey v) (List.replicate 256 0)
  match d.findModel m with
  | none => d.libCommit 0 (-1) (-n)
  | some i =>
    let k := d.modelKey i
    if d.readNat (k + 4) 4 ≤ 1 then (d.writeBytes k (List.replicate 64 0)).libCommit (-1) (-1) (-n)
    else (d.writeNat (k + 4) 4 (d.readNat (k + 4) 4 - 1)).libCommit 0 (-1) (-n)

/-- LIB_VERSION_REMOVE; while a check of the version runs, the command waits. -/
def fxLibVersionRemove (o : Origin) (d : Device) : Device :=
  match d.startable o 0x72 with
  | none => d
  | some s =>
    if s.op 1 1 ≠ 0 || s.aux ≠ 0 || !allZero (sliceOf s.entry 16 48) then (d.start s).complete s.cmd 0x0B01 []
    else if !d.libOn then (d.start s).complete s.cmd 0x0B02 []
    else match d.findVersion (s.op 8 4) (s.op 12 4) with
      | none => (d.start s).complete s.cmd 0x0B04 []
      | some v =>
        if s.op 8 4 = 0 then (d.start s).complete s.cmd 0x0B04 []
        else if d.versionDeployed (s.op 8 4) (s.op 12 4) then (d.start s).complete s.cmd 0x0B0A []
        else if d.checking v then d
        else ((d.start s).removeVersion v).complete s.cmd 0 []

end Sys2Proof.Machine
end

