-- ==== Sys2Proof/Machine/Front.lean ====
section
/-!
DEFINITION. The Front schedule (R343 to R354): entries, when they fall due, claims, loads, gates, and the start of a
switch-in with its evictions.
-/
namespace Sys2Proof.Machine

/-! ### Entries -/

/-- The Front entries of the images on a partition: handle, image, index, entry. PAGE_LOAD entries are left out. -/
def Device.frontOn (d : Device) (p : Nat) : List (Nat × Image × Nat × FrontRec) :=
  List.flatMap (fun e : Nat × Image =>
    (e.2.front.zipIdx).filterMap (fun f =>
      if e.2.ready && f.1.kind != 1 && e.2.parts.getD f.1.part 12 == p then some (e.1, e.2, f.2, f.1) else none)) d.images

/-- R345, R346: two entries of a partition want one T1 region or one slot. -/
def frontMeet (a b : Nat × Image × Nat × FrontRec) : Bool :=
  !(a.1 == b.1 && a.2.2.1 == b.2.2.1) && a.2.2.2.kind == b.2.2.2.kind &&
    (if a.2.2.2.kind = 0 then rangesMeet (a.2.2.2.region a.2.1.tiles) (b.2.2.2.region b.2.1.tiles)
     else a.2.2.2.arg1 % 4 == b.2.2.2.arg1 % 4)

/-- R345: the entry is present. -/
def Device.frontPresent (d : Device) (p : Nat) (e : Nat × Image × Nat × FrontRec) : Bool :=
  if e.2.2.2.kind = 0 then (d.frontEntry p e.1 e.2.2.1).present
  else
    let s := (d.part p).slot (e.2.2.2.arg1 % 4)
    (s.state == .ready || s.state == .active) && s.image == e.1 && s.stopId == e.2.2.2.arg0

/-- R346: another entry has claimed the region and is not present yet. -/
def Device.frontShadowed (d : Device) (p : Nat) (e : Nat × Image × Nat × FrontRec) : Bool :=
  (d.frontOn p).any (fun o => frontMeet e o && (d.frontEntry p o.1 o.2.2.1).claimed && !d.frontPresent p o)

/-- R343, R349: the entry serves a step of its image. -/
def FrontRec.serves (f : FrontRec) (s : StepRec) : Bool :=
  if f.kind = 1 then f.stepId == 0xFFFFFFFF || f.stepId == s.id
  else s.engine == 0 && f.part == s.part && (f.lead == 0 || f.stepId == s.id)

/-- R347: PAGE_LOAD entry `f` has completed since the last switch-in. -/
def Image.pagesLanded (x : Image) (f : FrontRec) : Bool :=
  x.switching && (List.range f.arg1).all (fun i => x.landed.contains (f.arg0 + i))

/-- R347: the gates of the Front on a step of image `h`. -/
def Device.frontGate (d : Device) (h : Nat) (x : Image) (s : StepRec) : Bool :=
  let p := x.parts.getD s.part 12
  (x.front.zipIdx).all (fun f =>
    !f.1.serves s ||
      (if f.1.kind = 1 then x.pagesLanded f.1
       else d.frontPresent p (h, x, f.2, f.1) && !d.frontShadowed p (h, x, f.2, f.1)))

/-! ### Falling due and claiming (R344 to R346) -/

/-- R344: an instance of step `id` has been admitted: the entries that lead from it fall due. -/
def Device.frontAdmitted (d : Device) (h : Nat) (x : Image) (part id : Nat) : Device :=
  let p := x.parts.getD part 12
  let order := (x.stepsOn part).map (·.id)
  let n := max 1 order.length
  (x.front.zipIdx).foldl (fun d f =>
    if f.1.kind = 1 || f.1.part ≠ part || f.1.lead = 0 then d
    else match indexWhere (fun s => s == f.1.stepId) 0 order, indexWhere (fun s => s == id) 0 order with
      | some i, some j => if (i + n - f.1.lead % n) % n = j then d.modFront p h f.2 (fun e => { e with due := true }) else d
      | _, _ => d) d

/-- R345, R346: an entry claims its destination; overlapping entries stop being present. -/
def Device.frontClaim (d : Device) (p : Nat) (e : Nat × Image × Nat × FrontRec) : Device :=
  let d := ((d.frontOn p).filter (fun o => frontMeet e o)).foldl (fun d o =>
    d.modFront p o.1 o.2.2.1 (fun y => { y with present := false })) d
  d.modFront p e.1 e.2.2.1 (fun y => { y with claimed := true, started := false, due := false, present := false })

/-- Order 6 of R602 on one partition. `waiting` are the steps that wait for admission: image and STEP_ID. -/
def Device.frontIntake (d : Device) (p : Nat) (waiting : List (Nat × Nat)) : Device :=
  (d.frontOn p).foldl (fun d e =>
    let y := d.frontEntry p e.1 e.2.2.1
    let due := y.due || (e.2.2.2.lead != 0 && waiting.contains (e.1, e.2.2.2.stepId) && !d.frontPresent p e)
    if !due then d
    else if d.frontPresent p e || y.claimed then d.modFront p e.1 e.2.2.1 (fun y => { y with due := false })
    else d.frontClaim p e) d

/-! ### Loads (R343, R346, R348) -/

/-- R346: instances that the region's occupant serves are admitted and have not committed. -/
def Device.frontOccupied (d : Device) (p : Nat) (e : Nat × Image × Nat × FrontRec) : Bool :=
  let x := d.part p
  (x.admitted ++ x.running.toList ++ x.replay.toList).any (fun s =>
    (d.frontOn p).any (fun o => frontMeet e o && o.1 == s.image &&
      (match o.2.1.steps.find? (fun r => r.id == s.stepId) with | some r => o.2.2.2.serves r | none => false)))

/-- The domain address of a local memory key. -/
def keyAddr (k : Nat) : Nat := selfAddr (k / 2 ^ 53) (k % 2 ^ 53)

/-- The moves of a TILE_LOAD: one for panels that stand at equal distances, else one for each piece. -/
def Image.tileMoves (x : Image) (p : Nat) (f : FrontRec) (t : TileRec) : List Move :=
  let first := f.arg1 % 65536
  let n := f.arg1 / 65536
  let dst := selfAddr 0 (p * 0x4000000 + f.arg2)
  let cls := match x.steps.find? (fun s => s.id == f.stepId) with | some s => s.cls | none => 4
  if bitsOf t.hint 6 3 = 15 || !x.shared.isEmpty then
    let piece := fun (acc : List Move × Nat) (e : Nat × Nat) =>
      (acc.1 ++ [{ tile := true, src := keyAddr e.1, dst := dst + acc.2, len := e.2, cls := cls }], acc.2 + e.2)
    (((List.range n).flatMap (fun i => x.spans (x.panelKey t (first + i)) t.size)).foldl piece ([], 0)).1
  else [{ tile := true, src := keyAddr (x.panelKey t first), dst := dst, len := t.size, cls := cls, pieces := n,
          stride := t.panelBytes }]

/-- A claimed load starts: a TILE_LOAD's descriptors and the fence that closes them, or a STOP_LOAD. -/
def Device.frontStart (d : Device) (p : Nat) (e : Nat × Image × Nat × FrontRec) : Device :=
  let (h, x, i, f) := e
  if f.kind = 0 then
    match x.tiles.find? (fun t => t.id == f.arg0) with
    | none => d
    | some t =>
      let chan := 16 * p + f.arg3 % 16
      let moves := x.tileMoves p f t
      if 64 < (d.mover chan).queue.length + moves.length then d
      else
        let d := moves.foldl (fun d m =>
          let (u, d) := d.uid
          d.modMover chan (fun y => { y with queue := y.queue ++ [{ uid := u, owner := .front p h i, port := none, mv := m }] })) d
        (d.modFront p h i (fun y => { y with started := true })).addFence (.front p h i) chan (d.coverOf chan none)
  else
    match x.stops.find? (fun r => r.id == f.arg0) with
    | none => d
    | some r =>
      if d.loadRefusal p (f.arg1 % 4) ≠ 0 then d
      else (d.modFront p h i (fun y => { y with started := true })).addLoad p
        { slot := f.arg1 % 4, src := r.source, image := h, stopId := r.id, front := some i }

/-- FRONT_LOAD_START: the first claimed load of a partition whose region's occupant has no instance left starts (R346). -/
def fxFrontLoadStart (p : Nat) (d : Device) : Device :=
  if !decide (p < 12) || (d.fab p).halted then d
  else match (d.frontOn p).find? (fun e =>
      let y := d.frontEntry p e.1 e.2.2.1
      y.claimed && !y.started && !d.frontOccupied p e) with
    | none => d
    | some e => d.frontStart p e

/-- R345, R350: the fence that closes a TILE_LOAD has completed with a status. -/
def Device.frontFenced (d : Device) (p h i chan status : Nat) : Device :=
  let e := d.frontEntry p h i
  if !e.started then d
  else
    (d.modFront p h i (fun y => { y with claimed := false, started := false, present := decide (status = 0) })).frontEnd p i
      chan status

/-! ### Switch-in (R349, R352 to R354) -/

/-- R352: the pages of an image's PAGE_LOAD entries in schedule order, each once. -/
def Image.pageOrder (x : Image) : List Nat :=
  ((x.front.filter (fun f => f.kind == 1)).flatMap (fun f => (List.range f.arg1).map (f.arg0 + ·))).eraseDups

/-- R337: a page is pinned, by its hint or because two or more images share its copy (R683). -/
def Device.pagePinned (d : Device) (x : Image) (i : Nat) : Bool :=
  (match x.pages[i]? with | some r => bitOf r.hint 7 | none => false) ||
    (match x.shared.find? (fun s => s.1 == i) with
     | some s => decide (2 ≤ (d.images.filter (fun y => y.2.shared.any (fun t => t.2 == s.2))).length)
     | none => false)

/-- R353: the image has a step admitted and not yet committed. -/
def Device.imageBusy (d : Device) (h : Nat) : Bool :=
  (List.range 12).any (fun p =>
    let x := d.part p
    (x.admitted ++ x.running.toList ++ x.replay.toList).any (fun s => s.image == h)) ||
    d.drones.any (fun e => match e.2.step with | some s => s.image == h | none => false) ||
    (match d.group? h with | some g => decide (g.nextStep < g.admitted) | none => false)

/-- Images that hold T2 pages which the switch-in of image `h` needs, with those pages. -/
def Device.holders (d : Device) (h : Nat) (keys : List Nat) : List (Nat × List Nat) :=
  List.filterMap (fun e : Nat × Image =>
    if e.1 = h then none
    else
      let mine := e.2.landed.filter (fun i => match e.2.pageKey i with | some k => keys.contains k | none => false)
      if mine.isEmpty then none else some (e.1, mine)) d.images

/-- R353, R354: makes room for the pages of a switch-in: the pages of unpinned holders are evicted; none where a holder is
pinned or busy. -/
def Device.evict (d : Device) (h : Nat) (keys : List Nat) : Option Device :=
  let hs := d.holders h keys
  if hs.all (fun e => !d.imageBusy e.1 && (match d.image? e.1 with
      | some x => e.2.all (fun i => !d.pagePinned x i)
      | none => true)) then
    some (hs.foldl (fun d e => d.modImage e.1 (fun x =>
      { x with landed := x.landed.filter (fun i => !e.2.contains i), switching := false })) d)
  else none

/-- R349: the resident entries of an image are issued. -/
def Device.claimResident (d : Device) (h : Nat) : Device :=
  (List.range 12).foldl (fun d p =>
    ((d.frontOn p).filter (fun e => e.1 == h && e.2.2.2.lead == 0)).foldl (fun d e =>
      if d.frontPresent p e || (d.frontEntry p e.1 e.2.2.1).claimed then d else d.frontClaim p e) d) d

/-- A switch-in of image `h` begins: room is made, resident entries are issued, and its pages that are not in T2 become a
long operation at P4 (R352). None where R354 fails it. -/
def Device.startSwitchIn (d : Device) (h : Nat) : Option Device :=
  match d.image? h with
  | none => some d
  | some x =>
    let want := x.pageOrder.filter (fun i => !x.landed.contains i)
    (d.evict h (want.filterMap x.pageKey)).map (fun d =>
      let d := (d.modImage h (fun x => { x with switching := true })).claimResident h
      if want.isEmpty || d.longOps.any (fun o => o.kind == .switchIn h) then d
      else
        let (u, d) := d.uid
        { d with longOps := d.longOps ++ [({ id := u, kind := .switchIn h, cls := 4 } : LongOp)] })

end Sys2Proof.Machine
end

