-- ==== Sys2Proof/Machine/Deploy.lean ====
section
/-!
DEFINITION. Deployments (14_model_library, R665, R669 to R683): placement, the load of a version from phase to phase, the
change of the current version, the drain path, and the commands.
-/
namespace Sys2Proof.Machine

def Device.deploy? (d : Device) (n : Nat) : Option Deploy := Table.find? d.deploys n
def Device.setDeploy (d : Device) (n : Nat) (y : Deploy) : Device := { d with deploys := Table.put d.deploys n y }
def Device.modDeploy (d : Device) (n : Nat) (f : Deploy → Deploy) : Device :=
  match d.deploy? n with | some y => d.setDeploy n (f y) | none => d

/-- R669: requests pinned to a deployment's version through its handle. -/
def Device.pinned (d : Device) (n image : Nat) : Nat :=
  (List.filter (fun e : Nat × Seq => e.2.deploy == some n && e.2.cmd.isSome && e.2.image == image) d.seqs).length

/-! ### Placement (R671, R682, R683) -/

/-- R671: an area that a placement may cover: a region of another deployment whose image has no pinned page. -/
def Device.coverable (d : Device) (n : Nat) (a : Area) : Bool :=
  match a.use with
  | .region m v =>
    m != n && d.images.all (fun e =>
      match e.2.lib with
      | some l => !(l.deploy == m && l.version == v) || (List.range e.2.pages.length).all (fun i => !d.pagePinned e.2 i)
      | none => true)
  | _ => false

/-- A version's region in one stack: free T2 first, else over what the Front may evict. -/
def Device.placeRegion (d : Device) (n v s pages : Nat) : Option (Nat × Device) :=
  let place := fun b => (b, { d with areas := d.areas ++ [{ stack := s, base := b, bytes := 65536 * pages, use := .region n v }] })
  match d.findArea s (65536 * pages) with
  | some b => some (place b)
  | none => (Device.findArea { d with areas := d.areas.filter (fun a => !d.coverable n a) } s (65536 * pages)).map place

/-- The regions of a version on the stacks of its map; none where one finds no place. -/
def Device.placeRegions (d : Device) (n v : Nat) : List (Nat × Nat) → Option (List Nat × Device)
  | [] => some ([], d)
  | (s, pages) :: l =>
    match d.placeRegion n v s pages with
    | none => none
    | some (b, d) => (d.placeRegions n v l).map (fun r => (b :: r.1, r.2))

/-- R682: where the shared pages of a newly loaded image stand: at the copy of an image of the same version, else at their
own place. -/
def Device.shareMap (d : Device) (h : Nat) (x : Image) : List (Nat × Nat) :=
  let others := match x.lib with
    | some l => (d.versionImages l.model l.version).filter (fun e : Nat × Image => e.1 != h)
    | none => []
  (x.pages.zipIdx).filterMap (fun r =>
    if !bitOf r.1.hint 8 then none
    else
      let copy := others.findSome? (fun e : Nat × Image =>
        (List.find? (fun s : Nat × Nat => match e.2.pages[s.1]? with
          | some q => q.shard == r.1.shard && q.src == r.1.src
          | none => false) e.2.shared).map (·.2))
      some (r.2, copy.getD (x.ownPageKey r.2 r.1)))

/-- Pages of a shared copy that already stand in T2. -/
def Device.sharedLanded (d : Device) (x : Image) (h : Nat) : List Nat :=
  x.shared.filterMap (fun s =>
    if d.images.any (fun e : Nat × Image => e.1 != h && e.2.shared.any (fun t => t.2 == s.2 && e.2.landed.contains t.1)) then some s.1
    else none)

/-- Regions and read-only marks that no loaded image needs any more go (R671, R683). -/
def Device.sweepRegions (d : Device) : Device :=
  let keys := List.flatMap (fun e : Nat × Image => e.2.shared.map (fun s : Nat × Nat => s.2)) d.images
  let used := fun (a : Area) =>
    match a.use with
    | .region n v =>
      d.images.any (fun e : Nat × Image => match e.2.lib with | some l => l.deploy == n && l.version == v | none => false) ||
        keys.any (fun k => decide (memKey 1 (a.stack * 0x1000000000 + a.base) ≤ k) &&
          decide (k < memKey 1 (a.stack * 0x1000000000 + a.base) + a.bytes))
    | _ => true
  { d with areas := d.areas.filter used
           readOnly := d.readOnly.filter (fun r => r.2.2 != roShared || keys.contains r.1) }

/-- R267, R670: a version is unloaded. -/
def Device.libUnload (d : Device) (h : Nat) : Device := (d.releaseImage h).sweepRegions

/-- PLACING (R671, R672, R678): the regions, and the image shard through the checks of R258. An error is a status. -/
def Device.placeVersion (d : Device) (n : Nat) (y : Deploy) (v : Nat) : Except Nat (Nat × Device) :=
  match d.findVersion y.model v with
  | none => .error 0x0B04
  | some i =>
    let pages := fun (lp : Nat) => d.readNat (d.verKey i + 32 + 4 * lp) 4
    let own := (d.ownShards i).map d.shard
    match d.placeRegions n v (y.map.zipIdx.map (fun e => (e.1, pages e.2))), own.find? (fun s => bitOf s.flags 0) with
    | none, _ => .error 0x0B08
    | _, none => .error 0x0B06
    | some (bases, d), some s =>
      let lib : LibVersion := { model := y.model, version := v, deploy := n, regions := bases, data := d.dataKey }
      match d.poisonIn (localKey s.addr) s.bytes with
      | some g => .error (parityStatus g)
      | none =>
        let b := d.readBytes (localKey s.addr) s.bytes
        match d.loadImage (some y.fn) y.job s.addr s.bytes y.map b (some lib)
            (some (own.map (fun s => (s.index, 65536 * d.firstPage s, 65536 * s.pages)))) with
        | .error e => .error e.1
        | .ok (h, d) =>
          let d := d.modImage h (fun x => { x with shared := d.shareMap h x })
          .ok (h, d.modImage h (fun x => { x with landed := d.sharedLanded x h }))

/-! ### The load of a version (R670, R674, R678 to R680) -/

def Device.modVersionLoad (d : Device) (n : Nat) (f : DeployLoad → DeployLoad) : Device :=
  d.modDeploy n (fun y => { y with load := y.load.map f })

/-- The completion of a load (R689). -/
def Device.completeLoad (d : Device) (n : Nat) (l : DeployLoad) (current : Nat) : Device :=
  match l.cmd, l.failed with
  | none, _ => d
  | some c, some (st, sh) => d.complete c st (leBytes 4 (if c.opcode = 0x75 then current else 0) ++ leBytes 4 sh)
  | some c, none => d.complete c 0 (leBytes 4 (if c.opcode = 0x74 then 2 ^ 31 + n else current))

/-- A load has failed with a status (R670, R678, R680): its image goes; after a drain the old version is loaded again. -/
def Device.failLoad (d : Device) (n status shard : Nat) : Device :=
  match d.deploy? n with
  | none => d
  | some y =>
    match y.load with
    | none => d
    | some l =>
      let d := if l.image = 0 then d else d.libUnload l.image
      let f := (status, shard)
      if l.back ≠ 0 && l.failed.isNone then
        d.modVersionLoad n (fun l =>
          { l with version := l.back, phase := .placing, image := 0, failed := some f, reports := [], breath := none })
      else
        let l := { l with failed := some (l.failed.getD f) }
        let d := d.modDeploy n (fun y => { y with load := none, draining := false })
        let d := { d with longOps := d.longOps.filter (fun o => match o.kind with | .versionLoad m _ => m != n | _ => true) }
        let d := d.completeLoad n l y.current
        if y.current = 0 && y.olds.isEmpty && l.back = 0 then
          Device.endJob { d with deploys := Table.drop d.deploys n } y.job
        else d

/-- R349, R352, R670: every PAGE_LOAD entry has completed and every resident entry is present. -/
def Device.switchedIn (d : Device) (h : Nat) : Bool :=
  match d.image? h with
  | none => false
  | some x =>
    x.switching && x.pageOrder.all (fun i => x.landed.contains i) &&
      (List.range 12).all (fun p =>
        ((d.frontOn p).filter (fun e => e.1 == h && e.2.2.2.lead == 0)).all (fun e => d.frontPresent p e))

/-- The devices of a job (R676, R848): this one and the far devices of its circuits. -/
def Device.jobDevices (d : Device) (j : Nat) : List Nat := d.index :: (d.farDevices j).filter (fun x => x != d.index)
def Device.lowestDevice (d : Device) (j : Nat) : Nat := (d.jobDevices j).foldl min d.index

/-- R676: once every device of the deployment has reported, its lowest-indexed device fixes the breath and tells it. -/
def Device.announceVersion (d : Device) (n : Nat) : Device :=
  match d.deploy? n with
  | none => d
  | some y =>
    match y.load with
    | none => d
    | some l =>
      let devs := d.jobDevices y.job
      if l.breath.isSome || d.lowestDevice y.job ≠ d.index || devs.length ≤ 1 || !(devs.all (fun x => l.reports.contains x)) then d
      else
        let b := d.breath + 2
        let body := leBytes 4 y.job ++ leBytes 4 y.model ++ leBytes 4 l.version ++ leBytes 8 b
        ((devs.filter (fun x => x != d.index)).foldl (fun d x => d.sendControl x y.job 5 body) d).modVersionLoad n
          (fun l => { l with breath := some b })

/-- The version is AVAILABLE on this device (R670, R676). -/
def Device.versionAvailable (d : Device) (n : Nat) (y : Deploy) (l : DeployLoad) : Device :=
  let d := d.modVersionLoad n (fun l => { l with phase := .available })
  if d.lowestDevice y.job = d.index then
    (d.modVersionLoad n (fun l => { l with reports := (d.index :: l.reports).eraseDups })).announceVersion n
  else d.sendControl (d.lowestDevice y.job) y.job 4
    (leBytes 4 y.job ++ leBytes 4 y.model ++ leBytes 4 l.version ++ leBytes 4 d.index)

/-- PLACING finds no way alongside the old version (R678): the drain path where the command asks for it. -/
def Device.noRoom (d : Device) (n status : Nat) (y : Deploy) (l : DeployLoad) : Device :=
  if l.drain && y.current != 0 && l.back == 0 then
    (if l.image = 0 then d else d.libUnload l.image).modVersionLoad n (fun l => { l with drainNext := true, image := 0 })
  else d.failLoad n status 0

/-- R679, step 3: the old version is unloaded once nothing is pinned to it. -/
def Device.drainOld (d : Device) (n : Nat) (y : Deploy) : Device :=
  if d.pinned n y.image ≠ 0 || d.imageHeld y.image then d
  else
    let d := (d.modDeploy n (fun y => { y with image := 0, current := 0 })).modVersionLoad n (fun l =>
      { l with back := y.current, drainNext := false })
    d.libUnload y.image

/-- One step of a deployment's load (R670). -/
def Device.deployStep (d : Device) (n : Nat) : Device :=
  match d.deploy? n with
  | none => d
  | some y =>
    match y.load with
    | none => d
    | some l =>
      match l.phase with
      | .fetching =>
        match d.findVersion y.model l.version with
        | none => d.failLoad n 0x0B04 0
        | some v =>
          if (d.ownShards v).all (fun i => (d.shard i).state == 2) then d.modVersionLoad n (fun l => { l with phase := .placing })
          else if d.checking v then d
          else if (d.ownShards v).any (fun i => (d.shard i).state == 3) then
            d.failLoad n 0x0B06 (d.readNat (d.verKey v + 20) 4)
          else d.startChecks ((d.ownShards v).filter (fun i => (d.shard i).state != 2)) 0 none
      | .placing =>
        if l.drainNext then (if y.draining then d.drainOld n y else d)
        else if l.image = 0 then
          if !(d.job y.job).state.settled then d
          else match d.placeVersion n y l.version with
            | .error st => d.noRoom n st y l
            | .ok (h, d) => (d.modVersionLoad n (fun l => { l with image := h })).beginCopies h none
        else match d.image? l.image with
          | none => d.failLoad n 0x0B08 0
          | some x =>
            if !x.ready then d
            else match d.startSwitchIn l.image with
              | none => d.noRoom n 0x0A05 y l
              | some d => d.modVersionLoad n (fun l => { l with phase := .switchingIn })
      | .switchingIn =>
        match d.image? l.image with
        | none => d.failLoad n 0x0B08 0
        | some x =>
          if d.switchedIn l.image then d.versionAvailable n y l
          else if x.switching || !(d.job y.job).state.settled then d
          else (d.startSwitchIn l.image).getD d
      | .available => d

/-! ### The change of the current version (R670, R676, R679, R681) -/

/-- The loaded version of a deployment becomes CURRENT. -/
def Device.makeCurrent (d : Device) (n : Nat) (y : Deploy) (l : DeployLoad) : Device :=
  let olds := if y.image = 0 then y.olds else (y.current, y.image) :: y.olds
  let d := d.setDeploy n { y with current := l.version, image := l.image, olds := olds, load := none, draining := false }
  let d := { d with longOps := d.longOps.filter (fun o => match o.kind with | .versionLoad m _ => m != n | _ => true) }
  d.completeLoad n l l.version

/-- Retiring versions to which nothing is pinned are unloaded. -/
def Device.dropOlds (d : Device) (n : Nat) : Device :=
  match d.deploy? n with
  | none => d
  | some y =>
    y.olds.foldl (fun d o =>
      if d.pinned n o.2 ≠ 0 || d.imageHeld o.2 then d
      else (d.modDeploy n (fun y => { y with olds := y.olds.filter (fun q => q != o) })).libUnload o.2) d

/-- Order 1 of R602 for the deployments, at the intake of breath `n`: drains begin, versions that are AVAILABLE on every
device become CURRENT, retiring ones go. -/
def Device.currency (d : Device) (n : Nat) : Device :=
  (d.deploys.map (·.1)).foldl (fun d i =>
    match d.deploy? i with
    | none => d
    | some y =>
      let d := match (y.load : Option DeployLoad) with
        | none => d
        | some l =>
          if l.drainNext && !y.draining then d.modDeploy i (fun y => { y with draining := true })
          else if l.phase == LoadPhase.available &&
              (match l.breath with | some b => decide (b ≤ n) | none => decide ((d.jobDevices y.job).length ≤ 1)) then
            d.makeCurrent i y l
          else d
      d.dropOlds i) d

/-- VERSION_AVAILABLE_REPORT: a device reports that a version is AVAILABLE there (R676). -/
def fxVersionAvailableReport (job model version device : Nat) (d : Device) : Device :=
  match (List.find? (fun e : Nat × Deploy => e.2.job == job && e.2.model == model &&
      (match e.2.load with | some l => l.version == version | none => false)) d.deploys) with
  | none => d
  | some (n, _) =>
    if d.lowestDevice job ≠ d.index then d
    else (d.modVersionLoad n (fun l => { l with reports := (device :: l.reports).eraseDups })).announceVersion n

/-- CURRENCY_BREATH_ANNOUNCE: the breath at which a version becomes CURRENT (R676). -/
def fxCurrencyBreathAnnounce (job model version breath : Nat) (d : Device) : Device :=
  match (List.find? (fun e : Nat × Deploy => e.2.job == job && e.2.model == model &&
      (match e.2.load with | some l => l.version == version | none => false)) d.deploys) with
  | none => d
  | some (n, _) => d.modVersionLoad n (fun l => { l with breath := some breath })

/-! ### The commands (R665, R675, R677, R681, R689, R691) -/

/-- The load of a version begins: FETCHING where an own shard is not GOOD, else PLACING. -/
def Device.beginLoad (d : Device) (n v vi : Nat) (drain : Bool) (c : CmdRef) : Device :=
  let good := (d.ownShards vi).all (fun i => (d.shard i).state == 2)
  let d := d.modDeploy n (fun y =>
    { y with load := some { version := v, phase := if good then .placing else .fetching, drain := drain, cmd := some c } })
  let d := if good || d.checking vi then d else d.checkVersion vi none
  d.addLong (.versionLoad n v) 4 none

/-- LIB_DEPLOY (R665). -/
def fxLibDeploy (o : Origin) (d : Device) : Device :=
  d.run o 0x74 (fun s d =>
    if s.op 1 1 ≠ 0 || s.aux ≠ 0 || !allZero (sliceOf s.entry 27 37) || s.op 16 4 = 0 || mapBad (s.op 20 6) ||
        decide (63 < s.op 26 1) then d.complete s.cmd 0x0B01 []
    else if !d.libOn then d.complete s.cmd 0x0B02 []
    else match d.findVersion (s.op 8 4) (s.op 12 4) with
      | none => d.complete s.cmd 0x0B04 []
      | some v =>
        if s.op 8 4 = 0 then d.complete s.cmd 0x0B04 []
        else match (List.range 256).find? (fun n => (d.deploy? n).isNone) with
          | none => d.complete s.cmd 0x0B03 []
          | some n =>
            (d.setDeploy n { model := s.op 8 4, job := s.op 16 4, fn := s.op 26 1, map := mapOf (s.op 20 6) }).beginLoad n
              (s.op 12 4) v false s.cmd)

/-- LIB_VERSION_LOAD (R675, R677, R678). -/
def fxLibVersionLoad (o : Origin) (d : Device) : Device :=
  d.run o 0x75 (fun s d =>
    if s.op 1 1 ≠ 0 || s.aux ≠ 0 || decide (1 < s.op 16 1) || !allZero (sliceOf s.entry 17 47) then
      d.complete s.cmd 0x0B01 []
    else if !d.libOn then d.complete s.cmd 0x0B02 []
    else
      let n := s.op 8 4 - 2 ^ 31
      match (if s.op 8 4 < 2 ^ 31 then none else d.deploy? n) with
      | none => d.complete s.cmd 0x0B04 []
      | some y =>
        match d.findVersion y.model (s.op 12 4) with
        | none => d.complete s.cmd 0x0B04 []
        | some v =>
          if y.load.isSome then d.complete s.cmd 0x0B09 []
          else if y.current = s.op 12 4 then d.complete s.cmd 0 (leBytes 4 y.current)
          else d.beginLoad n (s.op 12 4) v (s.op 16 1 == 1) s.cmd)

/-- LIB_UNDEPLOY (R681). -/
def fxLibUndeploy (o : Origin) (d : Device) : Device :=
  d.run o 0x76 (fun s d =>
    if s.op 1 1 ≠ 0 || s.aux ≠ 0 || !allZero (sliceOf s.entry 12 52) then d.complete s.cmd 0x0B01 []
    else if !d.libOn then d.complete s.cmd 0x0B02 []
    else
      let n := s.op 8 4 - 2 ^ 31
      match (if s.op 8 4 < 2 ^ 31 then none else d.deploy? n) with
      | none => d.complete s.cmd 0x0B04 []
      | some y =>
        let images := (if y.image = 0 then [] else [y.image]) ++ y.olds.map (·.2)
        if y.load.isSome || images.any (fun h => d.pinned n h != 0 || d.imageHeld h) then d.complete s.cmd 0x0B0A []
        else
          let d := { d with deploys := Table.drop d.deploys n }
          ((images.foldl (fun d h => d.libUnload h) d).endJob y.job).complete s.cmd 0 [])

end Sys2Proof.Machine
end

