-- ==== Sys2Proof/Machine/LongOps.lean ====
section
/-!
DEFINITION. The steps of long operations (R640): image placement copies (R259, R264), switch-in page loads (R352, R353,
R673), LULL and RESUME (R549 to R558), the scrub of T3 (R360), and the reading of shards (R659, R684).
-/
namespace Sys2Proof.Machine

/-! ### The digest of an image (R258, R260, R264) -/

/-- R260: loads commit in the order in which their commands were fetched: one whose digest runs comes before. -/
def Device.loadBefore (d : Device) (uid : Nat) : Bool :=
  d.longOps.any (fun l => l.kind == .imageDigest && (match l.cmd with | some c => decide (c.uid < uid) | none => false))

/-- A step of an IMAGE_LOAD's digest: `units` blocks of 64 bytes; after the last, the load's checks decide. R857: a load
of a job that restarts waits with that. -/
def Device.stepImageDigest (d : Device) (l : LongOp) (units : Nat) (busError : Bool) : Device :=
  match d.staged.find? (fun s => l.cmd == some s.cmd) with
  | none => d.endLong l.id
  | some s =>
    if busError then ((d.endLong l.id).forget s.cmd.uid).complete s.cmd 0x0510 []
    else
      let d := d.modLong l.id (fun l => { l with step := l.step + units })
      if 64 * (l.step + units) < s.op 16 4 || d.loadBefore s.cmd.uid || !(d.job (s.op 20 4)).state.settled then d
      else match d.readAny s.cmd.uid 0 (s.op 8 8) (s.op 16 4) with
        | .waiting => d
        | .poison g => ((d.endLong l.id).poisonRead g).complete s.cmd (parityStatus g) []
        | .bytes b => ((d.endLong l.id).forget s.cmd.uid).finishImageLoad s b

/-! ### Image placement copies (R259, R264) -/

/-- At most `units` pages of the copies of an image's stop blocks. -/
def Device.stepImageLoad (d : Device) (l : LongOp) (h units : Nat) (busError : Bool) : Device :=
  match d.image? h with
  | none => d.endLong l.id
  | some x =>
    if busError then
      (((d.endLong l.id).releaseImage h).sweepRegions).completeOpt l.cmd 0x0510 []
    else
      let (d, i, st) := d.copyBlocks h x units l.step
      if st ≠ 0 then (((d.endLong l.id).releaseImage h).sweepRegions).completeOpt l.cmd st []
      else if i < x.stops.length then d.modLong l.id (fun l => { l with step := i })
      else
        let d := (d.endLong l.id).imageReady h l.cmd
        if x.lib.isSome then d else (d.startSwitchIn h).getD d

/-! ### Switch-in (R352, R353, R673, R674, R682) -/

/-- The memory key of a page's home copy in T3 (R341, R672). -/
def Image.homeKey (x : Image) (r : PageRec) : Nat :=
  (match x.lib with | some v => v.data | none => memKey (if bitOf r.hint 2 then 3 else 2) 0) + r.src

/-- The shard table index of a page's shard. -/
def Device.pageShard (d : Device) (x : Image) (r : PageRec) : Nat :=
  match x.lib with
  | some v => (match d.findVersion v.model v.version with | some i => d.readNat (d.verKey i + 12) 4 | none => 0) + r.shard
  | none => r.shard

/-- A page stands in T2. -/
def Device.landPage (d : Device) (h i : Nat) : Device := d.modImage h (fun x => { x with landed := x.landed ++ [i] })

/-- A page that passed its check is moved to its place; a shared copy becomes read-only (R682). -/
def Device.movePage (d : Device) (h : Nat) (x : Image) (i k : Nat) (b : List Byte) : Device :=
  let d := (d.store k b).landPage h i
  if x.shared.any (fun s => s.1 == i) && !d.readOnly.any (fun r => r == (k, 65536, roShared)) then
    d.markReadOnly k 65536 roShared
  else d

/-- R673: a page of the library agrees with its CRC entry. -/
def Device.pageOk (d : Device) (x : Image) (r : PageRec) (b : List Byte) : Bool :=
  match x.lib with
  | none => true
  | some _ => d.readNat (d.crcKey (r.src / 65536)) 4 == crc32c b

/-- R662, R670, R673: a page fails every source. -/
def Device.pageFails (d : Device) (l : LongOp) (h : Nat) (x : Image) (r : PageRec) : Device :=
  let i := d.pageShard x r
  let d := (d.endLong l.id).shardBad i 2 3
  match List.find? (fun e : Nat × Deploy => match e.2.load with | some y => y.image == h | none => false) d.deploys with
  | some (n, _) => d.failLoad n 0x0B06 (d.shard i).index
  | none => d

/-- An attempt at a page fails (R660, R673). -/
def Device.pageRetry (d : Device) (l : LongOp) (h : Nat) (x : Image) (r : PageRec) : Device :=
  let d := d.bump LIB_FETCH_RETRY_COUNT 1
  if 3 ≤ l.attempt then d.pageFails l h x r
  else
    let d := d.modLong l.id (fun l => { l with attempt := l.attempt + 1 })
    if l.attempt = 1 then
      let s := d.shard (d.pageShard x r)
      d.peerSend 12 (leBytes 4 s.model ++ leBytes 4 s.version ++ leBytes 4 s.index ++ s.digest)
    else d

/-- Up to `units` pages of a switch-in. A page that has failed twice is tried with what the twin, then the host, has sent. -/
def Device.stepSwitchIn (d : Device) (l : LongOp) (h : Nat) (data : Option (List Byte)) : Nat → Device
  | 0 => d
  | units + 1 =>
    match d.image? h with
    | none => d.endLong l.id
    | some x =>
      match (x.pageOrder.filter (fun i => !x.landed.contains i)).head? with
      | none => d.endLong l.id
      | some i =>
        match x.pages[i]?, x.pageKey i with
        | some r, some k =>
          if (d.sharedLanded x h).contains i then (d.landPage h i).stepSwitchIn l h data units
          else if l.attempt < 2 then
            match d.poisonIn (x.homeKey r) 65536 with
            | some g => (d.endLong l.id).parityFault x.job (x.parts.headD 15) g
            | none =>
              let b := d.readBytes (x.homeKey r) 65536
              if d.pageOk x r b then
                ((d.movePage h x i k b).modLong l.id (fun l => { l with step := l.step + 1, attempt := 0 })).stepSwitchIn
                  { l with attempt := 0 } h data units
              else d.pageRetry l h x r
          else match data with
            | none => d.pageRetry l h x r
            | some b =>
              if b.length = 65536 && d.pageOk x r b && (l.attempt = 3 || d.twinUp) then
                ((d.store (x.homeKey r) b).movePage h x i k b).modLong l.id (fun l =>
                  { l with step := l.step + 1, attempt := 0 })
              else d.pageRetry l h x r
        | _, _ => d.landPage h i

/-- The operation ends once no page is missing. -/
def Device.endSwitchIn (d : Device) (l : LongOp) (h : Nat) : Device :=
  match d.image? h with
  | some x => if x.pageOrder.all (fun i => x.landed.contains i) then d.endLong l.id else d
  | none => d.endLong l.id

/-! ### Lull states (R549 to R558) -/

/-- R523: the format of an image's KV elements. -/
def Image.kvFormat (x : Image) : Fmt :=
  match x.droneOps.find? (fun o => leAt o 0 1 == 0x49) with
  | some o => kvFmt (leAt o 14 1)
  | none => .e4m3

/-- R552: the frames of a sequence's own pages, in order: keys of the frame and of its scale block. -/
def Seq.frameKeys (q : Seq) : List (Nat × Nat) :=
  (List.range q.ownPages).flatMap (fun j =>
    (List.range q.perPage).map (fun f =>
      (localKey (q.pages.getD (q.prefixPages + j) 0) + 65536 * f, localKey (q.scales.getD (q.prefixPages + j) 0) + 2048 * f)))

/-- The 1,024 values of slice `b` of one half of a frame, position by position (R523, R524, R551). -/
def sliceValues (f : Fmt) (frame scale : List Byte) (half b : Nat) : List Fl :=
  (List.range 32).flatMap (fun j =>
    let s : Int := (leAt scale (1024 * half + 32 * j + b) 1 : Int)
    (List.range 32).map (fun i =>
      if s = 255 then .nan
      else match f.decode (leAt frame (32768 * half + 1024 * j + 32 * b + i) 1) with
        | .fin neg m e => .fin neg m (e + (s - 127))
        | v => v))

/-- R551: a quantised half of a frame: its 32 scales, and its elements in frame order. -/
def quantHalf (f : Fmt) (frame scale : List Byte) (half : Nat) : List Nat × List Byte :=
  let bs := (List.range 32).map (fun b => mxBlock .mxfp4 (sliceValues f frame scale half b))
  let code := fun (n : Nat) => ((bs.getD (n % 1024 / 32) (0, [], {})).2.1).getD (32 * (n / 1024) + n % 32) 0
  (bs.map (·.1), packCodes .mxfp4 ((List.range 32768).map code))

/-- A frame as it is packed: 64 scale bytes, and its element bytes. -/
def quantFrame (f : Fmt) (frame scale : List Byte) : List Byte × List Byte :=
  let k := quantHalf f frame scale 0
  let v := quantHalf f frame scale 1
  ((k.1 ++ v.1).map (fun n => BitVec.ofNat 8 n), k.2 ++ v.2)

/-- R571: the SAMPLE_STATE bytes of a sequence record. -/
def MuteState.bytes (m : MuteState) : List Byte :=
  padTo 32 (leBytes 4 m.aut ++ leBytes 1 m.stack.length ++ leBytes 3 0 ++ leBytes 8 m.addr)

/-- R553: the Lull header. -/
def Device.lullHeader (_ : Device) (x : Option Image) (id : Nat) (q : Seq) : List Byte :=
  let groups := match x with | some x => x.headGroups | none => 1
  let lib := match x.bind (·.lib) with | some l => leBytes 4 l.model ++ leBytes 4 l.version | none => leBytes 8 0
  let b := leBytes 4 0x4C554C4C ++ leBytes 2 1 ++ leBytes 2 groups ++ leBytes 4 id ++ leBytes 4 q.committed ++
    leBytes 4 q.prefixId ++ leBytes 4 q.prefixPages ++ leBytes 4 q.ownPages ++ leBytes 4 q.quantPages ++
    leBytes 2 (q.perPage / max 1 groups) ++ leBytes 2 0 ++ lib ++ leBytes 8 0 ++ leBytes 4 q.shape.pages
  let rest := leBytes 4 0 ++ q.mute.bytes ++ leBytes 8 q.nextToken
  let crc := crc32c (padTo 256 (b ++ leBytes 4 0 ++ rest))
  padTo 65536 (b ++ leBytes 4 crc ++ rest)

/-- R554: a side record. -/
def sideRecord (scales data : List Byte) : List Byte :=
  padTo 128 (padTo 64 scales ++ leBytes 4 (crc32c data))

/-- R552: page `n` of the Lull state of a sequence. -/
def Device.lullPage (d : Device) (x : Option Image) (id : Nat) (q : Seq) (n : Nat) : List Byte :=
  let sh := q.shape
  let f := match x with | some x => x.kvFormat | none => .e4m3
  let keys := q.frameKeys
  let frame := fun i => d.readBytes ((keys.getD i (0, 0)).1) 65536
  let scale := fun i => d.readBytes ((keys.getD i (0, 0)).2) 2048
  let ids := fun (k per top : Nat) => (List.range per).filterMap (fun i => if per * k + i < top then some (per * k + i) else none)
  let n1 := n - 1
  let n2 := n1 - sh.sides
  let n3 := n2 - sh.elems
  let n4 := n3 - sh.v
  padTo 65536
    (if n = 0 then d.lullHeader x id q
     else if n1 < sh.sides then
       (ids n1 512 (sh.q + sh.v)).flatMap (fun i =>
         if i < sh.q then
           let e := quantFrame f (frame i) (scale i)
           sideRecord e.1 (e.2 ++ e.1)
         else sideRecord [] (frame i ++ scale i))
     else if n2 < sh.elems then (ids n2 2 sh.q).flatMap (fun i => (quantFrame f (frame i) (scale i)).2)
     else if n3 < sh.v then frame (sh.q + n3)
     else (ids n4 32 sh.v).flatMap (fun i => scale (sh.q + i)))

/-- uid of the transfers of a long operation. -/
def longUid (id : Nat) : Nat := 2 ^ 60 + id

/-- DRN_LULL_PAGES counts the frames of each stack that were packed or unpacked. -/
def Device.countFrames (d : Device) (q : Seq) : Device :=
  (q.pages.drop q.prefixPages).foldl (fun d a =>
    match d.frameOf a with | some f => d.bump (drnOff f.1 DRN_LULL_PAGES) q.perPage | none => d) d

/-- R555: the last page of a Lull state has landed: the sequence's own frames are freed. -/
def Device.finishLull (d : Device) (id status : Nat) : Device :=
  match d.longOps.find? (fun l => l.id == id) with
  | none => d
  | some l =>
    match l.kind with
    | .lull job sid _ =>
      let q := d.seq job sid
      let d := d.endLong id
      if status ≠ 0 then (d.setSeq job sid { q with state := .idle }).completeOpt l.cmd status []
      else
        let n := q.shape.pages
        let d := d.countFrames q
        (d.setSeq job sid { q with state := .lulled, pages := q.pages.take q.prefixPages,
                                   scales := q.scales.take q.prefixPages, reservedPos := 32 * q.prefixPages }).completeOpt
          l.cmd 0 (leBytes 4 n)
    | _ => d

/-- A step of a LULL: up to `units` pages are built and written. -/
def Device.stepLull (d : Device) (l : LongOp) (job sid dst units : Nat) (busError : Bool) : Device :=
  let q := d.seq job sid
  if q.state != .lulling then d.endLong l.id
  else if busError then d.finishLull l.id 0x0510
  else match q.frameKeys.findSome? (fun k => (d.poisonIn k.1 65536).orElse (fun _ => d.poisonIn k.2 2048)) with
    | some g => d.parityFault job 15 g
    | none =>
      let total := q.shape.pages
      let n := min units (total - l.step)
      let d := (List.range n).foldl (fun d i =>
        d.writeAny (longUid l.id) hubChan 0 4 15 (dst + 65536 * (l.step + i)) (d.lullPage (d.image? q.image) sid q (l.step + i))) d
      let d := d.modLong l.id (fun l => { l with step := l.step + n })
      if l.step + n < total || d.fences.any (fun f => f.owner == .lull l.id) then d
      else
        let cover := ((d.txq.filter (fun t => t.uid == longUid l.id)).map (·.uid) ++
          (d.flight.filter (fun t => t.uid == longUid l.id)).map (·.uid)).eraseDups
        if cover.isEmpty then d.finishLull l.id 0 else d.addFence (.lull l.id) hubChan cover

/-- A RESUME ends: refused or failed, its pages are released and the sequence stays LULLED. -/
def Device.failResume (d : Device) (l : LongOp) (job sid status : Nat) : Device :=
  let q := d.seq job sid
  ((d.endLong l.id).setSeq job sid
    { q with state := .lulled, pages := q.pages.take q.prefixPages, scales := q.scales.take q.prefixPages,
             reservedPos := 32 * q.prefixPages }).completeOpt l.cmd status []

/-- The status of R557's first checks on a header page; 0 where it passes. -/
def Device.resumeStatus (d : Device) (q : Seq) (b : List Byte) : Nat :=
  if leAt b 0 4 ≠ 0x4C554C4C || leAt b 4 2 ≠ 1 ||
      leAt b 56 4 ≠ crc32c (b.take 56 ++ leBytes 4 0 ++ sliceOf b 60 196) then 0x110D
  else if leAt b 36 4 ≠ 0 && d.versionState (leAt b 36 4) (leAt b 40 4) = 3 then 0x110C
  else if q.prefixId ≠ 0 && (Table.find? d.prefixes q.prefixId).isNone then 0x1108
  else 0

/-- R551, R557: a frame unpacked: its elements as E4M3, and its scale block. -/
def unpackHalf (scales elems : List Byte) (half : Nat) : List Byte × List Byte :=
  let code := fun (n : Nat) => elementAt .mxfp4 (sliceOf elems (16384 * half) 16384) n
  ((List.range 32768).map (fun n => BitVec.ofNat 8 (fE4m3.encode (Fmt.mxfp4.decode (code n)))),
   (List.range 1024).map (fun n => BitVec.ofNat 8 (leAt scales (32 * half + n % 32) 1)))

/-- Unpacks frame `i` of a Lull state; none where its CRC is wrong. -/
def unpackFrame (sh : LullShape) (b : List Byte) (i : Nat) : Option (List Byte × List Byte) :=
  let side := sliceOf b (65536 + 128 * i) 128
  let base := 65536 * (1 + sh.sides)
  if i < sh.q then
    let e := sliceOf b (base + 32768 * i) 32768
    let s := side.take 64
    if leAt side 64 4 ≠ crc32c (e ++ s) then none
    else
      let k := unpackHalf s e 0
      let v := unpackHalf s e 1
      some (k.1 ++ v.1, k.2 ++ v.2)
  else
    let j := i - sh.q
    let f := sliceOf b (base + 65536 * (sh.elems + j)) 65536
    let s := sliceOf b (base + 65536 * (sh.elems + sh.v) + 2048 * j) 2048
    if leAt side 64 4 ≠ crc32c (f ++ s) then none else some (f, s)

/-- The frames of a Lull state are written to the sequence's pages; false where a CRC is wrong. -/
def Device.unpackAll (d : Device) (sh : LullShape) (b : List Byte) : List ((Nat × Nat) × Nat) → Device × Bool
  | [] => (d, true)
  | (k, i) :: l =>
    match unpackFrame sh b i with
    | none => (d, false)
    | some (f, s) => ((d.store k.1 f).store k.2 s).unpackAll sh b l

/-- A step of a RESUME: the first makes the checks of R557 and reserves pages; `units` pages of T3 are read in each; the
frames stand in the cache once the last has been read. -/
def Device.stepResume (d : Device) (l : LongOp) (job sid units : Nat) (busError : Bool) : Device :=
  let q := d.seq job sid
  let n := q.shape.pages
  if q.state != .resuming then d.endLong l.id
  else if busError then d.failResume l job sid 0x0510
  else if l.step = 0 && !l.busy then
    (d.requestRemote (longUid l.id) hubChan 0 4 15 0 q.lull (65536 * n)).modLong l.id (fun l => { l with busy := true })
  else match d.readAny (longUid l.id) 0 q.lull (65536 * n) with
    | .waiting => d
    | .poison g => d.parityFault job 15 g
    | .bytes b =>
      let st := if l.step = 0 then d.resumeStatus q b else 0
      if st ≠ 0 then (d.forget (longUid l.id)).failResume l job sid st
      else
        let group := (List.range 12).filter (fun s => bitOf q.group s)
        match (if l.step = 0 then d.reservePages q group q.committed else some q) with
        | none => (d.forget (longUid l.id)).failResume l job sid 0x1104
        | some q =>
          let d := (d.setSeq job sid q).modLong l.id (fun l => { l with step := l.step + units })
          if l.step + units < n then d
          else
            let d := d.forget (longUid l.id)
            let r := d.unpackAll q.shape b q.frameKeys.zipIdx
            if !r.2 then d.failResume l job sid 0x110B
            else
              let d := (r.1.endLong l.id).countFrames q
              (d.setSeq job sid { q with state := .idle }).completeOpt l.cmd 0 (leBytes 4 q.committed)

/-! ### Reading shards, scrubbing T3 (R360, R659, R684) -/

/-- The first step of a check: the shard, and its version, are CHECKING. -/
def Device.beginCheck (d : Device) (i : Nat) : Device :=
  let d := if (d.shard i).state = 1 then d else d.setShardState i 1
  match d.shardVersion i with
  | some v => if d.readNat (d.verKey v + 8) 1 = 3 then d else d.setVersionState v 1
  | none => d

def Device.stepShard (d : Device) (l : LongOp) (i units : Nat) : Device :=
  let d := match l.kind with | .shardFetch _ => if l.step = 0 then d.beginCheck i else d | _ => d
  d.modLong l.id (fun l => { l with step := l.step + units })

/-- The memory key of the 4 KiB block with number `i` of T3: the DIMMs, then what each CXL port has. -/
def Device.t3Block (d : Device) (i : Nat) : Nat :=
  let a := 4096 * i
  let c0 := d.cxl.getD 0 0
  if a < d.ddr then memKey 2 a
  else if a < d.ddr + c0 then memKey 3 (a - d.ddr)
  else memKey 3 (2 ^ 41 + (a - d.ddr - c0))

/-- R360: T3 granules are visited in order; one that cannot be corrected (`bad`) is poisoned, and counts as a read does;
`step` is the granule of 4 KiB next to visit. -/
def Device.stepScrub (d : Device) (l : LongOp) (units : Nat) (bad : Bool) : Device :=
  let total := (d.ddr + d.cxl.getD 0 0 + d.cxl.getD 1 0) / 4096
  let n := min units 2048
  let first := d.t3Block l.step / 64
  let d := if bad && decide (l.step < total) && !d.poisoned first then { d with poison := d.poison ++ [first] } else d
  let blocks := (List.range (min n (total - l.step))).map (fun i => d.t3Block (l.step + i) / 4096)
  let d := (d.poison.filter (fun g => blocks.contains (g / 64))).foldl (fun d g => d.poisonRead g) d
  d.modLong l.id (fun l => { l with step := if total ≤ l.step + n then 0 else l.step + n })

end Sys2Proof.Machine
end

