-- ==== Sys2Proof/Machine/Admit.lean ====
section
/-!
DEFINITION. What an intake does with steps: carried steps (R611), batch rebuilds (R533), the candidates and their order
(R606, R609), the gates and the budgets (R604, R605, R607, R608, R610), the buckets (R616, R617), and admission.
-/
namespace Sys2Proof.Machine

/-! ### Clock and budgets (R604, R605, R826) -/

/-- PMU_STATUS.LEVEL: the clock level in force. -/
def Device.level (d : Device) : Nat := d.regField PMU_STATUS 19 16

/-- The run phase in µs (R594), under the period in force. -/
def Device.runPhase (d : Device) : Nat := d.period - 4
/-- Fabric and Drone cycles of a run phase at clock level `l`. -/
def Device.fabricBudget (d : Device) (l : Nat) : Nat := d.runPhase * (95 * (20 - l))
def Device.droneBudget (d : Device) (l : Nat) : Nat := d.runPhase * (60 * (20 - l))

/-! ### Demands on buckets (R616) -/

/-- R616: the largest number of fills of a ring-table entry. -/
def StepRec.maxFills (r : StepRec) (e : RingRec) : Nat :=
  if e.slot = 255 then e.fills else match r.bounds[e.slot]? with | some b => b.max | none => 0

/-- The domain address that decides the space of a ring entry: that of its first fill; none for the logit buffer. An
index list is judged by its first entry that is not null. -/
def Device.ringSpaceAddr (d : Device) (e : RingRec) : Option Nat :=
  match e.mode with
  | 0 => some e.base
  | 1 =>
    if d.isSelf (addrDevice e.list) && d.mapped e.list 8 then some ((d.readNat (localKey e.list) 8 + e.base) % 2 ^ 64)
    else some e.list
  | _ => none

/-- The bucket of a ring entry's far side; the logit buffer stands in T2 (R566). -/
def Device.ringBucket (d : Device) (e : RingRec) : Option Nat :=
  match d.ringSpaceAddr e with | some a => d.sideBucket a | none => some 0

/-- Bytes that a fabric step demands of bucket `k`. -/
def Device.fabricDemand (d : Device) (x : Image) (r : StepRec) (k : Nat) : Nat :=
  let cfg := match x.stops.find? (fun s => s.id == r.stopId) with | some s => s.cfg | none => {}
  (r.rings.filter (fun e => d.ringBucket e == some k)).foldl (fun n e =>
    n + r.maxFills e *
      (if e.ch < 2 then e.bytes else 64 * (match cfg.ring e.port e.ch with | some c => c.tokens | none => 0))) 0

/-- Bytes of other stacks' panels that a Drone step of member `s` reads (R616). A D_EMBED counts a panel for each row of
the bound where any of the item's panels stands in another stack. -/
def Image.droneDemand (x : Image) (s : Nat) (r : StepRec) : Nat :=
  let away := fun (t : TileRec) i => partOf (x.panelKey t i / 2 ^ 53) (x.panelKey t i % 2 ^ 53) != s
  r.ops.foldl (fun n o =>
    match x.tiles.find? (fun t => t.id == leAt o 8 4) with
    | none => n
    | some t =>
      if leAt o 0 1 = 0x48 then
        n + t.size * ((List.range (leAt o 14 2)).filter (fun i => away t (leAt o 12 2 + i))).length
      else if leAt o 0 1 = 0x4D then n + (if (List.range t.panels).any (away t) then t.size * x.rowBound else 0)
      else n) 0

/-- R617: bucket `k` of partition `p` covers a demand. -/
def Device.bucketCovers (d : Device) (p k n : Nat) : Bool :=
  let b := d.bucket p k
  n == 0 || !b.on || decide ((n : Int) ≤ b.bal) || b.bal == (4096 * b.cap : Int)

/-! ### Candidates (R606) -/

/-- Work that an intake may take: the head of a chain, or the next step of an image's pass. -/
inductive Cand where
  | chain (id : Nat)
  | pass (image : Nat)
  deriving DecidableEq, Repr

/-- A candidate as the scheduler sees it. -/
structure Head where
  cand : Cand
  job : Nat
  image : Nat
  step : StepRec
  /-- units it is charged to: partition, or 16 + Drone -/
  units : List Nat
  level : Nat
  since : Nat
  heldFor : Nat
  urgent : Bool
  /-- the first step of its chain or pass (R629) -/
  first : Bool
  deriving DecidableEq, Repr

def Device.chainHead (d : Device) (c : Chain) : Option Head :=
  if c.dropped then none
  else
    (d.image? c.image).bind (fun x => (x.fabricSteps[c.next]?).map (fun r =>
      let q := d.seq c.job c.seq
      { cand := .chain c.id, job := c.job, image := c.image, step := r, units := [x.parts.getD r.part 12],
        level := if q.building then 7 else q.level, since := c.headSince, heldFor := c.heldFor, urgent := c.urgent,
        first := c.next == 0 }))

def Device.passHead (d : Device) (h : Nat) (g : Group) : Option Head :=
  if g.batch.isEmpty then none
  else
    (d.image? h).bind (fun x => ((x.droneSteps (g.members.headD 0))[g.admitted]?).map (fun r =>
      { cand := .pass h, job := g.job, image := h, step := r, units := g.members.map (16 + ·),
        level := g.batch.foldl (fun m e => min m (d.seq g.job e.seq).level) 7, since := g.headSince,
        heldFor := g.heldFor, urgent := g.urgent, first := g.admitted == 0 }))

def Device.heads (d : Device) : List Head :=
  d.chains.filterMap (fun c => d.chainHead c) ++ List.filterMap (fun e : Nat × Group => d.passHead e.1 e.2) d.groups

/-- R606: the place of a candidate in the admission order, least first. -/
def Head.rank (h : Head) : List Nat :=
  let tail := [h.job, match h.cand with | .chain i => i | .pass i => i]
  if h.urgent then [0, h.since, h.step.cls, h.level] ++ tail else [1, h.step.cls, h.level, h.since] ++ tail

def lexLess : List Nat → List Nat → Bool
  | a :: as, b :: bs => decide (a < b) || (a == b && lexLess as bs)
  | _, _ => false

def bestHead : List Head → Option Head
  | [] => none
  | h :: hs => match bestHead hs with | some b => some (if lexLess b.rank h.rank then b else h) | none => some h

/-! ### The plan of an intake -/

/-- The scheduler's working state during an intake. Units are partitions, and 16 + Drone. -/
structure Plan where
  d : Device
  /-- number of the breath -/
  n : Nat
  left : Table Nat
  seen : Table Nat
  /-- the stop that will be ACTIVE once what has been admitted has run: image, STOP_ID -/
  stops : Table (Nat × Nat)
  used : Table Nat
  count : Table Nat
  /-- units that hold a carried step (R611) -/
  busy : List Nat
  held : List Cand := []
  deriving DecidableEq, Repr

def Plan.modHead (a : Plan) (c : Cand) (f : Nat × Nat × Bool → Nat × Nat × Bool) : Plan :=
  match c with
  | .chain i =>
    { a with d := a.d.modChain i (fun x =>
        let r := f (x.headSince, x.heldFor, x.urgent)
        { x with headSince := r.1, heldFor := r.2.1, urgent := r.2.2 }) }
  | .pass i =>
    { a with d := a.d.modGroup i (fun x =>
        let r := f (x.headSince, x.heldFor, x.urgent)
        { x with headSince := r.1, heldFor := r.2.1, urgent := r.2.2 }) }

/-- The partition whose registers count what happens to a candidate: its own, or its first Drone's. -/
def Head.part (h : Head) : Nat := (h.units.headD 0) % 16

/-- R609: a head is held at this intake; at the limit it becomes urgent. -/
def Plan.hold (a : Plan) (h : Head) : Plan :=
  let limit := a.d.regField SCH_AGE_LIMIT 7 0
  let rise := !h.urgent && limit != 0 && decide (limit ≤ h.heldFor + 1)
  let a := a.modHead h.cand (fun r => (r.1, r.2.1 + 1, r.2.2 || rise))
  let d := if rise then a.d.bump (prtOff h.part PRT_URGENT_COUNT) 1 else a.d
  { a with d := d, held := h.cand :: a.held }

/-! ### Gates (R607) -/

/-- R849, R629, R636: the job admits this step. -/
def Device.jobAdmits (d : Device) (j : Nat) (first : Bool) : Bool :=
  let x := d.job j
  (x.state == .running || x.state == .replaying) &&
    (match x.suspend with
     | .no => true
     | .suspending => !first
     | _ => false)

/-- R631: stacks that a save or restore uses. -/
def Device.savingStacks (d : Device) : List Nat :=
  (List.range 12).filter (fun p =>
    let s := (d.job (d.part p).job).suspend
    (d.part p).job != 0 && (s == .saving || s == .restoring))

/-- R631: the stacks whose interface path a step's transfers reach. -/
def Device.stacksOf (d : Device) (x : Image) (h : Head) : List Nat :=
  if h.step.engine = 0 then
    h.step.rings.filterMap (fun e =>
      match d.ringSpaceAddr e with
      | none => some h.part
      | some a => if d.isSelf (addrDevice a) && addrSpace a = 1 then some (partOf 1 (addrOffset a)) else none)
  else
    h.step.ops.flatMap (fun o =>
      match x.tiles.find? (fun t => t.id == leAt o 8 4) with
      | some t =>
        if leAt o 0 1 = 0x48 || leAt o 0 1 = 0x4D then
          ((List.range t.panels).map (fun i => partOf (x.panelKey t i / 2 ^ 53) (x.panelKey t i % 2 ^ 53))).filter
            (fun p => !(h.units.contains (16 + p)))
        else []
      | none => [])

/-- The gates other than the Front's. -/
def Plan.gates (a : Plan) (x : Image) (h : Head) : Bool :=
  let d := a.d
  d.jobAdmits h.job h.first &&
    h.units.all (fun u =>
      !a.busy.contains u && decide (Table.getD a.seen u 0 < 64) &&
        (if u < 16 then !(d.fab u).halted && d.galGate u h.step.id
            (match x.stops.find? (fun s => s.id == h.step.stopId) with | some s => s.cfg | none => {})
         else !d.droneHalted (u - 16) && !(d.fab (u - 16)).halted && d.galGate (u - 16) h.step.id {})) &&
    (h.step.engine != 0 || (d.slotOf h.part h.image h.step.stopId).isSome) &&
    (d.savingStacks.isEmpty || (d.stacksOf x h).all (fun p => !d.savingStacks.contains p))

/-! ### Cost and admission (R607, R608, R610, R617) -/

/-- R608: what an implicit switch in front of a step costs; 0 where its stop will be ACTIVE. -/
def Plan.switchCost (a : Plan) (h : Head) : Nat :=
  if h.step.engine ≠ 0 then 0
  else match Table.find? a.stops h.part with
    | some s =>
      if s = (h.image, h.step.stopId) then 0
      else
        let cfg := match (a.d.image? s.1).bind (fun x => x.stops.find? (fun r => r.id == s.2)) with
          | some r => r.cfg
          | none => (a.d.part h.part).stop
        cfg.drainBudget + 3800
    | none => 3800

/-- The demands of a candidate: partition, bucket, bytes. -/
def Plan.demands (a : Plan) (x : Image) (h : Head) : List (Nat × Nat × Nat) :=
  if h.step.engine = 0 then (List.range 3).map (fun k => (h.part, k, a.d.fabricDemand x h.step k))
  else h.units.map (fun u =>
    (u - 16, 0, match (x.droneSteps (u - 16)).find? (fun r => r.id == h.step.id) with
      | some r => x.droneDemand (u - 16) r
      | none => x.droneDemand (u - 16) h.step))

/-- The members' own steps at the place of the pass: unit, effective worst case. -/
def Plan.costs (a : Plan) (x : Image) (h : Head) : List (Nat × Nat) :=
  match h.cand with
  | .chain _ => [(h.part, x.worst h.step + a.switchCost h)]
  | .pass i =>
    let k := match a.d.group? i with | some g => g.admitted | none => 0
    h.units.map (fun u => (u, match (x.droneSteps (u - 16))[k]? with | some r => x.worst r | none => 0))

def Plan.charge (a : Plan) (u c steps : Nat) : Plan :=
  { a with left := Table.modify a.left u 0 (· - c)
           used := Table.modify a.used u 0 (· + c), count := Table.modify a.count u 0 (· + steps) }

/-- A candidate is admitted. -/
def Plan.enter (a : Plan) (x : Image) (h : Head) (costs : List (Nat × Nat)) (demands : List (Nat × Nat × Nat)) : Plan :=
  let steps := if a.switchCost h = 0 then 1 else 2
  let a := costs.foldl (fun a e => a.charge e.1 e.2 steps) a
  let d := demands.foldl (fun d e => d.modBucket e.1 e.2.1 (Bucket.charge e.2.2)) a.d
  let d := d.frontAdmitted h.image x h.step.part h.step.id
  let a := { a with d := d }
  let a := a.modHead h.cand (fun _ => (a.n + 1, 0, false))
  match h.cand with
  | .pass i => { a with d := a.d.modGroup i (fun g => { g with admitted := g.admitted + 1 }) }
  | .chain i =>
    let (u, d) := a.d.uid
    let rows := match d.chain? i with | some c => [c.seq] | none => []
    let s : StepInst := { uid := u, job := h.job, image := h.image, stepId := h.step.id, stopId := h.step.stopId,
                          cls := h.step.cls, chain := i, order := u, rows := rows, worst := x.worst h.step }
    let d := d.modPart h.part (fun y => { y with admitted := y.admitted ++ [s] })
    { a with d := d.modChain i (fun c => { c with next := c.next + 1 })
             stops := Table.put a.stops h.part (h.image, h.step.stopId) }

/-- One candidate is considered (R607). -/
def Plan.consider (a : Plan) (h : Head) : Plan :=
  match a.d.image? h.image with
  | none => { a with held := h.cand :: a.held }
  | some x =>
    let front := a.d.frontGate h.image x h.step
    let gates := a.gates x h
    let a := { a with seen := h.units.foldl (fun t u => Table.modify t u 0 (· + 1)) a.seen }
    if !front then
      ({ a with d := (a.d.bump (prtOff h.part PRT_FRONT_HELD_COUNT) 1).modReg (prtOff h.part PRT_FRONT_STATUS)
                        (fun v => satAdd 16 v 1) } : Plan).hold h
    else if !gates then a.hold h
    else
      let l := a.d.level
      let costs := a.costs x h
      let late := costs.any (fun e => decide ((if e.1 < 16 then a.d.fabricBudget l else a.d.droneBudget l) < e.2) &&
        decide (e.2 ≤ (if e.1 < 16 then a.d.fabricBudget 0 else a.d.droneBudget 0)))
      if costs.any (fun e => decide (Table.getD a.left e.1 0 < e.2)) then
        ({ a with d := if late then a.d.bump SCH_CLOCK_HELD 1 else a.d } : Plan).hold h
      else
        let demands := a.demands x h
        let short := demands.filter (fun e => !a.d.bucketCovers e.1 e.2.1 e.2.2)
        if short.isEmpty then a.enter x h costs demands
        else
          ({ a with d := short.foldl (fun d e => d.bump (prtOff e.1 (PRT_REG_HELD + 0x20 * e.2.1)) 1) a.d } : Plan).hold h

/-- The candidates are considered in admission order until none is left. -/
def Plan.run : Nat → Plan → Plan
  | 0, a => a
  | k + 1, a =>
    match bestHead (a.d.heads.filter (fun h => !a.held.contains h.cand)) with
    | none => a
    | some h => (a.consider h).run k

/-! ### Carried steps and parked replays (R364, R611) -/

/-- R611: a unit holds a step that spans the boundary; a step admitted earlier that has not issued holds it too. -/
def Partition.carries (x : Partition) : Bool :=
  x.running.isSome || (x.replay.isSome && !x.parked) || !x.admitted.isEmpty

/-- The steps that run at the boundary become carried, and count once. -/
def Device.carrySteps (d : Device) : Device :=
  let d := (List.range 12).foldl (fun d p =>
    match (d.part p).running with
    | some s =>
      if s.carried then d
      else (d.modPart p (fun x => { x with running := some { s with carried := true } })).bump (prtOff p PRT_CARRY_COUNT) 1
    | none => d) d
  (d.groups.map (·.1)).foldl (fun d h =>
    match d.group? h with
    | some g =>
      if g.running && !g.carried then
        g.members.foldl (fun d s => d.bump (prtOff s PRT_CARRY_COUNT) 1) (d.modGroup h (fun g => { g with carried := true }))
      else d
    | none => d) d

/-- The units that take nothing at this intake. -/
def Device.busyUnits (d : Device) : List Nat :=
  (List.range 12).filter (fun p => (d.part p).carries) ++
    ((List.range 12).filter (fun s => (d.drone s).step.isSome ||
      d.groups.any (fun e => e.2.members.contains s && decide (e.2.nextStep < e.2.admitted)))).map (16 + ·)

/-- R364: a parked replay is admitted before anything else of its partition where it fits. -/
def Plan.unpark (a : Plan) (p : Nat) : Plan :=
  let x := a.d.part p
  match x.replay with
  | none => a
  | some s =>
    if !x.parked || Table.getD a.left p 0 < s.worst || x.fabric.halted || !a.d.jobAdmits s.job false ||
        (s.cut != 0 && (a.d.job s.job).suspend != .no) then
      { a with busy := if x.parked then p :: a.busy else a.busy }
    else
      let a := a.charge p s.worst 1
      { a with d := a.d.modPart p (fun x =>
                          { x with parked := false, replay := x.replay.map (fun s => { s with cut := 0 }) }), stops := Table.put a.stops p (s.image, s.stopId) }

/-- The stop that is to be ACTIVE on a partition, before this intake admits anything. -/
def Partition.plannedStop (x : Partition) : Option (Nat × Nat) :=
  match x.switch with
  | some w => some ((x.slot w.target).image, (x.slot w.target).stopId)
  | none => x.active.map (fun i => ((x.slot i).image, (x.slot i).stopId))

/-! ### Batches (R517, R533) -/

/-- The batch entry of a sequence, and the first row after it. The first pass of a speculative request, and the first after
a restart, feeds no guesses. -/
def Seq.batchEntry (q : Seq) (id first : Nat) : BatchEntry :=
  let k := if q.plainPass || q.guesses.length < q.specK then 0 else q.specK
  { seq := id, committed := q.committed, specK := k, firstRow := first, nextToken := q.nextToken,
    guesses := q.guesses.take k, pages := q.pages, scales := q.scales, prefixPages := q.prefixPages }

/-- The sequences that a batch takes, in order, while their rows stay within the bound and their number within 512. -/
def takeRows (d : Device) (job bound : Nat) : List Nat → Nat → Nat → List Nat
  | [], _, _ => []
  | id :: l, rows, n =>
    let r := 1 + (d.seq job id).specK
    if bound < rows + r || 512 ≤ n then [] else id :: takeRows d job bound l (rows + r) (n + 1)

/-- R533: at a pass boundary a group's batch is rebuilt. -/
def Device.rebuildBatch (d : Device) (h : Nat) : Device :=
  match d.group? h, d.image? h with
  | some g, some x =>
    if g.running || g.nextStep ≠ 0 || g.admitted ≠ 0 || g.members.any (fun s => (d.drone s).step.isSome) then d
    else
      let live := fun id => (d.seq g.job id).state == .decode && (d.seq g.job id).image == h
      let keep := (g.batch.map (·.seq)).filter live
      let wait := sortBy (fun a b => decide ((d.seq g.job a).level < (d.seq g.job b).level)) (g.tickets.filter live)
      let rows := keep.foldl (fun n id => n + 1 + (d.seq g.job id).specK) 0
      let add := takeRows d g.job x.rowBound wait rows keep.length
      let batch := ((keep ++ add).foldl (fun (acc : List BatchEntry × Nat) id =>
        let e := (d.seq g.job id).batchEntry id acc.2
        (acc.1 ++ [e], acc.2 + 1 + e.specK)) ([], 0)).1
      (d.modGroup h (fun g => { g with batch := batch, tickets := g.tickets.filter (fun t => live t && !add.contains t)
                                       passDone := false })).writeBatch h
  | _, _ => d

def Device.rebuildBatches (d : Device) : Device := (d.groups.map (·.1)).foldl (fun d h => d.rebuildBatch h) d

/-! ### Orders 6 and 7 of R602 -/

/-- R344: the steps that wait for admission: image and STEP_ID. -/
def Device.waitingSteps (d : Device) : List (Nat × Nat) := d.heads.map (fun h => (h.image, h.step.id))

def Device.frontIntakes (d : Device) : Device :=
  let w := d.waitingSteps
  (List.range 12).foldl (fun d p => d.frontIntake p w) d

/-- Action 7 of the intake of breath `n`: steps are admitted, and PRT_SCHED_LAST says how many. -/
def Device.admitSteps (d : Device) (n : Nat) : Device :=
  let busy := d.busyUnits
  let d := (List.range 12).foldl (fun d p => d.setReg (prtOff p PRT_FRONT_STATUS) 0) d.carrySteps
  let l := d.level
  let a : Plan :=
    { d := d, n := n, busy := busy
      left := (List.range 12).foldl (fun t p => Table.put (Table.put t p (d.fabricBudget l)) (16 + p) (d.droneBudget l)) []
      seen := [], used := [], count := []
      stops := (List.range 12).foldl (fun t p =>
        match (d.part p).plannedStop with | some s => Table.put t p s | none => t) [] }
  let a := d.heads.foldl (fun a h => if h.since = 0 then a.modHead h.cand (fun r => (n + 1, r.2)) else a) a
  let a := (List.range 12).foldl Plan.unpark a
  let a := Plan.run (64 * 24 + d.heads.length + 1) a
  (List.range 12).foldl (fun d p =>
    d.setReg (prtOff p PRT_SCHED_LAST)
      (min 255 (Table.getD a.count p 0) * 2 ^ 24 + min (2 ^ 24 - 1) (Table.getD a.used p 0))) a.d

end Sys2Proof.Machine
end

