-- ==== Sys2Proof/Machine/Save.lean ====
section
/-!
DEFINITION. Suspending and resuming a job (R628 to R639): the save area, save and restore steps, checkpoints.
-/
namespace Sys2Proof.Machine

/-! ### The save area (R628, R632 to R635) -/

/-- The memory key of a job's save area in the stack of partition `p`. -/
def Device.saveKey (d : Device) (j p : Nat) : Option Nat :=
  (d.areas.find? (fun a => a.stack == p && a.use == .save j)).map (fun a => memKey 1 (p * 0x1000000000 + a.base))

def saveInst (j p : Nat) : Nat := j * 16 + p
def Device.saved (d : Device) (j p : Nat) : Saved := Table.getD d.saves (saveInst j p) {}

/-- The partitions of a job's images. -/
def Device.imageParts (d : Device) (j : Nat) : List Nat :=
  (List.range 12).filter (fun p => (d.imagesOn p).any (fun e => e.1.job == j))

/-- R634: the T1 that the job's images on a partition reserve: offset, length. They follow one another in the order of the
images' handles (DESIGN CHOICE 34). -/
def Device.saveRegions (d : Device) (j p : Nat) : List (Nat × Nat) :=
  let own := ((d.imagesOn p).filter (fun e => e.1.job == j)).map (fun e => e.1.t1.getD e.2 0)
  ((own.foldl (fun (acc : List (Nat × Nat) × Nat) n => (acc.1 ++ [(acc.2, n)], acc.2 + n)) ([], 0)).1.filter
    (fun r => decide (0 < r.2))).take 64

def t1Linear (p off : Nat) : Nat := memKey 0 (p * 0x4000000 + off)

/-- R635: the 64 matching-store entries of a valve record: 545 token bits, input channel, age. -/
def Valve.entries (v : Valve) : List Byte :=
  padTo 6144 ((v.toks.filter (·.stored)).flatMap (fun t =>
    padTo 96 (leBytes 69 t.tok.vectorBits.toNat ++ leBytes 1 t.input ++ leBytes 4 t.age)))

/-- The anchor of the tile in a compute cell's ledgers. -/
def Cell.anchor (c : Cell) : Int :=
  match c.ledgerTag with
  | some t => ((c.ctxs.find? (fun x => x.tag == t)).bind (·.anchor)).getD 0
  | none => 0

/-- R633: a compute cell's part of the ledger image. -/
def Cell.ledgerImage (c : Cell) : List Byte :=
  let rows := (List.range 64).map (fun r => exportRow (fun i => Table.getD c.ledger (64 * r + i) LedgerLane.clear) c.anchor)
  rows.flatMap (fun row => (row.take 16).flatMap (fun v => leBytes 64 v.toNat)) ++
    rows.flatMap (fun row => (leBytes 64 (row.getD 16 0).toNat).take 32)

/-- R633: a lane read back from a cell's part of the ledger image. -/
def laneFrom (b : List Byte) (k : Nat) : LedgerLane :=
  let f := leAt b (65536 + 32 * (k / 64)) 24
  { val := BitVec.ofNat 128 (leAt b (16 * k) 16)
    nan := bitOf f (3 * (k % 64)), pinf := bitOf f (3 * (k % 64) + 1), ninf := bitOf f (3 * (k % 64) + 2) }

/-- The cell's ledgers and anchor as the bytes give them. -/
def Cell.withLedger (c : Cell) (b : List Byte) : Cell :=
  let a := signedOf 16 (leAt b (65536 + 24) 2)
  { c with ledger := Table.mapVals c.ledger (fun k _ => laneFrom b k)
           ctxs := c.ctxs.map (fun x => if some x.tag = c.ledgerTag then { x with anchor := x.anchor.map (fun _ => a) } else x) }

/-- The valve records of a partition; the bytes past the entries are the device's own (R635), free values. -/
def Device.valveImage (d : Device) (p : Nat) : List Byte × Device :=
  (sitesOf .valve).foldl (fun (acc : List Byte × Device) site =>
    let (n, d) := acc.2.fresh 16384
    (acc.1 ++ (d.valve p site).entries ++ leBytes 2048 n, d)) ([], d)

/-- The cut step of a partition, if it holds one. -/
def Partition.cutStep (x : Partition) : Option StepInst :=
  match x.replay with | some s => if s.cut = 0 then none else some s | none => none

/-- R634: slot states, ACTIVE_SLOT and EPOCH. -/
def Partition.slotBits (x : Partition) : Nat :=
  (List.range 4).foldl (fun n i => n + 2 ^ (3 * i) * (x.slot i).state.code) 0 + 2 ^ 12 * (x.active.getD 0) +
    2 ^ 14 * (x.epoch % 4)

/-- R634: the header; the CRC of the rest stands at byte 1,088. -/
def saveHeader (p j breath : Nat) (x : Partition) (valveCrc ledgerCrc : Nat) (regions : List (Nat × Nat × Nat)) :
    List Byte :=
  let cut := x.cutStep
  let b := padTo 64 (leBytes 4 0x56454153 ++ leBytes 2 1 ++ leBytes 1 p ++ leBytes 1 (bit cut.isSome) ++ leBytes 4 j ++
      leBytes 8 breath ++ leBytes 2 x.slotBits ++ leBytes 2 0 ++
      (List.range 4).flatMap (fun i => leBytes 4 (x.slot i).stopId) ++
      leBytes 4 (match cut with | some s => s.stepId | none => 0) ++
      leBytes 2 (match cut with | some s => s.cut | none => 0) ++ leBytes 2 regions.length ++ leBytes 4 valveCrc ++
      leBytes 4 ledgerCrc) ++
    padTo 1024 (regions.flatMap (fun r => leBytes 8 r.1 ++ leBytes 4 r.2.1 ++ leBytes 4 r.2.2))
  b ++ leBytes 4 (crc32c (padTo 4096 b)) ++ List.replicate 3004 0

/-- Bytes that the save of a partition holds (R632). -/
def Device.saveBytes (d : Device) (j p : Nat) (cut : Bool) : Nat :=
  4096 + 393216 + (if cut then 8650752 else 0) + (d.saveRegions j p).foldl (fun n r => n + r.2) 0

/-- A partition's save step: everything of R632 goes into the save area. -/
def Device.savePart (d : Device) (j p : Nat) : Device :=
  match d.saveKey j p with
  | none => d
  | some k =>
    let x := d.part p
    let (valves, d) := d.valveImage p
    let ledger := if x.cutStep.isSome then (sitesOf .compute).flatMap (fun site => (d.cell p site).ledgerImage) else []
    let regs := (d.saveRegions j p).map (fun r => (r, d.readBytes (t1Linear p r.1) r.2))
    let head := saveHeader p j d.breath x (crc32c valves) (if ledger.isEmpty then 0 else crc32c ledger)
      (regs.map (fun r => (r.1.1, r.1.2, crc32c r.2)))
    let d := ((d.writeBytes k head).writeBytes (k + 0x1000) valves).writeBytes (k + 0x61000) ledger
    let d := (regs.foldl (fun (acc : Device × Nat) r => (acc.1.writeBytes acc.2 r.2, acc.2 + r.1.2)) (d, k + 0x8A1000)).1
    { d with saves := Table.put d.saves (saveInst j p)
               { fabric := x.fabric, rings := x.rings, slots := x.slots, active := x.active, epoch := x.epoch,
                 replay := x.replay } }

/-! ### Checkpoints (R639) -/

/-- Only ledgers hold live state: compute cells keep contexts, with nothing unconsumed, and nothing else is occupied. -/
def Fabric.onlyLedgers (f : Fabric) : Bool :=
  f.bufs.all (fun e => e.2.isEmpty) && f.wires.all (fun e => e.2.isEmpty) && f.outs.all (fun e => e.2.isEmpty) &&
    f.cells.all (fun e =>
      e.2.valve.openTags.isEmpty && e.2.conv.isNone && e.2.vec.isNone && e.2.rowQueue.isEmpty && e.2.gens.isEmpty &&
        e.2.valve.toks.all (fun t => !t.stored) && e.2.ctxs.all (fun x => x.waiting.isEmpty) &&
        (e.2.ctxs.isEmpty || siteKind e.1 == .compute))

/-- A step that is admitted and not issued goes back to its chain, with the chain's later steps. -/
def Device.unadmit (d : Device) (s : StepInst) : Device :=
  let gone := (d.chainSteps s.chain).filter (fun e => decide (s.order ≤ e.2.order) &&
    (d.part e.1).admitted.any (fun t => t.uid == e.2.uid))
  let d := gone.foldl (fun d e =>
    (d.ringsDrop e.1 e.2.uid).modPart e.1 (fun x => { x with admitted := x.admitted.filter (fun t => t.uid != e.2.uid) })) d
  d.modChain s.chain (fun c => { c with next := c.next - gone.length })

/-- CHECKPOINT_CUT: a carried step under a pending suspension stands at its next checkpoint and only its ledgers are live:
it is cut; nothing admitted behind it stays admitted (DESIGN CHOICE 35). -/
def fxCheckpointCut (p : Nat) (d : Device) : Device :=
  let x := d.part p
  match x.running with
  | none => d
  | some s =>
    match d.checkpointOf p s with
    | none => d
    | some n =>
      if !decide (p < 12) || !d.cutDue p s || x.fabric.halted || !x.fabric.onlyLedgers || d.taken p ≠ 0 then d
      else
        let d := d.modPart p (fun x =>
          { x with running := none, parked := true, replay := some { s with cut := n, carried := false } })
        let later := (d.part p).admitted ++
          ((d.chainSteps s.chain).map (·.2)).filter (fun t => decide (s.order < t.order))
        later.foldl (fun d t => d.unadmit t) d

/-! ### Suspension (R629 to R636) -/

/-- JOB_SUSPEND (R629, R643, R644, R857). -/
def fxJobSuspend (o : Origin) (d : Device) : Device :=
  match d.startable o 0x7A with
  | none => d
  | some s =>
    let j := s.op 8 4
    let x := d.job j
    if s.op 1 1 ≠ 0 || s.aux ≠ 0 || !allZero (sliceOf s.entry 12 52) then (d.start s).complete s.cmd 0x0103 []
    else if x.state = .none then (d.start s).complete s.cmd 0x0301 []
    else if x.suspend ≠ .no then (d.start s).complete s.cmd 0x0302 []
    else if !x.state.settled then d
    else (d.start s).modJob j (fun x => { x with suspend := .suspending, cmd := some s.cmd })

/-- R629: nothing of the job is admitted, running or carried on a partition, its switches and loads have ended, and its
transfers have landed. -/
def Device.partQuiet (d : Device) (p : Nat) : Bool :=
  let x := d.part p
  x.running.isNone && x.admitted.isEmpty && (x.replay.isNone || x.cutStep.isSome) && x.switch.isNone && x.loads.isEmpty &&
    x.rings.all (fun e => e.2.fills.all (·.done) && e.2.outs.all (fun o => !(o.closed && o.committed))) &&
    (List.range 16).all (fun c => (d.mover (16 * p + c)).ringWork.isEmpty)

/-- The job's chains and passes that are under way have ended; a chain whose step was cut, or that waits behind one, stays. -/
def Device.jobQuiet (d : Device) (j : Nat) : Bool :=
  let parts := d.jobParts j
  parts.all (fun p => d.partQuiet p) &&
    (parts.any (fun p => (d.part p).cutStep.isSome) || d.chains.all (fun c => c.job != j || c.next == 0)) &&
    d.groups.all (fun e => e.2.job != j || (!e.2.running && e.2.nextStep == 0 && e.2.admitted == 0)) &&
    d.drones.all (fun e => match e.2.step with | some s => s.job != j | none => true)

/-- SAVE_STEP (R629 to R635): every partition of the job runs its save step at the same intake. -/
def fxSaveStep (j : Nat) (d : Device) : Device :=
  if (d.job j).suspend ≠ .suspending || !d.jobQuiet j then d
  else ((d.jobParts j).foldl (fun d p => d.savePart j p) d).modJob j (fun x => { x with suspend := .saving })

/-- SAVE_COMPLETE (R636): the saves have landed; the slots become EMPTY and the partitions are free. -/
def fxSaveComplete (j : Nat) (d : Device) : Device :=
  if (d.job j).suspend ≠ .saving then d
  else
    let parts := d.jobParts j
    let n := parts.foldl (fun n p => n + d.saveBytes j p (d.part p).cutStep.isSome) 0
    let d := parts.foldl (fun d p => d.modPart p (fun x =>
      { x with fabric := x.fabric.discard, rings := [], slots := [], active := none, replay := none, parked := false,
               front := [], job := 0 })) d
    let c := (d.job j).cmd
    (d.modJob j (fun x => { x with suspend := .saved, cmd := none })).completeOpt c 0 (valueOf n)

/-! ### Resumption (R637, R638) -/

/-- JOB_RESUME (R637, R643, R644). A job that faulted while it was saved takes its partitions and restarts instead. -/
def fxJobResume (o : Origin) (d : Device) : Device :=
  match d.startable o 0x7B with
  | none => d
  | some s =>
    let j := s.op 8 4
    let x := d.job j
    let parts := d.imageParts j
    let d := d.start s
    if s.op 1 1 ≠ 0 || s.aux ≠ 0 || !allZero (sliceOf s.entry 12 52) then d.complete s.cmd 0x0103 []
    else if x.state = .none then d.complete s.cmd 0x0301 []
    else if x.suspend ≠ .saved then d.complete s.cmd 0x0302 []
    else if parts.any (fun p => (d.part p).job != 0) then d.complete s.cmd 0x0303 []
    else
      let d := parts.foldl (fun d p => d.modPart p (fun x => { x with job := j })) d
      if x.state.settled then d.modJob j (fun x => { x with suspend := .resuming, cmd := some s.cmd })
      else
        let d := parts.foldl (fun d p => d.haltPart x.firstFault p) d
        (d.modJob j (fun x => { x with suspend := .no })).complete s.cmd x.firstFault []

/-- Whether every CRC of a partition's save agrees (R634, R637). -/
def Device.saveIntact (d : Device) (j p : Nat) : Bool :=
  match d.saveKey j p with
  | none => false
  | some k =>
    let h := d.readBytes k 4096
    let n := leAt h 46 2
    let regs := (List.range n).map (fun i => (leAt h (64 + 16 * i + 8) 4, leAt h (64 + 16 * i + 12) 4))
    leAt h 1088 4 == crc32c (patchBytes h 1088 (leBytes 4 0)) && leAt h 48 4 == crc32c (d.readBytes (k + 0x1000) 393216) &&
      (leAt h 7 1 % 2 == 0 || leAt h 52 4 == crc32c (d.readBytes (k + 0x61000) 8650752)) &&
      (regs.foldl (fun (acc : Bool × Nat) r => (acc.1 && r.2 == crc32c (d.readBytes acc.2 r.1), acc.2 + r.1))
        (true, k + 0x8A1000)).1

/-- A partition's restore step: T1, valves, ledgers and rings come back; its slots' stops are loaded again. -/
def Device.restorePart (d : Device) (j p : Nat) : Device :=
  match d.saveKey j p with
  | none => d
  | some k =>
    let v := d.saved j p
    let d := ((d.saveRegions j p).foldl (fun (acc : Device × Nat) r =>
      (acc.1.writeBytes (t1Linear p r.1) (acc.1.readBytes acc.2 r.2), acc.2 + r.2)) (d, k + 0x8A1000)).1
    let cut := match v.replay with | some s => s.cut != 0 | none => false
    let cells := Table.mapVals v.fabric.cells (fun site c =>
      if cut && siteKind site == .compute then
        c.withLedger (d.readBytes (k + 0x61000 + 67584 * recordIndex site) 67584) else c)
    let d := d.modPart p (fun x =>
      { x with fabric := { v.fabric with cells := cells, halted := x.fabric.halted }, rings := v.rings
               replay := v.replay, parked := v.replay.isSome })
    (v.slots : Table Slot).foldl (fun d e =>
      match e.2.state with
      | .failed => d.setSlot p e.1 e.2
      | .ready => reload d e
      | .active => reload d e
      | _ => d) d
where
  /-- The load of a slot's stop from where it stands. -/
  reload (d : Device) (e : Nat × Slot) : Device :=
    match (d.image? e.2.image).bind (fun x => x.stops.find? (fun r => r.id == e.2.stopId)) with
    | some r => d.modPart p (fun x => { x with loads := x.loads ++
        [{ slot := e.1, src := r.source, image := e.2.image, stopId := e.2.stopId, restart := true }] })
    | none => d

/-- RESTORE_STEP (R637, R639): every partition of the job runs its restore step at the same intake. -/
def fxRestoreStep (j : Nat) (d : Device) : Device :=
  if (d.job j).suspend ≠ .resuming then d
  else ((d.jobParts j).foldl (fun d p => d.restorePart j p) d).modJob j (fun x => { x with suspend := .restoring })

/-- RESTORE_COMPLETE (R637, R638): the CRCs agree and every stop stands in its slot again: ACTIVE_SLOT and EPOCH are
restored and the job runs. Else JOB_RESUME completes with the status and the job restarts. -/
def fxRestoreComplete (j : Nat) (d : Device) : Device :=
  let parts := d.jobParts j
  if (d.job j).suspend ≠ .restoring || parts.any (fun p => (d.part p).loads.any (·.restart)) then d
  else if !parts.all (fun p => d.saveIntact j p) then d.jobFault j { status := 0x0304, kind := 1 }
  else if parts.any (fun p => (d.saved j p).slots.any (fun e =>
      (e.2.state == .ready || e.2.state == .active) && d.slotState p e.1 != .ready)) then
    d.jobFault j { status := 0x1053, kind := 1 }
  else
    let d := parts.foldl (fun d p =>
      let v := d.saved j p
      d.modPart p (fun x =>
        { x with active := v.active, epoch := v.epoch
                 slots := match v.active with
                   | some a => Table.put x.slots a { x.slot a with state := .active }
                   | none => x.slots })) d
    let c := (d.job j).cmd
    let d := { d with saves := d.saves.filter (fun e => e.1 / 16 != j) }
    (d.modJob j (fun x => { x with suspend := .no, cmd := none })).completeOpt c 0 []

end Sys2Proof.Machine
end

