-- ==== Sys2Proof/Machine/HostPort.lean ====
section
/-!
DEFINITION. The host port and the management port's commands (R697, R698, R705 to R743): sessions, fetch and validation,
completion records and their messages, control commands and events, assignment and grants.
-/
namespace Sys2Proof.Machine

/-! ### Opcodes and authority (R705, R706, R730, R737) -/

/-- R737: the opcodes that are not reserved; the Drone operations stand in op lists only. -/
def knownOpcode (n : Nat) : Bool :=
  [0x00, 0x01, 0x02, 0x03, 0x04, 0x10, 0x11, 0x12, 0x13, 0x14, 0x20, 0x21, 0x22, 0x23, 0x30, 0x31, 0x32, 0x33, 0x34,
   0x40, 0x41, 0x42, 0x43, 0x44, 0x45, 0x46, 0x50, 0x51, 0x60, 0x68].contains n ||
    (decide (0x70 ≤ n) && decide (n ≤ 0x78)) || (decide (0x7A ≤ n) && decide (n ≤ 0x7E))

/-- R705: the port may post the opcode. -/
def Port.mayPost (p : Port) (n : Nat) : Bool :=
  match p with
  | .mgmt => true
  | .jtag => true
  | .pf => n != 0x21 && !(decide (0x7C ≤ n) && decide (n ≤ 0x7E))
  | .vf _ => n != 0x21 && decide (n < 0x70)
  | .twin => false

/-- R707, R711: the function that holds an event. -/
def Device.eventOwner (d : Device) (e : Nat) : Nat := Table.getD d.owners e 0

/-- R707: a tenant names only events of its own function. -/
def Device.mayEvent (d : Device) (p : Port) (e : Nat) : Bool :=
  match p with | .vf n => d.eventOwner e == n | .twin => false | _ => true

/-- R732, R738: the form of a control command. -/
def Device.checkControlEntry (d : Device) (port : Port) (e : List Byte) : Nat :=
  let op := leAt e 0 1
  let aux := leAt e 2 2
  let used := if op = 0x03 then 8 else if op = 0x04 then 4 else 0
  let evt := op == 0x03 || op == 0x04
  if leAt e 1 1 ≠ 0 || !allZero (sliceOf e (8 + used) (56 - used)) || (!evt && aux ≠ 0) || (evt && 2048 ≤ aux) then 0x0103
  else if evt && !d.mayEvent port aux then 0x0102
  else 0

/-- The checks of an entry at validation (R54, R730); 0 where it is staged. -/
def Device.validateEntry (d : Device) (port : Port) (e : List Byte) : Nat :=
  let op := leAt e 0 1
  if !knownOpcode op then 0x0101
  else if !port.mayPost op then 0x0102
  else if op = 0x00 || op = 0x01 || op = 0x03 || op = 0x04 then d.checkControlEntry port e
  else if op = 0x20 || op = 0x21 then d.checkMoveEntry (some port) e
  else if op = 0x02 || op = 0x22 || op = 0x23 then d.checkChannelEntry (some port) e
  else if op / 16 = 3 then d.checkQueueEntry (some port) e
  else if op / 16 = 4 then checkDroneEntry e
  else if op / 16 = 5 then checkMuteEntry e
  else if op = 0x60 then checkRangeEntry (some port) e
  else 0

/-! ### Instances and homes (R720, R729) -/

/-- The image that a Drone-range command names, or that of its sequence or prefix. -/
def Device.droneImage (d : Device) (port : Port) (e : List Byte) : Option Image :=
  let named := fun h => match d.resolveImage port h with | .image i _ => d.image? i | _ => none
  match leAt e 0 1 with
  | 0x40 => named (leAt e 48 4)
  | 0x44 => named (leAt e 20 4)
  | 0x45 => (Table.find? d.prefixes (leAt e 8 4)).bind (fun p => d.image? p.image)
  | _ => (d.findSeq port (leAt e 8 4)).bind (fun q => d.image? q.2.image)

def leastOf (l : List Nat) : Option Nat := minByKey id l

/-- The physical partition that an image or stop command names; none where its handle names none. -/
def Device.stopPart (d : Device) (port : Port) (e : List Byte) : Option Nat :=
  match leAt e 0 1 with
  | 0x10 => leastOf (mapOf (leAt e 24 6))
  | 0x11 => (d.image? (leAt e 8 4)).bind (fun x => leastOf x.parts)
  | 0x14 => (d.image? (leAt e 8 4)).bind (fun x => x.parts[leAt e 12 1]?)
  | _ => (d.findStop port (leAt e 8 4) (leAt e 12 4)).map (·.2)

/-- R729: the INSTANCE of an entry. -/
def Device.instanceOf (d : Device) (port : Port) (e : List Byte) : Nat :=
  let op := leAt e 0 1
  match op / 16 with
  | 0 => if op = 0x02 then leAt e 2 2 % 256 else 0
  | 1 => (d.stopPart port e).getD 0
  | 2 => if op = 0x21 then (192 + leAt e 2 2) % 256 else leAt e 2 2 % 256
  | 3 => leAt e 8 1
  | 4 => ((d.droneImage port e).bind (fun x => leastOf x.group)).getD 0
  | 6 => if op = 0x68 then 16 else if leAt e 30 1 = 255 then 0 else leAt e 30 1
  | _ => 0

/-- R720: the partition in whose staging region an entry is staged; 15 is the control complex, which also stages what
belongs to a partition that is not carved. -/
def Device.homeOf (d : Device) (port : Port) (e : List Byte) : Nat :=
  let op := leAt e 0 1
  let p := match op / 16 with
    | 1 => d.stopPart port e
    | 2 => if op = 0x21 || 192 ≤ leAt e 2 2 then none else some (leAt e 2 2 / 16)
    | 3 => some (leAt e 8 1)
    | 4 => (d.droneImage port e).bind (fun x => leastOf x.parts)
    | _ => none
  match p with
  | some p => if p < 12 && (d.qpart p).carved then p else 15
  | none => 15

/-- R720, R721: a staging word is free for the entry; at most 65,536 commands are staged while PAIRED (R788). -/
def Device.stagingRoom (d : Device) (o : Origin) (home : Nat) : Bool :=
  (if home = 15 then decide ((d.staged.filter (fun s => s.home == 15 && s.cmd.origin == o)).length < 64)
   else decide ((d.staged.filter (fun s => s.home == home)).length < (d.qpart home).staging)) &&
    (!d.mirroring || decide (d.staged.length < 65536))

/-! ### Staging an entry (R54, R719 to R721, R730, R787) -/

/-- An entry is validated, and refused or staged; none where it must wait for a staging word, or for a mirrored record. -/
def Device.takeEntry (d : Device) (o : Origin) (port : Port) (e : List Byte) (late : Bool) : Option Device :=
  let st := d.validateEntry port e
  let (u, d') := d.uid
  let c : CmdRef := { origin := o, port := port, uid := u, opcode := leAt e 0 1, flags := leAt e 1 1
                      tag := BitVec.ofNat 32 (leAt e 4 4), inst := d.instanceOf port e, late := late }
  if st ≠ 0 then some (d'.complete c st [])
  else
    let home := d.homeOf port e
    if !d.stagingRoom o home || (leAt e 0 1 == 0x40 && d.mirrorFull) then none
    else some { d' with staged := d'.staged ++ [{ cmd := c, entry := padTo 64 e, home := home }] }

/-! ### Sessions (R713 to R717) -/

def Device.session (d : Device) (s : Nat) : Session := Table.getD d.sessions s {}
def Device.setSession (d : Device) (s : Nat) (x : Session) : Device := { d with sessions := Table.put d.sessions s x }
def Device.modSession (d : Device) (s : Nat) (f : Session → Session) : Device := d.setSession s (f (d.session s))

/-- The port of a session's function. -/
def Session.port (x : Session) : Port := fnPort x.fn

/-- R708: the port reaches the session's record. -/
def Device.maySession (d : Device) (port : Port) (s : Nat) : Bool :=
  decide (s < 4096) && (match port with
    | .mgmt => true
    | .jtag => true
    | .pf => true
    | .vf n => (d.session s).fn == n
    | .twin => false)

/-- R716: a draining session whose last command has ended and whose last record is written is OFF. -/
def Device.sesSettle (d : Device) (s : Nat) : Device :=
  if (d.session s).state = .draining && !d.staged.any (fun t => t.cmd.origin == .session s) &&
      (Table.getD d.records s []).isEmpty then
    d.modSession s (fun x => { x with state := .off, silent := false })
  else d

/-- R717: a running session halts. -/
def Device.sesHalt (d : Device) (s err : Nat) : Device :=
  d.modSession s (fun x => if x.state = .running then { x with state := .halted, err := err, silent := x.silent || err == 3 }
                           else x)

/-- R715: a session is enabled; before DONE nothing happens (R802). -/
def Device.sesEnable (d : Device) (s : Nat) : Device :=
  if !d.boot.done || (d.session s).state ≠ .off then d
  else { d with records := Table.drop d.records s }.modSession s (fun x =>
    { x with enable := true, state := .running, err := 0, sqHead := 0, cqTail := 0, tail := 0, head := 0, phase := true,
             silent := false, quiet := false, owed := false })

/-- R716: a session is disabled: staged commands that have not started complete with CMD_ABORTED. -/
def Device.sesDisable (d : Device) (s : Nat) : Device :=
  let x := d.session s
  let d := d.modSession s (fun x => { x with enable := false })
  if x.state ≠ .running && x.state ≠ .halted then d
  else
    let d := d.modSession s (fun x => { x with state := .draining })
    let mine := d.staged.filter (fun t => t.cmd.origin == .session s && !t.started)
    (mine.foldl (fun d t => d.complete t.cmd 0x0104 []) d).sesSettle s

/-- R12: a field that takes values from `lo` to `hi`. -/
def keepField (old v lo hi : Nat) : Nat := if lo ≤ v && v ≤ hi then v else old

/-- A write of HUB_SES_CTRL (R713 to R716): the sizes are locked while ENABLE is 1 or STATE is not OFF. -/
def Device.sesCtrlWrite (d : Device) (port : Port) (s word : Nat) : Device :=
  if !d.maySession port s then d
  else
    let x := d.session s
    let d := if x.enable || x.state ≠ .off then d
      else d.setSession s { x with sqLog := keepField x.sqLog (bitsOf word 4 0) 6 16
                                   cqLog := keepField x.cqLog (bitsOf word 9 5) 6 16 }
    if bitOf word 31 then d.sesEnable s else d.sesDisable s

/-- SESSION_ENABLE: a write of HUB_SES_CTRL with ENABLE set (R715). -/
def fxSessionEnable (port : Port) (s word : Nat) (d : Device) : Device :=
  d.sesCtrlWrite port s (word % 2 ^ 31 + 2 ^ 31)

/-- SESSION_DISABLE: a write of HUB_SES_CTRL with ENABLE clear (R716). -/
def fxSessionDisable (port : Port) (s word : Nat) (d : Device) : Device := d.sesCtrlWrite port s (word % 2 ^ 31)

/-! ### Doorbells and fetch (R714, R717 to R721) -/

/-- SQ_TAIL_DOORBELL: function `fn` writes HUB_DB_SQ_TAIL of page `s` of its BAR2. -/
def fxSqTailDoorbell (fn s v : Nat) (d : Device) : Device :=
  let x := d.session s
  if x.fn ≠ fn || x.state ≠ .running || 4096 ≤ s then d
  else if 2 ^ x.sqLog ≤ v % 65536 then d.sesHalt s 1
  else d.setSession s { x with tail := v % 65536 }

/-- CQ_HEAD_DOORBELL: function `fn` writes HUB_DB_CQ_HEAD of page `s`. -/
def fxCqHeadDoorbell (fn s v : Nat) (d : Device) : Device :=
  let x := d.session s
  if x.fn ≠ fn || x.state = .off || 4096 ≤ s then d
  else if 2 ^ x.cqLog ≤ v % 65536 then d.sesHalt s 4
  else d.setSession s { x with head := v % 65536 }

/-- The entries of one fetch, one after another, until one must wait (R719, R721). -/
def Device.takeEntries (d : Device) (s : Nat) : List (List Byte) → Device
  | [] => d
  | e :: l =>
    let x := d.session s
    if x.state ≠ .running || x.sqHead = x.tail then d
    else match d.takeEntry (.session s) x.port e false with
      | none => d
      | some d => (d.modSession s (fun x => { x with sqHead := (x.sqHead + 1) % 2 ^ x.sqLog })).takeEntries s l

/-- ENTRY_FETCH: the host answers a read of up to 64 published entries from SQ_HEAD on; none is an error (R717, R719). -/
def fxEntryFetch (s : Nat) (data : Option (List Byte)) (d : Device) : Device :=
  let x := d.session s
  if x.state ≠ .running || x.sqHead = x.tail || !d.boot.done then d
  else match data with
    | none => d.sesHalt s 2
    | some b => (d.takeEntries s (chunksOf 64 (min 64 (b.length / 64)) b)).mirrorSend

/-! ### Completion records (R722 to R726) -/

/-- R723: the completion ring is full. -/
def Session.cqFull (x : Session) : Bool := (x.cqTail + 1) % 2 ^ x.cqLog == x.head

/-- Writes up to `n` records at CQ_TAIL with the phase; says how many were written. -/
def Device.writeRecords (d : Device) (s : Nat) : Nat → Device × Nat
  | 0 => (d, 0)
  | n + 1 =>
    match Table.getD d.records s [] with
    | [] => (d, 0)
    | r :: l =>
      let x := d.session s
      let d' := { d with records := Table.put d.records s l }
      if x.silent then d'.writeRecords s n
      else if x.cqFull then (d, 0)
      else
        let d' := d'.hostOut (.hostWrite x.fn (BitVec.ofNat 64 (x.cqBase + 16 * x.cqTail)) (r.bytes (bit x.phase)))
        let t := (x.cqTail + 1) % 2 ^ x.cqLog
        let r := (d'.setSession s { x with cqTail := t, phase := if t = 0 then !x.phase else x.phase }).writeRecords s n
        (r.1, r.2 + 1)

/-- R726: one message after a group of records, held back within the holdoff. -/
def Device.sesMessage (d : Device) (s : Nat) : Device :=
  let x := d.session s
  if !x.irq then d
  else if x.quiet then d.setSession s { x with owed := true }
  else (d.setSession s { x with quiet := decide (0 < x.holdoff), owed := false }).msix x.fn x.vector

/-- COMPLETION_RECORD_WRITE: up to `n` waiting records of a session are written together; `fail`: the host refuses the
write (R717). -/
def fxCompletionRecordWrite (s n : Nat) (fail : Bool) (d : Device) : Device :=
  if (d.session s).state = .off then { d with records := Table.drop d.records s }
  else if fail && !(Table.getD d.records s []).isEmpty && (d.session s).state = .running then d.sesHalt s 3
  else
    let (d, k) := d.writeRecords s n
    (if k = 0 then d else d.sesMessage s).sesSettle s

/-- MSIX_HOLDOFF_EXPIRY (R726). -/
def fxMsixHoldoffExpiry (s : Nat) (d : Device) : Device :=
  let x := d.session s
  if !x.quiet then d
  else if x.owed then (d.setSession s { x with quiet := decide (0 < x.holdoff), owed := false }).msix x.fn x.vector
  else d.setSession s { x with quiet := false }

/-! ### Control commands and events (R732 to R735) -/

/-- NOP. -/
def fxNop (o : Origin) (d : Device) : Device := d.run o 0x00 (fun s d => d.complete s.cmd 0 [])

/-- Every earlier command of the origin has completed. -/
def Device.earlierDone (d : Device) (c : CmdRef) : Bool :=
  d.staged.all (fun t => t.cmd.origin != c.origin || decide (c.uid ≤ t.cmd.uid))

/-- FENCE: completes when every earlier command of the session has. -/
def fxFence (o : Origin) (d : Device) : Device :=
  match d.startable o 0x01 with
  | some s => if d.earlierDone s.cmd then (d.start s).complete s.cmd 0 [] else d
  | none => d

/-- R732: the event of a WAIT_EVENT has reached its threshold. -/
def Device.eventReached (d : Device) (s : Staged) : Bool :=
  decide ((d.eventCount s.aux + 2 ^ 32 - s.op 8 4) % 2 ^ 32 < 2 ^ 31)

/-- R734: the started WAIT_EVENTs that are satisfied complete. -/
def Device.wakeEvents (d : Device) : Device :=
  (d.staged.filter (fun s => s.cmd.opcode == 0x03 && s.started && d.eventReached s)).foldl (fun d s =>
    d.complete s.cmd 0 (leBytes 4 (d.eventCount s.aux))) d

/-- WAIT_EVENT: starts, and completes once its event is at its threshold. -/
def fxWaitEvent (o : Origin) (d : Device) : Device :=
  (match d.startable o 0x03 with | some s => d.start s | none => d).wakeEvents

/-- WAIT_EVENT_TIMEOUT: the TIMEOUT_US of the origin's waiting WAIT_EVENT passes. -/
def fxWaitEventTimeout (o : Origin) (d : Device) : Device :=
  match d.startedOp o 0x03 with
  | some s => if s.op 12 4 = 0 then d else d.complete s.cmd 0x0105 (leBytes 4 (d.eventCount s.aux))
  | none => d

/-- SIGNAL: once every earlier command of the session has completed it adds to the count. -/
def fxSignal (o : Origin) (d : Device) : Device :=
  match d.startable o 0x04 with
  | none => d
  | some s =>
    if !d.earlierDone s.cmd then d
    else
      let d := (d.start s).addEvent s.aux (s.op 8 4)
      (d.complete s.cmd 0 (leBytes 4 (d.eventCount s.aux))).wakeEvents

/-- HUB_EVT_COUNT_WRITE: a write of the selected event's count (R735). -/
def fxHubEvtCountWrite (port : Port) (v : Nat) (d : Device) : Device :=
  let e := bitsOf (d.portReg port HUB_EVT_SEL) 10 0
  if !d.mayEvent port e then d else (d.setReg (regKey HUB_EVT_COUNT e) v).wakeEvents

/-! ### Assignment and grants (R709 to R712) -/

/-- PART_ASSIGN (R709, R710). -/
def fxPartAssign (o : Origin) (d : Device) : Device :=
  d.run o 0x77 (fun s d =>
    let p := s.op 8 1
    let f := s.op 9 1
    let st := s.op 12 4
    let lk := s.op 16 4
    if s.op 1 1 ≠ 0 || s.aux ≠ 0 || s.op 10 2 ≠ 0 || !allZero (sliceOf s.entry 20 44) || 11 < p || (63 < f && f ≠ 255) ||
        st % 4 ≠ 0 || st < 4 || 2048 < st || (lk ≠ 0 && (lk % 64 ≠ 0 || lk < 128 || 2048 < lk)) then
      d.complete s.cmd 0x0103 []
    else if (d.part p).job ≠ 0 || !(d.imagesOn p).isEmpty then d.complete s.cmd 0x0107 []
    else (d.modPart p (fun x => { x with owner := f, staging := st, lull := lk })).complete s.cmd 0 [])

/-- R711, R712: a grant of a run of sessions, events or routes. -/
def Device.grantRun (d : Device) (kind f first n : Nat) : Except Nat Device :=
  let top := if kind = 0 then 4096 else if kind = 1 then 2048 else 64
  let ids := (List.range n).map (first + ·)
  if top < first + n then .error 0x0103
  else match kind with
    | 0 =>
      if ids.any (fun i => (d.session i).state != .off) then .error 0x0106
      else .ok (ids.foldl (fun d i => d.modSession i (fun x => { x with fn := f })) d)
    | 1 =>
      if ids.any (fun i => d.staged.any (fun s => s.cmd.opcode == 0x03 && s.started && s.aux == i)) then .error 0x0106
      else .ok { d with owners := ids.foldl (fun t i => Table.put t i f) d.owners }
    | _ =>
      if ids.any (fun i => (d.routeCfg i).valid) then .error 0x0106
      else .ok { d with owners := ids.foldl (fun t i => Table.put t (4096 + i) f) d.owners }

/-- R712: the range of a window breaks R52, or its ACCESS is none of R711's. -/
def Device.windowBad (d : Device) (access base n : Nat) : Bool :=
  (access != 1 && access != 3) || decide (2 ^ 53 ≤ n) || (n != 0 && !d.mapped base n)

/-- FUNC_GRANT (R711, R712). A removed window takes BYTES 0. -/
def fxFuncGrant (o : Origin) (d : Device) : Device :=
  d.run o 0x78 (fun s d =>
    let kind := s.op 8 1
    let f := s.op 9 1
    let malformed := s.op 1 1 ≠ 0 || s.aux ≠ 0 || 3 < kind || 63 < f ||
      (if kind = 3 then !allZero (sliceOf s.entry 12 4) || !allZero (sliceOf s.entry 32 32) || decide (15 < s.op 10 1)
       else s.op 10 2 ≠ 0 || !allZero (sliceOf s.entry 20 44))
    if malformed then d.complete s.cmd 0x0103 []
    else if kind = 3 then
      let k := 16 * f + s.op 10 1
      let n := s.op 24 8
      if d.windowBad (s.op 11 1) (s.op 16 8) n then d.complete s.cmd 0x0103 []
      else
        let g : Table Window := if n = 0 then Table.drop d.grants k
          else Table.put d.grants k { base := s.op 16 8, bytes := n, write := s.op 11 1 == 3 }
        ({ d with grants := g } : Device).complete s.cmd 0 []
    else match d.grantRun kind f (s.op 12 4) (s.op 16 4) with
      | .error st => d.complete s.cmd st []
      | .ok d => d.complete s.cmd 0 [])

/-! ### Function-level resets (R697, R698, R820) -/

/-- A function's copies of the per-port registers return to their reset values. -/
def Device.resetPortRegs (d : Device) (port : Port) : Device :=
  { d with regs := List.filter (fun e : Nat × Nat => !(e.1 / 2 ^ 26 == port.key + 1 &&
      (match descAt (e.1 % 2 ^ 26) with | some r => r.copies | none => false))) d.regs }

/-- A request ends as CANCEL would end it. -/
def Device.cancelRequest (d : Device) (k : Nat) : Device :=
  match Table.find? d.seqs k with
  | some q => d.cancelSeq (k / 16384) (k % 16384) q
  | none => d

/-- R697: every session of the function is disabled with no record written, its requests end, its registers are reset. -/
def Device.resetFunction (d : Device) (fn : Nat) : Device :=
  let mine := ((d.sessions.filter (fun e => e.2.fn == fn && e.2.state != .off)).map (·.1))
  let d := mine.foldl (fun d s => (d.modSession s (fun x => { x with silent := true })).sesDisable s) d
  let reqs := (d.seqs.filter (fun e => match e.2.cmd with
    | some c => mine.any (fun s => c.origin == .session s)
    | none => false)).map (·.1)
  (reqs.foldl (fun d k => d.cancelRequest k) d).resetPortRegs (fnPort fn)

/-- FUNCTION_LEVEL_RESET of a virtual function, or its move from D3hot to D0 (R697). -/
def fxFunctionLevelReset (fn : Nat) (d : Device) : Device :=
  if fn = 0 || 63 < fn || !d.pcie.vfEnable then d else d.resetFunction fn

/-- The physical function's reset: VF Enable clears and every virtual function is reset (R698). -/
def Device.resetPf (d : Device) : Device :=
  let d := (List.range 64).foldl (fun d f => d.resetFunction f) d
  { d with pcie := { d.pcie with vfEnable := false } }

/-- PF_FUNCTION_LEVEL_RESET. -/
def fxPfFunctionLevelReset (d : Device) : Device := d.resetPf

/-- PERST_OR_HOT_RESET: link and configuration space reset as by R698; nothing else is cleared (R820). -/
def fxPerstOrHotReset (d : Device) : Device := { d.resetPf with pcie := {} }

/-! ### The management port (R741, R742, R833) -/

/-- R833: a message of the bus owner. -/
def Device.rmHeard (d : Device) : Device := d.setRegField PMU_STATUS 27 27 0

/-- The record of an answer that is no command's final one. -/
def Device.answer (d : Device) (e : List Byte) (status : Nat) (progress : Bool) : Device :=
  let r : Record := { uid := 0, tag := BitVec.ofNat 32 (leAt e 4 4), status := BitVec.ofNat 16 status, opcode := leAt e 0 1
                      inst := d.instanceOf .mgmt e, value := [], progress := progress }
  d.emit (.mctp 0x7E (0x81 :: r.bytes 0))

/-- RENAIHEL_REQUEST: one command entry over the management port (R741, R742). `slow`: the command does not complete within
100 µs, so an acceptance record answers it and its final record follows. -/
def fxRenaihelRequest (entry : List Byte) (slow : Bool) (d : Device) : Device :=
  let d := d.rmHeard
  if 16 ≤ (d.staged.filter (fun s => s.cmd.origin == .mgmt)).length then d.answer entry 0x0108 false
  else
    let refused := d.validateEntry .mgmt entry != 0
    match d.takeEntry .mgmt .mgmt entry (slow && !refused) with
    | none => d.answer entry 0x0108 false
    | some d' => if slow && !refused then d'.answer entry 0 true else d'

end Sys2Proof.Machine
end

