-- ==== Sys2Proof/Machine/Power.lean ====
section
/-!
DEFINITION. The power manager (R825 to R834, R837): the demands on the clock level, the cap, heat and droop, the rack's
alerts.
-/
namespace Sys2Proof.Machine

/-! ### Events and the clock level (R826, R827, R834) -/

/-- R834: an event becomes set, and raises the physical function's vector. -/
def Device.pmuEvent (d : Device) (i : Nat) : Device :=
  if d.regField PMU_EVENTS i i = 1 then d
  else
    let d := d.raise PMU_EVENTS i
    if d.regField PMU_IRQ 31 31 = 1 then d.msix 0 (d.regField PMU_IRQ 10 0) else d

/-- A demand of level 12 within 20 µs stands. -/
def Power.urgent (x : Power) : Bool := x.droop || x.emergency || x.shelf || x.cool

/-- R826: the highest level that a demand asks for. -/
def Device.demandLevel (d : Device) : Nat :=
  if d.power.urgent then 12 else max (d.regField PMU_STATUS 15 12) (d.regField PMU_STATUS 11 8)

/-- R826: level `l` comes into force. -/
def Device.setLevel (d : Device) (l : Nat) : Device :=
  (((d.setRegField PMU_STATUS 19 16 l).setRegField PMU_STATUS 29 29 (bit d.power.urgent)).setReg PMU_FCLK_KHZ
    (1900000 * (20 - l) / 20)).setReg PMU_DCLK_KHZ (1200000 * (20 - l) / 20)

/-- R827: a demand of level 12 is met at once. -/
def Device.urgentLevel (d : Device) : Device := d.setLevel 12

/-- One step of the cap demand and of the throttle demand at a breath start, `us` µs after the last (R829, R831). -/
def Device.stepDemands (d : Device) (us : Nat) : Device :=
  let x := d.power
  let cap := d.regField PMU_CAP 11 0
  let cl := d.regField PMU_STATUS 15 12
  let capAge := min 100000 (x.capAge + us)
  let above := cap ≠ 0 && decide (cap < x.watts)
  let cl' := if cap = 0 then 0
    else if above && decide (1000 ≤ capAge) then min 12 (cl + 1)
    else if decide (10 ≤ x.capBelow) then cl - 1 else cl
  let tj := d.regField PMU_STATUS 7 0
  let tl := d.regField PMU_STATUS 11 8
  let thermAge := min 100000 (x.thermAge + us)
  let tl' := if 100 ≤ tj && decide (1000 ≤ thermAge) then min 12 (tl + 1)
    else if tj < 97 && decide (10000 ≤ thermAge) then tl - 1 else tl
  let d := { d with power := { x with capAge := if cl' = cl then capAge else 0, thermAge := if tl' = tl then thermAge else 0
                                      capBelow := if cl' < cl then 0 else x.capBelow } }
  let d := ((d.setRegField PMU_STATUS 15 12 cl').setRegField PMU_STATUS 11 8 tl').setRegField PMU_STATUS 28 28
    (bit (above && cl' == 12))
  if tl < tl' then (d.bump PMU_THROTTLE_COUNT 1).pmuEvent 1 else d

/-- What the power manager applies at a breath start (R827 to R831): a new cap, a lapsed droop, the stepped demands; the level
may fall here and nowhere else. -/
def Device.powerBreath (d : Device) (us : Nat) : Device :=
  let x := d.power
  let d := match x.nextCap with | some w => d.setRegField PMU_CAP 11 0 w | none => d
  let d := { d with power := { x with nextCap := none, droop := x.droop && !x.droopEnds, droopEnds := false } }
  let d := d.stepDemands us
  d.setLevel d.demandLevel

/-! ### Droop, heat, power, alerts (R828 to R833) -/

/-- VIN_DROOP. -/
def fxVinDroop (d : Device) : Device :=
  (({ d with power := { d.power with droop := true, droopEnds := false } }.bump PMU_DROOP_COUNT 1).pmuEvent 0).urgentLevel

/-- DROOP_LAPSE: VIN has stayed above THRESH_MV + 400 mV for 1 ms. -/
def fxDroopLapse (d : Device) : Device := { d with power := { d.power with droopEnds := d.power.droop } }

/-- TJ_SAMPLE: the hottest Tj in °C, every 100 µs (R829). -/
def fxTjSample (tj : Nat) (d : Device) : Device :=
  let d := d.setRegField PMU_STATUS 7 0 (min 255 tj)
  if 105 ≤ tj && !d.power.emergency then
    (({ d with power := { d.power with emergency := true } }.bump PMU_EMERG_COUNT 1).pmuEvent 1).urgentLevel
  else if tj < 100 then { d with power := { d.power with emergency := false } }
  else d

/-- THERMTRIP: Tj is at 115 °C or more: THERMTRIP_N goes low, every clock stops (R830). -/
def fxThermtrip (d : Device) : Device :=
  ({ d with supplies := { d.supplies with tripped := true } }.setRegField PMU_STATUS 31 30 2).emit (.land 67 false)

/-- POWER_AVERAGE: the input power of the last 1 ms, in W (R831). -/
def fxPowerAverage (watts : Nat) (d : Device) : Device :=
  let cap := d.regField PMU_CAP 11 0
  let low := cap ≠ 0 && decide (100 * watts < 95 * cap)
  { d with power := { d.power with watts := watts, capBelow := if low then d.power.capBelow + 1 else 0 } }

/-- POWER_CAP (R831). -/
def fxPowerCap (o : Origin) (d : Device) : Device :=
  d.run o 0x7E (fun s d =>
    let w := s.op 8 2
    if s.op 1 1 ≠ 0 || s.aux ≠ 0 || !allZero (sliceOf s.entry 10 54) then d.complete s.cmd 0x0103 []
    else if w ≠ 0 && (w < 800 || 3200 < w) then d.complete s.cmd 0x0203 []
    else ({ d with power := { d.power with nextCap := some w } } : Device).complete s.cmd 0 [])

/-- ALERT_ASSERT: SHELF_ALERT_N (or COOL_ALERT_N where `cool`) goes low (R832). -/
def fxAlertAssert (cool : Bool) (d : Device) : Device :=
  let x := d.power
  let d := { d with power := if cool then { x with cool := true, coolLow := true } else { x with shelf := true, shelfLow := true } }
  (d.pmuEvent (if cool then 3 else 2)).urgentLevel

/-- ALERT_DEASSERT: the land rises; the demand stands for 10 ms more. -/
def fxAlertDeassert (cool : Bool) (d : Device) : Device :=
  let x := d.power
  { d with power := if cool then { x with coolLow := false } else { x with shelfLow := false } }

/-- ALERT_RELEASE_EXPIRY: the 10 ms have passed with the land high. -/
def fxAlertReleaseExpiry (cool : Bool) (d : Device) : Device :=
  let x := d.power
  { d with power := if cool then { x with cool := x.coolLow } else { x with shelf := x.shelfLow } }

/-- RM_TIMEOUT: no message of the rack manager for TIMEOUT_S (R833). -/
def fxRmTimeout (d : Device) : Device := (d.setRegField PMU_STATUS 27 27 1).pmuEvent 4

end Sys2Proof.Machine
end

