-- ==== Sys2Proof/Machine/Fec.lean ====
section
/-!
DEFINITION. The forward error correction of a Plovlink block (R745): four interleaved RS(224,208) codewords over GF(2^8).
-/
namespace Sys2Proof.Machine

/-! ### The field: x^8 + x^4 + x^3 + x^2 + 1 -/

/-- One doubling in GF(2^8). -/
def gfDouble (a : Nat) : Nat := if 128 ≤ a then Nat.xor (2 * a) 0x11D else 2 * a

def gfMulAux : Nat → Nat → Nat → Nat
  | 0, _, _ => 0
  | n + 1, a, b => Nat.xor (if b % 2 = 1 then a else 0) (gfMulAux n (gfDouble a) (b / 2))

/-- The product in GF(2^8). -/
def gfMul (a b : Nat) : Nat := gfMulAux 8 a b

/-- α^n. -/
def gfPow : Nat → Nat
  | 0 => 1
  | n + 1 => gfDouble (gfPow n)

/-- The inverse of a non-zero element: its 254th power. -/
def gfInv (a : Nat) : Nat := iter (gfMul a) 253 a

/-! ### Polynomials, lowest coefficient first -/

def polyAdd : List Nat → List Nat → List Nat
  | [], q => q
  | p, [] => p
  | a :: p, b :: q => Nat.xor a b :: polyAdd p q

def polyScale (k : Nat) (p : List Nat) : List Nat := p.map (gfMul k)

def polyMul (p q : List Nat) : List Nat :=
  match p with
  | [] => []
  | a :: p => polyAdd (polyScale a q) (0 :: polyMul p q)

def polyEval (p : List Nat) (x : Nat) : Nat := p.foldr (fun c acc => Nat.xor c (gfMul x acc)) 0

/-- The generator, with roots α^0 to α^15. -/
def rsGenerator : List Nat := (List.range 16).foldl (fun g i => polyMul [gfPow i, 1] g) [1]

/-- A step of the division by the generator: `r` holds the remainder's 16 coefficients, highest first. -/
def rsStep (g : List Nat) (r : List Nat) (c : Nat) : List Nat :=
  let f := Nat.xor c (r.headD 0)
  List.zipWith (fun a b => Nat.xor a (gfMul f b)) (r.drop 1 ++ [0]) g

/-- The 16 parity symbols of 208 data symbols, the first symbol being the highest coefficient. -/
def rsParity (d : List Nat) : List Nat :=
  d.foldl (rsStep ((rsGenerator.take 16).reverse)) (List.replicate 16 0)

/-! ### Decoding -/

/-- The value of a codeword, highest coefficient first, at x. -/
def wordAt (w : List Nat) (x : Nat) : Nat := w.foldl (fun acc c => Nat.xor c (gfMul x acc)) 0

def rsSyndromes (w : List Nat) : List Nat := (List.range 16).map (fun j => wordAt w (gfPow j))

/-- The state of the Berlekamp-Massey iteration: locator, previous locator, length, shift, last discrepancy. -/
structure Massey where
  loc : List Nat := [1]
  old : List Nat := [1]
  len : Nat := 0
  shift : Nat := 1
  last : Nat := 1
  deriving DecidableEq, Repr

def Massey.step (s : List Nat) (m : Massey) (n : Nat) : Massey :=
  let d := (List.range (m.len + 1)).foldl (fun acc i => Nat.xor acc (gfMul (m.loc.getD i 0) (s.getD (n - i) 0))) 0
  if d = 0 then { m with shift := m.shift + 1 }
  else
    let k := gfMul d (gfInv m.last)
    let loc := polyAdd m.loc (List.replicate m.shift 0 ++ polyScale k m.old)
    if 2 * m.len ≤ n then { loc := loc, old := m.loc, len := n + 1 - m.len, shift := 1, last := d }
    else { m with loc := loc, shift := m.shift + 1 }

/-- The derivative of a polynomial in characteristic 2. -/
def polyDeriv (p : List Nat) : List Nat := (p.drop 1).mapIdx (fun i c => if i % 2 = 0 then c else 0)

/-- A codeword of 224 symbols corrected: the symbols, and how many were in error; none where it has more than 8 errors. -/
def rsDecode (w : List Nat) : Option (List Nat × Nat) :=
  let s := rsSyndromes w
  if s.all (· == 0) then some (w, 0)
  else
    let m := (List.range 16).foldl (Massey.step s) {}
    let inv := fun e : Nat => gfPow ((255 - e) % 255)
    let places := (List.range 224).filter (fun e => polyEval m.loc (inv e) == 0)
    if 8 < m.len || places.length ≠ m.len then none
    else
      let om := (polyMul s m.loc).take 16
      let dv := polyDeriv m.loc
      let fix := fun (e c : Nat) =>
        if places.contains e then
          Nat.xor c (gfMul (gfPow e) (gfMul (polyEval om (inv e)) (gfInv (polyEval dv (inv e)))))
        else c
      let r := w.mapIdx (fun i c => fix (223 - i) c)
      if (rsSyndromes r).all (· == 0) then some (r, places.length) else none

/-! ### Blocks (R745) -/

/-- Symbols of codeword `c` of a wire block: wire byte i belongs to codeword i mod 4. -/
def codewordOf (b : List Byte) (c n : Nat) : List Nat := (List.range n).map (fun i => ((b.drop (4 * i + c)).headD 0).toNat)

/-- Four codewords interleaved. -/
def interleave (ws : List (List Nat)) (n : Nat) : List Byte :=
  (List.range n).flatMap (fun i => ws.map (fun w => BitVec.ofNat 8 (w.getD i 0)))

/-- The 896 bytes of a block, before the scrambler. -/
def wireBlock (data : List Byte) : List Byte :=
  data ++ interleave ((List.range 4).map (fun c => rsParity (codewordOf data c 208))) 16

/-- The 832 data bytes of a received block and the symbols corrected; none where a codeword cannot be corrected. -/
def unwireBlock (b : List Byte) : Option (List Byte × Nat) :=
  if b.length ≠ 896 then none
  else
    let ds := (List.range 4).map (fun c => rsDecode (codewordOf b c 224))
    if ds.any (·.isNone) then none
    else
      let ws := ds.filterMap id
      some (interleave (ws.map (·.1)) 208, (ws.map (·.2)).foldl (· + ·) 0)

end Sys2Proof.Machine
end

