-- ==== Sys2Proof/Machine/ConfigStore.lean ====
section
/-!
DEFINITION. The flash: firmware slots and the standing configuration (R799, R800, R805, R807 to R812), and the CFG_STORE
commands.
-/
namespace Sys2Proof.Machine

/-! ### Configuration slots (R805, R807 to R809) -/

/-- R807: LENGTH of a configuration. -/
def cfgLength (b : List Byte) : Nat := leAt b 12 4
def cfgVersion (b : List Byte) : Nat := leAt b 8 4

/-- R807: MAGIC, FORMAT, LENGTH and CRC are correct. -/
def cfgIntact (b : List Byte) : Bool :=
  let n := cfgLength b
  leAt b 0 4 == 0x47464343 && leAt b 4 2 == 1 && decide (64 ≤ n) && decide (n ≤ 1048576) && decide (n ≤ b.length) &&
    leAt b 20 4 == crc32c (patchBytes (patchBytes (b.take n) 16 [0, 0]) 20 [0, 0, 0, 0])

/-- The records of a configuration from offset `o` on: KEY and value. -/
def cfgRecords (b : List Byte) : Nat → Nat → List (Nat × List Byte)
  | 0, _ => []
  | fuel + 1, o =>
    if cfgLength b ≤ o then []
    else
      let n := leAt b (o + 2) 2
      (leAt b o 2, sliceOf b (o + 4) n) :: cfgRecords b fuel (o + 4 + (n + 3) / 4 * 4)

def cfgList (b : List Byte) : List (Nat × List Byte) := cfgRecords b (cfgLength b / 4) 64

/-- R808: a known key. -/
def cfgKnown (k : Nat) : Bool := decide (1 ≤ k) && decide (k ≤ 11)

/-- R808: the value of a known key. DOMAIN has 20 bytes; the length of the others is not given (DESIGN CHOICE 37). -/
def cfgFits (k : Nat) (v : List Byte) : Bool :=
  let n := leNat v
  decide (1 ≤ v.length) &&
  match k with
  | 2 => decide (n ≤ 1)
  | 3 => decide (200 ≤ n) && decide (n ≤ 10000)
  | 4 => n == 0 || (decide (800 ≤ n) && decide (n ≤ 3200))
  | 5 => v.length == 20
  | 7 => decide (20 ≤ bitsOf n 11 0) && decide (bitsOf n 11 0 ≤ 4000) && bitsOf n 17 16 != 3
  | 8 => decide (10600 ≤ n) && decide (n ≤ 11600)
  | 9 => decide (5 ≤ n) && decide (n ≤ 3600)
  | 10 => decide (n < 2 ^ 17)
  | 11 => decide (30 ≤ bitsOf n 7 0) && decide (bitsOf n 7 0 ≤ 40) && decide (28 ≤ bitsOf n 15 8) && decide (bitsOf n 15 8 ≤ 36)
  | _ => decide (n < 2 ^ 32)

/-- R808: the default of a key. -/
def cfgDefaultOf (k : Nat) : Nat :=
  match k with
  | 1 => 0x00001F3C
  | 3 => 1000
  | 7 => 100
  | 8 => 11000
  | 9 => 30
  | 10 => 0x1FFFF
  | 11 => 36 + 256 * 32
  | _ => 0

/-- R808, R809: the value of a key that a configuration gives. -/
def cfgGet (b : List Byte) (k : Nat) : Nat :=
  match (cfgList b).find? (fun r => r.1 == k) with
  | some r => if cfgFits k r.2 then leNat r.2 else cfgDefaultOf k
  | none => cfgDefaultOf k

/-- R805: a slot that may be chosen. -/
def CfgSlot.valid (s : CfgSlot) : Bool := cfgIntact s.bytes && !s.revoked
def CfgSlot.version (s : CfgSlot) : Nat := cfgVersion s.bytes
def FwSlot.valid (s : FwSlot) : Bool := s.good && !s.revoked

/-- R805: the slot chosen of A and B: true is B; none where neither is valid. -/
def chooseSlot (validA validB : Bool) (a b : Nat) : Option Bool :=
  if validA && validB then some (decide (a < b)) else if validA then some false else if validB then some true else none

def Boot.cfgChoice (x : Boot) : Option Bool := chooseSlot x.cfgA.valid x.cfgB.valid x.cfgA.version x.cfgB.version
def Boot.fwChoice (x : Boot) : Option Bool := chooseSlot x.fwA.valid x.fwB.valid x.fwA.version x.fwB.version
def Boot.cfg (x : Boot) (b : Bool) : CfgSlot := if b then x.cfgB else x.cfgA
def Boot.fw (x : Boot) (b : Bool) : FwSlot := if b then x.fwB else x.fwA
def Boot.setCfg (x : Boot) (b : Bool) (s : CfgSlot) : Boot := if b then { x with cfgB := s } else { x with cfgA := s }
def Boot.setFw (x : Boot) (b : Bool) (s : FwSlot) : Boot := if b then { x with fwB := s } else { x with fwA := s }

/-- The standing configuration in force; the factory defaults are an empty one. -/
def Device.standing (d : Device) : List Byte := if d.boot.cfgDefault then [] else (d.boot.cfg d.boot.cfgUseB).bytes
def Device.cfgValue (d : Device) (k : Nat) : Nat := cfgGet d.standing k

/-! ### Firmware images (R800) -/

/-- A firmware image with its 4 KiB header. DESIGN CHOICE 37: FW_VERSION lies in its first four bytes. -/
def FwSlot.ofImage (b : List Byte) : FwSlot :=
  { image := b, version := leAt b 0 4, good := decide (4096 ≤ b.length) && Config.fwSigned b }

/-! ### CFG_STORE (R810, R812, R835) -/

/-- R810: the CFG_STORE command that may run now, where it has this OP: they run one at a time, in order of acceptance. -/
def Device.cfgCommand (d : Device) (o : Origin) (op : Nat) : Option Staged :=
  match d.staged.find? (fun s => s.cmd.opcode == 0x7C) with
  | some f =>
    match d.startable o 0x7C with
    | some s => if s.cmd.uid = f.cmd.uid && s.op 8 1 = op then some s else none
    | none => none
  | none => none

/-- Reserved bytes, and the address, of a CFG_STORE entry; ROLLBACK and ACTIVATE_FW use neither ADDR nor BYTES. -/
def Device.cfgEntry (d : Device) (s : Staged) (n : Nat) : Nat :=
  let op := s.op 8 1
  if s.op 1 1 ≠ 0 || s.aux ≠ 0 || !allZero (sliceOf s.entry 9 7) || !allZero (sliceOf s.entry 28 36) ||
      (2 ≤ op && !allZero (sliceOf s.entry 16 12)) then 0x0103
  else if op < 2 && !(decide (1 ≤ addrSpace (s.op 16 8)) && decide (addrSpace (s.op 16 8) ≤ 3) && d.mapped (s.op 16 8) n &&
      d.reaches 0 (addrDevice (s.op 16 8))) then 0x0110
  else 0

/-- CFG_STORE READ. -/
def fxCfgStoreRead (o : Origin) (d : Device) : Device :=
  match d.cfgCommand o 0 with
  | none => d
  | some s =>
    let d := d.start s
    let b := d.standing
    let n := cfgLength b
    let st := d.cfgEntry s (s.op 24 4)
    if st ≠ 0 then d.complete s.cmd st []
    else if b.isEmpty || s.op 24 4 < n then d.complete s.cmd 0x0202 []
    else if d.isReadOnly (s.op 16 8) n then d.complete s.cmd 0x0A03 []
    else (d.writeAny s.cmd.uid hubChan 0 4 15 (s.op 16 8) (b.take n)).complete s.cmd 0 (leBytes 4 (cfgVersion b))

/-- R810: a WRITE is refused. -/
def Device.cfgRefused (d : Device) (b : List Byte) : Bool :=
  !cfgIntact b || (cfgList b).any (fun r => cfgKnown r.1 && !cfgFits r.1 r.2) ||
    [d.boot.cfgA, d.boot.cfgB].any (fun s => cfgIntact s.bytes && decide (cfgVersion b ≤ s.version))

/-- The slot that a WRITE programs: the one not in use. -/
def Boot.spareCfg (x : Boot) : Bool := if x.cfgDefault then false else !x.cfgUseB

/-- A flash write becomes a long operation (R640). -/
def Device.beginFlash (d : Device) (c : CmdRef) : Device :=
  let (u, d) := d.uid
  { d with longOps := d.longOps ++ [{ id := u, kind := .configure c.uid, cls := 4, cmd := some c }] }

/-- CFG_STORE WRITE: the command starts; bytes that another device holds are asked for. -/
def fxCfgStoreWrite (o : Origin) (d : Device) : Device :=
  match d.cfgCommand o 1 with
  | none => d
  | some s =>
    let d := d.start s
    let st := d.cfgEntry s (s.op 24 4)
    if st ≠ 0 then d.complete s.cmd st []
    else (d.requestRemote s.cmd.uid hubChan 0 4 15 0 (s.op 16 8) (s.op 24 4)).beginFlash s.cmd

/-- CFG_STORE ROLLBACK: refused where the other slot is not valid. -/
def fxCfgStoreRollback (o : Origin) (d : Device) : Device :=
  match d.cfgCommand o 2 with
  | none => d
  | some s =>
    let d := d.start s
    let st := d.cfgEntry s 0
    if st ≠ 0 then d.complete s.cmd st []
    else if !(d.boot.cfgA.valid && d.boot.cfgB.valid) then d.complete s.cmd 0x0202 []
    else d.beginFlash s.cmd

/-- CFG_STORE ACTIVATE_FW: refused where no valid slot is newer than the firmware in use. -/
def fxCfgStoreActivateFw (o : Origin) (d : Device) : Device :=
  match d.cfgCommand o 3 with
  | none => d
  | some s =>
    let d := d.start s
    let st := d.cfgEntry s 0
    let v := match d.boot.fwChoice with | some b => (d.boot.fw b).version | none => 0
    if st ≠ 0 then d.complete s.cmd st []
    else if v ≤ d.reg MGT_FW_VERSION then d.complete s.cmd 0x0202 []
    else ({ d with boot := { d.boot with activate := true } } : Device).complete s.cmd 0 (leBytes 4 v)

/-- A step of a flash write. A WRITE checks the configuration and erases the slot, and programs it in its next step, so a
reset between leaves the slot erased (R812). -/
def Device.stepConfigure (d : Device) (l : LongOp) (u : Nat) (busError : Bool) : Device :=
  match d.staged.find? (fun s => s.cmd.uid == u) with
  | none => d.endLong l.id
  | some s =>
    if s.op 8 1 = 2 then
      match d.boot.cfgChoice with
      | none => (d.endLong l.id).complete s.cmd 0x0202 []
      | some b =>
        let boot := d.boot.setCfg b { d.boot.cfg b with revoked := true }
        ({ (d.endLong l.id) with boot := boot } : Device).complete s.cmd 0 (leBytes 4 ((d.boot.cfg (!b)).version))
    else if busError then ((d.forget u).endLong l.id).complete s.cmd 0x0510 []
    else match d.readAny u 0 (s.op 16 8) (s.op 24 4) with
      | .waiting => d
      | .poison g => (((d.poisonRead g).forget u).endLong l.id).complete s.cmd (parityStatus g) []
      | .bytes b =>
        let b := b.take (cfgLength b)
        if l.step = 0 then
          if d.cfgRefused b then ((d.forget u).endLong l.id).complete s.cmd 0x0202 []
          else ({ d with boot := d.boot.setCfg d.boot.spareCfg {} } : Device).modLong l.id (fun l => { l with step := 1 })
        else
          ({ ((d.forget u).endLong l.id) with boot := d.boot.setCfg d.boot.spareCfg { bytes := b } } : Device).complete s.cmd 0
            (leBytes 4 (cfgVersion b))

end Sys2Proof.Machine
end

