-- ==== Sys2Proof/Machine/LongStep.lean ====
section
/-!
DEFINITION. The steps of long operations: which are planned in a breath, and one step on its engine (R602, R640, R641).
-/
namespace Sys2Proof.Machine

/-- R641: class order, then the order of acceptance. -/
def LongOp.before (a b : LongOp) : Bool := decide (a.cls < b.cls) || (a.cls == b.cls && decide (a.id < b.id))

/-- R556, R857: a LULL or RESUME of a job that restarts goes on once stage 4 has begun, an IMAGE_LOAD once the job runs or
waits. -/
def Device.mayStep (d : Device) (l : LongOp) : Bool :=
  let ok := fun j : Nat => (d.job j).state == .running || (d.job j).state == .replaying
  match l.kind with
  | .lull j _ _ => ok j
  | .resume j _ => ok j
  | .imageLoad h =>
    (match d.image? h with | some x => x.lib.isSome || (d.job x.job).state.settled | none => true)
  | _ => true

/-- R640: the most units that a step moves in a whole run phase, which starts 4 µs after the breath; a page mover's rate
has no bound where CXL supplies. -/
def Device.unitsPerStep (d : Device) (k : LongKind) (units : Nat) : Nat :=
  let r := d.period - 4
  match k.engine with
  | 1 => min units (250 * r)
  | 2 => min units ((10 * r - 1) * 12800 / 65536)
  | 3 => min units 2048
  | _ => units

/-- R602 order 8, R641: the operations that take a step in the coming run phase, as many on each engine as it has units. -/
def Device.planLong (d : Device) : Device :=
  let of := fun e : Nat =>
    ((sortBy LongOp.before (d.longOps.filter (fun l => l.kind.engine == e && d.mayStep l))).take (engineCount e)).map (·.id)
  { d with planned := (List.range 6).flatMap of }

/-- A step of a long operation: up to `units` of what its rule moves; `busError` and `data` are what its engine meets. -/
def Device.stepLong (d : Device) (l : LongOp) (units : Nat) (busError : Bool) (data : Option (List Byte)) : Device :=
  match l.kind with
  | .imageDigest => d.stepImageDigest l units busError
  | .imageLoad h => d.stepImageLoad l h units busError
  | .switchIn h => (d.stepSwitchIn l h data units).endSwitchIn l h
  | .lull j q dst => d.stepLull l j q dst units busError
  | .resume j q => d.stepResume l j q units busError
  | .scrubT3 => d.stepScrub l units busError
  | .shardFetch i => d.stepShard l i units
  | .rescan i => d.stepShard l i units
  | .versionLoad n _ => d.deployStep n
  | .configure u => d.stepConfigure l u busError

/-- LONG_OP_STEP: the operation `id` takes the step planned for it in this breath. `busError`: a bus error, or in the scrub a
granule that cannot be corrected; `data`: what the twin or the host has sent for a page. -/
def fxLongOpStep (id units : Nat) (busError : Bool) (data : Option (List Byte)) (d : Device) : Device :=
  match d.longOps.find? (fun l => l.id == id) with
  | none => d
  | some l =>
    if !d.planned.contains id || !d.mayStep l then d
    else ({ d with planned := d.planned.filter (fun i => i != id) } : Device).stepLong l
      (d.unitsPerStep l.kind units) busError data

end Sys2Proof.Machine
end

