-- ==== Sys2Proof/Machine/Plov.lean ====
section
/-!
DEFINITION. Plovlink and twin ports: bringing a port up, blocks and their replay, slots and packets, notices, circuits, the
loss of a port, modules (R744 to R771, R774, R784, R792).
-/
namespace Sys2Proof.Machine

/-! ### Ports (R744, R750, R795) -/

def Device.link (d : Device) (p : Nat) : LinkPort := Table.getD d.ports p {}
def Device.modLink (d : Device) (p : Nat) (f : LinkPort → LinkPort) : Device :=
  { d with ports := Table.modify d.ports p {} f }

/-- R744: lanes of a port. -/
def laneCount (p : Nat) : Nat := if p = 16 then 8 else 4

/-- R750: PLV_PORT_STATUS.STATE. -/
def Device.portState (d : Device) (p : Nat) : Nat := d.regField (regKey PLV_PORT_STATUS p) 31 29
def Device.setPortState (d : Device) (p st : Nat) : Device := d.setRegField (regKey PLV_PORT_STATUS p) 31 29 st
def Device.setLocked (d : Device) (p mask : Nat) : Device := d.setRegField (regKey PLV_PORT_STATUS p) 28 21 mask
def Device.portEnabled (d : Device) (p : Nat) : Bool := d.regField (regKey PLV_PORT_CTRL p) 31 31 == 1
def Device.portTest (d : Device) (p : Nat) : Nat := d.regField (regKey PLV_PORT_CTRL p) 2 0
def Device.portUp (d : Device) (p : Nat) : Bool := d.portState p == 6

/-! ### Circuits and routes (R759, R763, R784, R845) -/

def circKey (p c : Nat) : Nat := p * 64 + c
def Device.circuit? (d : Device) (k : Nat) : Option Circuit := Table.find? d.circuits k

/-- R763: a partition's number, the hub counted as partition 0. -/
def hubZero (p : Nat) : Nat := if p < 12 then p else 0

/-- R763: the partition a packet goes to. -/
def TxItem.target (t : TxItem) : Nat :=
  if t.kind = 3 then hubZero (t.arg / 256)
  else if t.kind = 4 then 0
  else hubZero (partOf (addrSpace t.addr) (addrOffset t.addr))

/-- The twin port's packets go by route 16 × 64. -/
def twinRoute : Nat := 1024

/-- R763, R845: the circuit a packet is carried on; a RESPONSE goes back by the circuit its request came on. -/
def Device.itemRoute (d : Device) (t : TxItem) : Option Nat :=
  if t.kind = 2 then some t.route
  else if d.isTwin t.dest then some twinRoute
  else
    let of := fun j : Nat => List.filter (fun e : Nat × Circuit => e.2.ends && e.2.job == j && e.2.far == t.dest) d.circuits
    let mine := if t.kind = 4 && !(of 0).isEmpty then of 0 else of t.job
    (mine[(hubZero t.srcPart + t.target) % mine.length]?).map (·.1)

/-! ### Transfers that fail on their way (R403, R404, R492, R764, R792) -/

/-- R404: what a bus error latches, and the halt, where the descriptor has completed or ring traffic met the error. -/
def Device.haltChannel (d : Device) (chan : Nat) (write : Bool) (addr cause done tag : Nat) : Device :=
  ((((((d.setReg (regKey MOV_ERR_ADDR_LO chan) addr).setReg (regKey MOV_ERR_ADDR_HI chan) (addr / 2 ^ 32)).setReg
    (regKey MOV_ERR_STATUS chan) (2 ^ 31 + 2 ^ 8 * bit write + 16 * addrSpace addr + cause % 16)).setReg
    (regKey MOV_ERR_DONE chan) done).setReg (regKey MOV_ERR_TAG chan) tag)).setHalted chan true

/-- The ring of partition `p` whose fill has this uid, or, of a write-out, the ring that its packets name. -/
def Device.ringOf (d : Device) (p uid : Nat) : Option Nat :=
  (List.find? (fun e : Nat × Ring => e.2.fills.any (fun f => f.uid == uid) || e.2.outs.any (fun o => o.uid == uid))
    (d.part p).rings).map (·.1)

/-- R492: a Gale packet or row that its destination refuses, or whose circuit goes: its round stops, so its step ends as an
overrun. -/
def Device.galeFails (d : Device) (uid : Nat) : Device :=
  (List.range 64).foldl (fun d r =>
    let x := d.route r
    if x.under.contains uid || x.assigns.any (fun a => a.uid == uid) then d.modRoute r (fun x => { x with stopped := true })
    else d) d

/-- A read for a command ends in a bus error. -/
def Device.commandFails (d : Device) (c : CmdRef) : Device :=
  match List.find? (fun e : Nat × CheckUnit => match e.2.run with | some r => r.cmd.uid == c.uid | none => false) d.checks with
  | some (u, x) => match x.run with | some r => d.endCheck u r 0x0510 [] | none => d
  | none =>
    match List.find? (fun e : Nat × DigestRun => e.2.cmd.uid == c.uid) d.digests with
    | some (e, r) => d.endDigest e r 0x0510 []
    | none =>
      match d.longOps.find? (fun l =>
          (match l.kind with | .configure u => u == c.uid | .imageDigest => l.cmd == some c | _ => false)) with
      | some l => d.stepLong l 1 true none
      | none => (d.forget c.uid).complete c 0x0510 []

/-- A packet of transfer `t` is refused, or its circuit goes (`cause` as R403 numbers it). -/
def Device.transferFails (d : Device) (t : TxItem) (cause : Nat) : Device :=
  let write := t.kind != 1
  let d := d.spoilFences t.uid 0x0512
  let done := if t.kind = 0 then t.arg else 0
  let d := d.galeFails t.uid
  match d.staged.find? (fun s => s.cmd.uid == t.uid && s.started) with
  | some s => if write then d else d.commandFails s.cmd
  | none =>
    match d.longOps.find? (fun l => longUid l.id == t.uid ||
        (match l.kind with | .imageLoad h => t.uid == copyUid h l.step | _ => false)) with
    | some l => if write then d else d.stepLong l 1 true none
    | none =>
      if 199 < t.chan then d
      else if chanPart t.chan = none then
        match (d.mover t.chan).queue with
        | w :: _ =>
          if w.uid = t.uid && (d.mover t.chan).running then d.busHalt t.chan write t.addr cause done 0 []
          else d.haltChannel t.chan write t.addr cause done t.tag
        | [] => d.haltChannel t.chan write t.addr cause done t.tag
      else
        let p := t.chan / 16
        let ring := if ringTag 0 ≤ t.tag then some (4 * (t.chan % 16) + t.tag % 4) else d.ringOf p t.uid
        match ring, (d.mover t.chan).queue with
        | some k, _ => (d.haltChannel t.chan write t.addr cause done 0).ringError p (k / 4) (k % 4) 0x0510
        | none, w :: _ =>
          if w.uid = t.uid && (d.mover t.chan).running then d.busHalt t.chan write t.addr cause done 0 []
          else d.haltChannel t.chan write t.addr cause done t.tag
        | none, [] => d.haltChannel t.chan write t.addr cause done t.tag

/-- A host read of another device's bytes that fails reads as 0 (R702). -/
def Device.hostReadFails (d : Device) (uid : Nat) : Device :=
  match d.hostReads.find? (fun r => r.uid == uid) with
  | none => d
  | some r =>
    ({ d with hostReads := d.hostReads.filter (fun x => x.uid != uid) }.forget uid).emit
      (if r.jtag then .jtag [] else .pcie 0 (List.replicate r.bytes 0))

/-- Everything on its way by a route halts with cause 0x5 (R792). -/
def Device.failRoute (d : Device) (rt : Nat) : Device :=
  let waiting := d.txq.filter (fun t => d.itemRoute t == some rt)
  let asked := (d.requests.filter (fun e => e.2.route == rt)).map (·.2)
  let flying := (d.flight.filter (fun f => f.remote && f.route == rt)).map (fun f =>
    ({ uid := f.uid, chan := f.chan, kind := 0, dest := 0, addr := f.addr, arg := f.off, tag := f.tag } : TxItem))
  let d := { d with txq := d.txq.filter (fun t => d.itemRoute t != some rt)
                    requests := d.requests.filter (fun e => e.2.route != rt)
                    flight := d.flight.filter (fun f => !(f.remote && f.route == rt)) }
  let all := flying ++ asked ++ waiting
  let once := all.foldl (fun (l : List TxItem) t => if l.any (fun u => u.uid == t.uid) then l else l ++ [t]) []
  once.foldl (fun d t =>
    if t.kind = 2 || t.kind = 4 then d else (d.hostReadFails t.uid).transferFails t 5) d

/-! ### Tearing down (R760, R792) -/

/-- Removes circuit records, failing what is on their way; nothing else. -/
def Device.dropRecord (d : Device) (k : Nat) : Device :=
  match d.circuit? k with
  | none => d
  | some c =>
    let d := if c.ends then d.failRoute k else d
    { d with circuits := Table.drop d.circuits k }

/-- R792: a torn-down end faults the job that owns it; a service circuit faults none. -/
def Device.circuitFault (d : Device) (k : Nat) (c : Circuit) : Device :=
  if !c.ends || c.job = 0 then d
  else d.jobFault c.job { status := 0x0901, kind := 7, unit := 6, location := k / 64, detail := k % 64 }

/-- R792: records torn down with their partners; TEARDOWN is owed on each partner's link; the jobs of the ends fault. -/
def Device.tearDown (d : Device) (ks : List Nat) : Device :=
  let recs := ks.filterMap (fun k => (d.circuit? k).map (fun c => (k, c)))
  let d := recs.foldl (fun d e =>
    let d := d.dropRecord e.1
    if e.2.ends then d
    else
      (d.dropRecord (circKey e.2.outPort e.2.outCircuit)).modLink e.2.outPort (fun x =>
        { x with teardowns := x.teardowns ++ [e.2.outCircuit] })) d
  recs.foldl (fun d e => d.circuitFault e.1 e.2) d

/-- A port is DOWN: its lanes start afresh and what it was to send goes. `cause` is left as it is where none is given. -/
def Device.portDown (d : Device) (p : Nat) (cause : Option Nat) : Device :=
  let d := ((d.setPortState p 0).setLocked p 0).bump (regKey PLV_DOWN_COUNT p) 1
  let d := match cause with | some c => d.setRegField (regKey PLV_PORT_STATUS p) 3 0 c | none => d
  let d := if p = 16 then d.failRoute twinRoute else d
  let d := d.tearDown ((d.circuits.filter (fun e => e.1 / 64 == p)).map (·.1))
  d.modLink p (fun x => { x with media := false, lanes := [], reports := [], teardowns := [], tick := false, nakPeriod := false,
                                 transit := [], live := 0 })

/-! ### Bringing a port up (R750 to R755) -/

/-- R755: DETECT begins: the module is released from its reset. -/
def Device.detect (d : Device) (p : Nat) : Device := (d.setPortState p 1).emit (.land (1000 + p) true)

/-- The ports run after stage 4 of the boot (R801). -/
def Device.portsRun (d : Device) : Bool := decide (4 ≤ d.boot.stage) && !d.boot.recovery

/-- PORT_DETECT_START: the presence line of a module is asserted. -/
def fxPortDetectStart (p : Nat) (d : Device) : Device :=
  if 16 < p || !d.portsRun then d
  else
    let d := (d.modLink p (fun x => { x with present := true })).setRegField (regKey PLV_MEDIA_STATUS p) 31 31 1
    if d.portState p = 0 && d.portEnabled p then d.detect p else d

/-- MODULE_READY: `type` is 1 for active copper and 2 for optics, 0 where no application of 200 Gb/s lanes is advertised. -/
def fxModuleReady (p type : Nat) (d : Device) : Device :=
  if 16 < p || d.portState p ≠ 1 then d
  else if type ≠ 1 && type ≠ 2 then d.portDown p (some 7)
  else
    (((d.modLink p (fun x => { x with media := true })).setRegField (regKey PLV_MEDIA_STATUS p) 30 29 type).emit
      (.land (1100 + p) false)).setPortState p 2

/-- MEDIA_TIMEOUT: 2 s in DETECT. -/
def fxMediaTimeout (p : Nat) (d : Device) : Device := if 16 < p || d.portState p ≠ 1 then d else d.portDown p (some 7)

/-- EQUALISE_COMPLETE. -/
def fxEqualiseComplete (p : Nat) (d : Device) : Device :=
  if 16 < p || d.portState p ≠ 2 then d else d.setPortState p 3

/-- EQUALISE_TIMEOUT: 400 ms in EQUALISE; no code of DOWN_CAUSE stands for it, so the cause is a free value. -/
def fxEqualiseTimeout (p : Nat) (d : Device) : Device :=
  if 16 < p || d.portState p ≠ 2 then d
  else
    let (v, d) := d.fresh 4
    d.portDown p (some v)

/-- LANE_LOCK_COMPLETE: every lane has locked. -/
def fxLaneLockComplete (p : Nat) (d : Device) : Device :=
  if 16 < p || d.portState p ≠ 3 then d else (d.setLocked p (2 ^ laneCount p - 1)).setPortState p 4

/-- LANE_LOCK_TIMEOUT: a port some of whose lanes never lock starts again from DETECT (R750). -/
def fxLaneLockTimeout (p : Nat) (d : Device) : Device :=
  if 16 < p || d.portState p ≠ 3 then d else (d.setLocked p 0).detect p

/-- PEER_IDENTITY: what the peer sends in IDENTIFY (R753). -/
def fxPeerIdentity (p domainId index port role : Nat) (d : Device) : Device :=
  if 16 < p || d.portState p ≠ 4 then d
  else
    let accept := fun d : Device =>
      (d.setReg (regKey PLV_PORT_PEER p) (index % 128 * 256 + port % 32)).setPortState p 5
    if p = 16 then
      if d.regField PLV_TWIN_CFG 30 30 = role % 2 then d.portDown p (some 6)
      else accept (d.setRegField PLV_TWIN_STATUS 6 0 index)
    else if domainId % 2 ^ 32 = d.reg PLV_DOMAIN_ID && decide (index ≤ 71) && bitOf d.memberMask index && index ≠ d.index then
      accept d
    else d.portDown p (some 5)

/-- A RESET_REQUEST of a port completes when the port is UP again. -/
def Device.portBack (d : Device) (p : Nat) : Device :=
  match d.blockResets.find? (fun e => e.1 == 4 && e.2.1 == p) with
  | none => d
  | some e => ({ d with blockResets := d.blockResets.filter (fun b => b != e) } : Device).complete e.2.2 0 []

/-- R804: a device that boots from its twin asks for the firmware once the twin port is UP. -/
def Device.askTwin (d : Device) (p : Nat) : Device :=
  if p = 16 && d.regField MGT_STRAPS 1 0 = 1 && !d.boot.fwReady && !d.boot.done && !d.boot.recovery then
    d.emit (.link 16 14 (d.regField PLV_TWIN_STATUS 6 0) [])
  else d

/-- DELAY_CALIBRATION: `roundTrips` are the round trips in ns of sixteen TRAIN blocks (R752). -/
def fxDelayCalibration (p : Nat) (roundTrips : List Nat) (d : Device) : Device :=
  if 16 < p || d.portState p ≠ 5 then d
  else
    let least := (leastOf roundTrips).getD 0
    let d := d.setReg (regKey PLV_PORT_DELAY p) (least / 2)
    if 180 < least then d.portDown p (some 4)
    else (((d.modLink p (fun x => { x with lanes := [] })).setPortState p 6).portBack p).askTwin p

/-- PORT_RETRY_TIMER: 1 ms after the port went DOWN. -/
def fxPortRetryTimer (p : Nat) (d : Device) : Device :=
  if 16 < p || !d.portsRun || d.portState p ≠ 0 || !d.portEnabled p || !(d.link p).present then d else d.detect p

/-- PORT_LOSS_TIMEOUT: no good block on some lane for 1.0 µs (R751). -/
def fxPortLossTimeout (p : Nat) (d : Device) : Device := if 16 < p || !d.portUp p then d else d.portDown p (some 1)

/-- MODULE_REMOVED: the presence line deasserts. -/
def fxModuleRemoved (p : Nat) (d : Device) : Device :=
  if 16 < p then d
  else
    let d := (d.modLink p (fun x => { x with present := false })).modReg (regKey PLV_MEDIA_STATUS p) (fun v => v % 2 ^ 29)
    if d.portState p = 0 || d.portState p = 7 then d else d.portDown p (some 3)

/-- R754, R795: a write of PLV_PORT_CTRL. -/
def Device.portCtrlWrite (d : Device) (p word : Nat) : Device :=
  let t := bitsOf word 2 0
  let k := regKey PLV_PORT_CTRL p
  if 16 < p || (1 ≤ t && t ≤ 4 && d.circuits.any (fun e => e.1 / 64 == p)) then d
  else
    let d := d.setRegField k 31 31 (bitsOf word 31 31)
    if 4 < t then d
    else
      let d := d.setRegField k 2 0 t
      if t ≠ 0 then
        if d.portState p = 7 then d else (if p = 16 then d.failRoute twinRoute else d).setPortState p 7
      else if d.portState p = 7 then d.portDown p none
      else d

/-- PORT_TEST_SELECT: a write of PLV_PORT_CTRL to the port that the writer has selected. -/
def fxPortTestSelect (port : Port) (word : Nat) (d : Device) : Device :=
  match port with
  | .vf _ => d
  | .twin => d
  | _ => d.portCtrlWrite (bitsOf (d.portReg port PLV_PORT_SEL) 4 0) word

/-! ### Blocks (R746, R749) -/

/-- R746: the CRC of a block's data bytes. -/
def blockCrc (b : List Byte) : Nat := crc32c (b.take 28 ++ b.drop 32)

/-- BLOCK_RECEIVE: the 896 bytes of a block on a lane, as they stand behind the descrambler. It passes its FEC and its CRC
and is the one expected, or it is discarded (R749). In TEST modes 3 and 4 symbol errors are counted (R754). -/
def fxBlockReceive (p lane : Nat) (wire : List Byte) (d : Device) : Device :=
  if 16 < p || laneCount p ≤ lane then d
  else if d.portState p = 7 then
    (if 3 ≤ d.portTest p then
      match unwireBlock wire with
      | some (_, n) => d.bump (regKey PLV_PRBS_ERR p) n
      | none => d.bump (regKey PLV_PRBS_ERR p) 1
     else d)
  else if !d.portUp p then d
  else
    let x := Table.getD (d.link p).lanes lane {}
    let put := fun (d : Device) (y : Lane) => d.modLink p (fun q => { q with lanes := Table.put q.lanes lane y })
    let fail := fun d : Device =>
      let d := d.bump (regKey PLV_FEC_UNCORR p) 1
      if 2 ≤ x.fails then d.portDown p (some 2) else put d { x with fails := x.fails + 1, nak := true }
    match unwireBlock wire with
    | none => fail d
    | some (b, n) =>
      let d := d.bump64 (regKey PLV_FEC_CORR_LO p) n
      if leAt b 28 4 ≠ blockCrc b then fail d
      else if leAt b 4 4 ≠ x.expect || leAt b 0 1 % 4 = 3 then d
      else put d { x with expect := (x.expect + 1) % 2 ^ 32, fails := 0, nak := false }

/-- BLOCK_NAK: the peer asks for a lane's blocks from `seq` on: they are sent again; the third failure of one block takes the
port DOWN. -/
def fxBlockNak (p lane seq : Nat) (d : Device) : Device :=
  if 16 < p || laneCount p ≤ lane || !d.portUp p then d
  else
    let x := Table.getD (d.link p).lanes lane {}
    match x.sent.find? (fun b => b.seq == seq) with
    | none => d
    | some b =>
      if 2 ≤ b.resends then d.portDown p (some 2)
      else
        let from_ := x.sent.dropWhile (fun b => b.seq != seq)
        let d := from_.foldl (fun d b => d.emit (.block p lane (leAt b.data 0 1 % 4) (wireBlock b.data))) d
        let sent := x.sent.takeWhile (fun b => b.seq != seq) ++ from_.map (fun b => { b with resends := b.resends + 1 })
        (d.modLink p (fun q => { q with lanes := Table.put q.lanes lane { x with sent := sent } })).bump
          (regKey PLV_REPLAY_COUNT p) from_.length

/-! ### Packets (R748) -/

/-- A packet's sectors, its header among them. -/
def TxItem.sectors (t : TxItem) : Nat := 1 + (t.body.length + 31) / 32

/-- The part of an item that one packet carries: at most 64 sectors of data. -/
def TxItem.piece (t : TxItem) : TxItem :=
  if t.body.length ≤ 2048 then t else { t with body := t.body.take 2048, len := 2048 }
def TxItem.rest (t : TxItem) : Option TxItem :=
  if t.body.length ≤ 2048 then none
  else some { t with body := t.body.drop 2048, len := t.body.length - 2048, addr := if t.kind = 0 then t.addr + 2048 else t.addr }

/-- R748: the bytes of a packet; `req` is its REQ_ID. A QUEUE packet's producer, level and sequence number stand in its header
word, which is also its first data word (R488). -/
def TxItem.bytes (t : TxItem) (self req : Nat) : List Byte :=
  let arg := if t.kind = 3 then
      leBytes 2 (0x4000 + self) ++ sliceOf t.body 2 1 ++ [0] ++ sliceOf t.body 12 4
    else if t.kind = 4 then leBytes 2 t.arg ++ t.body.take 6
    else leBytes 8 0
  let head := leBytes 1 t.kind ++ leBytes 1 t.cls ++ leBytes 1 (t.sectors - 1) ++ leBytes 1 t.status ++ leBytes 4 req ++
    leBytes 8 t.addr ++ leBytes 4 t.len ++ leBytes 1 self ++ leBytes 1 (t.srcPart % 16) ++ leBytes 2 0 ++ padTo 8 arg
  head ++ padTo (32 * (t.sectors - 1)) t.body

/-! ### Slots (R747, R765 to R768, R620, R621) -/

/-- R766: the table bank in use. -/
def Device.slotBank (d : Device) : Nat := d.regField PLV_SLOT_BANK 4 4

/-- R796: an entry of a port's slot table in a bank. -/
def Device.slotEntry (d : Device) (p bank i : Nat) : Nat :=
  d.regField (regKey (PLV_SLOT_TBL + 4 * (i / 4)) (2 * p + bank)) (8 * (i % 4) + 7) (8 * (i % 4))

/-- R765: the end circuit whose packets slot `k` carries. -/
def Device.slotCircuit (d : Device) (p k : Nat) : Option Nat :=
  let e := d.slotEntry p d.slotBank (k % 256)
  let c := circKey p (e % 64)
  if k % 256 = 255 || e < 128 || e % 128 ≥ 64 then none
  else match d.circuit? c with | some x => if x.ends then some c else none | none => none

/-- R620, R621: a class's place at the arbiter of circuit `c` of port `p`; a class beyond its budget comes after P4. -/
def Device.portRank (d : Device) (p c cls : Nat) : Nat :=
  let kind := if p = 16 then 5 else 4
  let sent := Table.getD (d.link p).used (8 * c + cls) 0
  if 4 ≤ cls then 4
  else if d.reg (regKey (SCH_ARB_BUDGET + 4 * cls) kind) * (25 * laneCount p) ≤ 32 * sent then 5 else cls

/-- Items in order, each as many packets as fit into `room` sectors; what is left of the items, by their place in the queue. -/
def pickPackets : Nat → Nat → List (Nat × TxItem) → List TxItem × List (Nat × TxItem)
  | 0, _, l => ([], l)
  | _, _, [] => ([], [])
  | fuel + 1, room, (i, t) :: l =>
    let q := t.piece
    if room < q.sectors then ([], (i, t) :: l)
    else
      let more := match t.rest with | some r => (i, r) :: l | none => l
      let r := pickPackets fuel (room - q.sectors) more
      (q :: r.1, r.2)

/-- The packets that a route sends in a slot of `room` sectors, and the queue without them. -/
def Device.pickRoute (d : Device) (p rt room : Nat) : List TxItem × List TxItem :=
  let all := d.txq.mapIdx (fun i t => (i, t))
  let mine := sortBy (fun (a b : Nat × TxItem) => decide (d.portRank p (rt % 64) a.2.cls < d.portRank p (rt % 64) b.2.cls))
    (all.filter (fun e => d.itemRoute e.2 == some rt))
  let r := pickPackets room room mine
  (r.1, all.filterMap (fun e =>
    if mine.any (fun m => m.1 == e.1) then (r.2.find? (fun m => m.1 == e.1)).map (·.2) else some e.2))

/-- What a packet leaves behind when its slot begins: a write on its way, or a request (R764, R770). -/
def Device.packetLeaves (d : Device) (rt : Nat) (t : TxItem) (req : Nat) : Device :=
  if t.kind = 0 || t.kind = 3 then
    { d with flight := d.flight ++ [{ uid := t.uid, chan := t.chan, addr := t.addr, bytes := [], remote := true, route := rt
                                      req := req, off := t.arg, tag := t.tag }] }
  else if t.kind = 1 then { d with requests := Table.put d.requests req { t with route := rt } }
  else d

/-- The bytes of a slot's packets; each request has a REQ_ID of its own. -/
def Device.packSlot (d : Device) (rt : Nat) : List TxItem → Device × List Byte
  | [] => (d, [])
  | t :: l =>
    let (u, d) := d.uid
    let req := if t.kind = 2 then t.arg else u % 2 ^ 32
    let r := (d.packetLeaves rt t req).packSlot rt l
    (r.1, t.bytes d.index req ++ r.2)

/-- A notice for a block's header: kind, circuit, count (R746); TEARDOWN comes before REPORT. -/
def LinkPort.notice (x : LinkPort) : (Nat × Nat × Nat) × LinkPort :=
  match x.teardowns, x.reports with
  | c :: l, _ => ((1, c, 0), { x with teardowns := l })
  | [], (c, n) :: l => ((2, c, n), { x with reports := l })
  | [], [] => ((0, 0, 0), x)

/-- The domain fields of a tick (R780): the breath number, the period in force, the period proposed. -/
def Device.tickFields (d : Device) (k : Nat) : List Byte :=
  let next := if d.timer.announced then d.timer.proposed.getD 0 else d.timer.coming.getD 0
  leBytes 6 d.breath ++ leBytes 2 (32 * k) ++ leBytes 2 (d.reg (regKey BRT_PERIOD 1)) ++ leBytes 2 next

/-- A lane sends a block: its header (R746), its payload, its place in the replay buffer. -/
def Device.sendBlock (d : Device) (p k lane type circ : Nat) (tick : Bool) (payload : List Byte) : Device :=
  let q := d.link p
  let x := Table.getD q.lanes lane {}
  let (n, q) := q.notice
  let sectors := if type = 1 then min 25 ((payload.length + 31) / 32) else 0
  let ack := if x.nak then x.expect else (x.expect + 2 ^ 32 - 1) % 2 ^ 32
  let head := leBytes 1 type ++ leBytes 1 circ ++ leBytes 1 sectors ++
    leBytes 1 (bit x.nak + 2 * bit tick + 4 * bit q.nakPeriod) ++ leBytes 4 x.next ++ leBytes 4 ack ++ leBytes 1 n.1 ++
    leBytes 1 n.2.1 ++ leBytes 2 n.2.2 ++ (if tick then d.tickFields k else leBytes 12 0)
  let body := padTo 800 payload
  let data := head ++ leBytes 4 (crc32c (head ++ body)) ++ body
  let y := { x with next := (x.next + 1) % 2 ^ 32, nak := false,
                    sent := (x.sent ++ [({ seq := x.next, data := data } : SentBlock)]).drop (x.sent.length - 15) }
  (d.modLink p (fun _ => { q with lanes := Table.put q.lanes lane y })).emit (.block p lane type (wireBlock data))

/-- Every lane of a slot sends its block; after a breath start the first carries TICK (R780). -/
def Device.sendSlot (d : Device) (p k type circ : Nat) (payload : List Byte) : Device :=
  let tick := (d.link p).tick
  let d := (List.range (laneCount p)).foldl (fun d l => d.sendBlock p k l type circ tick (sliceOf payload (800 * l) 800)) d
  d.modLink p (fun x => { x with tick := false })

/-- The set of live members that this device floods (R774). -/
def Device.liveSet (d : Device) : Nat := d.reg PLV_LIVE + 2 ^ 32 * d.reg (PLV_LIVE + 4) + 2 ^ 64 * d.reg (PLV_LIVE + 8)

/-- The payload of IDLE blocks, the same on every lane: live members and transmit powers (R756, R774; DESIGN CHOICE 13). -/
def Device.idlePayload (d : Device) (p : Nat) : List Byte :=
  let one := padTo 800 (leBytes 12 d.liveSet ++ (d.link p).txPower.flatMap (leBytes 2))
  (List.range (laneCount p)).flatMap (fun _ => one)

/-- SLOT_SEND: slot `k` of the breath on a port: a transit block, or packets of the circuit its entry names, or IDLE; the twin
port sends its packets in every slot (R767, R784). -/
def fxSlotSend (p k : Nat) (d : Device) : Device :=
  if 16 < p || !d.portUp p then d
  else match Table.find? (d.link p).transit k with
    | some (_, c, body) =>
      let d := d.modLink p (fun x => { x with transit := Table.drop x.transit k })
      let d := if (d.slotCircuit p k).isSome then d.bump (regKey PLV_SLOT_CONFLICT p) 1 else d
      d.sendSlot p k 1 c body
    | none =>
      match (if p = 16 then some twinRoute else d.slotCircuit p k) with
      | none => d.sendSlot p k 0 0 (d.idlePayload p)
      | some rt =>
        let r := d.pickRoute p rt (25 * laneCount p)
        if r.1.isEmpty then d.sendSlot p k 0 0 (d.idlePayload p)
        else
          let (d, bytes) := ({ d with txq := r.2 } : Device).packSlot rt r.1
          let d := r.1.foldl (fun d t => d.modLink p (fun x =>
            { x with used := Table.modify x.used (8 * (rt % 64) + t.cls) 0 (· + t.sectors) })) d
          let d := if p = 16 then d else d.bump64 (regKey PLV_CIRC_BYTES_LO rt) bytes.length
          d.sendSlot p k 1 (rt % 64) bytes

/-! ### Transit (R768) -/

/-- The first slot from `k` on that no transit block has taken. -/
def freeSlot (t : Table (Nat × Nat × List Byte)) (k : Nat) : Nat := Table.freshFrom t k (t.length + 1)

/-- TRANSIT_FORWARD: a block of circuit `c` whose last bit arrives on port `p` in slot `s` leaves in slot s + 3. -/
def fxTransitForward (p c s : Nat) (payload : List Byte) (d : Device) : Device :=
  match d.circuit? (circKey p c) with
  | none => d
  | some x =>
    if x.ends || 63 < c || !d.portUp p || !d.portUp x.outPort then d
    else
      let o := x.outPort
      let t := (d.link o).transit
      let k := s + 3
      match Table.find? t k with
      | none => d.modLink o (fun q => { q with transit := Table.put t k (p, x.outCircuit, payload) })
      | some b =>
        let t' := if p < b.1 then Table.put (Table.put t (freeSlot t k) b) k (p, x.outCircuit, payload)
          else Table.put t (freeSlot t k) (p, x.outCircuit, payload)
        (d.modLink o (fun q => { q with transit := t' })).bump (regKey PLV_SLOT_CONFLICT o) 1

/-! ### Notices (R764, R792) -/

/-- Removes the `n` oldest writes on their way by a route. -/
def dropLanded (rt : Nat) : Nat → List Flight → List Flight
  | 0, l => l
  | _, [] => []
  | n + 1, f :: l => if f.remote && f.route = rt then dropLanded rt n l else f :: dropLanded rt (n + 1) l

/-- REPORT_NOTICE: `n` packets of circuit `c` of port `p` have landed; a forwarding device passes it on. -/
def fxReportNotice (p c n : Nat) (d : Device) : Device :=
  if 16 < p || 63 < c || !d.portUp p then d
  else if p = 16 then { d with flight := dropLanded twinRoute n d.flight }
  else match d.circuit? (circKey p c) with
    | none => d
    | some x =>
      if x.ends then { d with flight := dropLanded (circKey p c) n d.flight }
      else d.modLink x.outPort (fun q => { q with reports := Table.modify q.reports x.outCircuit 0 (· + n) })

/-- TEARDOWN_NOTICE: the peer on port `p` has torn down circuit `c`. -/
def fxTeardownNotice (p c : Nat) (d : Device) : Device :=
  if 15 < p || 63 < c then d else d.tearDown [circKey p c]

/-! ### Live members (R774) -/

/-- LIVE_FLOOD: the 10 µs refresh, with the set last received on port `p`. -/
def fxLiveFlood (p set : Nat) (d : Device) : Device :=
  let d := if p ≤ 16 && d.portUp p then d.modLink p (fun x => { x with live := set % 2 ^ 72 }) else d
  let own := if d.inDomain then 2 ^ d.index else 0
  let all := (List.range 17).foldl (fun v q => if d.portUp q then Nat.lor v (d.link q).live else v) own
  ((d.setReg PLV_LIVE all).setReg (PLV_LIVE + 4) (all / 2 ^ 32)).setReg (PLV_LIVE + 8) (all / 2 ^ 64)

/-! ### Modules (R756 to R758) -/

/-- R756: LOSS of a lane: far transmit power minus near receive power; 0xFFFF while either is unknown (a power of 0x10000 is
unknown). The spec states no LOSS below 0, so there it is a free value. -/
def Device.laneLoss (d : Device) (optical : Bool) (far rx : Nat) : Nat × Device :=
  if !optical || 65536 ≤ far || 65536 ≤ rx then (0xFFFF, d)
  else
    let l := signedOf 16 far - signedOf 16 rx
    if l < 0 then d.fresh 16 else (l.toNat % 65536, d)

/-- The lanes' losses of one reading, written to PLV_MEDIA_LANEl. -/
def Device.readLanes (d : Device) (p : Nat) (optical : Bool) : Nat → List (Nat × Nat) → Device × List Nat
  | _, [] => (d, [])
  | l, (far, rx) :: rest =>
    let (loss, d) := d.laneLoss optical far rx
    let r := (d.setReg (regKey (PLV_MEDIA_LANE + 4 * l) p) (rx % 65536 * 65536 + loss)).readLanes p optical (l + 1) rest
    (r.1, loss :: r.2)

/-- MEDIA_MONITOR: the 10 ms reading of a module: its temperature, own transmit powers, and per lane the far transmit power and
the near receive power, in 0.01 dBm (0x10000 where unknown). -/
def fxMediaMonitor (p temp : Nat) (tx : List Nat) (far : List Nat) (rx : List Nat) (d : Device) : Device :=
  if 16 < p || !(d.link p).present then d
  else
    let k := regKey PLV_MEDIA_STATUS p
    let optical := d.regField k 30 29 == 2
    let (d, losses) := (d.setRegField k 7 0 temp).readLanes p optical 0 ((List.zip far rx).take (laneCount p))
    let d := d.modLink p (fun x => { x with txPower := tx.take (laneCount p) })
    let known := losses.filter (· != 0xFFFF)
    let high := losses.map (fun v => v != 0xFFFF && decide (d.regField PLV_MEDIA_CFG 15 0 ≤ v))
    let spread := (known.foldl max 0) - ((leastOf known).getD 0)
    let wide := !known.isEmpty && decide (d.regField PLV_MEDIA_CFG 31 16 ≤ spread)
    let d := d.modLink p (fun x =>
      let runs := high.mapIdx (fun i b => (i, if b then Table.getD x.cleanHigh i 0 + 1 else 0))
      { x with cleanHigh := runs, cleanLow := if high.any id then 0 else x.cleanLow + 1
               spreadHigh := if wide then x.spreadHigh + 1 else 0, spreadLow := if wide then 0 else x.spreadLow + 1 })
    let x := d.link p
    let d := if x.cleanHigh.any (fun e => decide (3 ≤ e.2)) then d.raise k 28
      else if 3 ≤ x.cleanLow then d.setRegField k 28 28 0 else d
    if 3 ≤ x.spreadHigh then d.raise k 27 else if 3 ≤ x.spreadLow then d.setRegField k 27 27 0 else d

/-- R758: the steward's CMIS access; the fields of the word are stored. -/
def Device.cmisFields (d : Device) (p word : Nat) : Device :=
  (d.setRegField (regKey PLV_CMIS p) 30 30 (bitsOf word 30 30)).setRegField (regKey PLV_CMIS p) 23 0 word

def Port.steward : Port → Bool
  | .mgmt => true
  | .jtag => true
  | _ => false

/-- CMIS_READ: a write of PLV_CMIS with GO and no WRITE; `value` is what the module answers, none where it fails. -/
def fxCmisRead (port : Port) (word : Nat) (value : Option Nat) (d : Device) : Device :=
  let p := bitsOf (d.portReg port PLV_PORT_SEL) 4 0
  if !port.steward || 16 < p then d
  else
    let d := d.cmisFields p (putBits word 30 30 0)
    match (if (d.link p).present then value else none) with
    | some v => d.setRegField (regKey PLV_CMIS p) 7 0 v
    | none => d.raise (regKey PLV_CMIS p) 28

/-- CMIS_WRITE: a write of PLV_CMIS with GO and WRITE: ignored on a port that is UP, but for pages 0x10 to 0x1F. -/
def fxCmisWrite (port : Port) (word : Nat) (ok : Bool) (d : Device) : Device :=
  let p := bitsOf (d.portReg port PLV_PORT_SEL) 4 0
  let page := bitsOf word 23 16
  if !port.steward || 16 < p then d
  else
    let d := d.cmisFields p (putBits word 30 30 1)
    if d.portUp p && !(decide (0x10 ≤ page) && decide (page ≤ 0x1F)) then d
    else if ok && (d.link p).present then d.emit (.cmis p page (bitsOf word 15 8) (bitsOf word 7 0))
    else d.raise (regKey PLV_CMIS p) 28

/-! ### Setting up circuits (R760, R761) -/

def Device.circResult (d : Device) (k r : Nat) : Device := d.setRegField (regKey PLV_CIRC_CMD k) 7 0 r

/-- R761: the port may set up and tear down circuits. -/
def Port.circuits : Port → Bool
  | .pf => true
  | p => p.steward

/-- The record that a port has selected, under port × 64 + circuit. -/
def Device.circSel (d : Device) (port : Port) : Nat :=
  let w := d.portReg port PLV_CIRC_SEL
  circKey (bitsOf w 4 0) (bitsOf w 13 8)

/-- The record that PLV_CIRC_CFG and PLV_CIRC_JOB of a circuit describe. -/
def Device.circConfig (d : Device) (k : Nat) : Nat × Circuit :=
  let w := d.reg (regKey PLV_CIRC_CFG k)
  let role := bitsOf w 31 30
  (role, { ends := role == 1, far := if role = 1 then bitsOf w 14 8 else 0, job := d.reg (regKey PLV_CIRC_JOB k)
           outPort := if role = 2 then bitsOf w 29 25 else 0, outCircuit := if role = 2 then bitsOf w 21 16 else 0 })

/-- R760: what refuses a set-up, the lowest code first; 0 where it may be done. -/
def Device.circSetupResult (d : Device) (port : Port) (k : Nat) : Nat :=
  let (role, x) := d.circConfig k
  let o := circKey x.outPort x.outCircuit
  if !(decide (k / 64 ≤ 15) && d.portUp (k / 64)) || (role = 2 && !(decide (x.outPort ≤ 15) && d.portUp x.outPort)) then 1
  else if (d.circuit? k).isSome || (role = 2 && (d.circuit? o).isSome) then 2
  else if (role ≠ 1 && role ≠ 2) || (role = 2 && o = k) then 3
  else if role = 1 && !(d.isMember x.far && !d.isSelf x.far) then 4
  else if x.job = 0 && !port.steward then 6
  else 0

/-- CIRCUIT_SETUP: a write of PLV_CIRC_CMD with GO and OP 0. -/
def fxCircuitSetup (port : Port) (d : Device) : Device :=
  let k := d.circSel port
  if !port.circuits then d
  else
    let r := d.circSetupResult port k
    let d := d.circResult k r
    if r ≠ 0 then d
    else
      let (role, x) := d.circConfig k
      let d := { d with circuits := Table.put d.circuits k x }
      if role = 2 then
        { d with circuits := Table.put d.circuits (circKey x.outPort x.outCircuit)
                   { x with outPort := k / 64, outCircuit := k % 64 } }
      else d

/-- R760: what refuses a tear-down. -/
def Device.circTeardownResult (d : Device) (port : Port) (k : Nat) : Nat :=
  match d.circuit? k with
  | none => 2
  | some x =>
    let held := x.job != 0 && (d.images.any (fun e => e.2.job == x.job) || d.steps.any (fun e => e.2.job == x.job))
    if held then 5 else if x.job = 0 && !port.steward then 6 else 0

/-- CIRCUIT_TEARDOWN: a write of PLV_CIRC_CMD with GO and OP 1; a transit record goes with its twin record. -/
def fxCircuitTeardown (port : Port) (d : Device) : Device :=
  let k := d.circSel port
  if !port.circuits then d
  else
    let r := d.circTeardownResult port k
    let d := d.circResult k r
    if r ≠ 0 then d
    else match d.circuit? k with
      | none => d
      | some x => if x.ends then d.dropRecord k else (d.dropRecord k).dropRecord (circKey x.outPort x.outCircuit)

end Sys2Proof.Machine
end

