-- ==== Sys2Proof/Machine/Timer.lean ====
section
/-!
DEFINITION. The writes that set the breath, the arbiters, the regulators and the domain (R42, R594 to R601, R619, R626, R627,
R772, R773, R779 to R783, R909, R910), and the edges and ticks that arrive between breaths.
-/
namespace Sys2Proof.Machine

/-! ### Values in force and values written (R597, R910) -/

/-- BRT_SRC.SOURCE in force. -/
def Device.source (d : Device) : Nat := d.reg (regKey BRT_SRC 1) % 4

/-- The source that is in force after the next boundary. -/
def Device.sourceComing (d : Device) : Nat := d.timer.heldSource.getD d.source

/-- A port that writes the BRT, SCH and regulator registers (R647, R708). -/
def Port.operates (p : Port) : Bool :=
  match p with
  | .mgmt => true
  | .pf => true
  | .jtag => true
  | _ => false

/-! ### The domain (R42, R772, R773, R779) -/

/-- R773: PLV_DOMAIN_CFG.ENABLE is 1 and INDEX is a member. -/
def Device.formed (d : Device) : Bool :=
  d.regField PLV_DOMAIN_CFG 31 31 == 1 && bitOf d.memberMask (d.regField PLV_DOMAIN_CFG 6 0)

/-- R782, R794: this device sources ticks. -/
def Device.isMaster (d : Device) : Bool :=
  d.formed && (d.regField PLV_DOMAIN_CFG 6 0 == d.regField PLV_DOMAIN_CFG 14 8 || d.timer.master)

/-- R773: HUB_DEVICE_INDEX follows the domain: IN_DOMAIN and INDEX where it is formed with two or more members. -/
def Device.formDomain (d : Device) : Device :=
  d.setReg HUB_DEVICE_INDEX
    (if d.formed && decide (2 ≤ countOnes d.memberMask 72) then 2 ^ 31 + d.regField PLV_DOMAIN_CFG 6 0 else 0)

/-- R772: a job holds a circuit or a region of another device, or a circuit record is live. Regions of other devices are
reached over circuits only. -/
def Device.domainLocked (d : Device) : Bool := !d.circuits.isEmpty

/-- A write of a register of the domain configuration: PLV_DOMAIN_CFG, PLV_DOMAIN_ID or PLV_MEMBERS0 to PLV_MEMBERS2. -/
def Device.domainWrite (d : Device) (off word : Nat) : Device :=
  if d.domainLocked then d.raise PLV_DOMAIN_CFG 30
  else if off = PLV_DOMAIN_CFG then
    let err := d.regField PLV_DOMAIN_CFG 30 30 == 1 && !bitOf word 30
    let index := if bitsOf word 6 0 ≤ 71 then bitsOf word 6 0 else d.regField PLV_DOMAIN_CFG 6 0
    (d.setReg PLV_DOMAIN_CFG
      (2 ^ 31 * bitsOf word 31 31 + 2 ^ 30 * bit err + 2 ^ 16 * bitsOf word 22 16 + 2 ^ 8 * bitsOf word 14 8 + index)).formDomain
  else if off = PLV_DOMAIN_ID then d.setReg off word
  else if off = PLV_MEMBERS || off = PLV_MEMBERS + 4 then (d.setReg off word).formDomain
  else if off = PLV_MEMBERS + 8 then (d.setReg off (word % 256)).formDomain
  else d

/-- DOMAIN_CONFIG_WRITE: `off` is the register's offset in the PLV block; only the steward may write (R772). -/
def fxDomainConfigWrite (port : Port) (off word : Nat) (d : Device) : Device :=
  if port.steward then d.domainWrite (0x800000 + off) word else d

/-! ### BRT_PERIOD and BRT_SRC (R601, R783) -/

/-- P0 to P3 budgets of an arbiter kind, in ns. -/
def Device.arbSum (d : Device) (kind : Nat) : Nat :=
  (List.range 4).foldl (fun n c => n + d.reg (regKey (SCH_ARB_BUDGET + 4 * c) kind)) 0

/-- R601: the device could run with this period: the range, every image's steps, every arbiter's budgets. -/
def Device.couldRun (d : Device) (period : Nat) : Bool :=
  decide (20 ≤ period) && decide (period ≤ 4000) && d.images.all (fun e => (e.2.unfit period).isNone) &&
    (List.range 7).all (fun k => decide (d.arbSum k ≤ 1000 * (period - 4)))

/-- BRT_PERIOD_WRITE: refused, or held for the next boundary; on the master it is proposed in the ticks of the next breath. -/
def fxBrtPeriodWrite (port : Port) (word : Nat) (d : Device) : Device :=
  let v := bitsOf word 11 0
  if !port.operates then d
  else if !d.couldRun v || d.sourceComing = 2 then d.raise BRT_STATUS 30
  else
    let t := d.timer
    let t := if d.isMaster then { t with proposed := some v, announced := false, nak := false }
      else { t with heldPeriod := some v }
    ({ d with timer := t } : Device).setReg BRT_PERIOD v

/-- BRT_SRC_WRITE: held for the next boundary; 0b11 is a reserved value. -/
def fxBrtSrcWrite (port : Port) (word : Nat) (d : Device) : Device :=
  let v := bitsOf word 1 0
  if !port.operates || v = 3 then d
  else ({ d with timer := { d.timer with heldSource := some v } } : Device).setReg BRT_SRC v

/-! ### Arbiter budgets and regulators (R619, R626, R627) -/

/-- R627: the run phase that bounds a budget write, in ns. -/
def Device.budgetLimit (d : Device) : Nat :=
  let held := [d.timer.heldPeriod, d.timer.proposed].filterMap id
  1000 * (held.foldl min d.period - 4)

/-- SCH_ARB_BUDGET_WRITE: of class `c` of the kind that the port has selected. -/
def fxSchArbBudgetWrite (port : Port) (c word : Nat) (d : Device) : Device :=
  let kind := bitsOf (d.portReg port SCH_ARB_SEL) 2 0
  let v := bitsOf word 21 0
  let n := fun i : Nat => if i = c then v else d.reg (regKey (SCH_ARB_BUDGET + 4 * i) kind)
  if !port.operates || 3 < c || 6 < kind then d
  else if d.images.any (fun e => e.2.ready) || d.budgetLimit < n 0 + n 1 + n 2 + n 3 ||
      (kind = 0 && (200 < n 0 || 20000 < n 0 + n 1)) then
    d.setRegField (portKey SCH_ARB_SEL port) 31 31 1
  else d.setReg (regKey (SCH_ARB_BUDGET + 4 * c) kind) v

/-- REGULATOR_WRITE: `reg` is 0 PRT_REG_CTRL, 1 PRT_REG_REFILL, 2 PRT_REG_CAP of bucket `k` of partition `p`; held until the next
intake. -/
def fxRegulatorWrite (port : Port) (p k reg word : Nat) (d : Device) : Device :=
  if !port.operates || 11 < p || 2 < k || 2 < reg then d
  else
    let off := prtOff p (PRT_REG_CTRL + 0x20 * k + 4 * reg)
    (d.setReg off (if reg = 0 then word &&& 0x80000000 else word)).modBucket p k (fun b => { b with held := true })

/-! ### Edges and ticks (R595, R598, R600, R780, R783, R909) -/

/-- BREATH_IN_EDGE: a rising edge, `us` µs after the current breath began (R598, R909). -/
def fxBreathInEdge (us : Nat) (d : Device) : Device :=
  if !d.timer.on || d.source ≠ 1 then d
  else if d.timer.edge || (d.timer.begun && decide (us < d.period)) then d.bump BRT_IN_EARLY 1
  else { d with timer := { d.timer with edge := true } }

/-- TRACE_TRIG_EDGE: an edge of the land while it serves TRACE_TRIG (R600). -/
def fxTraceTrigEdge (d : Device) : Device :=
  if d.source = 1 || d.regField BRT_PIN 0 0 = 0 then d
  else { d with timer := { d.timer with traceTriggers := d.timer.traceTriggers + 1 } }

/-- DOMAIN_TICK: a tick on port `p`: BREATH, PERIOD_US, NEXT_PERIOD, and the tick's time minus E in ns, a signed 16-bit number
(R780, R781). -/
def fxDomainTick (p breath period next skew : Nat) (d : Device) : Device :=
  let t := d.timer
  if !t.on || d.source ≠ 2 || t.master || t.tick.isSome || 16 < p || !d.portUp p || !bitOf (d.reg PLV_TICK_PORTS) p ||
      (t.begun && decide (breath ≤ d.breath)) then d
  else
    let d := { d with timer := { t with tick := some { breath := breath % 2 ^ 48, period := period % 2 ^ 16
                                                       next := next % 2 ^ 16 } } }
    if t.begun then d.setReg PLV_TICK_SKEW (skew % 2 ^ 16) else d

/-- PERIOD_NAK: a block with PERIOD_NAK on port `p`: repeated on every UP port during this breath; the master's proposal is
refused (R783). -/
def fxPeriodNak (p : Nat) (d : Device) : Device :=
  if 16 < p || !d.portUp p then d
  else
    let d := (List.range 17).foldl (fun d q => if d.portUp q then d.modLink q (fun x => { x with nakPeriod := true }) else d) d
    if d.timer.announced then { d with timer := { d.timer with nak := true } } else d

end Sys2Proof.Machine
end

