-- ==== Sys2Proof/Machine/Restart.lean ====
section
/-!
DEFINITION. Warm resets of partitions (R396, R459, R818) and the restart of a job (R847 to R857); the fault ring's base
(R859).
-/
namespace Sys2Proof.Machine

/-! ### The warm reset of a partition (R818) -/

/-- R396: the tile mover channels of a partition end what they hold, and the commands that wait for room on them. -/
def Device.discardChannels (d : Device) (p : Nat) : Device :=
  let mine := fun c : Nat => chanPart c == some p
  let d := (List.range 16).foldl (fun d i =>
    let c := 16 * p + i
    let d := (d.mover c).ringWork.foldl (fun d u => d.spoilFences u 0x0511) d
    ((d.setHalted c false).discardQueue c).modMover c (fun m => { m with ringWork := [] })) d
  let waits := d.staged.filter (fun s => s.cmd.opcode == 0x20 && !s.started &&
    (match moveChannel s.entry with | some c => mine c | none => false))
  let d := { d with txq := d.txq.filter (fun t => !(t.kind == 1 && mine t.chan))
                    requests := d.requests.filter (fun e => !mine e.2.chan) }
  waits.foldl (fun d s => (d.spoilFences s.cmd.uid 0x0511).complete s.cmd 0x0511 []) d

/-- The fabric after the reset: everything is gone but the valves' high-water marks, which are diagnostic counters. -/
def Fabric.reset (f : Fabric) : Fabric :=
  { halted := f.halted
    cells := Table.mapVals f.cells (fun _ c => { valve := { highWater := c.valve.highWater } }) }

/-- RCU_LAST_BLOCK (R821, R823). -/
def Device.lastBlock (d : Device) (kind index : Nat) : Device := d.setReg RCU_LAST_BLOCK (2 ^ 31 + 256 * kind + index)

/-- R818: the warm reset of partition `p` and its Drone; stop loads under way complete with `status`. -/
def Device.warmReset (d : Device) (p status : Nat) : Device :=
  let d := (d.part p).loads.foldl (fun d l => d.completeOpt l.cmd status []) d
  let d := d.discardChannels p
  let d := d.modPart p (fun x =>
    { x with fabric := x.fabric.reset, slots := [], epoch := 0, active := none, loads := [], switch := none,
             draining := false, closed := false, rings := [], admitted := [], running := none, replay := none,
             parked := false, front := [] })
  let d := (d.zeroRange (memKey 0 (p * 0x4000000)) 0x4000000).queuesRestart p
  let d := (d.setReg (prtOff p PRT_STOP_STATUS) 0).lastBlock 0 p
  ((d.zeroRange (drnKey p 0) 0x1000000).modDrone p (fun x => { x with step := none })).setRegField (drnOff p DRN_STATUS) 30 30 0

/-! ### Stage 2 (R847, R857) -/

/-- The stops that a partition's slots hold: partition, slot, STOP_ID, image, was it ACTIVE. -/
def Device.slotRecord (d : Device) (p : Nat) : List (Nat × Nat × Nat × Nat × Bool) :=
  (List.range 4).filterMap (fun i =>
    let s := (d.part p).slot i
    if (s.state = .ready || s.state = .active) && s.image ≠ 0 then some (p, i, s.stopId, s.image, s.state == .active) else none)

/-- R857: the job's chains, passes and sampler rows are dropped; a request that is being cancelled ends. -/
def Device.dropWork (d : Device) (j : Nat) : Device :=
  let d := (d.chains.filter (fun c => c.job == j)).foldl (fun d c =>
    if c.dropped then d.endChainRequest c 0x1107 else d.dropChain c.id) d
  { d with groups := Table.mapVals d.groups (fun _ g =>
             if g.job = j then { job := g.job, members := g.members } else g)
           rows := d.rows.filter (fun r => r.job != j)
           seqs := Table.mapVals d.seqs (fun k q => if k / 16384 = j then { q with chain := none } else q)
           fences := d.fences.filter (fun f =>
             match f.owner with
             | .kv j' _ => j' != j
             | .logits _ _ j' _ _ => j' != j
             | .front p _ _ => (d.part p).job != j
             | .lull id => !d.longOps.any (fun l => l.id == id && (match l.kind with | .lull j' _ _ => j' == j | _ => false))
             | .command _ => true) }

/-- R556, R857: a LULL starts again from its header page; a RESUME releases its pages and starts again. -/
def Device.restartLull (d : Device) (j : Nat) : Device :=
  d.longOps.foldl (fun d l =>
    let again := fun d : Device =>
      (d.forget (longUid l.id)).modLong l.id (fun l => { l with step := 0, attempt := 0, busy := false })
    match l.kind with
    | .lull j' _ _ => if j' = j then again d else d
    | .resume j' q =>
      if j' = j then
        again (d.modSeq j q (fun s => { s with pages := s.pages.take s.prefixPages, scales := s.scales.take s.prefixPages
                                               reservedPos := 32 * s.prefixPages }))
      else d
    | _ => d) d

/-- Stage 2 begins: the slots are recorded, and a warm reset runs on every partition of the job. -/
def Device.beginReset (d : Device) (j : Nat) : Device :=
  let x := d.job j
  let parts := d.jobParts j
  let reload := parts.flatMap (fun p => d.slotRecord p)
  let d := ((d.dropWork j).restartLull j).galRestart j
  let d := parts.foldl (fun d p => d.warmReset p x.firstFault) d
  d.modJob j (fun x => { x with state := .resetting, reload := reload, landed := [], reloadAsked := false, waited := 0
                                waitReason := 0, restartBreath := none })

/-- RESTART_HOLD_EXPIRY: a breath start after HOLD_BREATHS further breaths in HALTED. A job that is wholly saved restarts when
it is resumed. -/
def fxRestartHoldExpiry (j : Nat) (d : Device) : Device :=
  let x := d.job j
  if x.state ≠ .halted || x.suspend = .saved || x.held ≤ d.regField MGT_FAULT_CFG 7 0 then d else d.beginReset j

/-! ### Stage 3 (R847, R848, R849) -/

/-- R848: the job's lowest-indexed device, once every device has reported, fixes the restart breath and tells the others. -/
def Device.fixRestart (d : Device) (j : Nat) : Device :=
  let x := d.job j
  let devs := d.jobDevices j
  if d.lowestDevice j ≠ d.index || x.restartBreath.isSome || devs.length ≤ 1 || !(devs.all (fun v => x.reports.contains v)) then d
  else
    let b := d.breath + 2
    ((devs.drop 1).foldl (fun d v => d.sendControl v j 3 (leBytes 4 j ++ leBytes 8 b)) d).modJob j (fun x =>
      { x with restartBreath := some b })

/-- Stage 3 begins; the job reports its reset to its lowest-indexed device. -/
def Device.beginReload (d : Device) (j : Nat) : Device :=
  let d := d.modJob j (fun x => { x with state := .reloading })
  if d.lowestDevice j = d.index then (d.modJob j (fun x => { x with reports := (x.reports ++ [d.index]).eraseDups })).fixRestart j
  else d.sendControl (d.lowestDevice j) j 2 (leBytes 4 j)

/-- PARTITION_WARM_RESET_COMPLETE: the reset of partition `p` has ended, at a restart or at a block reset (R823). -/
def fxPartitionWarmResetComplete (p : Nat) (d : Device) : Device :=
  let j := (d.part p).job
  let x := d.job j
  if !decide (p < 12) then d
  else if x.state = .resetting && !x.landed.contains p then
    let d := (d.modFab p (fun f => { f with halted := false })).modJob j (fun x => { x with landed := x.landed ++ [p] })
    if (d.jobParts j).all (fun q => (d.job j).landed.contains q) then d.beginReload j else d
  else match d.blockResets.find? (fun e => e.1 == 0 && e.2.1 == p) with
    | none => d
    | some e =>
      let d := d.modFab p (fun f => { f with halted := false })
      ({ d with blockResets := d.blockResets.filter (fun b => b != e) } : Device).complete e.2.2 0 []

/-- RESTART_RESET_REPORT: device `dev` reports that its reset for the restart of job `j` is done. -/
def fxRestartResetReport (j dev : Nat) (d : Device) : Device :=
  if (d.job j).state = .none then d
  else (d.modJob j (fun x => { x with reports := (x.reports ++ [dev]).eraseDups })).fixRestart j

/-- RESTART_BREATH_ANNOUNCE: the job's lowest-indexed device has announced breath `n`; stage 4 begins there (R848). -/
def fxRestartBreathAnnounce (j n : Nat) (d : Device) : Device :=
  match (d.job j).state with
  | .resetting => d.modJob j (fun x => { x with restartBreath := some n })
  | .reloading => d.modJob j (fun x => { x with restartBreath := some n })
  | .waiting => d.modJob j (fun x => { x with restartBreath := some n })
  | _ => d

/-- The first intake of stage 3: each slot's stop is loaded again, and the images count as newly switched in. -/
def Device.askReload (d : Device) (j : Nat) : Device :=
  let d := (d.job j).reload.foldl (fun d e =>
    match (d.image? e.2.2.2.1).bind (fun x => x.stops.find? (fun r => r.id == e.2.2.1)) with
    | some r => d.modPart e.1 (fun x => { x with loads := x.loads ++
        [{ slot := e.2.1, src := r.source, image := e.2.2.2.1, stopId := e.2.2.1, restart := true }] })
    | none => d) d
  let d := (d.jobImages j).foldl (fun d e => d.modImage e.1 (fun x => { x with switching := false })) d
  d.modJob j (fun x => { x with reloadAsked := true })

/-- R351: the images of a restarting job are switched in, as soon as there is room (R354). -/
def Device.restartSwitchIns (d : Device) (j : Nat) : Device :=
  (d.jobImages j).foldl (fun d e =>
    match d.image? e.1 with
    | some x => if x.ready && !x.switching then (d.startSwitchIn e.1).getD d else d
    | none => d) d

/-- Stage 3 has ended on this device: every reloaded slot is READY, every resident Front entry is present. -/
def Device.reloaded (d : Device) (j : Nat) : Bool :=
  (d.job j).reloadAsked &&
    (d.job j).reload.all (fun e => d.slotState e.1 e.2.1 == .ready || d.slotState e.1 e.2.1 == .active) &&
    (d.jobImages j).all (fun e => e.2.switching || e.2.front.isEmpty) &&
    (d.jobParts j).all (fun p =>
      ((d.frontOn p).filter (fun e => e.2.1.job == j && e.2.2.2.lead == 0)).all (fun e => d.frontPresent p e))

/-- R849: the reason why a job waits, the lowest first; 0 for none. -/
def Device.waitWhy (d : Device) (j : Nat) : Nat :=
  let x := d.job j
  let devs := d.jobDevices j
  if (d.jobImages j).any (fun e => decide (d.jobCircuits j < e.2.circuits)) then 1
  else if (devs.drop 1).any (fun v => !bitOf d.liveSet v) ||
      (d.lowestDevice j == d.index && decide (100 < x.waited) && devs.any (fun v => !x.reports.contains v)) then 2
  else if (d.jobParts j).any (fun p => !(d.part p).inService) then 3
  else if d.libOn && (d.jobImages j).any (fun e => e.2.pages.any (fun r => (d.shard (d.pageShard e.2 r)).state == 3)) then 4
  else 0

/-! ### Stage 4 (R847, R852 to R856) -/

/-- R852: the base position of a restarted request. In HANDOFF with no token delivered the prompt has been committed and the
first token has not been drawn. -/
def Seq.restartBase (q : Seq) : Nat :=
  if q.state = .prefill then q.committed
  else if q.delivered = 0 then q.committed - q.promptLen
  else q.committed + 1 - q.promptLen - q.delivered

/-- R852: a request is re-prefilled with its forced prefix. -/
def Device.restartRequest (d : Device) (j id : Nat) (q : Seq) : Device :=
  let b := q.restartBase
  (d.setSeq j id { q with base := b, committed := b, forced := true, kvChannels := [], tokenReady := false, fenceBad := false,
                          guesses := [], prep := [], prepared := false }).startChain j q.image id true

/-- Requests of a job whose state says that they are in hand. -/
def SeqState.active : SeqState → Bool
  | .prefill => true
  | .handoff => true
  | .decode => true
  | _ => false

/-- Stage 4 begins: every request in PREFILL, HANDOFF or DECODE is re-prefilled; of those in `fails`, named as
job × 16,384 + SEQ_ID, a read of the prompt or of the output fails (R854). -/
def Device.beginReplay (d : Device) (j : Nat) (fails : List Nat) : Device :=
  let d := (d.jobSeqs j).foldl (fun d e =>
    if !e.2.state.active then d
    else if e.2.cancelled then d.endRequest j e.1 0x1107
    else if fails.contains (seqKey j e.1) then d.endRequest j e.1 0x0110
    else d.restartRequest j e.1 e.2) d
  d.modJob j (fun x => { x with state := .replaying, firstStep := false })

/-- Every re-prefilled request has reached DECODE again, or has ended. -/
def Device.replayed (d : Device) (j : Nat) : Bool :=
  (d.jobSeqs j).all (fun e => !(e.2.forced && (e.2.state == .prefill || e.2.state == .handoff)))

/-- What an entry that is not of a fault says: the job's first fault, of the hub. -/
def Job.entry (x : Job) : FaultInfo := { status := x.firstFault, kind := 0 }

/-- One job at the intake of breath `n`, before steps are admitted. -/
def Device.restartIntake (d : Device) (n : Nat) (fails : List Nat) (j : Nat) : Device :=
  let reload := fun d : Device =>
    let d := if (d.job j).reloadAsked then d else d.askReload j
    let d := (d.restartSwitchIns j).modJob j (fun x => { x with waited := x.waited + 1 })
    let w := d.waitWhy j
    let was := (d.job j).waitReason
    let d := d.modJob j (fun x => { x with waitReason := w, state := if w = 0 then .reloading else .waiting })
    if w ≠ 0 then (if was = 0 then d.addEntry .waiting j (d.job j).entry false d.index 0 0 else d)
    else
      let due := match (d.job j).restartBreath with
        | some b => decide (b ≤ n)
        | none => decide ((d.jobDevices j).length ≤ 1)
      if d.reloaded j && due then d.beginReplay j fails else d
  match (d.job j).state with
  | .halted => d.modJob j (fun x => { x with held := x.held + 1 })
  | .reloading => reload d
  | .waiting => reload d
  | .replaying => if (d.job j).firstStep && d.replayed j then d.modJob j (fun x => { x with state := .running }) else d
  | _ => d

def Device.restartIntakes (d : Device) (n : Nat) (fails : List Nat) : Device :=
  (d.jobs.map (·.1)).foldl (fun d j => d.restartIntake n fails j) d

/-- The job has a step admitted. -/
def Device.jobStarted (d : Device) (j : Nat) : Bool :=
  d.chains.any (fun c => c.job == j && decide (0 < c.next)) ||
    List.any d.groups (fun e => e.2.job == j && decide (0 < e.2.admitted))

/-- R847: the RESTARTED entry of a job that has admitted its first step in stage 4; RECOVERY_US is a free value, since the
model keeps no time within a breath. A job with no request to replay needs no step. -/
def Device.restartedEntries (d : Device) : Device :=
  (d.jobs.map (·.1)).foldl (fun d j =>
    let x := d.job j
    if x.state ≠ .replaying || x.firstStep then d
    else if d.jobStarted j then
      let (us, d) := d.fresh 32
      (d.addEntry .restarted j x.entry false d.index 0 us).modJob j (fun x => { x with firstStep := true })
    else if d.replayed j then d.modJob j (fun x => { x with state := .running })
    else d) d

/-! ### Messages and registers (R845, R851, R859) -/

/-- JOB_FAULT_MESSAGE: the first of a pair of origin and SERIAL halts the job here and is told on (R845). The message does not
carry the fault's status, so here it is a free value. -/
def fxJobFaultMessage (j origin serial : Nat) (d : Device) : Device :=
  let x := d.job j
  if x.state = .none || x.seen.contains (origin, serial) then d
  else
    let (st, d) := d.fresh 16
    let d := d.modJob j (fun x => { x with seen := x.seen ++ [(origin, serial)] })
    let f : FaultInfo := { status := st, kind := 0 }
    if x.state.down then
      let d := d.addEntry .remote j f true origin serial 0
      (d.farDevices j).foldl (fun d dev => d.sendControl dev j 1 (leBytes 4 j ++ leBytes 4 origin ++ leBytes 8 serial)) d
    else d.enterHalted j f .remote origin serial

/-- MGT_JOB_RESTART: a write of 1 to MGT_JOB_STATE.RESTART of the job that the port has selected (R851). -/
def fxMgtJobRestart (port : Port) (d : Device) : Device :=
  let j := d.portReg port MGT_JOB_SEL
  let go := fun d : Device => (d.modJob j (fun x => { x with storm := [], reports := [] })).beginReset j
  if !port.steward then d
  else match (d.job j).state with
    | .waiting => go d
    | .stopped => go ((d.bump MGT_RESTART_COUNT 1).modJob j (fun x => { x with restarts := x.restarts + 1 }))
    | _ => d

/-- R859: what a new base does: a valid one turns the ring on and takes the hub page's entries, in SERIAL order. -/
def Device.ringMoved (d : Device) : Device :=
  match d.ringBase with
  | none => { d with ring := { d.ring with on := false } }
  | some a =>
    let d := d.ring.page.foldl (fun d e => d.store (localKey a + 64 * (e.1 % 4096)) e.2) d
    { d with ring := { d.ring with on := true, page := [] } }

/-- FRING_BASE_WRITE: both halves of MGT_FRING_BASE are written. -/
def fxFringBaseWrite (port : Port) (base : Nat) (d : Device) : Device :=
  if !port.steward then d
  else ((d.setReg MGT_FRING_BASE_LO base).setReg MGT_FRING_BASE_HI (base / 2 ^ 32)).ringMoved

/-- STOP_LOAD_COMPLETE (R233 to R235, R241, R247, R350): the last configuration word of a load is written; a load of stage 3
brings its slot back. -/
def fxStopLoadComplete (p : Nat) (d : Device) : Device := d.stopLoaded p

end Sys2Proof.Machine
end

