-- ==== Sys2Proof/Machine/TwinPair.lean ====
section
/-!
DEFINITION. Twin pairs (R785 to R791, R858): heartbeats, mirror updates and their acknowledgements, takeover.
-/
namespace Sys2Proof.Machine

/-! ### Heartbeats (R785, R789) -/

def Device.twinOn (d : Device) : Bool := d.regField PLV_TWIN_CFG 31 31 == 1
def Device.twinState (d : Device) : Nat := d.regField PLV_TWIN_STATUS 31 30

/-- TWIN_HEARTBEAT_RECEIVE: the first of this breath or another; `breath` is the twin's. The pair is PAIRED. -/
def fxTwinHeartbeatReceive (breath : Nat) (d : Device) : Device :=
  if !d.twinOn then d
  else
    let d := { d with twin := { d.twin with heard := true } }
    let d := (d.setReg PLV_TWIN_HB breath).setRegField PLV_TWIN_STATUS 15 8 0
    (d.setRegField PLV_TWIN_STATUS 31 30 1).mirrorSend

/-- The heartbeat of an intake: breath number, state, mirror position; over the twin port, and with ALT_EN over the ALT
circuit too. -/
def Device.sendHeartbeat (d : Device) : Device :=
  let body := leBytes 8 d.breath ++ leBytes 1 d.twinState ++ leBytes 8 d.twin.position
  let twin := d.regField PLV_TWIN_STATUS 6 0
  let d := if d.twinUp then d.emit (.link 16 16 twin body) else d
  if d.regField PLV_TWIN_CFG 29 29 = 1 then d.emit (.link (d.regField PLV_TWIN_CFG 20 16) 16 twin body) else d

/-- What a breath start does to the pair: a breath in which no heartbeat came is a miss, once the pair has been PAIRED; this
breath's heartbeat leaves. -/
def Device.twinBreath (d : Device) : Device :=
  if !d.twinOn then d
  else
    let st := d.twinState
    let d := if (st = 1 || st = 2) && !d.twin.heard then
        (d.setRegField PLV_TWIN_STATUS 15 8 (min 255 (d.regField PLV_TWIN_STATUS 15 8 + 1))).setRegField PLV_TWIN_STATUS 31 30 2
      else d
    ({ d with twin := { d.twin with heard := false } } : Device).sendHeartbeat

/-- A write of PLV_TWIN_CFG: with ENABLE clear the pair is off, and nothing waits for the twin. -/
def Device.twinCfgWrite (d : Device) (w : Nat) : Device :=
  let d := d.setReg PLV_TWIN_CFG (w &&& 0xE01F3F00)
  if bitOf w 31 then d else ((d.setRegField PLV_TWIN_STATUS 31 30 0).setRegField PLV_TWIN_STATUS 15 8 0).mirrorOff

/-! ### The mirror (R786, R788) -/

/-- The memory key of the mirror: 4 MiB of this device's T3, page-aligned. -/
def Device.mirrorKey (d : Device) : Option Nat :=
  let a := d.reg64 PLV_TWIN_MIRROR_LO
  if a ≠ 0 && d.isSelf (addrDevice a) && isT3 (addrSpace a) && a % 65536 == 0 && d.inSpace (addrSpace a) (addrOffset a) 0x400000 then
    some (localKey a)
  else none

/-- The parts of an update go to their places in the mirror; at most `fuel` of them. -/
def Device.storeParts (d : Device) (k : Nat) : Nat → List Byte → Device
  | 0, _ => d
  | fuel + 1, b =>
    if b.length < 8 then d
    else
      let off := leAt b 0 4
      let n := leAt b 4 4
      let d := if off + n ≤ 0x400000 then d.store (k + off) (sliceOf b 8 n) else d
      d.storeParts k fuel (b.drop (8 + n))

/-- MIRROR_UPDATE: an update of the twin is stored and acknowledged with its position. -/
def fxMirrorUpdate (body : List Byte) (d : Device) : Device :=
  match d.mirrorKey with
  | none => d
  | some k =>
    if !d.twinOn then d
    else
      let d := d.storeParts k (body.length + 1) (body.drop 8)
      ({ d with twin := { d.twin with received := leAt body 0 8 } } : Device).emit
        (.link d.twinPath 18 (d.regField PLV_TWIN_STATUS 6 0) (leBytes 8 (leAt body 0 8)))

/-- MIRROR_ACK: the twin has the update under way; `position` is that update's. -/
def fxMirrorAck (position : Nat) (d : Device) : Device := if position = d.twin.position then d.mirrorAcked else d

/-! ### Takeover (R790, R791, R858) -/

/-- Missed heartbeats at which the device takes over (R789). -/
def Device.missLimit (d : Device) : Nat := if d.regField PLV_TWIN_CFG 30 30 = 0 then 8 else 10

/-- The function that holds an adopted session here. -/
def Device.adoptFn (d : Device) (fn : Nat) : Nat := if fn = 0 || !d.pcie.vfEnable || 63 < fn then 0 else fn

/-- Step 3: session `s` is adopted from its mirrored record; where it is enabled here, that is counted. -/
def Device.adoptSession (d : Device) (k s : Nat) : Device :=
  let b := d.readBytes (k + 64 * s) 64
  if leAt b 0 1 ≠ 1 then d
  else if (d.session s).enable || (d.session s).state ≠ .off then d.bump PLV_ADOPT_FAIL 1
  else
    d.setSession s
      { fn := d.adoptFn (leAt b 1 1), enable := true, state := .running, sqLog := leAt b 2 1, cqLog := leAt b 3 1
        sqBase := leAt b 8 8, cqBase := leAt b 16 8, irq := bitOf (leAt b 4 1) 1, holdoff := leAt b 5 1
        vector := leAt b 6 2, sqHead := leAt b 24 4, tail := leAt b 24 4, cqTail := leAt b 28 4, head := leAt b 28 4
        phase := bitOf (leAt b 4 1) 0 }

/-- The sessions that step 3 adopts. -/
def Device.adoptable (d : Device) (k : Nat) : List Nat :=
  (List.range 4096).filter (fun s =>
    leAt (d.readBytes (k + 64 * s) 1) 0 1 == 1 && !(d.session s).enable && (d.session s).state == .off)

/-- Records of a list of the mirror: those before the first zero record. -/
def Device.mirrorList (d : Device) (key n : Nat) : Nat → List (List Byte)
  | 0 => []
  | fuel + 1 =>
    let b := d.readBytes key n
    if allZero b then [] else b :: d.mirrorList (key + n) n fuel

/-- Step 4: the host writes of a record are issued again: a write that waited, or the tokens of a request's last commit. -/
def Device.reissue (d : Device) (b : List Byte) : Device :=
  if leAt b 0 1 = 2 then
    d.emit (.hostWrite (d.adoptFn (leAt b 1 1)) (BitVec.ofNat 64 (leAt b 104 8)) (sliceOf b 112 (leAt b 2 1)))
  else
    let out := leAt b 24 8
    let n := leAt b 58 1
    if addrDevice out ≠ 126 || n = 0 then d
    else d.emit (.hostWrite (d.session (leAt b 2 2)).fn
      (BitVec.ofNat 64 ((out + 4 * (leAt b 48 4 - n)) % 2 ^ 57)) (sliceOf b 68 (4 * n)))

/-- A command of an adopted session. -/
def Device.adoptedCmd (d : Device) (s opcode tag : Nat) : CmdRef × Device :=
  let (u, d) := d.uid
  ({ origin := .session s, port := (d.session s).port, uid := u, opcode := opcode, flags := 0, tag := BitVec.ofNat 32 tag
     inst := 0 }, d)

/-- The bytes of an operand of an adopted request: this device's own memory, or what a read has brought, none where it
fails. -/
def Device.adoptRead (d : Device) (a n : Nat) (given : List Byte) : Option (List Byte) :=
  if addrDevice a ≠ 126 && d.isSelf (addrDevice a) then
    (if d.mapped a n && (d.poisonIn (localKey a) n).isNone then some (d.readBytes (localKey a) n) else none)
  else if given.isEmpty || given.length < n then none else some (given.take n)

/-- R858: the deployment that continues a request of model `m`, version `v` for function `fn`. -/
def Device.adoptDeploy (d : Device) (fn m v : Nat) : Option (Nat × Deploy) :=
  List.find? (fun e : Nat × Deploy =>
    e.2.fn == fn && e.2.model == m && m != 0 && e.2.current == v && v != 0 && (d.image? e.2.image).isSome) d.deploys

/-- The mute state after the delivered tokens. -/
def Device.rebuildMute (d : Device) (m : MuteState) : List Nat → MuteState
  | [] => m
  | t :: ts => match d.stepMute m t with | .ok (m', _) => d.rebuildMute m' ts | .error _ => m

/-- R858: a request goes on from its forced prefix on the deployment found, or ends with a status. -/
def Device.continueRequest (d : Device) (c : CmdRef) (b : List Byte) (y : Nat × Deploy) (x : Image)
    (prompt out sampling : List Byte) : Device :=
  let refuse := fun (d : Device) st => d.complete c st (leBytes 4 (leAt b 48 4) ++ leBytes 4 (leAt b 12 4))
  let p := leAt b 40 4
  let k := leAt b 57 1
  let given := leAt b 48 4
  let n := leAt b 58 1
  match d.adoptRead (leAt b 16 8) (4 * p) prompt, d.adoptRead (leAt b 24 8) (4 * (given - n)) (padTo 1 out),
      d.adoptRead (leAt b 32 8) 64 sampling with
  | some _pb, some ob, some sb =>
    let blk := SampleBlock.ofBytes sb
    let toks := tokensOf ob ++ tokensOf (sliceOf b 68 (4 * n))
    let fl := leAt b 1 1
    match d.freeSeqId y.2.job with
    | none => refuse d 0x1105
    | some id =>
      let q : Seq := { level := leAt b 56 1, specK := k, stream := bitOf fl 1, keep := bitOf fl 0, delivered := given
                       maxTokens := leAt b 44 4, prompt := leAt b 16 8, promptLen := p, out := leAt b 24 8
                       sampling := leAt b 32 8, image := y.2.image, group := x.group.foldl (fun m i => m + 2 ^ i) 0
                       cmd := some c, block := blk, deploy := some y.1, tokens := toks
                       forced := true, perPage := x.framesPerPage
                       nextToken := toks.getLast?.getD 0 }
      let m := d.startMute {} blk
      let q := { q with mute := if blk.maskKind = 2 then d.rebuildMute m toks else m }
      if d.blockMalformed c.port sb x.vocab then refuse d 0x0704
      else match d.reservePages q x.group (p + q.maxTokens + k) with
        | none => refuse d 0x1104
        | some q => (d.setSeq y.2.job id q).startChain y.2.job y.2.image id true
  | _, _, _ => refuse d 0x0110

/-- Step 5 for a request: its three reads bring `prompt`, `out` and `sampling`. -/
def Device.adoptRequest (d : Device) (b : List Byte) (prompt out sampling : List Byte) : Device :=
  let s := leAt b 2 2
  let (c, d) := d.adoptedCmd s 0x40 (leAt b 4 4)
  let d := { d with staged := d.staged ++ [({ cmd := c, entry := padTo 64 [0x40], started := true } : Staged)] }
  let ended := fun d : Device => d.complete c 0x0902 (leBytes 4 (leAt b 48 4) ++ leBytes 4 (leAt b 12 4))
  if leAt b 52 4 ≠ 0 || bitOf (leAt b 1 1) 2 then ended d
  else match d.adoptDeploy (d.session s).fn (leAt b 60 4) (leAt b 64 4) with
    | none => ended d
    | some y =>
      match d.image? y.2.image with
      | none => ended d
      | some x => d.continueRequest c b y x prompt out sampling

def Device.adoptRequests (d : Device) (adopted : List Nat) : List (List Byte) → List (List Byte) → Device
  | [], _ => d
  | b :: l, reads =>
    if leAt b 0 1 = 1 && adopted.contains (leAt b 2 2) then
      (d.adoptRequest b (reads.getD 0 []) (reads.getD 1 []) (reads.getD 2 [])).adoptRequests adopted l (reads.drop 3)
    else d.adoptRequests adopted l reads

/-- TWIN_TAKEOVER: the miss limit is reached (R789). `reads` are, three for each request that is adopted, in the mirror's
order, what the reads of PROMPT, OUT and SAMPLING bring from outside the device; empty where one fails. -/
def fxTwinTakeover (reads : List (List Byte)) (d : Device) : Device :=
  if !d.twinOn || d.twinState ≠ 2 || d.regField PLV_TWIN_STATUS 15 8 < d.missLimit then d
  else
    let d := (d.emit (.land 68 false)).emit (.land 68 true)
    let twin := d.regField PLV_TWIN_STATUS 6 0
    let d := (d.jobs.map (·.1)).foldl (fun d j =>
      if (d.farDevices j).contains twin then d.jobFault j { status := 0x0902, kind := 8, unit := 7, location := 16 } else d) d
    let d := ((d.setRegField PLV_TWIN_STATUS 31 30 3).bump PLV_TAKEOVER_COUNT 1).mirrorOff
    match d.mirrorKey with
    | none => d
    | some k =>
      let adopted := d.adoptable k
      let d := (List.range 4096).foldl (fun d s => d.adoptSession k s) d
      let reqs := d.mirrorList (k + mirrorSeqsAt) 128 16384
      let cmds := d.mirrorList (k + mirrorStagedAt) 16 65536
      let d := (reqs.filter (fun b => leAt b 0 1 != 1 || adopted.contains (leAt b 2 2))).foldl (fun d b => d.reissue b) d
      let d := cmds.foldl (fun d b =>
        if leAt b 2 1 = 0x40 || !adopted.contains (leAt b 0 2) then d
        else
          let (c, d) := d.adoptedCmd (leAt b 0 2) (leAt b 2 1) (leAt b 4 4)
          d.complete c 0x0902 []) d
      d.adoptRequests adopted reqs reads

end Sys2Proof.Machine
end

