-- ==== Sys2Proof/Machine/Boot.lean ====
section
/-!
DEFINITION. Resets and the boot (R595, R798 to R823, R877 to R882): the sources and their reaches, what each reach clears, the
release, the stages of the boot and the sources of firmware; RESET_REQUEST.
-/
namespace Sys2Proof.Machine

/-! ### Reaches (R816, R817, R819, R821) -/

/-- R816, R836: RCU_CTRL.SCHEME is the compatibility scheme. -/
def Device.compat (d : Device) : Bool := d.regField RCU_CTRL 16 16 == 1

/-- R816: the reach of a source, numbered as R819 orders them: 0 power-on, 1 cold, 2 system, 3 device warm, 4 core; `core` is
the REACH of a software request. -/
def Device.reachOf (d : Device) (src : Nat) (core : Bool) : Nat :=
  if d.compat then
    match src with
    | 0 => 0
    | 1 => 0
    | 2 => 2
    | 6 => 2
    | 4 => if core then 4 else 2
    | _ => 4
  else if src ≤ 1 then 1 else 3

/-- RCU_CAUSE.REACH of a reach. -/
def reachCode (r : Nat) : Nat :=
  match r with
  | 0 => 2
  | 1 => 0
  | 2 => 3
  | 3 => 1
  | _ => 4

/-- The registers that a reach keeps, of those that stand in the register file. -/
def keptReg (r key : Nat) : Bool :=
  let off := key % 2 ^ 26
  off == RCU_COUNT_TOTAL || (decide (RCU_COUNT_SRC ≤ off) && decide (off < RCU_COUNT_SRC + 16)) || off == RCU_BOOT ||
    off == RCU_VBAK || (off == RCU_CAUSE && r != 0 && r != 1) || (off == MGT_FRING_HEAD && r != 0 && r != 1) ||
    (r == 4 && (match descAt off with | some x => x.sel == .port | none => false))

/-- R817: a session after a core reset: OFF, its locked fields kept. -/
def Session.coreReset (x : Session) : Session := { sqLog := x.sqLog, cqLog := x.cqLog, sqBase := x.sqBase, cqBase := x.cqBase }

/-- R808: the registers that the standing configuration gives their reset values. -/
def Device.applyConfig (d : Device) (core : Bool) : Device :=
  let v := d.cfgValue
  let dom := v 5
  let p := v 7
  let d := ((d.setReg RCU_CTRL (v 3 + 2 ^ 16 * v 2)).setReg PMU_CAP (v 4)).setReg PMU_DROOP (v 8)
  let d := (d.setReg PMU_RM_WATCH (v 9)).setReg PLV_TWIN_CFG (v 6 &&& 0xE01F3F00)
  let d := (d.setReg PLV_DOMAIN_CFG dom).setReg PLV_DOMAIN_ID (dom / 2 ^ 32)
  let d := (List.range 3).foldl (fun d k => d.setReg (PLV_MEMBERS + 4 * k) (dom / 2 ^ (64 + 32 * k))) d
  let d := ((d.setReg BRT_PERIOD (bitsOf p 11 0)).setReg (regKey BRT_PERIOD 1) (bitsOf p 11 0)).setReg BRT_SRC (bitsOf p 17 16)
  let d := d.setReg (regKey BRT_SRC 1) (bitsOf p 17 16)
  if core then d
  else (List.range 17).foldl (fun d i => d.setRegField (regKey PLV_PORT_CTRL i) 31 31 (v 10 / 2 ^ i % 2)) d

/-- The boot's own state at a reset: what stands in flash, the straps and, at a warm reset, the firmware in boot memory. -/
def Boot.atReset (x : Boot) (r : Nat) : Boot :=
  { bootSrc := x.bootSrc, clkMode := x.clkMode, fwA := x.fwA, fwB := x.fwB, cfgA := x.cfgA, cfgB := x.cfgB
    useB := x.useB, cfgUseB := x.cfgUseB, cfgDefault := x.cfgDefault, activate := x.activate, warm := keepsMemory r
    kept := if keepsMemory r then x.kept else [], keptGood := keepsMemory r && x.keptGood, failsAt := x.failsAt }

/-- R817: what a reach leaves of the device. -/
def Device.clearFor (d : Device) (r : Nat) : Device :=
  let fresh : Device :=
    { mem := d.mem, wlog := d.wlog ++ [.reset r], poison := d.poison.filter (fun g => keptCell r (64 * g))
      regs := d.regs.filter (fun e => keptReg r e.1)
      ring := { serial := if r ≤ 1 then 0 else d.ring.serial }
      out := d.out, freeCounter := d.freeCounter, nextUid := d.nextUid
      ddr := if keepsMemory r then d.ddr else 0, cxl := d.cxl
      sessions := if r = 4 then Table.mapVals d.sessions (fun _ x => x.coreReset) else []
      pcie := if r = 4 then d.pcie else {}
      ports := if r = 4 then Table.mapVals d.ports (fun _ x => { x with reports := [], teardowns := [], transit := [] })
        else Table.mapVals d.ports (fun _ x => { present := x.present })
      power := { shelf := d.power.shelf, cool := d.power.cool, shelfLow := d.power.shelfLow, coolLow := d.power.coolLow
                 watts := d.power.watts }
      supplies := d.supplies, boot := d.boot.atReset r, jtag := if r ≤ 1 then {} else d.jtag
      sensors := d.sensors, mgmt := if r = 4 then d.mgmt else {}, since := d.since, resetRun := d.resetRun, sample := d.sample }
  let fresh := if keepsMemory r then
      { fresh with parts := Table.mapVals d.parts (fun _ x => ({ inService := x.inService } : Partition)) }
    else fresh
  let fresh := fresh.applyConfig (r == 4)
  let twin := if r = 4 then fresh.setRegField PLV_TWIN_STATUS 6 0 (d.regField PLV_TWIN_STATUS 6 0) else fresh
  twin.setRegField PMU_STATUS 31 30 (d.regField PMU_STATUS 31 30)

/-- R821: adds 1 to the 16-bit count of a source. -/
def Device.countSource (d : Device) (src : Nat) : Device :=
  let k := RCU_COUNT_SRC + 4 * (src / 2)
  if src % 2 = 1 then d.modReg k (fun v => putBits v 31 16 (satAdd 16 (bitsOf v 31 16) 1))
  else d.modReg k (fun v => putBits v 15 0 (satAdd 16 (bitsOf v 15 0) 1))

/-- R821: a reset is recorded in RCU_CAUSE and counted; `first` where no reset was under way, `again` where its source has
been recorded for the reset under way. -/
def Device.recordReset (d : Device) (run : ResetRun) (src : Nat) (first again : Bool) : Device :=
  let d := run.sources.foldl (fun d s => d.setRegField RCU_CAUSE s s 1) d
  let d := (d.setRegField RCU_CAUSE 10 8 (run.sources.foldl max 0)).setRegField RCU_CAUSE 18 16 (reachCode run.reach)
  let d := if first then d.bump RCU_COUNT_TOTAL 1 else d
  if again then d else d.countSource src

/-- A reset source asserts (R816, R819): the reset begins, or the one under way begins again with the wider reach. -/
def Device.assertReset (d : Device) (src : Nat) (core : Bool) : Device :=
  let old := d.resetRun
  let was := match old with | some r => r.sources | none => []
  let reach := match old with | some r => min r.reach (d.reachOf src core) | none => d.reachOf src core
  let run : ResetRun := { reach := reach, sources := if was.contains src then was else was ++ [src] }
  ({ (d.clearFor reach) with resetRun := some run } : Device).recordReset run src old.isNone (was.contains src)

/-! ### Sources (R814, R815, R830, R881, R882) -/

/-- R822: both backup supplies have been absent: the backup domain starts from 0. -/
def Device.backupLost (d : Device) : Device :=
  let d := (List.range 4).foldl (fun d k => d.setReg (RCU_COUNT_SRC + 4 * k) 0) (d.setReg RCU_COUNT_TOTAL 0)
  (d.setReg RCU_BOOT 0).raise RCU_VBAK 31

/-- POWER_ON_RESET: VSTBY and VIN rise; `lost` where both backup supplies had been absent. Modules are held in reset and low
power (R898). -/
def fxPowerOnReset (lost : Bool) (d : Device) : Device :=
  let d := if d.supplies.tripped then d.emit (.land 67 true) else d
  let d := { d with supplies := { d.supplies with vstby := true, vio := true, vddq := true, vin := true, tripped := false } }
  let d := if lost then d.backupLost else d
  let d := (List.range 17).foldl (fun d p => (d.emit (.land (1000 + p) false)).emit (.land (1100 + p) true)) d
  { (d.setRegField PMU_STATUS 31 30 1).assertReset 0 false with since := {} }

/-- BROWN_OUT: VIN below 10.2 V for 2 µs where `vin`, and the device falls to STANDBY (R824); or a regulator's output out of
range. -/
def fxBrownOut (vin : Bool) (d : Device) : Device :=
  let d := if vin then
      let d := { d with supplies := { d.supplies with vin := false } }
      if d.supplies.tripped then d else d.setRegField PMU_STATUS 31 30 0
    else d
  if d.supplies.tripped then d else d.assertReset 1 false

/-- RAIL_FAIL: VIO (0), VDDQ_DDR (1) or VSTBY (2) fails; the regulators turn off and a brown-out follows (R881). -/
def fxRailFail (rail : Nat) (d : Device) : Device :=
  let s := d.supplies
  if 2 < rail then d
  else
    let d := { d with supplies := match rail with
                | 0 => { s with vio := false }
                | 1 => { s with vddq := false }
                | _ => { s with vstby := false } }
    if d.supplies.tripped then d else d.assertReset 1 false

/-- RST_N_PULSE: RST_N is low for so many consecutive samples of the filter; 401 are accepted (R815). -/
def fxRstNPulse (samples : Nat) (d : Device) : Device :=
  if samples < 401 then d else ({ d with supplies := { d.supplies with rstHigh := false } } : Device).assertReset 2 false

/-- WATCHDOG_EXPIRY. -/
def fxWatchdogExpiry (d : Device) : Device := d.assertReset 3 false

/-- DEBUG_RESET_REQUEST: the JTAG reset instruction; never on a production part (R2). -/
def fxDebugResetRequest (d : Device) : Device := if d.sample then d.assertReset 5 false else d

/-- CLOCK_FAILURE: no edge of the 25 MHz reference for 2 µs. -/
def fxClockFailure (d : Device) : Device :=
  ({ d with supplies := { d.supplies with reference := false } } : Device).assertReset 6 false

/-- LOCK_UP. -/
def fxLockUp (d : Device) : Device := d.assertReset 7 false

/-- SOFTWARE_RESET: 10 ms after the completion record of a RESET_REQUEST of the whole device (R823). -/
def fxSoftwareReset (d : Device) : Device :=
  match d.boot.requested with
  | none => d
  | some r => d.assertReset 4 (r == 1)

/-! ### The release (R798, R806, R880) -/

/-- R806: RCU_BOOT.FAILS. -/
def Device.bootFails (d : Device) : Nat := d.regField RCU_BOOT 3 0

/-- The boot enters RECOVERY. -/
def Device.enterRecovery (d : Device) : Device :=
  { d with boot := { d.boot with recovery := true } }.raise MGT_BOOT_STATUS 30

/-- RESET_RELEASE: 1 ms after every rail is good, RST_N is high and the reference is stable; the straps are latched and the
boot begins. -/
def fxResetRelease (d : Device) : Device :=
  if d.resetRun.isNone || !d.supplies.vstby || !d.supplies.vin || d.supplies.tripped then d
  else
    let d := { d with supplies := { d.supplies with vio := true, vddq := true, reference := true, rstHigh := true }
                      resetRun := none }
    let d := d.setReg MGT_STRAPS (4 * (d.boot.clkMode % 4) + d.boot.bootSrc % 4)
    let n := d.bootFails
    let d := ({ d with boot := { d.boot with failsAt := n } } : Device).setRegField RCU_BOOT 3 0 (min 15 (n + 1))
    if 6 ≤ n then d.enterRecovery else d

/-! ### Choosing slots (R803, R805, R808, R809) -/

/-- BOOT_SRC as latched. -/
def Device.bootFrom (d : Device) : Nat := d.regField MGT_STRAPS 1 0

/-- R805: the slot that a boot chooses; one that is unproven goes after three failed boots. -/
def chooseAt (fails : Nat) (choice : Option Bool) (proven : Bool → Bool) (rest : Option Bool) : Option Bool × Option Bool :=
  match choice with
  | none => (none, none)
  | some b => if 3 ≤ fails && !proven b then (rest, some b) else (some b, none)

/-- The firmware of the boot: its version, and RECOVERY where it is invalid. -/
def Device.takeFirmware (d : Device) (s : FwSlot) : Device :=
  if !s.good then d.enterRecovery
  else
    ({ d with boot := { d.boot with kept := s.image, keptGood := true, fwReady := true, activate := false } } : Device).setReg
      MGT_FW_VERSION s.version

/-- The boot chooses a firmware slot of the flash. -/
def Device.bootFlash (d : Device) : Device :=
  let x := d.boot
  let other := fun b : Bool => if (x.fw (!b)).valid then some (!b) else none
  let (pick, gone) := chooseAt x.failsAt x.fwChoice (fun b => (x.fw b).proven) (x.fwChoice.bind other)
  let d := match gone with
    | some b => ({ d with boot := d.boot.setFw b { d.boot.fw b with revoked := true } } : Device).raise MGT_BOOT_STATUS 26
    | none => d
  match pick with
  | none => d.enterRecovery
  | some b =>
    (({ d with boot := { d.boot with useB := b } } : Device).setRegField MGT_BOOT_STATUS 25 25 (bit b)).takeFirmware (d.boot.fw b)

/-- Stage 3: the firmware in boot memory on a warm boot, or that of the flash; another source brings its own later. -/
def Device.bootFirmware (d : Device) : Device :=
  if d.boot.warm && d.boot.keptGood && !d.boot.activate then
    (({ d with boot := { d.boot with fwReady := true } } : Device).setRegField MGT_BOOT_STATUS 25 25 (bit d.boot.useB)).setReg
      MGT_FW_VERSION (if d.bootFrom = 0 then (d.boot.fw d.boot.useB).version else leAt d.boot.kept 0 4)
  else if d.bootFrom = 0 then d.bootFlash
  else d

/-- Stage 4: the standing configuration is chosen and applied. -/
def Device.bootConfig (d : Device) : Device :=
  let x := d.boot
  let other := fun b : Bool => if (x.cfg (!b)).valid then some (!b) else none
  let (pick, gone) := chooseAt x.failsAt x.cfgChoice (fun b => (x.cfg b).proven) (x.cfgChoice.bind other)
  let d := match gone with
    | some b => ({ d with boot := d.boot.setCfg b { d.boot.cfg b with revoked := true } } : Device).raise MGT_BOOT_STATUS 26
    | none => d
  let d := { d with boot := { d.boot with cfgDefault := pick.isNone, cfgUseB := pick.getD false } }
  let recs := cfgList d.standing
  let d := if pick.isNone then d.raise MGT_BOOT_STATUS 29 else d.setRegField MGT_BOOT_STATUS 24 24 (bit d.boot.cfgUseB)
  let d := if recs.any (fun r => !cfgKnown r.1) then d.raise MGT_BOOT_STATUS 28 else d
  let d := if recs.any (fun r => cfgKnown r.1 && !cfgFits r.1 r.2) then d.raise MGT_BOOT_STATUS 27 else d
  ((d.setReg MGT_CFG_VERSION (if pick.isNone then 0 else cfgVersion d.standing)).applyConfig false).formDomain

/-! ### The stages (R801, R802, R806, R813, R321) -/

/-- R321: the channels that are interleaved, and the bytes of each; `dimms` are the capacities on channels 0 to 7, 0 where none
is found or its channel fails training. -/
def ddrWays (dimms : List Nat) : List Nat × Nat :=
  let on := (List.range 8).filter (fun c => dimms.getD c 0 != 0)
  let ways := if 8 ≤ on.length then 8 else if 4 ≤ on.length then 4 else if 2 ≤ on.length then 2 else on.length
  let used := on.take ways
  (used, (leastOf (used.map (fun c => dimms.getD c 0))).getD 0)

/-- Stage 5: the stacks of `alive` are READY, the DIMMs of `present` are found, `dimms` can be used, `cxl` bytes stand behind
each CXL port. -/
def Device.bootTrain (d : Device) (alive present : Nat) (dimms cxl : List Nat) : Device :=
  let d := (List.range 12).foldl (fun d p =>
    (d.setRegField (regKey MEM_T2_STATUS p) 31 31 (bit (bitOf alive p))).modPart p (fun x =>
      { x with inService := bitOf alive p })) d
  let (used, size) := ddrWays dimms
  let cx := [cxl.getD 0 0, cxl.getD 1 0]
  let mask := used.foldl (fun m c => m + 2 ^ c) 0
  { d with ddr := used.length * size, cxl := cx }.setReg MEM_T3_CONFIG
    (2 ^ 16 * (present % 256) + 2 ^ 8 * mask + 16 * used.length + bit (cx.getD 0 0 != 0) + 2 * bit (cx.getD 1 0 != 0))

/-- What a warm boot shows of memory that stayed trained. -/
def Device.bootKept (d : Device) : Device :=
  (List.range 12).foldl (fun d p =>
    d.setRegField (regKey MEM_T2_STATUS p) 31 31 (bit (d.part p).inService)) d

/-- R39: the number of entries of the size table. -/
def sizeCount : Nat := 83

/-- Stage 8: DONE (R36, R595, R806): the slots in use are proven, the failed boots are forgotten, the breath timer starts, the
scrub of T3 begins (R360). -/
def Device.bootDone (d : Device) : Device :=
  let x := d.boot
  let x := if d.bootFrom = 0 then x.setFw x.useB { x.fw x.useB with proven := true } else x
  let x := if x.cfgDefault then x else x.setCfg x.cfgUseB { x.cfg x.cfgUseB with proven := true }
  let d := { d with boot := { x with done := true }, timer := { on := true } }
  let d := (d.setRegField RCU_BOOT 3 0 0).raise MGT_BOOT_STATUS 31
  let d := (d.setReg HUB_SIZE_COUNT (2 ^ 31 + sizeCount)).setReg MGT_PART_AVAIL
    ((List.range 12).foldl (fun m p => m + 2 ^ p * bit (d.part p).inService) 0)
  let (u, d) := d.uid
  if d.regField MEM_T3_SCRUB 31 31 = 1 then
    { d with longOps := d.longOps ++ [({ id := u, kind := .scrubT3, cls := 4 } : LongOp)] }
  else d

/-- The stage after `n`: a warm boot has no stages 5 and 7. -/
def nextStage (warm : Bool) (n : Nat) : Nat := if warm && (n == 4 || n == 6) then n + 2 else n + 1

/-- BOOT_STAGE_COMPLETE: a stage ends. The operands are what training finds in stage 5. Memory is zeroed from the reset on, so
stage 7 has nothing left to do. Firmware of another source than the flash has to have come before stage 7 ends (or
stage 8, at a warm boot). -/
def fxBootStageComplete (alive present : Nat) (dimms cxl : List Nat) (d : Device) : Device :=
  if d.resetRun.isSome || d.boot.recovery || d.boot.done then d
  else
    let n := nextStage d.boot.warm d.boot.stage
    if 7 ≤ n && !d.boot.fwReady then d
    else
      let d := ({ d with boot := { d.boot with stage := n } } : Device).setRegField MGT_BOOT_STATUS 3 0 n
      match n with
      | 3 => d.bootFirmware
      | 4 => d.bootConfig
      | 5 => d.bootTrain alive present dimms cxl
      | 6 => if d.boot.warm then d.bootKept else d
      | 8 => d.bootDone
      | _ => d

/-! ### Firmware from elsewhere (R804) -/

/-- The boot waits for firmware from source `src`. -/
def Device.awaits (d : Device) (src : Nat) : Bool :=
  d.resetRun.isNone && !d.boot.done && !d.boot.recovery && decide (3 ≤ d.boot.stage) && d.bootFrom == src && !d.boot.fwReady

/-- TWIN_FIRMWARE_IMAGE: the twin's active firmware arrives. -/
def fxTwinFirmwareImage (image : List Byte) (d : Device) : Device :=
  if d.awaits 1 && d.twinUp then d.takeFirmware (.ofImage image) else d

/-- TWIN_FIRMWARE_REQUEST: the twin asks for this device's active firmware, which is sent. -/
def fxTwinFirmwareRequest (d : Device) : Device :=
  if !d.twinUp || !d.boot.done then d
  else d.emit (.link 16 15 (d.regField PLV_TWIN_STATUS 6 0) d.boot.kept)

/-- The memory key of a byte of the boot memory that the host writes (R804). -/
def bootKey (off : Nat) : Nat := memKey 28 off

/-- MGT_HOSTBOOT_GO: a write of MGT_HOSTBOOT with GO, once the host port answers (stage 6). -/
def fxMgtHostbootGo (port : Port) (word : Nat) (d : Device) : Device :=
  match port with
  | .vf _ => d
  | .twin => d
  | _ =>
    let d := d.setReg MGT_HOSTBOOT (word % 2 ^ 25)
    let n := word % 2 ^ 25
    if d.awaits 2 && decide (6 ≤ d.boot.stage) then
      (if 16777216 < n then d.enterRecovery else d.takeFirmware (.ofImage (d.readBytes (bootKey 0) n)))
    else d

/-- The CRC-16 of XMODEM over a byte. -/
def crc16Byte (c b : Nat) : Nat :=
  (List.range 8).foldl (fun c _ => if c / 32768 % 2 = 1 then Nat.xor (c * 2 % 65536) 0x1021 else c * 2 % 65536)
    (Nat.xor c (b * 256))

def crc16 (l : List Byte) : Nat := l.foldl (fun c b => crc16Byte c b.toNat) 0

/-- UART_XMODEM_BLOCK: a block arrives on the UART (R804, R893): 0x02, its number, the number's complement, 1,024 bytes and
their CRC; or the single byte 0x04 that ends the transfer. PRESUMED 44: the protocol's framing. -/
def fxUartXmodemBlock (frame : List Byte) (d : Device) : Device :=
  if !(d.awaits 3) then d
  else if frame = [0x04] then (d.emit (.uart 0x06)).takeFirmware (.ofImage d.boot.uart)
  else
    let n := leAt frame 1 1
    let data := sliceOf frame 3 1024
    let good := frame.length == 1029 && leAt frame 0 1 == 2 && n + leAt frame 2 1 == 255 &&
      crc16 data == leAt frame 1027 1 * 256 + leAt frame 1028 1
    if !good then d.emit (.uart 0x15)
    else if n = d.boot.uartBlock % 256 && d.boot.uart.length < 16777216 then
      ({ d with boot := { d.boot with uart := d.boot.uart ++ data, uartBlock := d.boot.uartBlock + 1 } } : Device).emit (.uart 0x06)
    else if n = (d.boot.uartBlock + 255) % 256 then d.emit (.uart 0x06)
    else d.emit (.uart 0x15)

/-- BOOT_SOURCE_TIMEOUT: the twin port is not UP within 2 s; no GO within 60 s of stage 6; no transfer starts within 60 s. -/
def fxBootSourceTimeout (d : Device) : Device :=
  if (d.awaits 1 && !d.twinUp) || (d.awaits 2 && decide (6 ≤ d.boot.stage)) || (d.awaits 3 && d.boot.uart.isEmpty) then
    d.enterRecovery
  else d

/-! ### RESET_REQUEST (R823) -/

/-- R823: the number of the condition by which a block is not idle; 0 where it is idle. -/
def Device.notIdle (d : Device) (kind i : Nat) : Nat :=
  match kind with
  | 0 => if (d.part i).job = 0 then 0 else 1
  | 1 => if (d.mover (192 + i)).queue.isEmpty || (d.mover (192 + i)).halted then 0 else 1
  | 2 =>
    let u := Table.getD d.checks i {}
    if u.serves.isSome || u.run.isSome then 1 else 0
  | 3 => if (Table.find? d.digests i).isSome then 1 else 0
  | 4 => if d.circuits.any (fun e => e.1 / 64 == i) then 1 else if i = 16 && d.twinOn then 2 else 0
  | _ =>
    let here := fun a : Nat => a / 2 ^ 53 == 3 && a % 2 ^ 53 / 2 ^ 41 == i
    if d.images.any (fun e => here (localKey e.2.addr) || e.2.pages.any (fun r => here (e.2.homeKey r))) then 1
    else if d.libOn && here d.libKey then 2 else 0

/-- The instances of a kind of block. -/
def blockCount (kind : Nat) : Nat :=
  match kind with
  | 0 => 12
  | 1 => 8
  | 2 => 16
  | 3 => 4
  | 4 => 17
  | _ => 2

/-- The reset of an idle block. -/
def Device.resetBlock (d : Device) (kind i : Nat) : Device :=
  let d := d.lastBlock kind i
  match kind with
  | 0 => d.warmReset i 0x0511
  | 1 =>
    let c := 192 + i
    let d := (d.setHalted c false).discardQueue c
    [MOV_ERR_STATUS, MOV_ERR_ADDR_LO, MOV_ERR_ADDR_HI, MOV_ERR_DONE, MOV_ERR_TAG].foldl (fun d r => d.setReg (regKey r c) 0) d
  | 2 => { d with checks := Table.drop d.checks i }
  | 4 =>
    let d := d.portDown i none
    if d.portEnabled i && (d.link i).present && d.portsRun then d.detect i else d
  | _ => d

/-- RESET_REQUEST: of the device, scheduled; of a block, where it is idle. A partition and a port come back at an event of
their own; the others at once. -/
def fxResetRequest (o : Origin) (d : Device) : Device :=
  d.run o 0x7D (fun s d =>
    let scope := s.op 8 1
    let reach := s.op 9 1
    let kind := s.op 10 1
    let i := s.op 11 1
    let bad := s.op 1 1 ≠ 0 || s.aux ≠ 0 || !allZero (sliceOf s.entry 12 52) || 1 < scope ||
      (if scope = 0 then (if d.compat then decide (1 < reach) else reach != 0) || kind != 0 || i != 0
       else reach != 0 || decide (5 < kind) || decide (blockCount kind ≤ i))
    if bad then d.complete s.cmd 0x0103 []
    else if scope = 0 then
      ({ (d.complete s.cmd 0 []) with boot := { d.boot with requested := some reach } } : Device)
    else
      let w := d.notIdle kind i
      if w ≠ 0 then d.complete s.cmd 0x0201 (leBytes 1 w)
      else
        let d := d.resetBlock kind i
        if kind = 0 || kind = 4 then { d with blockResets := d.blockResets ++ [(kind, i, s.cmd)] }
        else d.complete s.cmd 0 [])

end Sys2Proof.Machine
end

