-- ==== Sys2Proof/Machine/Breath.lean ====
section
/-!
DEFINITION. The start of a breath and its intake (R57, R594 to R603, R615, R619, R766, R780 to R783, R909, R910).
-/
namespace Sys2Proof.Machine

/-! ### The end of the breath before (R57) -/

/-- R57, R543: a progress record for every streamed request for which tokens were written in the breath that ends. -/
def Device.postProgress (d : Device) : Device :=
  (d.seqs.filter (fun e => e.2.progressed)).foldl (fun d e =>
    let j := e.1 / 16384
    let id := e.1 % 16384
    let d := d.setSeq j id { e.2 with progressed := false }
    match e.2.cmd with
    | some c =>
      if e.2.stream && (e.2.state == .handoff || e.2.state == .decode) then
        d.post c { uid := c.uid, tag := c.tag, status := 0, opcode := c.opcode, inst := c.inst, value := requestValue e.2 id
                   progress := true }
      else d
    | none => d) d

/-! ### Order 1: held writes (R601, R619, R783, R910) -/

/-- A period comes into force. -/
def Device.setPeriod (d : Device) (v : Nat) : Device := (d.setReg (regKey BRT_PERIOD 1) v).setReg BRT_PERIOD v

/-- R783: what becomes of the master's proposal: announced in this breath's ticks; in force after a breath of them, or refused
where a device could not accept it. -/
def Device.settleProposal (d : Device) : Device :=
  let t := d.timer
  match t.proposed with
  | none => d
  | some v =>
    if !t.announced then { d with timer := { t with announced := true, nak := false } }
    else
      let d := { d with timer := { t with proposed := none, announced := false, nak := false } }
      if t.nak then (d.raise BRT_STATUS 30).setReg BRT_PERIOD d.period else d.setPeriod v

/-- BRT_PERIOD and BRT_SRC as written before the boundary. -/
def Device.heldTimer (d : Device) : Device :=
  let t := d.timer
  let d := { d with timer := { t with heldPeriod := none, heldSource := none } }
  let d := match t.heldPeriod with | some v => d.setPeriod v | none => d
  match t.heldSource with | some v => d.setReg (regKey BRT_SRC 1) v | none => d

/-- R780, R783: what the tick that begins a breath says of the period: the one in force, and one proposed, which a device that
could not run it refuses. -/
def Device.heedTick (d : Device) (t : Option Tick) : Device :=
  let d := { d with timer := { d.timer with coming := none } }
  match t with
  | none => d
  | some t =>
    let d := if 20 ≤ t.period && t.period ≤ 4000 then d.setPeriod t.period else d
    if t.next = 0 then d
    else
      let d := { d with timer := { d.timer with coming := some t.next } }
      if d.couldRun t.next then d
      else (List.range 17).foldl (fun d q => if d.portUp q then d.modLink q (fun x => { x with nakPeriod := true }) else d) d

/-- R619: a bucket's settings as written. -/
def Device.heldBucket (d : Device) (p k : Nat) : Device :=
  if !(d.bucket p k).held then d
  else
    let o := prtOff p (PRT_REG_CTRL + 0x20 * k)
    d.modBucket p k (fun b => { b with held := false, on := d.regField o 31 31 == 1, refill := d.reg (o + 4), cap := d.reg (o + 8) })

/-! ### Orders 2 and 3: slot tables, regulators (R615, R766, R780) -/

/-- R765: the slots of a breath of `us` µs. -/
def slotsOf (us : Nat) : Nat := (us * 1000 + 31) / 32

/-- A port at a breath start: its transit blocks keep their slots' times, its first blocks carry the tick where `tick`. -/
def LinkPort.breath (x : LinkPort) (slots : Nat) (tick : Bool) : LinkPort :=
  let t := x.transit.foldl (fun (t : Table (Nat × Nat × List Byte)) e => Table.put t (freeSlot t (e.1 - slots)) e.2) []
  { x with transit := t, used := [], tick := tick, nakPeriod := false }

/-- R766, R780: every port goes over to the bank named for this breath, and has a tick to send where PLV_TICK_PORTS names it. -/
def Device.slotBreath (d : Device) (us : Nat) : Device :=
  let d := d.setRegField PLV_SLOT_BANK 4 4 (d.regField PLV_SLOT_BANK 0 0)
  let mask := d.reg PLV_TICK_PORTS
  { d with ports := Table.mapVals d.ports (fun p x => x.breath (slotsOf us) (d.portUp p && bitOf mask p)) }

/-- R615, R619: a bucket refills; one that is off stands at its cap. -/
def Bucket.refilled (b : Bucket) : Bucket :=
  { b with bal := if b.on then min (max (-(2 ^ 63 : Int)) (b.bal + 4096 * b.refill)) (4096 * b.cap) else 4096 * b.cap }

/-- The regulators of every partition: settings that were held, then the refill. -/
def Device.regulators (d : Device) : Device :=
  (List.range 36).foldl (fun d i => (d.heldBucket (i / 3) (i % 3)).modBucket (i / 3) (i % 3) Bucket.refilled) d

/-! ### The intake (R602) -/

/-- R352 to R354: images that were evicted, and have a step waiting, are switched in again where there is room. -/
def Device.switchBack (d : Device) : Device :=
  ((d.heads.map (·.image)).eraseDups).foldl (fun d h =>
    match d.image? h with
    | some x => if x.ready && !x.switching then (d.startSwitchIn h).getD d else d
    | none => d) d

/-- The intake of breath `n`, `us` µs after the one before. `fails` are the requests, as job × 16,384 + SEQ_ID, of a job in stage 4
that cannot be replayed. -/
def Device.intake (d : Device) (n us : Nat) (tick : Option Tick) (fails : List Nat) : Device :=
  let d := ((d.settleProposal.heldTimer.powerBreath us).slotBreath us).heedTick tick
  let d := (d.regulators.brmIntakeAll n).currency n
  let d := (d.restartIntakes n fails).rebuildBatches.frontIntakes.switchBack
  (d.admitSteps n).restartedEntries.planLong.twinBreath

/-- A breath begins with number `n`. -/
def Device.beginBreath (d : Device) (n : Nat) (tick : Option Tick) (fails : List Nat) : Device :=
  let us := d.period
  let d := if d.timer.begun then d.postProgress else d
  let d := { d with breath := n % 2 ^ 64, timer := { d.timer with begun := true, edge := false, tick := none } }
  d.intake n us tick fails

/-- The number of a breath that no tick numbers (R595). -/
def Device.nextNumber (d : Device) : Nat := if d.timer.begun then d.breath + 1 else 0

/-! ### BREATH_START and BREATH_HOLDOVER -/

/-- R782: the backup acts as master from this breath on. -/
def Device.actsAsMaster (d : Device) : Bool :=
  d.timer.master || (d.formed && d.regField PLV_DOMAIN_CFG 6 0 == d.regField PLV_DOMAIN_CFG 22 16 && decide (4 ≤ d.timer.misses))

/-- BREATH_START: PERIOD_US has passed since the breath before (source 0, and a backup that acts as master), or it begins with an
accepted edge (1) or a tick (2) (R595, R597, R598, R781, R782, R909). -/
def fxBreathStart (fails : List Nat) (d : Device) : Device :=
  let t := d.timer
  let go := fun (n : Nat) (tick : Option Tick) (d : Device) =>
    ((({ d with timer := { d.timer with misses := 0 } } : Device).setRegField BRT_STATUS 31 31 0).setRegField PLV_DOMAIN_STATUS 29 29
      0).beginBreath n tick fails
  if !t.on then d
  else match d.source with
    | 0 => go d.nextNumber none d
    | 1 => if t.edge then go d.nextNumber none d else d
    | _ =>
      match t.tick with
      | some k => go k.breath (some k) d
      | none => if d.actsAsMaster then go d.nextNumber none { d with timer := { t with master := true } } else d

/-- BREATH_HOLDOVER: no edge, or no tick, by E + 1 µs (R595, R598, R781). -/
def fxBreathHoldover (fails : List Nat) (d : Device) : Device :=
  let t := d.timer
  let src := d.source
  if !t.on || src = 0 || (src = 1 && t.edge) || (2 ≤ src && (t.tick.isSome || d.actsAsMaster)) then d
  else
    let d := d.setRegField BRT_STATUS 31 31 1
    let d := if src = 1 then d.bump BRT_IN_MISS 1
      else ({ (d.setRegField PLV_DOMAIN_STATUS 29 29 1) with timer := { t with misses := t.misses + 1 } } : Device).bump PLV_TICK_MISS 1
    d.beginBreath d.nextNumber none fails

end Sys2Proof.Machine
end

