-- ==== Sys2Proof/Machine/Fabric.lean ====
section
/-!
DEFINITION. What the fabric's steps do: token arrivals, credits, link replay, cell beats, the compute cell's tile and
row steps, the vector instructions, generators and banks (03_fabric).
-/
namespace Sys2Proof.Machine

/-- The steps of a partition that R167 stops once it has halted. -/
def Device.live (d : Device) (p : Nat) : Bool := decide (p < 12) && !(d.fab p).halted

/-! ### Switches and links -/

/-- Tokens waiting at the inputs of a site's switch that a freed credit may let go. -/
def forwardSite (cfg : StopCfg) (site : Nat) (f : Fabric) : Fabric :=
  [false, true].foldl (fun f sc => outputs.foldl (fun f o => Fabric.forward cfg ⟨site, o.1, sc, o.2⟩ f 8) f) f

/-- R111, R114, R115: the next token of a switch input channel arrives. -/
def fxTokenArrivalSwitch (p site port : Nat) (scalar : Bool) (ch : Nat) (d : Device) : Device :=
  let c : Chan := ⟨site, port, scalar, ch⟩
  if !d.live p || 4 < port || siteCount ≤ site then d
  else
    match (d.fab p).wire c with
    | [] => d
    | t :: rest =>
      let cfg := (d.part p).stop
      let d := d.modFab p (fun f => (f.setWire c rest).accepted c)
      let outs := cfg.routed c
      if outs.isEmpty || outs.any (fun o => (outputChan site o.1 scalar o.2).isNone) then
        (d.modFab p (fun f => f.freeEntry c)).stray p c
      else d.modFab p (fun f => Fabric.forward cfg c (f.setBuf c (f.buf c ++ [t])) 8)

/-- R112: a credit of the channel comes back to its sender. -/
def fxCreditReturn (p site port : Nat) (scalar : Bool) (ch : Nat) (d : Device) : Device :=
  let c : Chan := ⟨site, port, scalar, ch⟩
  let n := Table.getD (d.fab p).due c.key 0
  if !d.live p || n = 0 then d
  else
    let d := d.modFab p (fun f =>
      { f with due := if n = 1 then Table.drop f.due c.key else Table.put f.due c.key (n - 1)
               spent := Table.put f.spent c.key (Table.getD f.spent c.key 0 - 1) })
    let cfg := (d.part p).stop
    if port = 4 then d.modFab p (fun f => Fabric.flushOut c f 16)
    else if port = 5 then d.modFab p (forwardSite cfg site)
    else match neighbour site port with
      | some n => d.modFab p (forwardSite cfg n)
      | none => d

/-- R163, R164: the token at the head of the channel fails parity. The link's tokens on the way are discarded and a
re-send is asked for; a third failed arrival is the fault LINK_PARITY. -/
def fxLinkParityError (p site port : Nat) (scalar : Bool) (ch : Nat) (d : Device) : Device :=
  let c : Chan := ⟨site, port, scalar, ch⟩
  if !d.live p || (d.fab p).wire c == [] then d
  else
    let kept := Table.getD (d.fab p).replay c.link []
    let sends := match kept.find? (fun s => s.ch == ch) with | some s => s.sends | none => 0
    if 3 ≤ sends then
      d.fabricFault p 0x20 1 site (if port = 5 then 4 else port) ch scalar { status := 0x1020, kind := 1 }
    else
      d.modFab p (fun f =>
        let f := (List.range 4).foldl (fun f k => f.setWire { c with ch := k } []) f
        { f with resend := if f.resend.contains c.link then f.resend else f.resend ++ [c.link] })

/-- R163, R164: the sender re-sends its kept tokens in order, counting each. -/
def fxLinkResend (p site port : Nat) (scalar : Bool) (d : Device) : Device :=
  let c : Chan := ⟨site, port, scalar, 0⟩
  if !d.live p || !(d.fab p).resend.contains c.link then d
  else
    let kept := Table.getD (d.fab p).replay c.link []
    let d := d.modFab p (fun f =>
      let f := kept.foldl (fun f s => f.setWire { c with ch := s.ch } (f.wire { c with ch := s.ch } ++ [s.tok])) f
      { f with resend := f.resend.filter (fun k => k != c.link)
               replay := Table.put f.replay c.link (kept.map (fun s => { s with sends := s.sends + 1 })) })
    d.bump64 (prtOff p PRT_LINK_REPLAY_COUNT_LO) kept.length

/-! ### Arrivals at cells -/

/-- A gap marker at a compute cell or tile port (R124, R146): passed on as its own packet or discarded and counted. -/
def gapAtCell (p site : Nat) (passOn : Bool) (t : Token) (d : Device) : Device :=
  if passOn then d.cellEmit p site false 0 { t with fin := true }
  else d.bump (prtOff p PRT_GAP_DISCARD_COUNT) 1

/-- Some output packet of the cell is part way out (R130, R146). -/
def Cell.midPacket (c : Cell) : Bool :=
  match c.vec, c.conv with
  | some r, _ => decide (0 < r.row)
  | none, some k => decide (1 < k.nextRow)
  | none, none => false

/-- Rows that wait for the vector program go in while it is free: the next conversion-stage row, its C row in v1
(R138), or a row of a cell with no product (R139). -/
def loadRow (cfg : StopCfg) (site : Nat) (c : Cell) : Cell :=
  let k := cfg.compute site
  match c.vec with
  | some _ => c
  | none =>
    match c.conv with
    | none =>
      (match c.rowQueue with
       | r :: rest => { c with vec := some r, rowQueue := rest }
       | [] => c)
    | some v =>
      if v.rows ≤ v.nextRow then c
      else if k.fmtOut = .raw then
        { c with vec := some { tag := v.tag, row := v.nextRow, regs := [], last := v.nextRow + 1 == v.rows }
                 conv := some { v with nextRow := v.nextRow + 1 } }
      else
        let n := rowTokens k.fmtC
        let hasC := k.usesC && !k.combine && k.family != .int
        let cts := match c.ctx v.tag with | some x => x.tokens 2 | none => v.cTokens
        let row := sliceOf cts (v.nextRow * n) n
        if hasC && row.length < n then c
        else
          let lane := fun (u : Nat) => Table.getD v.lanes (64 * v.nextRow + u) LedgerLane.clear
          let scale := fun (t i : Nat) =>
            match cts[t]? with | some tok => BitVec.ofNat 32 (bitsOf tok.payload.toNat (32 * i + 31) (32 * i)) | none => 0
          let v0 : List Word := (List.range 64).map (fun u =>
            if k.cols ≤ u then 0
            else if v.poisoned then f32Nan
            else match k.family with
              | .mx => f32Of ((lane u).mxValue v.anchor)
              | .int =>
                -- R144: 64 FP32 row scales in the first C token's 16 words would not fit one token; rows 0 to 15 stand
                -- in the first of four, as the first 256 bytes of C, the column scales in the next 256 (DEDUCED 11)
                f32Of ((lane u).intValue (scale (v.nextRow / 16) (v.nextRow % 16)) (scale (4 + u / 16) (u % 16)))
              | .float => (lane u).val.setWidth 32)
          let v1 := if hasC then cRow k.fmtC row else zeroRow
          { c with vec := some { tag := v.tag, row := v.nextRow, regs := startRegs v0 v1,
                                 last := v.nextRow + 1 == v.rows }
                   conv := some { v with nextRow := v.nextRow + 1 } }

/-- The head token of a cell's input buffer is taken in, while it can be (R123 to R127). -/
def acceptInput (p : Nat) (c : Chan) (d : Device) : Nat → Device
  | 0 => d
  | n + 1 =>
    match (d.fab p).buf c with
    | [] => d
    | t :: rest =>
      let cfg := (d.part p).stop
      let freed := (d.modFab p (fun f => (f.setBuf c rest).freeEntry c))
      let w0 := cfg.cellWord c.site 0
      match siteKind c.site with
      | .compute =>
        let k := cfg.compute c.site
        let input := computeInput c.scalar c.ch
        if !cfg.enabled c.site || !k.declares input then d
        else if t.kind = .gap then
          if (d.cell p c.site).midPacket then d else acceptInput p c (gapAtCell p c.site k.gapForward t freed) n
        else if t.isControl then freed.stray p c
        else if input = 3 && bitsOf t.payload.toNat 31 0 != k.reduction then freed.stray p c
        else
          (match (d.cell p c.site).join k.contexts input t with
           | some cell' => acceptInput p c (freed.modCell p c.site (fun _ => cell')) n
           | none => d)
      | .memory => if !c.scalar && t.isControl then freed.stray p c else d
      | .tilePort =>
        if t.kind = .gap then acceptInput p c (gapAtCell p c.site (bitsOf w0 5 4 = 0) t freed) n
        else if t.isControl then freed.stray p c
        else d
      | .valve => d

/-- R123: the next token of a cell's local input arrives. -/
def fxTokenArrivalCell (p site : Nat) (scalar : Bool) (ch : Nat) (d : Device) : Device :=
  let c : Chan := ⟨site, 5, scalar, ch⟩
  if !d.live p || siteKind site == .valve then d
  else
    match (d.fab p).wire c with
    | [] => d
    | t :: rest =>
      let d := d.modFab p (fun f => (f.setWire c rest).accepted c)
      if t.epoch ≠ (d.part p).epoch then (d.modFab p (fun f => f.freeEntry c)).stray p c
      else acceptInput p c (d.modFab p (fun f => f.setBuf c (f.buf c ++ [t]))) 8

/-- All inputs of a cell look again: a context has closed or a buffer has room (R127). -/
def acceptSite (p site : Nat) (d : Device) : Device :=
  [false, true].foldl (fun d sc => (List.range 4).foldl (fun d ch => acceptInput p ⟨site, 5, sc, ch⟩ d 8) d) d

/-! ### The compute cell -/

/-- The tile a context reduces (FIRST_TILE and the tiles the cell has begun, R143, R276). -/
def tileOf (k : ComputeCfg) (c : Cell) (x : Ctx) : Nat :=
  k.firstTile + c.tilesDone + ((c.ctxs.filter (fun y => decide (y.opened < x.opened))).length)

/-- Inputs whose next token a beat of this context needs (R126, R133): declared A and B not yet ended; C alone where
the cell has no product (R139). -/
def beatInputs (k : ComputeCfg) (x : Ctx) : List Nat :=
  if k.usesA || k.usesB then
    (if k.usesA && !x.hasEnded 0 then [0] else []) ++ (if k.usesB && !x.hasEnded 1 then [1] else [])
  else if k.usesC && !x.hasEnded 2 then [2] else []

/-- Whether the next token of input 0 or 1 is an element token, which needs the anchor and the MAC array. -/
def nextIsElement (k : ComputeCfg) (kk : Nat) (x : Ctx) : Bool :=
  (beatInputs k x).any (fun i => decide (i < 2) && decide (k.scaleTokens kk ≤ (x.tokens i).length))

/-- R126, R129, R135: a context with a beat ready. -/
def ctxReady (k : ComputeCfg) (bounds : List Nat) (c : Cell) (x : Ctx) : Bool :=
  let seen := Table.put x.taken 4 (x.tokens 4 ++ (x.waiting.filter (fun e => e.1 == 4)).map (·.2))
  match ctxK k bounds { x with taken := seen } with
  | none => false
  | some kk =>
    let ins := beatInputs k x
    !ins.isEmpty && ins.all (fun i => (x.next i).isSome) && (!(k.recA || k.recB) || (x.next 5).isSome || (x.tokens 5) != [])
    && (!nextIsElement k kk x
        || ((x.anchor.isSome || k.family != .mx) && (c.ledgerTag == none || c.ledgerTag == some x.tag)
            ))

/-- R81, R145: the cell's own anchor packets for a context's tile, sent on AUX. -/
def sendAux (p site : Nat) (k : ComputeCfg) (x : Ctx) (kk tile : Nat) (d : Device) : Device :=
  let ns := k.scaleTokens kk
  let one := fun (operand m : Nat) (d : Device) =>
    d.cellEmit p site false 1 { payload := anchorPacket k.reduction tile operand m, tag := x.tag, fin := true }
  let d := if k.recA then d else one 0 (sliceMax ((x.tokens 0).take ns) k.rows kk) d
  if k.recB then d else one 1 (sliceMax ((x.tokens 1).take ns) k.cols kk) d

/-- The products that have become complete enter the ledgers (R72, R74, R88). -/
def advanceCtx (p : Nat) (k : ComputeCfg) (kk : Nat) (x : Ctx) (c : Cell) : Cell × Bool :=
  let _ := p
  let k1 := if k.family = .float then (if x.hasEnded 0 && x.hasEnded 1 then kk else 0) else kAvailable k kk x
  if kk > kMax || (x.anchor.isNone && k.family = .mx) || k1 ≤ x.kDone then (c.setCtx x, false)
  else
    let a := x.anchor.getD (if k.family = .int then anchorInt else 0)
    let start := if c.ledgerTag = some x.tag then c.ledger else []
    let r := reduceTile k a x x.kDone k1 kk start
    let x' := { x with kDone := k1, lost := x.lost || r.2 }
    ({ c with ledger := r.1, ledgerTag := some x.tag }.setCtx x', r.2)

/-- R126: one beat of a compute cell: the earliest opened ready context consumes a token of each input. -/
def computeBeat (p site : Nat) (d : Device) : Device :=
  let cfg := (d.part p).stop
  let k := cfg.compute site
  let bounds := (d.part p).bounds
  let c := d.cell p site
  match minByKey Ctx.opened (c.ctxs.filter (ctxReady k bounds c)) with
  | none => d
  | some x =>
    let x := (beatInputs k x).foldl Ctx.take x
    let x := if (x.next 4).isSome then x.take 4 else x
    let x := if (x.next 5).isSome then x.take 5 else x
    -- C rows come in beside the products (R138)
    let x := if (k.usesA || k.usesB) && k.usesC && (x.next 2).isSome then x.take 2 else x
    match ctxK k bounds x with
    | none => d
    | some kk =>
      let tooLong := decide (kMax < kk)
      let x := { x with kOver := x.kOver || tooLong }
      let (c', lost) := advanceCtx p k kk x c
      let c' := { c' with fires := (c'.fires + 1) % 2 ^ 32 }
      -- R139: a C row completes
      let n := rowTokens k.fmtC
      let got := (x.tokens 2).length
      let c' :=
        if k.usesA || k.usesB || got % n ≠ 0 || got = 0 then c'
        else
          let row := cRow k.fmtC (sliceOf (x.tokens 2) (got - n) n)
          { c' with rowQueue := c'.rowQueue ++
              [{ tag := x.tag, row := got / n - 1, regs := startRegs row row, last := x.hasEnded 2 }] }
      let d := d.modCell p site (fun _ => loadRow cfg site c')
      let d := if lost then d.arith p 8 else d
      let ns := k.scaleTokens kk
      let scalesIn := ns ≤ (x.tokens 0).length && ns ≤ (x.tokens 1).length
      let d :=
        if k.anchorMode = 2 && k.family = .mx && scalesIn && !x.auxSent then
          (sendAux p site k x kk (tileOf k c x) d).modCell p site (fun c =>
            match c.ctx x.tag with | some y => c.setCtx { y with auxSent := true } | none => c)
        else d
      let d := if tooLong then (d.arith p 16).stepStatus p 0x1031 else d
      acceptSite p site d

/-- R67, R70, R83, R84, R87: the anchor pass of a context ends. -/
def fxAnchorPassComplete (p site tag : Nat) (d : Device) : Device :=
  let cfg := (d.part p).stop
  let k := cfg.compute site
  let c := d.cell p site
  if !d.live p || siteKind site != .compute || !cfg.enabled site || k.family != .mx then d
  else
    match c.ctx tag with
    | none => d
    | some x =>
      match ctxK k (d.part p).bounds x with
      | none => d
      | some kk =>
        let ns := k.scaleTokens kk
        let tile := tileOf k c x
        if x.anchor.isSome || (x.tokens 0).length < ns || (x.tokens 1).length < ns
            || ((k.recA || k.recB) && x.tokens 5 == [])
            || (k.anchorMode = 2 && !anchorPacketsHere k x tile) then d
        else
          let bad := (k.recA && exceedsRecorded ((x.tokens 0).take ns) k.rows kk (recordedMax x % 256))
            || (k.recB && exceedsRecorded ((x.tokens 1).take ns) k.cols kk (recordedMax x / 256 % 256))
          let x' := { x with anchor := some (ctxAnchor k x kk tile), mismatch := x.mismatch || bad }
          let (c', lost) := advanceCtx p k kk x' c
          let d := d.modCell p site (fun _ => if (x'.tokens 0).length ≤ ns then c.setCtx x' else c')
          let d := if lost then d.arith p 8 else d
          if bad then (d.arith p 32).stepStatus p 0x1030 else d

/-- R136, R137: the conversion stage captures a finished tile and frees the ledgers. -/
def fxTileCapture (p site : Nat) (d : Device) : Device :=
  let cfg := (d.part p).stop
  let k := cfg.compute site
  let c := d.cell p site
  if !d.live p || siteKind site != .compute || c.conv.isSome then d
  else
    let done := fun (x : Ctx) =>
      (k.usesA || k.usesB || k.combine) && (!k.usesA || x.hasEnded 0) && (!k.usesB || x.hasEnded 1)
        && (x.anchor.isSome || k.family != .mx || !(k.usesA && k.usesB)) && (!k.combine || x.hasEnded 2)
        && (k.family != .int || k.combine || 8 ≤ (x.tokens 2).length || !k.usesC)
    let pick := match c.ledgerTag with
      | some t => (c.ctx t).filter done
      | none => minByKey Ctx.opened (c.ctxs.filter (fun x => done x && (x.kOver || !(k.usesA && k.usesB) || x.kDone == 0)))
    match pick with
    | none => d
    | some x =>
      let base := if c.ledgerTag = some x.tag then c.ledger else []
      let anchor := x.anchor.getD (if k.family = .int then anchorInt
        else if k.combine then importAnchor ((x.tokens 2).take 17) else 0)
      let (ls, same) := if k.combine then combineExports k anchor (x.tokens 2) base else (base, true)
      let bad := x.mismatch || !same
      let d := d.modCell p site (fun c =>
        loadRow cfg site { c with ledger := [], ledgerTag := none, tilesDone := c.tilesDone + 1
                                  conv := some { tag := x.tag, anchor := anchor, lanes := ls, rows := k.rows,
                                                 poisoned := bad || x.kOver, lost := x.lost, kOver := x.kOver,
                                                 cTokens := x.tokens 2 } })
      let d := if x.lost then (d.arith p 8).bump64 (prtOff p PRT_TRUNC_COUNT_LO) 1 else d
      if same then d else (d.arith p 32).stepStatus p 0x1030

/-- The tokens of a row leave on OUT, END on the last of the tile's packet. -/
def emitRow (p site tag : Nat) (last : Bool) (ps : List (BitVec 512)) (d : Device) : Device :=
  (ps.zipIdx).foldl (fun d x =>
    d.cellEmit p site false 0 { payload := x.1, tag := tag, fin := last && x.2 + 1 == ps.length }) d

/-- R140: the row at the end of its program is converted to FMT_OUT and emitted; the last row closes the tile, its
context (R128) and sends the ST token (R132). -/
def fxVectorRowOutput (p site : Nat) (d : Device) : Device :=
  let cfg := (d.part p).stop
  let k := cfg.compute site
  let c := d.cell p site
  if !d.live p || siteKind site != .compute || !d.outFree p site false 0 then d
  else
    match c.vec with
    | none => d
    | some r =>
      if (!(k.fmtOut == Fmt.raw)) && decide (r.pc < k.vlen) then d
      else
        let raw := match c.conv with
          | some v => if k.fmtOut == Fmt.raw then
              some (exportRow (fun u =>
                let l := Table.getD v.lanes (64 * r.row + u) LedgerLane.clear
                if v.poisoned then { l with nan := true } else l) v.anchor) else none
          | none => none
        let (ps, fl) := match raw with
          | some ps => (ps, ({} : OutFlags))
          | none => rowPayloads k.fmtOut ((r.regs.getD 0 zeroRow).zipIdx.map (fun (x : Word × Nat) =>
              if k.cols ≤ x.2 then Fl.fin false 0 0 else f32Val x.1))
        let d := emitRow p site r.tag r.last ps d
        let d := if fl.bits = 0 then d else d.arith p fl.bits
        let total := match c.conv with | some v => v.gathered.or fl | none => fl
        let d := d.modCell p site (fun c =>
          { c with vec := none, conv := c.conv.map (fun (v : Conv) => { v with gathered := total }) })
        let d :=
          if !r.last then d
          else
            let st := total.bits + (match c.conv with
              | some v => 8 * bit v.lost + 16 * bit v.kOver + 32 * bit (v.poisoned && !v.kOver) | none => 0)
            let d := d.modCell p site (fun c =>
              { c with conv := none, ctxs := c.ctxs.filter (fun x => x.tag != r.tag) })
            d.cellEmit p site true 0 { payload := BitVec.ofNat 512 st, tag := r.tag, fin := true }
        acceptSite p site (d.modCell p site (loadRow cfg site))

/-- R142: the row in the vector program executes its next instruction, whose operation code is `op`. -/
def vecStep (op p site : Nat) (d : Device) : Device :=
  let cfg := (d.part p).stop
  let k := cfg.compute site
  match (d.cell p site).vec with
  | none => d
  | some r =>
    let i := vInstr (cfg.cellWord site (8 + r.pc))
    if !d.live p || siteKind site != .compute || k.vlen ≤ r.pc || i.code ≠ op then d
    else d.modCell p site (fun c =>
      { c with vec := some (r.exec i (fun j => BitVec.ofNat 32 (cfg.cellWord site (24 + j)))) })

/-! The vector instructions of R142, one by one. -/

def fxVecNop (p site : Nat) : Device → Device := vecStep 0 p site
def fxVecAdd (p site : Nat) : Device → Device := vecStep 1 p site
def fxVecMul (p site : Nat) : Device → Device := vecStep 2 p site
def fxVecFma (p site : Nat) : Device → Device := vecStep 3 p site
def fxVecMax (p site : Nat) : Device → Device := vecStep 4 p site
def fxVecMin (p site : Nat) : Device → Device := vecStep 5 p site
def fxVecRowmax (p site : Nat) : Device → Device := vecStep 6 p site
def fxVecRowsum (p site : Nat) : Device → Device := vecStep 7 p site
def fxVecExp (p site : Nat) : Device → Device := vecStep 8 p site
def fxVecRecip (p site : Nat) : Device → Device := vecStep 9 p site
def fxVecRsqrt (p site : Nat) : Device → Device := vecStep 10 p site
def fxVecMaskapply (p site : Nat) : Device → Device := vecStep 11 p site
def fxVecMove (p site : Nat) : Device → Device := vecStep 12 p site

/-! ### Memory cells -/

/-- The access at a run's next position is queued at its bank; the run ends after its last (R152, R297). -/
def queueAccess (g : Nat) (gc : GenCfg) (r : GenRun) (c : Cell) : Cell :=
  if gc.total ≤ r.pos then { c with gens := Table.drop c.gens g }
  else
    let (a, _, _) := gc.at (r.base.getD gc.base) r.pos
    { c with gens := Table.put c.gens g r, accs := c.accs ++ [{ path := 3, gen := g, addr := a, null := r.null }] }

/-- R153: read generator `g` of a memory cell starts a run: on the step's issue, or on the token at the head of its
scalar channel, which carries the tag and, in index mode, the address. -/
def fxGeneratorRunStart (p site g : Nat) (d : Device) : Device :=
  let x := d.part p
  let cfg := x.stop
  let gc := cfg.gen x.bounds site g
  let c := d.cell p site
  if !d.live p || siteKind site != .memory || 3 < g || !cfg.enabled site || gc.mode = 0 || gc.mode = 3
      || (Table.find? c.gens g).isSome then d
  else if gc.trigger = 0 && gc.mode != 2 then
    if x.closed || !c.armed.contains g then d
    else d.modCell p site (fun c =>
      queueAccess g gc { tag := gc.tagBase } { c with armed := c.armed.filter (fun i => i != g) })
  else
    let ch : Chan := ⟨site, 5, true, gc.scalarCh⟩
    match (d.fab p).buf ch with
    | [] => d
    | t :: rest =>
      let d := d.modFab p (fun f => (f.setBuf ch rest).freeEntry ch)
      let r : GenRun :=
        if gc.mode = 2 then { tag := t.tag, base := some (t.value % 8192), null := bitOf t.value 31 } else { tag := t.tag }
      d.modCell p site (queueAccess g gc r)

/-- The read of a run's next position: the token on the generator's output channel, and the next access (R151, R154). -/
def serveRead (p site : Nat) (a : Access) (d : Device) : Device :=
  let x := d.part p
  let gc := x.stop.gen x.bounds site a.gen
  match Table.find? (d.cell p site).gens a.gen with
  | none => d
  | some r =>
    let (_, i3, fin) := gc.at (r.base.getD gc.base) r.pos
    let pay := if a.null then 0 else BitVec.ofNat 512 (d.readNat (t1Key p site a.addr) 64)
    let tag := if gc.tagStep then (r.tag + i3) % 4096 else r.tag
    let d := d.modCell p site (queueAccess a.gen gc { r with pos := r.pos + 1 })
    let d := d.modCell p site (fun c => { c with fires := (c.fires + 1) % 2 ^ 32 })
    d.cellEmit p site false a.gen { payload := pay, tag := tag, fin := fin }

/-- R148, R149: a bank serves one access of those that wait for it; the others age. -/
def fxBankAccess (p site bank : Nat) (d : Device) : Device :=
  let c := d.cell p site
  if !d.live p || siteKind site != .memory then d
  else
    match nextAccess bank c.accs with
    | none => d
    | some a =>
      if a.path = 3 && !d.outFree p site false a.gen then d
      else
        let others := (c.accs.erase a).map (fun b =>
          if bankOf b.addr = bank then { b with age := b.age + 1 } else b)
        let d := d.modCell p site (fun c => { c with accs := others })
        if a.path = 3 then serveRead p site a d
        else d.writeBytes (t1Key p site a.addr) (a.tok.bytes)

/-- Write position of generator `g`: a run per packet (R154), index-mode packets from the index token (R153). -/
def writeRun (p site g : Nat) (gc : GenCfg) (d : Device) : Option (GenRun × Device) :=
  match Table.find? (d.cell p site).gens g with
  | some r => some (r, d)
  | none =>
    if gc.mode = 2 then
      let ch : Chan := ⟨site, 5, true, gc.scalarCh⟩
      match (d.fab p).buf ch with
      | [] => none
      | t :: rest =>
        some ({ tag := t.tag, base := some (t.value % 8192) }, d.modFab p (fun f => (f.setBuf ch rest).freeEntry ch))
    else some ({ tag := 0 }, d)

/-- The run moves on after a write; END ends it. -/
def writeDone (p site g : Nat) (gc : GenCfg) (r : GenRun) (fin : Bool) (d : Device) : Device :=
  d.modCell p site (fun c =>
    { c with fires := (c.fires + 1) % 2 ^ 32
             gens := if fin then Table.drop c.gens g
                     else Table.put c.gens g { r with pos := (r.pos + 1) % (max 1 gc.total) } })

/-- R154: the token at the head of write generator `g`'s channel goes to the next address of its walk; it waits for its
bank behind any other access there (R149). -/
def fxT1WriteToken (p site g : Nat) (d : Device) : Device :=
  let x := d.part p
  let gc := x.stop.gen x.bounds site g
  let ch : Chan := ⟨site, 5, false, g - 4⟩
  if !d.live p || siteKind site != .memory || g < 4 || 7 < g || !x.stop.enabled site || gc.mode = 0 || gc.mode = 3 then d
  else
    match (d.fab p).buf ch with
    | [] => d
    | t :: rest =>
      match writeRun p site g gc d with
      | none => d
      | some (r, d) =>
        let (a, _, _) := gc.at (r.base.getD gc.base) r.pos
        let d := d.modFab p (fun f => (f.setBuf ch rest).freeEntry ch)
        let busy := (d.cell p site).accs.any (fun b => bankOf b.addr == bankOf a)
        let d :=
          if busy then d.modCell p site (fun c => { c with accs := c.accs ++ [{ path := 2, gen := g, addr := a, tok := t }] })
          else d.writeBytes (t1Key p site a) t.bytes
        writeDone p site g gc r t.fin d

/-- R155: a write generator in accumulate mode reads, adds and writes back. -/
def fxAccumulateWrite (p site g : Nat) (d : Device) : Device :=
  let x := d.part p
  let gc := x.stop.gen x.bounds site g
  let ch : Chan := ⟨site, 5, false, g - 4⟩
  if !d.live p || siteKind site != .memory || g < 4 || 7 < g || !x.stop.enabled site || gc.mode != 3 then d
  else
    match (d.fab p).buf ch with
    | [] => d
    | t :: rest =>
      match writeRun p site g gc d with
      | none => d
      | some (r, d) =>
        let (a, _, _) := gc.at (r.base.getD gc.base) r.pos
        let d := d.modFab p (fun f => (f.setBuf ch rest).freeEntry ch)
        let old := BitVec.ofNat 512 (d.readNat (t1Key p site a) 64)
        let d := d.writeBytes (t1Key p site a) (leBytes 64 (accumulate gc.accFp32 old t.payload).toNat)
        writeDone p site g gc r t.fin d

/-- R157: the read that generator `g` has waiting fails parity: it is re-issued and counted; the third failure is the
fault T1_PARITY. -/
def fxT1ParityReissue (p site g : Nat) (d : Device) : Device :=
  let c := d.cell p site
  if !d.live p || siteKind site != .memory then d
  else
    match c.accs.find? (fun a => a.gen == g && a.path == 3) with
    | none => d
    | some a =>
      if 2 ≤ a.reissues then
        d.fabricFault p 0x21 1 site 4 0 false { status := 0x1021, kind := 1, addr := t1Key p site a.addr }
      else
        (d.modCell p site (fun c =>
          { c with accs := c.accs.map (fun b => if b = a then { b with reissues := b.reissues + 1 } else b) })).bump64
          (prtOff p PRT_T1_REISSUE_COUNT_LO) 1

/-- R126: one beat of the compute cell at a site. -/
def fxCellBeat (p site : Nat) (d : Device) : Device :=
  if !d.live p || siteKind site != .compute || !(d.part p).stop.enabled site then d else computeBeat p site d

end Sys2Proof.Machine
end

