-- ==== Sys2Proof/Machine/RegView.lean ====
section
/-!
DEFINITION. What registers read as (R5, R12 to R20, R32 to R48, R704, R708, R910): the registers that report live state, the
selections of each port, and what each port's authority reaches. A register that stands here in no view reads as stored.
-/
namespace Sys2Proof.Machine

/-- Sum of bits: bit `i` of the result says whether `f i` holds. -/
def bitsWhere (n : Nat) (f : Nat → Bool) : Nat := (List.range n).foldl (fun m i => m + 2 ^ i * bit (f i)) 0

/-! ### Partition windows -/

/-- PRT_CELL_STATUS.STATE (R169): halted, draining, back-pressured, firing, waiting, idle, in this order (DESIGN CHOICE 38). -/
def Device.cellState (d : Device) (p site : Nat) (outStall : Bool) : Nat :=
  let x := d.part p
  let c := d.cell p site
  if x.fabric.halted then 5
  else if x.draining then 4
  else if outStall then 3
  else if c.conv.isSome || c.vec.isSome || !c.rowQueue.isEmpty || !c.gens.isEmpty || !c.accs.isEmpty then 2
  else if !c.ctxs.isEmpty || !c.valve.openTags.isEmpty || !c.valve.toks.isEmpty then 1
  else 0

/-- R169. -/
def Device.cellStatus (d : Device) (p site : Nat) : Nat :=
  let x := d.part p
  let f := x.fabric
  let c := d.cell p site
  let outs := bitsWhere 4 (fun k =>
    let ch : Chan := ⟨site, 4, false, k⟩
    !(Table.getD f.outs ch.key []).isEmpty && !f.credit ch)
  let ins := bitsWhere 4 (fun k => decide (4 ≤ (f.buf ⟨site, 5, false, k⟩).length))
  let n := min 64 (if siteKind site = .valve then c.valve.openTags.length else c.ctxs.length)
  2 ^ 25 * outs + 2 ^ 21 * ins + 2 ^ 14 * n + 2 ^ 11 * d.cellState p site (outs != 0) + 2 ^ 9 * x.epoch +
    2 ^ 7 * (x.active.getD 0) + (if x.stop.enabled site then (siteKind site).code else 7)

/-- R214. -/
def Device.valveStatus (d : Device) (p site : Nat) : Nat :=
  let v := d.valve p site
  if siteKind site ≠ .valve then 0
  else
    2 ^ 24 * bit v.atBound + 2 ^ 17 * v.highWater + 2 ^ 10 * (v.toks.filter (fun t => t.stored && t.input == 4)).length +
      v.occupancy

/-- R269. -/
def Device.slotStates (d : Device) (p : Nat) : Nat :=
  let x := d.part p
  2 ^ 17 * bit x.draining + 2 ^ 16 * bit x.active.isSome + 2 ^ 14 * x.epoch + 2 ^ 12 * (x.active.getD 0) +
    (List.range 4).foldl (fun m i => m + 8 ^ i * (x.slot i).state.code) 0

/-- R270. -/
def Device.slotStop (d : Device) (p i : Nat) : Nat :=
  let s := (d.part p).slot i
  if s.state = .empty || s.state = .failed then 0 else s.stopId

/-- R312: ON, DIR and SLOTS of a ring; ERR and its status are stored. -/
def Device.ringStatus (d : Device) (p inst : Nat) : Nat :=
  let w := d.reg (regKey (prtOff p PRT_RING_STATUS) inst)
  bitsOf w 31 31 * 2 ^ 31 + bitsOf w 15 0 +
    (match (d.part p).stop.ring (inst / 4) (inst % 4) with
     | some c => 2 ^ 30 + 2 ^ 29 * bit (decide (2 ≤ inst % 4)) + 2 ^ 24 * c.slots
     | none => 0)

/-- R647: a regulator's CTRL. -/
def Device.regCtrl (d : Device) (p k : Nat) : Nat :=
  let b := d.bucket p k
  bitsOf (d.reg (prtOff p (PRT_REG_CTRL + 0x20 * k))) 31 31 * 2 ^ 31 + 2 ^ 30 * bit b.held +
    2 ^ 29 * bit (b.on && decide (b.bal ≤ 0))

/-- The live views of a PRT window (R168 to R172, R214, R215, R269 to R275, R310 to R312, R369, R647); `rel` is the offset in
the window, `inst` the selected instance. -/
def Device.prtView (d : Device) (p rel inst : Nat) : Option Nat :=
  let x := d.part p
  let r := Table.getD x.rings inst {}
  let low := bitsOf (d.reg (prtOff p rel))
  if rel = PRT_CELL_STATUS then some (d.cellStatus p inst)
  else if rel = PRT_CELL_FIRES then some (d.cell p inst).fires
  else if rel = PRT_VALVE_STATUS then some (d.valveStatus p inst)
  else if rel = PRT_VALVE_DROPS then some (d.valve p inst).drops
  else if rel = PRT_SLOT_STATE then some (d.slotStates p)
  else if PRT_SLOT_STOP_ID ≤ rel && rel < PRT_SLOT_STOP_ID + 16 then some (d.slotStop p ((rel - PRT_SLOT_STOP_ID) / 4))
  else if rel = PRT_STOP_STATUS then
    some (2 ^ 31 * bit (!x.loads.isEmpty) + 2 ^ 30 * bit x.switch.isSome + low 29 0)
  else if rel = PRT_OCCUPANCY then some (d.occupancy p)
  else if rel = PRT_RING_PTRS then some (2 ^ 16 * (r.head % 65536) + r.tail % 65536)
  else if rel = PRT_RING_KEEP then some (2 ^ 16 * (r.commit % 65536) + r.keep % 65536)
  else if rel = PRT_RING_STATUS then some (d.ringStatus p inst)
  else if rel = PRT_FRONT_STATUS then
    some (2 ^ 16 * min 65535 ((x.front.filter (fun e => e.claimed || e.started)).length) + low 15 0)
  else if PRT_REG_CTRL ≤ rel && rel < PRT_REG_CTRL + 0x60 then
    let k := (rel - PRT_REG_CTRL) / 0x20
    match (rel - PRT_REG_CTRL) % 0x20 with
    | 0 => some (d.regCtrl p k)
    | 0xC => some (unsignedOf 64 (d.bucket p k).bal)
    | 0x10 => some (unsignedOf 64 (d.bucket p k).bal / 2 ^ 32)
    | _ => none
  else if rel = PRT_OWNER then
    some (2 ^ 31 * bit (decide (x.owner ≤ 63)) + 2 ^ 30 * bit (d.saves.any (fun e => e.1 % 16 == p)) +
      2 ^ 24 * (if x.owner ≤ 63 then x.owner else 0))
  else if rel = PRT_JOB then some x.job
  else none

/-- The live views of a DRN window (R564). -/
def Device.drnView (d : Device) (s rel : Nat) : Option Nat :=
  let step := (d.drone s).step
  if rel = DRN_STATUS then
    some (2 ^ 31 * bit step.isSome + 2 ^ 30 * bit (d.droneHalted s) + (match step with | some x => min 512 x.rows | none => 0))
  else if rel = DRN_STEP then some (match step with | some x => x.stepId | none => 0xFFFFFFFF)
  else if rel = DRN_KV_FREE then some (d.kvFree s)
  else if rel = DRN_TICKETS then
    some (((d.groups.filter (fun e => e.2.members.contains s)).foldl (fun n e => n + e.2.tickets.length) 0))
  else none

/-! ### Device blocks -/

/-- R32, R35: a word of the size table; all read as 0 while READY is 0. -/
def Device.sizeWord (d : Device) (off : Nat) : Nat :=
  if d.regField HUB_SIZE_COUNT 31 31 = 0 then 0
  else match d.sizeTable[(off - 0x1000) / 8]? with
    | none => 0
    | some (name, v) => if off % 8 = 0 then name + 65536 * (v % 65536) else v / 65536

/-- R5. -/
def Device.identWord (d : Device) : Nat := 0x010C0100 + 16 * bit d.sample + 8 * bit d.sample

/-- R713: a word of a session record. -/
def Device.sessionWord (d : Device) (s o : Nat) : Nat :=
  let x := d.session s
  match o with
  | 0x00 => 2 ^ 31 * bit x.enable + 2 ^ 24 * x.fn + 32 * x.cqLog + x.sqLog
  | 0x04 => x.sqBase % 2 ^ 32
  | 0x08 => x.sqBase / 2 ^ 32
  | 0x0C => x.cqBase % 2 ^ 32
  | 0x10 => x.cqBase / 2 ^ 32
  | 0x14 => 2 ^ 31 * bit x.irq + 2 ^ 16 * x.holdoff + x.vector
  | 0x18 => 2 ^ 30 * x.state.code + 2 ^ 16 * x.err + x.sqHead
  | 0x1C => 2 ^ 16 * min 65535 (if x.cqFull then (Table.getD d.records s []).length else 0) + x.cqTail
  | _ => 0

/-- R423: MOV_CH_STATUS. -/
def Device.channelStatus (d : Device) (c : Nat) : Nat :=
  let m := d.mover c
  2 ^ 30 * (if m.halted then 2 else bit m.running) + 2 ^ 16 * min 64 m.queue.length + 256 * bit m.unit.isSome +
    16 * m.unit.getD 0 + (match m.running, m.queue with | true, w :: _ => w.mv.cls | _, _ => 0)

/-- R425: CHK_UNIT_STATUS. -/
def Device.unitStatus (d : Device) (u : Nat) : Nat :=
  let x := Table.getD d.checks u {}
  2 ^ 31 * bit (x.serves.isSome || x.run.isSome) + 256 * x.poly + x.chan

/-- R469: visible packets and gap markers at level `n`. -/
def Queue.levelCount (q : Queue) (n : Nat) : Nat :=
  min 15 ((q.packets.filter (fun x => x.visible && x.level == n)).length +
    (match q.marker with | some m => bit (m.visible && m.level == n) | none => 0))

/-- R469: the registers of a queue in service. -/
def Queue.view (q : Queue) (off : Nat) : Option Nat :=
  if off = QUE_CFG then some (2 ^ 31 + 2 ^ 29 * q.notify + 2 ^ 16 * q.notifyArg + q.stallLimit)
  else if off = QUE_CAPACITY then some q.capacity
  else if off = QUE_MAX_PACKET then some q.maxPacket
  else if off = QUE_BASE then some q.base
  else if off = QUE_STATUS then
    some (2 ^ 31 * bit q.marker.isSome + 2 ^ 30 * bit q.markerHeld.isSome + 2 ^ 29 * bit q.current.isSome + q.used)
  else if off = QUE_HELD then some (wordsOf q.held + bit q.markerHeld.isSome)
  else if off = QUE_LEVELS then some ((List.range 8).foldl (fun m n => m + 16 ^ n * q.levelCount n) 0)
  else if off = QUE_PENDING_DROPS then some q.pending.length
  else if off = QUE_PRODUCERS then some q.producers.length
  else none

/-- The live views of the queue unit's registers (R469, R470); a queue that is not in service reads 0 throughout. -/
def Device.queView (d : Device) (sel : RegSel) (off inst : Nat) : Option Nat :=
  if sel = .que then
    match d.queue? (inst / 256) (inst % 256) with
    | some q => q.view off
    | none => some 0
  else
    let u := d.qpart inst
    if off = QUE_CARVE_STAGING then some (u.staging / 16)
    else if off = QUE_CARVE_LULL then some (u.lull / 16)
    else if off = QUE_CARVE_QUEUES then some (u.region / 16)
    else if off = QUE_CARVE_FREE then some (4096 - (u.staging + u.lull + u.region) / 16)
    else none

/-- R507: GAL_ROUTE_STATE. -/
def Device.routeState (d : Device) (r : Nat) : Nat :=
  let x := d.route r
  2 ^ 31 * bit x.dispatchClosed + 2 ^ 30 * bit x.returnClosed +
    2 ^ 23 * (if x.dispatchClosed then x.returnFrom.length else x.dispatchFrom.length) + x.round % 65536

/-- R692: LIB_SHARED_COPIES: the shards that some loaded image holds as a shared copy. -/
def Device.sharedShards (d : Device) : Nat :=
  ((d.images.flatMap (fun e => match e.2.lib with
    | none => []
    | some l => e.2.shared.filterMap (fun s => (e.2.pages[s.1]?).map (fun r => (l.model, l.version, r.shard))))).eraseDups).length

/-- R692: the registers of a deployment. -/
def Device.deployView (d : Device) (n off : Nat) : Nat :=
  match d.deploy? n with
  | none => 0
  | some y =>
    let old := y.olds.head?
    if off = LIB_DEPLOY_STATE then
      2 ^ 31 + 2 ^ 30 * bit y.draining + 2 ^ 27 * (match y.load with | some l => l.phase.code | none => 0) +
        2 ^ 26 * bit old.isSome + y.fn
    else if off = LIB_DEPLOY_CURRENT then y.current
    else if off = LIB_DEPLOY_OLD then (match old with | some o => o.1 | none => 0)
    else if off = LIB_DEPLOY_PINNED then d.pinned n y.image
    else match old with | some o => d.pinned n o.2 | none => 0

/-- R864: MGT_JOB_STATE. -/
def Device.jobStateWord (d : Device) (j : Nat) : Nat :=
  let x := d.job j
  2 ^ 29 * x.state.code + 2 ^ 24 * (if x.state = .waiting then x.waitReason else 0) +
    2 ^ 16 * min 255 (d.stormNow j).length + min 65535 x.restarts

/-- R645: BRT_STATUS but for ELAPSED_US. -/
def Device.breathStatus (d : Device) : Nat :=
  let w := d.reg BRT_STATUS
  bitsOf w 31 30 * 2 ^ 30 +
    2 ^ 29 * bit (d.timer.heldPeriod.isSome || d.timer.heldSource.isSome || d.timer.proposed.isSome) + 2 ^ 24 * d.source

/-- R794: PLV_DOMAIN_STATUS. -/
def Device.domainStatus (d : Device) : Nat :=
  2 ^ 31 * bit d.formed + 2 ^ 30 * bit d.isMaster + bitsOf (d.reg PLV_DOMAIN_STATUS) 29 29 * 2 ^ 29 +
    countOnes d.memberMask 72

/-- R504, R910: a bias word reads as last written, also while the write is held. -/
def Device.biasView (d : Device) (off : Nat) : Nat :=
  match (((d.bank ((off - BRM_BIAS) / 0x400)).held.filter (fun h => h.1 == off)).getLast?) with
  | some h => h.2
  | none => d.reg off

/-- The live views of the device's blocks; `inst` is the selected instance. -/
def Device.devView (d : Device) (sel : RegSel) (off inst : Nat) : Option Nat :=
  if sel = .que || sel = .quepart then d.queView sel off inst
  else if sel = .deploy then some (d.deployView inst off)
  else if off = MOV_CH_STATUS then some (d.channelStatus inst)
  else if off = CHK_LAST_LO then some (Table.getD d.checks inst {}).last
  else if off = CHK_LAST_HI then some ((Table.getD d.checks inst {}).last / 2 ^ 32)
  else if off = CHK_UNIT_STATUS then some (d.unitStatus inst)
  else if off = DIG_STATUS then some (bitsWhere 4 (fun e => (Table.find? d.digests e).isSome))
  else if off = GAL_ROUTE_STATE then some (d.routeState inst)
  else if off = BRM_STATUS then some (2 ^ 16 * ((d.bank inst).windows % 65536) + (d.bank inst).elapsed)
  else if BRM_BIAS ≤ off && off < BRM_BIAS + 0x10000 then some (d.biasView off)
  else if off = MUT_STATUS then
    let rows := d.rows.filter (fun r => !r.done)
    some (2 ^ 31 * bit (!rows.isEmpty) + min 1023 rows.length)
  else if off = BRT_STATUS then some d.breathStatus
  else if off = BRT_NUMBER_LO then some d.breath
  else if off = BRT_NUMBER_HI then some (d.breath / 2 ^ 32)
  else if off = BRT_PIN then some (2 * bit (d.source == 1) + d.regField BRT_PIN 0 0)
  else if off = LIB_SHARED_COPIES then some d.sharedShards
  else if off = PLV_DOMAIN_STATUS then some d.domainStatus
  else if off = PLV_CIRC_CMD then
    some (2 ^ 28 * bit (Table.find? d.circuits inst).isSome + d.regField (regKey PLV_CIRC_CMD inst) 7 0)
  else if off = MEM_T2_STATUS then
    some (putBits (d.reg (regKey MEM_T2_STATUS inst)) 23 16 (Table.getD d.sensors (0x10 + inst) 0))
  else if off = MGT_FRING_STATUS then
    some (2 ^ 31 * bit d.ring.on + 2 ^ 30 * bit d.ring.lost + min 1024 d.ring.page.length)
  else if off = MGT_JOB_STATE then some (d.jobStateWord inst)
  else if off = MGT_JOB_LAST then some (d.job inst).lastSerial
  else none

/-! ### Selections (R704, R735) -/

/-- The instance that a port's own selection names; a register that reports on none has instance 0. -/
def Device.instOf (d : Device) (port : Port) (sel : RegSel) (p : Nat) : Nat :=
  match sel with
  | .none => 0
  | .cell => d.selSite port p
  | .ring => let w := d.portReg port (prtOff p PRT_RING_SEL); 4 * bitsOf w 3 0 + bitsOf w 5 4
  | .t2 => bitsOf (d.portReg port MEM_T2_SEL) 3 0
  | .mov => d.movSel port
  | .chk => bitsOf (d.portReg port CHK_SEL) 3 0
  | .que => bitsOf (d.portReg port QUE_SEL) 11 0
  | .quepart => bitsOf (d.portReg port QUE_SEL) 11 8
  | .route => bitsOf (d.portReg port GAL_ROUTE_SEL) 5 0
  | .arb => bitsOf (d.portReg port SCH_ARB_SEL) 2 0
  | .deploy => bitsOf (d.portReg port LIB_DEPLOY_SEL) 7 0
  | .port => bitsOf (d.portReg port PLV_PORT_SEL) 4 0
  | .circ => d.circSel port
  | .slot => let w := d.portReg port PLV_SLOT_SEL; 2 * bitsOf w 4 0 + bitsOf w 8 8
  | .vr => bitsOf (d.portReg port PMU_VR_SEL) 4 0
  | .job => d.portReg port MGT_JOB_SEL

/-- Where a register's stored bits stand for a port: a port's own copy, the copy of the selected instance. -/
def Device.storeKey (d : Device) (port : Port) (r : RegDesc) (off : Nat) : Nat :=
  if r.copies then portKey off port
  else if off = HUB_EVT_COUNT then regKey off (bitsOf (d.portReg port HUB_EVT_SEL) 10 0)
  else regKey off (d.instOf port r.sel (blockOf off).2.1)

/-! ### Authority (R708) -/

/-- What a tenant's registers cover: the selections within its partitions, channels and routes. -/
def Device.tenantReach (d : Device) (fn : Nat) (r : RegDesc) (off : Nat) (write : Bool) : Bool :=
  let port : Port := .vf fn
  let p := (blockOf off).2.1
  let inst := d.instOf port r.sel p
  match r.block with
  | .prt => d.owner p == fn
  | .drn => d.owner p == fn
  | .dev =>
    if off < 0x100000 then
      if off = HUB_SIZE_COUNT || off = HUB_DEVICE_INDEX then !write
      else if off = HUB_EVT_COUNT then d.mayEvent port (bitsOf (d.portReg port HUB_EVT_SEL) 10 0)
      else true
    else if off = BRT_NUMBER_LO || off = BRT_NUMBER_HI || off = BRT_STATUS then !write
    else if off = QUE_SEL || off = MOV_SEL || off = GAL_ROUTE_SEL then true
    else if r.sel = .que then d.owner (inst / 256) == fn
    else if r.sel = .quepart then d.owner inst == fn
    else if r.sel = .mov then decide (inst < 192) && d.owner (inst / 16) == fn
    else if r.sel = .route then d.mayRoute port inst
    else if BRM_BIAS ≤ off && off < BRM_BIAS + 0x10000 then d.mayRoute port ((off - BRM_BIAS) / 0x400)
    else if BRM_COUNT ≤ off && off < BRM_COUNT + 0x20000 then d.mayRoute port ((off - BRM_COUNT) / 0x800)
    else false

/-- R708: the port's authority reaches a register of the map for a read or a write. -/
def Device.mayReg (d : Device) (port : Port) (r : RegDesc) (off : Nat) (write : Bool) : Bool :=
  match port with
  | .mgmt => true
  | .jtag => true
  | .pf =>
    if off = HUB_SIZE_COUNT || off = HUB_DEVICE_INDEX then !write
    else if r.block = .dev && ((0x100000 ≤ off && off < 0x200000) || (0xA00000 ≤ off && off < 0xA04000)) then !write
    else true
  | .vf n => d.tenantReach n r off write
  | .twin =>
    if PLV_TWIN_CFG ≤ off && off ≤ PLV_ADOPT_FAIL then true
    else !write && (off == HUB_SIZE_COUNT || off == HUB_DEVICE_INDEX || off == RCU_CAUSE || off == RCU_COUNT_TOTAL ||
      (decide (RCU_COUNT_SRC ≤ off) && decide (off < RCU_COUNT_SRC + 16)) || off == BRT_NUMBER_LO || off == BRT_NUMBER_HI)

/-! ### Reading (R16, R17, R48) -/

/-- Value of a register of the map, its reach aside. -/
def Device.regValue (d : Device) (port : Port) (r : RegDesc) (off : Nat) : Nat :=
  let (_, w, rel) := blockOf off
  let inst := d.instOf port r.sel w
  let live := match r.block with
    | .prt => d.prtView w rel inst
    | .drn => d.drnView w rel
    | .dev => d.devView r.sel off inst
  match live with
  | some v => v % 2 ^ 32
  | none => d.reg (d.storeKey port r off)

/-- The first offset of the session records, and of the MSI-X table and pending bits (R699, R713). -/
def sessionBase : Nat := 0x20000
def msixBase : Nat := 0x80000

/-- HUB offsets that stand outside the map: HUB_IDENT, the size table, the session records, the MSI-X table and pending bits
(a function's own). -/
def Device.hubWord (d : Device) (port : Port) (off : Nat) : Option Nat :=
  if off = 0 then some d.identWord
  else if 0x1000 ≤ off && off < 0x2000 then some (d.sizeWord off)
  else if sessionBase ≤ off && off < sessionBase + 0x40000 then
    let s := (off - sessionBase) / 0x40
    some (if d.maySession port s then d.sessionWord s ((off - sessionBase) % 0x40) else 0)
  else if msixBase ≤ off && off < msixBase + 0x9000 then
    some (match port with | .twin => 0 | _ => d.reg (portKey off port))
  else none

/-- The live value at a BAR0 offset; 0 where there is no register or the port may not reach it (R48). -/
def Device.peekReg (d : Device) (port : Port) (off : Nat) : Nat :=
  match d.hubWord port off with
  | some v => v
  | none =>
    match descAt off with
    | none => 0
    | some r => if off % 4 = 0 && d.mayReg port r off false then d.regValue port r off else 0

/-- The half of a pair that a session record's base stands in: 1 low, 2 high, 0 neither. -/
def sessionPair (off : Nat) : Nat :=
  if sessionBase ≤ off && off < sessionBase + 0x40000 then
    match (off - sessionBase) % 0x40 with | 0x04 => 1 | 0x08 => 2 | 0x0C => 1 | 0x10 => 2 | _ => 0
  else 0

/-- R15: which half of a _LO/_HI pair lies at an offset. -/
def pairHalf (off : Nat) : Nat :=
  match descAt off with
  | some r => r.pair
  | none => sessionPair off

/-- A port's read of 32 bits (R16, R17): a low half captures the pair as the port's snapshot, a high half consumes it.
ELAPSED_US of BRT_STATUS is a free value: the model keeps no time within a breath. -/
def Device.readReg (d : Device) (port : Port) (off : Nat) : Nat × Device :=
  let v := d.peekReg port off
  match pairHalf off with
  | 1 => (v, { d with snaps := Table.put d.snaps (portKey (off + 4) port) (d.peekReg port (off + 4)) })
  | 2 =>
    match Table.find? d.snaps (portKey off port) with
    | some h => (h, { d with snaps := Table.drop d.snaps (portKey off port) })
    | none => (v, d)
  | _ =>
    if off = BRT_STATUS && v ≠ 0 then
      let (e, d) := d.fresh 12
      (v + e, d)
    else (v, d)

end Sys2Proof.Machine
end

