-- ==== Sys2Proof/Machine/RegAccess.lean ====
section
/-!
DEFINITION. Accesses from outside: register writes under their access types, _LO/_HI pairs (R12 to R20, R45 to R48, R700, R708),
and the apertures of BAR4 (R701 to R703).
-/
namespace Sys2Proof.Machine

/-! ### Writing a register (R12 to R14) -/

/-- R12, R13: the stored bits after a write: RW fields take the value but for reserved values, W1C bits written 1 clear. -/
def RegDesc.merge (r : RegDesc) (old v : Nat) : Nat :=
  let v := r.only.foldl (fun v f =>
    let n := bitsOf v f.1 f.2.1
    if f.2.2.1 ≤ n && n ≤ f.2.2.2 then v else putBits v f.1 f.2.1 (bitsOf old f.1 f.2.1)) v
  (old - (old &&& (r.rw ||| r.w1c))) + (v &&& r.rw) + ((old &&& r.w1c) - (old &&& r.w1c &&& v))

/-- A write of a register with no behaviour of its own. -/
def Device.storeReg (d : Device) (port : Port) (r : RegDesc) (off v : Nat) : Device :=
  d.modReg (d.storeKey port r off) (fun old => r.merge old v)

/-- R443, R469: a write of QUE_CFG: NOTIFY with its argument, where they name something the port may name, and STALL_LIMIT. -/
def Device.queCfgWrite (d : Device) (port : Port) (p q v : Nat) : Device :=
  match d.queue? p q with
  | none => d
  | some x =>
    let n := bitsOf v 30 29
    let arg := bitsOf v 26 16
    let ok := if n = 1 then d.mayEvent port arg else if n = 2 then decide (arg ≤ 11) else true
    let x := if ok then { x with notify := n, notifyArg := arg } else x
    d.setQueue p q { x with stallLimit := bitsOf v 15 0 }

/-- A write of PLV_CMIS: with GO an access, whose answer is the module's (a free value here); else its fields (R758, R795). -/
def Device.cmisWrite (d : Device) (port : Port) (v : Nat) : Device :=
  let p := bitsOf (d.portReg port PLV_PORT_SEL) 4 0
  let d := if port.steward && bitOf v 28 then d.setRegField (regKey PLV_CMIS p) 28 28 0 else d
  if !port.steward then d
  else if !bitOf v 31 then d.cmisFields p v
  else if bitOf v 30 then fxCmisWrite port v true d
  else
    let (b, d) := d.fresh 8
    fxCmisRead port v (some b) d

/-- R360: turning the scrub of T3 on or off. -/
def Device.scrubWrite (d : Device) (r : RegDesc) (v : Nat) : Device :=
  let d := d.modReg MEM_T3_SCRUB (fun old => r.merge old v)
  let ops := d.longOps.filter (fun l => l.kind != .scrubT3)
  if d.regField MEM_T3_SCRUB 31 31 = 0 then { d with longOps := ops }
  else if d.boot.done && decide (ops.length = d.longOps.length) then
    let (u, d) := d.uid
    { d with longOps := d.longOps ++ [({ id := u, kind := .scrubT3, cls := 4 } : LongOp)] }
  else d

/-- A write in a PRT window; `rel` is the offset in it. -/
def Device.prtWrite (d : Device) (port : Port) (r : RegDesc) (off p rel v : Nat) : Device :=
  if rel = PRT_STOP_LOAD then fxPrtStopLoadGo port p v d
  else if rel = PRT_STOP_SWITCH then fxPrtStopSwitchGo port p v d
  else if rel = PRT_VALVE_STATUS then
    let site := d.selSite port p
    let d := if bitOf v 24 && siteKind site == .valve then d.modValve p site (fun x => { x with atBound := false }) else d
    if bitOf v 31 then fxPrtValveClearHw port p d else d
  else if rel = PRT_VALVE_PEAK then (if bitOf v 31 then fxPrtValvePeakClear p d else d)
  else if PRT_REG_CTRL ≤ rel && rel < PRT_REG_CTRL + 0x60 && (rel - PRT_REG_CTRL) % 0x20 < 12 then
    fxRegulatorWrite port p ((rel - PRT_REG_CTRL) / 0x20) ((rel - PRT_REG_CTRL) % 0x20 / 4) v d
  else d.storeReg port r off v

/-- R564: the KV pool registers take writes only from the operator, while no job holds the partition. -/
def Device.drnWrite (d : Device) (port : Port) (r : RegDesc) (off s rel v : Nat) : Device :=
  if DRN_KV_BASE_LO ≤ rel && rel ≤ DRN_KV_SCALE_HI then
    (if (port == .pf || port == .jtag) && (d.part s).job == 0 then d.storeReg port r off v else d)
  else d.storeReg port r off v

/-- A write to the Plovlink registers. -/
def Device.plvWrite (d : Device) (port : Port) (r : RegDesc) (off v : Nat) : Device :=
  if off < PLV_MEMBERS + 12 then fxDomainConfigWrite port (off - 0x800000) v d
  else if off = PLV_PORT_CTRL then d.portCtrlWrite (bitsOf (d.portReg port PLV_PORT_SEL) 4 0) v
  else if off = PLV_CMIS then d.cmisWrite port v
  else if off = PLV_CIRC_CMD then
    (if !bitOf v 31 then d else if bitOf v 30 then fxCircuitTeardown port d else fxCircuitSetup port d)
  else if PLV_SLOT_TBL ≤ off && off < PLV_SLOT_TBL + 256 then
    (if bitsOf (d.portReg port PLV_SLOT_SEL) 8 8 = d.slotBank then d else d.storeReg port r off v)
  else if off = PLV_TWIN_CFG then d.twinCfgWrite v
  else if off = PLV_TWIN_MIRROR_LO || off = PLV_TWIN_MIRROR_HI then
    (if port.steward then d.storeReg port r off v else d)
  else d.storeReg port r off v

/-- A write to the device's other blocks. -/
def Device.devWrite (d : Device) (port : Port) (r : RegDesc) (off v : Nat) : Device :=
  if off = HUB_EVT_COUNT then fxHubEvtCountWrite port v d
  else if off = MOV_CTRL then d.movCtrl port (bitOf v 0) (bitOf v 1)
  else if off = QUE_CFG then
    let q := d.instOf port .que 0
    d.queCfgWrite port (q / 256) (q % 256) v
  else if GAL_ROUTE_CFG ≤ off && off ≤ GAL_ROUTE_CSTEP then fxGalRouteWrite port (off - 0x700000) v d
  else if off = BRM_CTRL || off = BRM_ETA then fxBrmCtrlWrite port (off == BRM_ETA) v d
  else if BRM_BIAS ≤ off && off < BRM_BIAS + 0x10000 then fxBrmBiasWrite port (off - BRM_BIAS) v d
  else if off = BRT_PERIOD then fxBrtPeriodWrite port v d
  else if off = BRT_SRC then fxBrtSrcWrite port v d
  else if SCH_ARB_BUDGET ≤ off && off < SCH_ARB_BUDGET + 16 then
    fxSchArbBudgetWrite port ((off - SCH_ARB_BUDGET) / 4) v d
  else if off = MEM_T3_SCRUB then d.scrubWrite r v
  else if off = MGT_HOSTBOOT then
    (if bitOf v 31 then fxMgtHostbootGo port v d else d.storeReg port r off v)
  else if off = MGT_JOB_STATE then (if bitOf v 28 then fxMgtJobRestart port d else d)
  else if off = MGT_FRING_STATUS then
    (if bitOf v 30 then { d with ring := { d.ring with lost := false } } else d)
  else if 0x800000 ≤ off && off < 0x900000 then d.plvWrite port r off v
  else d.storeReg port r off v

/-- A write of 32 bits to a register that the port reaches. -/
def Device.write32 (d : Device) (port : Port) (r : RegDesc) (off v : Nat) : Device :=
  let (_, w, rel) := blockOf off
  match r.block with
  | .prt => d.prtWrite port r off w rel v
  | .drn => d.drnWrite port r off w rel v
  | .dev => d.devWrite port r off v

/-! ### Session records (R713) -/

/-- R713, R14: the base fields are locked while ENABLE is 1 or STATE is not OFF. -/
def Device.sesBaseWrite (d : Device) (s o lo hi : Nat) : Device :=
  let x := d.session s
  if x.enable || x.state ≠ .off then d
  else
    let a := lo % 2 ^ 32 + 2 ^ 32 * (hi % 2 ^ 32)
    d.setSession s (if o < 0x0C then { x with sqBase := a } else { x with cqBase := a })

/-- A write of HUB_SES_IRQ; VECTOR beyond the function's table is a reserved value. -/
def Device.sesIrqWrite (d : Device) (s v : Nat) : Device :=
  d.modSession s (fun x =>
    let n := bitsOf v 10 0
    { x with irq := bitOf v 31, holdoff := bitsOf v 23 16, vector := if n < (if x.fn = 0 then 2048 else 32) then n else x.vector })

/-- A write of a word of a session record that is no half of a pair. -/
def Device.sesWrite (d : Device) (port : Port) (s o v : Nat) : Device :=
  if !d.maySession port s then d
  else match o with
    | 0x00 => d.sesCtrlWrite port s v
    | 0x14 => d.sesIrqWrite s v
    | _ => d

/-! ### Pairs (R18, R19) -/

/-- R18: a low half waits in the port's holding register. -/
def Device.holdLow (d : Device) (port : Port) (off v : Nat) : Device :=
  { d with holds := Table.put d.holds (portKey off port) (v % 2 ^ 32) }

/-- R18, R19: a high half commits the pair, with the low half that the port holds or the current one. -/
def Device.commitPair (d : Device) (port : Port) (off v : Nat) : Device :=
  let held := Table.find? d.holds (portKey (off - 4) port)
  let d := { d with holds := Table.drop d.holds (portKey (off - 4) port) }
  match descAt off, descAt (off - 4) with
  | some r, some q =>
    let d := match held with | some l => d.write32 port q (off - 4) l | none => d
    let d := d.write32 port r off v
    if off = MGT_FRING_BASE_HI then d.ringMoved else d
  | _, _ =>
    let s := (off - sessionBase) / 0x40
    let o := (off - sessionBase) % 0x40 - 4
    d.sesBaseWrite s o (held.getD (d.sessionWord s o)) v

/-- The port reaches the register at an offset for a write. -/
def Device.mayWrite (d : Device) (port : Port) (off : Nat) : Bool :=
  if sessionBase ≤ off && off < sessionBase + 0x40000 then d.maySession port ((off - sessionBase) / 0x40)
  else match descAt off with
    | some r => d.mayReg port r off true
    | none => false

/-- A port's write of 32 bits at a BAR0 offset (R13 to R19, R48). -/
def Device.writeReg (d : Device) (port : Port) (off v : Nat) : Device :=
  if off % 4 ≠ 0 then d
  else if msixBase ≤ off && off < msixBase + 0x8000 then
    (match port with | .twin => d | _ => d.setReg (portKey off port) v)
  else if !d.mayWrite port off then d
  else match pairHalf off with
    | 1 => d.holdLow port off v
    | 2 => d.commitPair port off v
    | _ =>
      match descAt off with
      | some r => d.write32 port r off v
      | none => d.sesWrite port ((off - sessionBase) / 0x40) ((off - sessionBase) % 0x40) v

/-! ### The rows (R16 to R19, R47) -/

/-- The host port answers accesses of a function to its BARs: stage 6 is reached, the function exists and is in D0. -/
def Device.fnAnswers (d : Device) (fn : Nat) : Bool :=
  decide (6 ≤ d.boot.stage) && !d.boot.recovery && (fn == 0 || (decide (fn ≤ 63) && d.pcie.vfEnable)) &&
    !d.pcie.d3hot.contains fn

/-- The port can make an access now. -/
def Device.portAnswers (d : Device) (port : Port) : Bool :=
  match port with
  | .pf => d.fnAnswers 0
  | .vf n => decide (1 ≤ n) && d.fnAnswers n
  | .twin => d.twinUp
  | .jtag => d.sample
  | .mgmt => true

/-- REG_LO_READ: a port reads the low half of a pair (R16). -/
def fxRegLoRead (port : Port) (off : Nat) (d : Device) : Device :=
  if !d.portAnswers port || pairHalf off ≠ 1 then d
  else
    let (v, d) := d.readReg port off
    d.emit (.value port (leBytes 4 v))

/-- REG_HI_READ: a port reads the high half of a pair (R17). -/
def fxRegHiRead (port : Port) (off : Nat) (d : Device) : Device :=
  if !d.portAnswers port || pairHalf off ≠ 2 then d
  else
    let (v, d) := d.readReg port off
    d.emit (.value port (leBytes 4 v))

/-- REG_LO_WRITE (R18). -/
def fxRegLoWrite (port : Port) (off word : Nat) (d : Device) : Device :=
  if !d.portAnswers port || pairHalf off ≠ 1 then d else d.writeReg port off word

/-- REG_HI_WRITE (R18, R19). -/
def fxRegHiWrite (port : Port) (off word : Nat) (d : Device) : Device :=
  if !d.portAnswers port || pairHalf off ≠ 2 then d else d.writeReg port off word

/-- REGISTER_WRITE: a write of a register that is no half of a pair. -/
def fxRegisterWrite (port : Port) (off word : Nat) (d : Device) : Device :=
  if !d.portAnswers port || pairHalf off ≠ 0 then d else d.writeReg port off word

/-- UNSUPPORTED_BAR_ACCESS: an access to BAR0 that is not 4 or 8 bytes wide and aligned, or to BAR2 that is not 4 (R45, R47,
R700). -/
def fxUnsupportedBarAccess (fn bar off bytes : Nat) (d : Device) : Device :=
  let fits := (bytes == 4 && off % 4 == 0) || (bar == 0 && bytes == 8 && off % 8 == 0)
  if !d.fnAnswers fn || fits || (bar ≠ 0 && bar ≠ 2) then d else d.emit (.pcie 1 [])

/-! ### Apertures (R701 to R703) -/

/-- R699, R808: log2 of a function's BAR4: a size written, or that of the standing configuration. -/
def Device.bar4Log (d : Device) (fn : Nat) : Nat :=
  let k := min 1 fn
  (Table.find? d.pcie.bar4 k).getD (bitsOf (d.cfgValue 11) (8 * k + 7) (8 * k))

/-- R701: the domain address of a byte of a function's BAR4; none where its aperture is off or breaks its alignment. -/
def Device.apertureAddr (d : Device) (fn off : Nat) : Option Nat :=
  let z := 2 ^ (d.bar4Log fn - 4)
  let k := portKey (HUB_APERTa_LO + 8 * (off / z)) (fnPort fn)
  let lo := d.reg k
  let base := lo / 64 * 64 + 2 ^ 32 * d.portReg (fnPort fn) (HUB_APERTa_HI + 8 * (off / z))
  if 16 ≤ off / z || !bitOf lo 0 || base % z ≠ 0 then none else some (base + off % z)

/-- R702: why a range of one granule is refused: 0 unmapped, 1 outside the windows, 2 read-only; none where it passes. -/
def Device.hostRefuses (d : Device) (fn a n : Nat) (write : Bool) : Option Nat :=
  let regs := addrSpace a == 6 && !((n == 4 || n == 8) && a % n == 0)
  if !d.mapped a n || !d.reaches 0 (addrDevice a) || regs then some 0
  else if !d.inWindow (some (fnPort fn)) a n write then some 1
  else if write && d.isReadOnly a n then some 2
  else none

/-- The granules of a range: address and bytes of each. -/
def granulesOf (a n : Nat) : List (Nat × Nat) :=
  (List.range ((a % 64 + n + 63) / 64)).map (fun i =>
    let s := max a (a / 64 * 64 + 64 * i)
    (s, min (a + n) (a / 64 * 64 + 64 * i + 64) - s))

/-- R702: the first granule that fails, its address and the reason; `whole` is the width of an access to registers. -/
def Device.hostError (d : Device) (fn a n : Nat) (write : Bool) : Option (Nat × Nat) :=
  if addrSpace a = 6 then (d.hostRefuses fn a n write).map (fun r => (a / 64 * 64, r))
  else (granulesOf a n).findSome? (fun g => (d.hostRefuses fn g.1 g.2 write).map (fun r => (g.1 / 64 * 64, r)))

/-- R702: a refused access is latched in the function's HUB_HOST_ERR. -/
def Device.latchHostErr (d : Device) (fn aperture addr reason : Nat) (write : Bool) : Device :=
  let port := fnPort fn
  if bitOf (d.portReg port HUB_HOST_ERR) 31 then d
  else ((d.setReg (portKey HUB_HOST_ERR port) (2 ^ 31 + 2 ^ 30 * bit write + 2 ^ 28 * reason + aperture % 16)).setReg
    (portKey HUB_HOST_ERR_ADDR_LO port) addr).setReg (portKey HUB_HOST_ERR_ADDR_HI port) (addr / 2 ^ 32)

/-- The boot memory stands in the first 16 MiB of the physical function's BAR4 while the device waits for host boot (R804). -/
def Device.bootWindow (d : Device) (fn off n : Nat) : Bool := fn == 0 && d.awaits 2 && decide (off + n ≤ 16777216)

/-- APERTURE_READ: function `fn` reads `n` bytes at `off` of its BAR4; `ce` and `ue` are what SECDED finds in the queue store. -/
def fxApertureRead (fn off n ce : Nat) (ue : Option Nat) (d : Device) : Device :=
  let zeros := List.replicate n (0 : Byte)
  let aperture := off / 2 ^ (d.bar4Log fn - 4)
  if !d.fnAnswers fn || n = 0 then d
  else if d.bootWindow fn off n then d.emit (.pcie 0 (d.readBytes (bootKey off) n))
  else match d.apertureAddr fn off with
    | none => (d.latchHostErr fn aperture 0 3 false).emit (.pcie 0 zeros)
    | some a =>
      match d.hostError fn a n false with
      | some (g, why) => (d.latchHostErr fn aperture g why false).emit (.pcie 0 zeros)
      | none =>
        if !d.isSelf (addrDevice a) then
          let (u, d) := d.uid
          { (d.requestRemote u hubChan 0 4 15 0 a n) with hostReads := d.hostReads ++ [{ uid := u, addr := a, bytes := n }] }
        else if addrSpace a = 6 then
          let (v, d) := d.readReg (fnPort fn) (addrOffset a)
          if n = 4 then d.emit (.pcie 0 (leBytes 4 v))
          else
            let (w, d) := d.readReg (fnPort fn) (addrOffset a + 4)
            d.emit (.pcie 0 (leBytes 4 v ++ leBytes 4 w))
        else
          let bytes := d.readBytes (localKey a) n
          match d.poisonIn (localKey a) n with
          | some g => (d.poisonRead g).emit (.pcie 3 bytes)
          | none => (d.secded a ce ue).emit (.pcie (if d.ueIn a n ue then 3 else 0) bytes)

/-- APERTURE_WRITE: function `fn` writes bytes at `off` of its BAR4 (R702, R703, R902). -/
def fxApertureWrite (fn off : Nat) (data : List Byte) (d : Device) : Device :=
  let n := data.length
  let aperture := off / 2 ^ (d.bar4Log fn - 4)
  if !d.fnAnswers fn || n = 0 then d
  else if d.bootWindow fn off n then d.writeBytes (bootKey off) data
  else match d.apertureAddr fn off with
    | none => d.latchHostErr fn aperture 0 3 true
    | some a =>
      match d.hostError fn a n true with
      | some (g, why) => d.latchHostErr fn aperture g why true
      | none =>
        if addrSpace a = 6 && d.isSelf (addrDevice a) then
          let d := d.writeReg (fnPort fn) (addrOffset a) (leAt data 0 4)
          if n = 8 then d.writeReg (fnPort fn) (addrOffset a + 4) (leAt data 4 4) else d
        else
          let (u, d) := d.uid
          d.writeAny u hubChan 0 4 15 a data

end Sys2Proof.Machine
end

