-- ==== Sys2Proof/Machine/Mgmt.lean ====
section
/-!
DEFINITION. The management port's own messages (R740, R743, R811, R890), PCIe configuration requests (R694 to R699, R801) and
the JTAG port (R2, R3, R894 to R897). The layouts of the MCTP and PLDM messages are those of DSP0236, DSP0240, DSP0248 and
DSP0267 (PRESUMED 45).
-/
namespace Sys2Proof.Machine

/-! ### MCTP control messages (R740) -/

/-- `n` bytes that the spec leaves open. -/
def Device.freshBytes (d : Device) : Nat → List Byte × Device
  | 0 => ([], d)
  | n + 1 =>
    let (b, d) := d.fresh 8
    let (l, d) := d.freshBytes n
    (BitVec.ofNat 8 b :: l, d)

/-- The answer to an MCTP control message: the request's instance with Rq clear, its command, the completion code, the data. -/
def Device.mctpAnswer (d : Device) (head cmd code : Nat) (data : List Byte) : Device :=
  d.emit (.mctp 0 (BitVec.ofNat 8 (head % 128) :: BitVec.ofNat 8 cmd :: BitVec.ofNat 8 code :: data))

/-- Set Endpoint ID: an ID from 8 to 254 is taken. -/
def Device.setEndpoint (d : Device) (head : Nat) (data : List Byte) : Device :=
  let eid := leAt data 1 1
  if eid < 8 || eid = 255 || 1 < leAt data 0 1 % 4 then d.mctpAnswer head 1 2 []
  else ({ d with mgmt := { d.mgmt with eid := eid } } : Device).mctpAnswer head 1 0 [0, BitVec.ofNat 8 eid, 0]

/-- MCTP_CONTROL_MESSAGE: a control message of the bus owner, from the byte after the message type on: Rq and instance,
command, data. -/
def fxMctpControlMessage (body : List Byte) (d : Device) : Device :=
  let d := d.rmHeard
  let head := leAt body 0 1
  let cmd := leAt body 1 1
  let data := body.drop 2
  if body.length < 2 || head < 128 then d
  else match cmd with
    | 1 => d.setEndpoint head data
    | 2 => d.mctpAnswer head 2 0 [BitVec.ofNat 8 d.mgmt.eid, 0, 0]
    | 4 =>
      if [0xFF, 0x00, 0x01, 0x7E].contains (leAt data 0 1) then
        let (v, d) := d.freshBytes 4
        d.mctpAnswer head 4 0 (1 :: v)
      else d.mctpAnswer head 4 0x80 []
    | 5 => d.mctpAnswer head 5 0 [2, 0x01, 0x7E]
    | 6 =>
      if leAt data 0 1 = 0 then
        let (v, d) := d.freshBytes 2
        d.mctpAnswer head 6 0 ([0xFF, 0, 0x1F, 0x3C] ++ v)
      else d.mctpAnswer head 6 2 []
    | _ => d.mctpAnswer head cmd 5 []

/-! ### PLDM (R740, R743, R811) -/

/-- The answer to a PLDM message: instance with Rq clear, type, command, completion code, data. -/
def Device.pldmAnswer (d : Device) (head kind cmd code : Nat) (data : List Byte) : Device :=
  d.emit (.mctp 1 (BitVec.ofNat 8 (head % 128) :: BitVec.ofNat 8 kind :: BitVec.ofNat 8 cmd :: BitVec.ofNat 8 code :: data))

/-- The PLDM types of R740. -/
def pldmType (n : Nat) : Bool := n == 0 || n == 2 || n == 5

/-- PLDM_BASE_DISCOVERY: a message of type 0, from the byte after the message type on: Rq and instance, type, command, data. -/
def fxPldmBaseDiscovery (body : List Byte) (d : Device) : Device :=
  let d := d.rmHeard
  let head := leAt body 0 1
  let data := body.drop 3
  let tid := leAt data 0 1
  if body.length < 3 || head < 128 then d
  else match leAt body 2 1 with
    | 1 =>
      if tid = 0 || tid = 255 then d.pldmAnswer head 0 1 2 []
      else ({ d with mgmt := { d.mgmt with tid := tid } } : Device).pldmAnswer head 0 1 0 []
    | 2 => d.pldmAnswer head 0 2 0 [BitVec.ofNat 8 d.mgmt.tid]
    | 3 =>
      if pldmType (leAt data 5 1) then
        let (v, d) := d.freshBytes 8
        d.pldmAnswer head 0 3 0 ([0, 0, 0, 0, 5] ++ v)
      else d.pldmAnswer head 0 3 0x83 []
    | 4 => d.pldmAnswer head 0 4 0 [0x25, 0, 0, 0, 0, 0, 0, 0]
    | 5 =>
      if pldmType tid then
        let (v, d) := d.freshBytes 32
        d.pldmAnswer head 0 5 0 v
      else d.pldmAnswer head 0 5 0x83 []
    | c => d.pldmAnswer head 0 c 5 []

/-- The numeric sensors of R743. -/
def pldmSensor (n : Nat) : Bool :=
  (decide (0x01 ≤ n) && decide (n ≤ 0x05)) || (decide (0x10 ≤ n) && decide (n ≤ 0x1B)) || n == 0x20 || n == 0x21 || n == 0x22 ||
    n == 0x30 || n == 0x31

/-- PMU_STATUS.STATE is STANDBY (R824). -/
def Device.standby (d : Device) : Bool := d.regField PMU_STATUS 31 30 == 0

/-- PLDM_SENSOR_READ: GetSensorReading of a sensor; VIN and input power are unavailable in STANDBY (R824). The reading is sent
as 32 bits. -/
def fxPldmSensorRead (head sensor : Nat) (d : Device) : Device :=
  let d := d.rmHeard
  if !pldmSensor sensor then d.pldmAnswer head 2 0x11 0x80 []
  else
    let off := d.standby && (sensor == 0x20 || sensor == 0x21)
    d.pldmAnswer head 2 0x11 0 ([4, if off then 2 else 0, 0, 1, 1, 1] ++
      leBytes 4 (if off then 0 else Table.getD d.sensors sensor 0))

/-- SENSOR_UPDATE: the sensors are refreshed (R743). Measured: Tj of compute dies 0 to 3 and the hub die, the base dies of the
stacks, VIN in mV, input power in W, and PMU_VR_STATUS of the regulators; the rest is the device's own. -/
def fxSensorUpdate (tj tm : List Nat) (vin watts : Nat) (vr : List Nat) (d : Device) : Device :=
  let put := fun (t : Table Nat) (e : Nat × Nat) => Table.put t e.1 (e.2 % 2 ^ 32)
  let t := ((tj.take 5).mapIdx (fun i v => (1 + i, v))).foldl put d.sensors
  let t := ((tm.take 12).mapIdx (fun i v => (0x10 + i, v))).foldl put t
  let t := if d.standby then t else put (put t (0x20, vin)) (0x21, watts)
  let t := [(0x22, d.regField PMU_CAP 11 0), (0x30, d.since.jobsFaulted), (0x31, d.since.tokens)].foldl put t
  let d := { d with sensors := t }
  ((vr.take 25).mapIdx (fun i v => (i, v))).foldl (fun d e => d.setReg (regKey PMU_VR_STATUS e.1) e.2) d

/-- R811: the firmware slot not in use; where none is in use, one that is not valid, else the older. -/
def Device.spareFw (d : Device) : Bool :=
  let x := d.boot
  if x.fwReady && d.bootFrom = 0 then !x.useB
  else if !x.fwA.valid then false
  else if !x.fwB.valid then true
  else decide (x.fwB.version ≤ x.fwA.version)

/-- PLDM_FIRMWARE_UPDATE: the transfer of component 0x0001 is complete (R811): the image stands in the slot not in use, its
flags erased; VerifyComplete reports the signature check, and after it ApplyComplete; `activate`: ActivateFirmware follows,
and takes effect at the next boot. Another component is refused. -/
def fxPldmFirmwareUpdate (head component : Nat) (image : List Byte) (activate : Bool) (d : Device) : Device :=
  let d := d.rmHeard
  if component ≠ 1 || 16777216 < image.length then d.pldmAnswer head 5 0x14 2 []
  else
    let slot := FwSlot.ofImage image
    let d := { d with boot := d.boot.setFw d.spareFw slot }
    let said := fun (d : Device) (cmd code : Nat) (more : List Byte) =>
      d.emit (.mctp 1 (BitVec.ofNat 8 (128 + head % 32) :: 5 :: BitVec.ofNat 8 cmd :: BitVec.ofNat 8 code :: more))
    if !slot.good then said d 0x17 1 []
    else
      let d := said (said d 0x17 0 []) 0x18 0 [0, 0]
      { d with boot := { d.boot with activate := d.boot.activate || activate } }

/-- I3C_DYNAMIC_ADDRESS_ASSIGNMENT: the bus owner assigns the dynamic address (R890). -/
def fxI3cDynamicAddressAssignment (addr : Nat) (d : Device) : Device :=
  if addr < 8 || 0x7D < addr then d else { d with mgmt := { d.mgmt with i3c := addr } }

/-! ### PCIe configuration requests (R694 to R699, R801) -/

/-- The value of a field of a function's configuration space. -/
def Device.cfgField (d : Device) (fn : Nat) (f : CfgField) : Option Nat :=
  match f with
  | .ident => some ((if fn = 0 then 0x0C12 else 0x0C13) * 65536 + 0x1F3C)
  | .classRevision => some (0x120000 * 256 + bitsOf d.identWord 15 8)
  | .subsystem => some (d.cfgValue 1)
  | .totalVfs => some 63
  | .vfOffset => some 1
  | .vfStride => some 1
  | .msixSize => some (if fn = 0 then 2048 else 32)
  | .vfEnable => some (bit d.pcie.vfEnable)
  | .bar4Size => some (d.bar4Log fn)
  | .power => some (if d.pcie.d3hot.contains fn then 3 else 0)
  | .other => none

/-- A write of a field: VF Enable, the size of BAR4 or of every VF BAR4, the power state (R697 to R699). Fields that software
cannot write stay as they are. -/
def Device.cfgSet (d : Device) (fn : Nat) (f : CfgField) (v : Nat) : Device :=
  match f with
  | .vfEnable =>
    if fn ≠ 0 then d
    else if v % 2 = 1 then { d with pcie := { d.pcie with vfEnable := true } }
    else
      let d := if d.pcie.vfEnable then (List.range 63).foldl (fun d i => d.resetFunction (i + 1)) d else d
      { d with pcie := { d.pcie with vfEnable := false, d3hot := d.pcie.d3hot.filter (· == 0) } }
  | .bar4Size =>
    let ok := if fn = 0 then decide (30 ≤ v) && decide (v ≤ 40) else decide (28 ≤ v) && decide (v ≤ 36)
    if ok then { d with pcie := { d.pcie with bar4 := Table.put d.pcie.bar4 (min 1 fn) v } } else d
  | .power =>
    if v = 3 then { d with pcie := { d.pcie with d3hot := if d.pcie.d3hot.contains fn then d.pcie.d3hot else fn :: d.pcie.d3hot } }
    else if v = 0 && d.pcie.d3hot.contains fn then
      let d := { d with pcie := { d.pcie with d3hot := d.pcie.d3hot.filter (· != fn) } }
      if fn = 0 then d.resetPf else d.resetFunction fn
    else d
  | _ => d

/-- CONFIGURATION_REQUEST of function `fn`: a read, or a write of `value`. Before stage 6, and in RECOVERY, it is answered with
Request Retry Status (R801, R806); a function that does not exist answers Unsupported Request. -/
def fxConfigurationRequest (fn : Nat) (field : CfgField) (value : Option Nat) (d : Device) : Device :=
  if d.boot.stage < 2 then d
  else if d.boot.stage < 6 || d.boot.recovery then d.emit (.pcie 2 [])
  else if 63 < fn || (fn ≠ 0 && !d.pcie.vfEnable) then d.emit (.pcie 1 [])
  else match value with
    | some v => (d.cfgSet fn field v).emit (.pcie 0 [])
    | none =>
      match d.cfgField fn field with
      | some v => d.emit (.pcie 0 (leBytes 4 v))
      | none =>
        let (v, d) := d.fresh 32
        d.emit (.pcie 0 (leBytes 4 v))

/-! ### The JTAG port (R2, R3, R894 to R897) -/

/-- R897: cells of the boundary-scan register. -/
def boundaryCells : Nat := 3131

/-- An instruction is shifted in; the register has captured 0b0000_0001 (R895). -/
def Device.jtagLoad (d : Device) (ir : Nat) : Device := ({ d with jtag := { d.jtag with ir := ir } } : Device).emit (.jtag [1])

/-- A scan of `n` bits through the bypass register, which captures 0. -/
def Device.jtagBypass (d : Device) (n tdi : Nat) : Device :=
  ({ d with jtag := { d.jtag with bypass := bitOf tdi (n - 1) } } : Device).emit (.jtag (leBytes ((n + 7) / 8) (2 * tdi % 2 ^ n)))

/-- A scan of the boundary-scan register, which has captured `lands`: `tdi` shifts in and is updated. -/
def Device.jtagScan (d : Device) (lands tdi : Nat) : Device :=
  let v := tdi % 2 ^ boundaryCells
  ({ d with jtag := { d.jtag with boundary := v, update := v } } : Device).emit
    (.jtag (leBytes ((boundaryCells + 7) / 8) (lands % 2 ^ boundaryCells)))

/-- R896: EXTEST in the instruction register controls the lands. -/
def Device.extest (d : Device) : Bool := d.jtag.ir == 0 && d.resetRun.isSome && !d.supplies.rstHigh

/-- JTAG_EXTEST and one scan of 3,131 bits; outside a reset by RST_N it acts as BYPASS (R896). -/
def fxJtagExtest (lands tdi : Nat) (d : Device) : Device :=
  let d := d.jtagLoad 0
  if d.extest then d.jtagScan lands tdi else d.jtagBypass boundaryCells tdi

/-- JTAG_SAMPLE_PRELOAD and one scan: the lands stay functional. -/
def fxJtagSamplePreload (lands tdi : Nat) (d : Device) : Device := (d.jtagLoad 1).jtagScan lands tdi

/-- JTAG_BYPASS, by code 0xFF or any other than EXTEST and SAMPLE/PRELOAD, and a scan of `n` bits. -/
def fxJtagBypass (code n tdi : Nat) (d : Device) : Device :=
  if code % 256 ≤ 1 then d
  else if n = 0 then d.jtagLoad (code % 256)
  else (d.jtagLoad (code % 256)).jtagBypass n (tdi % 2 ^ n)

/-- JTAG_TAP_RESET: JTAG_TRST_N pulses low: the instruction register holds BYPASS. -/
def fxJtagTapReset (d : Device) : Device := { d with jtag := { d.jtag with ir := 0xFF } }

/-- A read of a space for the JTAG port: another device is asked. -/
def Device.debugRead (d : Device) (a n : Nat) : Device :=
  if !d.isSelf (addrDevice a) then
    let (u, d) := d.uid
    { (d.requestRemote u hubChan 0 4 15 0 a n) with hostReads := d.hostReads ++ [{ uid := u, addr := a, bytes := n, jtag := true }] }
  else if addrSpace a = 6 then
    let (v, d) := d.readReg .jtag (addrOffset a)
    d.emit (.jtag (leBytes 4 v))
  else if d.mapped a n then d.emit (.jtag (d.readBytes (localKey a) n))
  else d.emit (.jtag [])

/-- A write of a space for the JTAG port. -/
def Device.debugWrite (d : Device) (a : Nat) (data : List Byte) : Device :=
  if !d.mapped a data.length then d
  else if d.isSelf (addrDevice a) && addrSpace a = 6 then d.writeReg .jtag (addrOffset a) (leAt data 0 4)
  else if d.isSelf (addrDevice a) then d.store (localKey a) data
  else
    let (u, d) := d.uid
    d.writeAny u hubChan 0 4 15 a data

/-- JTAG_DEBUG_ACCESS: only on an ITD12-A1-LE (R2, R3). Of the control complex's memory the spec gives the boot memory; what else
a read of it returns is left open, and a write of it reaches nothing that the spec names. -/
def fxJtagDebugAccess (op : DebugOp) (d : Device) : Device :=
  if !d.sample || d.resetRun.isSome then d
  else match op with
    | .command e => (d.takeEntry .jtag .jtag e false).getD d
    | .read a n => d.debugRead a n
    | .write a b => d.debugWrite a b
    | .readReg off =>
      let (v, d) := d.readReg .jtag off
      d.emit (.jtag (leBytes 4 v))
    | .writeReg off v => d.writeReg .jtag off v
    | .readControl off n =>
      if off + n ≤ 16777216 then d.emit (.jtag (d.readBytes (bootKey off) n))
      else
        let (l, d) := d.freshBytes n
        d.emit (.jtag l)
    | .writeControl off b => if off + b.length ≤ 16777216 then d.writeBytes (bootKey off) b else d

end Sys2Proof.Machine
end

