-- ==== Sys2Proof/Machine/MoverRuns.lean ====
section
/-!
DEFINITION. What becomes of a running descriptor (R379, R385 to R393, R403 to R406, R903), of the writes that have left a
mover (R393, R400), and of a waiting LANDING_FENCE (R398, R401, R531, R566); parity met on a read and by the scrub of T2
(R357 to R360).
-/
namespace Sys2Proof.Machine

/-! ### Registers as a page mover's source or destination (R388, R389) -/

/-- Reads `n` words of the register space from offset `off` on, with the steward's reach. -/
def Device.readWords (d : Device) (off : Nat) : Nat → List Byte × Device
  | 0 => ([], d)
  | n + 1 =>
    let (v, d) := d.readReg .mgmt off
    let (l, d) := d.readWords (off + 4) n
    (leBytes 4 v ++ l, d)

/-- Writes words to the register space in ascending order. -/
def Device.writeWords (d : Device) (off : Nat) : List (List Byte) → Device
  | [] => d
  | w :: l => (d.writeReg .mgmt off (leNat w)).writeWords (off + 4) l

/-! ### The data of a move -/

/-- R391, R392: the elements of a converting move, each by R76. -/
def convertBytes (s t : Nat) (bs : List Byte) : List Byte :=
  match Fmt.ofCode s, Fmt.ofCode t with
  | some f, some g =>
    let w := f.bits / 8
    (chunksOf w (bs.length / w) bs).flatMap (fun e => leBytes (g.bits / 8) (floatOut g (f.decode (leNat e))))
  | _, _ => bs

/-- The pieces that a move copies: the offset of each from SRC (R343). -/
def Move.pieceOffsets (m : Move) : List Nat := (List.range m.pieces).map (fun i => m.stride * i)

/-- Every piece of a source, in order; the first poisoned granule, or a piece that has not arrived, is the answer. -/
def Device.gather (d : Device) (uid : Nat) (m : Move) : List Nat → Got
  | [] => .bytes []
  | o :: l =>
    match d.readAny uid o (m.src + o) m.len with
    | .bytes b => (match d.gather uid m l with | .bytes r => .bytes (b ++ r) | g => g)
    | g => g

/-- What a running descriptor moves: the bytes for its destination, and what reading registers has changed. -/
def Device.moved (d : Device) (w : Work) : Got × Device :=
  let m := w.mv
  let conv := fun b : List Byte => match m.conv with | some (s, t) => convertBytes s t b | none => b
  if addrSpace m.src = 6 && d.isSelf (addrDevice m.src) then
    let (b, d) := d.readWords (addrOffset m.src) (m.len / 4)
    (.bytes b, d)
  else match d.gather w.uid m m.pieceOffsets with
    | .bytes b => (.bytes (conv b), d)
    | g => (g, d)

/-- Bytes of the destination that come from source bytes before a granule. -/
def Move.before (m : Move) (g : Nat) : Nat :=
  let n := 64 * g - localKey m.src
  match m.conv with
  | none => n
  | some (s, t) => n / (if s = 8 then 4 else 2) * (if t = 8 then 4 else 2)

/-! ### Completion (R379, R393, R411, R412) -/

/-- The status and the value with which a descriptor completes, its check done. -/
def Device.moveResult (d : Device) (chan : Nat) (m : Move) (bs : List Byte) : Nat × List Byte × Device :=
  match (d.mover chan).unit with
  | some u =>
    if m.check then
      let v := d.checkResult m m.dst bs
      let (st, d) := d.compareCheck u m v
      (st, valueOf v, d)
    else (0, valueOf bs.length, d)
  | none => (0, valueOf bs.length, d)

/-- The packets of a descriptor that wait for their slots carry its tag (R404). -/
def Device.tagItems (d : Device) (w : Work) : Device :=
  let tag := match w.owner with | .command c => c.tag.toNat | _ => 0
  { d with txq := d.txq.map (fun t => if t.uid = w.uid then { t with tag := tag } else t) }

/-- The running descriptor of a channel ends; what its source sent is forgotten. -/
def Device.endMove (d : Device) (chan : Nat) (w : Work) (status : Nat) (value : List Byte) : Device :=
  ((d.forget w.uid).popWork chan).endWork chan w status value

/-- R903: a descriptor's own transfer meets persistent parity: `done` bytes were written before it. -/
def Device.moveParity (d : Device) (chan : Nat) (w : Work) (g done : Nat) : Device :=
  let d := d.poisonRead g
  let done := min done (min w.mv.dstLen (w.mv.before g))
  let d := if done = 0 then d
    else d.sendBytes w.uid chan (d.chanJob chan) w.mv.cls ((chanPart chan).getD 15) w.mv.dst
      (match w.mv.conv with
       | some (s, t) => (convertBytes s t (d.readBytes (localKey w.mv.src) (64 * g - localKey w.mv.src))).take done
       | none => d.readBytes (localKey w.mv.src) done)
  d.endMove chan w (parityStatus g) (valueOf done)

/-- DESCRIPTOR_COMPLETE: the running descriptor of a channel: its last write leaves the mover (R393). Writes to another device
are handed over as packets first, and leave when their slots begin (R770). `done`: where the source holds poison, the bytes
written before it was met. -/
def fxDescriptorComplete (chan done : Nat) (d : Device) : Device :=
  let m := d.mover chan
  match m.queue with
  | [] => d
  | w :: _ =>
    if !m.running || m.halted || 199 < chan then d
    else match m.sent with
      | some (st, v) => if d.txq.any (fun t => t.uid == w.uid) then d else d.endMove chan w st v
      | none =>
        match d.moved w with
        | (.waiting, _) => d
        | (.poison g, _) => d.moveParity chan w g done
        | (.bytes bs, d) =>
          let (st, v, d) := d.moveResult chan w.mv bs
          let d := d.sendBytes w.uid chan (d.chanJob chan) w.mv.cls ((chanPart chan).getD 15) w.mv.dst bs
          if d.isSelf (addrDevice w.mv.dst) then d.endMove chan w st v
          else (d.tagItems w).modMover chan (fun m => { m with sent := some (st, v) })

/-! ### Visibility and fences (R398 to R402) -/

/-- WRITE_VISIBLE: the write of this device with place `i` among those on their way becomes visible; no order holds among them
(R394). -/
def fxWriteVisible (i : Nat) (d : Device) : Device :=
  match (d.flight.filter (fun f => !f.remote))[i]? with
  | none => d
  | some f =>
    let d := { d with flight := d.flight.erase f }
    if addrSpace f.addr = 6 then d.writeWords (addrOffset f.addr) (chunksOf 4 (f.bytes.length / 4) f.bytes)
    else d.store (localKey f.addr) f.bytes

/-- R566: the fences of a head step's rows have all completed: each row goes to the sampler. -/
def Device.passRows (d : Device) (part job image : Nat) (rows : List Nat) : Device :=
  match d.image? image, d.logitArea job part with
  | some x, some base =>
    let v := x.vocab
    let key := memKey 1 (part * 0x1000000000 + base)
    match d.poisonIn key (4 * v * rows.length) with
    | some g => d.parityFault job part g
    | none =>
      rows.zipIdx.foldl (fun d e =>
        let q := d.seq job e.1
        if q.building || q.tokenReady || q.state != .handoff then d
        else
          let ws := (chunksOf 4 v (d.readBytes (key + 4 * v * e.2) (4 * v))).map (fun b => BitVec.ofNat 32 (leNat b))
          { d with rows := d.rows ++ [({ job := job, seq := e.1, row := e.2, pos := q.committed - 1, image := image
                                         cols := [(0, ws)], block := q.block } : SamplerRow)] }) d
  | _, _ => d

/-- What a completed fence is followed by. -/
def Device.fenceDone (d : Device) (f : Fence) (st : Nat) : Device :=
  match f.owner with
  | .command c => d.complete c st []
  | .kv job sid =>
    if st ≠ 0 then d.setSeq job sid { d.seq job sid with fenceBad := true } else d.tryTicket job sid
  | .logits part step job image rows =>
    let mine := fun g : Fence => match g.owner with | .logits p s j _ _ => p == part && s == step && j == job | _ => false
    if st ≠ 0 then { d with fences := d.fences.map (fun g => if mine g && g.bad = 0 then { g with bad := st } else g) }
    else if d.fences.any mine then d
    else d.passRows part job image rows
  | .front part image index => d.frontFenced part image index f.chan st
  | .lull id => d.finishLull id st

/-- LANDING_FENCE_COMPLETE: the waiting fence `id`, once what it covers is done (R398, R401). -/
def fxLandingFenceComplete (id : Nat) (d : Device) : Device :=
  match d.fences.find? (fun f => f.id == id) with
  | none => d
  | some f =>
    match d.fenceStatus f with
    | none => d
    | some st => ({ d with fences := d.fences.filter (fun g => g.id != id) } : Device).fenceDone f st

/-! ### Bus errors (R309, R403 to R406) -/

/-- A bus error of cause `cause`: of the running descriptor of a channel; of its ring traffic, where `ring` names the ring; or,
where the channel is none, of the read that uid `uid` names. -/
def Device.busError (d : Device) (chan : Nat) (ring : Option Nat) (uid : Nat) (write : Bool) (addr cause done mask : Nat) : Device :=
  let m := d.mover chan
  if 199 < chan then
    (if uid = 0 || write then d else d.transferFails { uid := uid, kind := 1, dest := 127, addr := addr } cause)
  else match ring with
    | some ch =>
      if chan < 192 && ch < 4 && !m.halted then
        (d.haltChannel chan write addr cause 0 0).ringError (chan / 16) (chan % 16) ch 0x0510
      else d
    | none =>
      if !m.running || m.halted then d
      else match m.queue with
        | [] => d
        | w :: _ =>
          let (bs, d) := match d.moved w with | (.bytes b, d) => (b, d) | (_, d) => ([], d)
          let done := min done bs.length
          (d.bump64 (regKey MOV_BYTES_LO chan) done).busHalt chan write addr cause done (if bs.isEmpty then 0 else mask) bs

/-- BUS_ERROR: a CXL completion with error status (1), a command error of T3-DDR (6), a register access refused (7); the other
causes of R403 come with rows of their own. -/
def fxBusError (chan : Nat) (ring : Option Nat) (uid : Nat) (write : Bool) (addr cause done mask : Nat) (d : Device) : Device :=
  if cause = 1 || cause = 6 || cause = 7 then d.busError chan ring uid write addr cause done mask else d

/-- CXL_COMPLETION_TIMEOUT: an access to T3-CXL that has not completed after 50 µs. -/
def fxCxlCompletionTimeout (chan : Nat) (ring : Option Nat) (uid : Nat) (write : Bool) (addr done mask : Nat) (d : Device) :
    Device :=
  d.busError chan ring uid write addr 2 done mask

/-! ### Parity and the scrub of T2 (R357 to R360) -/

/-- Words of a granule that its memory corrected (R358, R359). -/
def Device.corrected (d : Device) (addr n : Nat) : Device :=
  if n = 0 then d
  else if addrSpace addr = 1 then d.bump64 (regKey MEM_T2_CE_COUNT_LO (addrOffset addr / 0x1000000000)) n
  else if addrSpace addr = 2 then d.bump (MEM_T3_CE_COUNT + 4 * d.ddrChannel (addrOffset addr)) n
  else d

/-- GRANULE_REREAD: a granule fails parity `fails` times in a row, its memory having corrected `ce` words. One or two failures and a good re-read are counted. A third
failure of a granule that comes back poisoned leaves it so, for the read that meets it to end; where only its parity failed,
the read ends here: the job's (`job`), or that of the channel's running descriptor. -/
def fxGranuleReread (addr fails ce job part chan : Nat) (poisoned : Bool) (d : Device) : Device :=
  let g := localKey addr / 64
  let s := addrSpace addr
  if s < 1 || 3 < s || !d.isSelf (addrDevice addr) || !d.mapped addr 1 then d
  else if fails < 3 then
    let d := (d.corrected addr ce).reread g fails
    if poisoned then d.poisonedReturn g fails else d
  else if poisoned then (if d.poisoned g then d else { d with poison := d.poison ++ [g] })
  else
    let d := d.reread g 2
    if job ≠ 0 then
      d.jobFault job { status := parityStatus g, kind := 1, part := part, unit := if s = 1 then 4 else 5
                       location := if s = 1 then addrOffset addr / 0x1000000000 else 0, addr := selfAddr s (addrOffset addr / 64 * 64) }
    else match (d.mover chan).queue with
      | w :: _ => if (d.mover chan).running then d.endMove chan w (parityStatus g) (valueOf 0) else d
      | [] => d

/-- T2_SCRUB: the base die visits a granule of its stack: it is good (0), is corrected (1), or cannot be corrected (2). A granule
that is poisoned stays so (R902) and counts. -/
def fxT2Scrub (stack granule found : Nat) (d : Device) : Device :=
  let g := memKey 1 (stack * 0x1000000000) / 64 + granule % 0x40000000
  if 12 ≤ stack then d
  else if d.poisoned g then d.poisonedReturn g 1
  else if found = 1 then d.bump64 (regKey MEM_T2_CE_COUNT_LO stack) 1
  else if found = 2 then Device.poisonedReturn { d with poison := d.poison ++ [g] } g 1
  else d

end Sys2Proof.Machine
end

