-- ==== Sys2Proof/Machine/Packets.lean ====
section
/-!
DEFINITION. Packets that arrive at the end of a circuit or on the twin port (R53, R487, R491, R492, R748, R764, R776 to R778).
CONTROL packets stand as commands of their own.
-/
namespace Sys2Proof.Machine

/-! ### The export maps (R776 to R778) -/

/-- R777: the jobs of this device whose images run on other devices too. -/
def Device.farJobs (d : Device) : List Nat :=
  (((List.range 12).map (fun p => (d.part p).job)).eraseDups).filter (fun j => j != 0 && !(d.farDevices j).isEmpty)

/-- The page at an offset lies in a range. -/
def pageIn (off base n : Nat) : Bool := decide (base ≤ off) && decide (off + 65536 ≤ base + n)

/-- R777: the page of 64 KiB at `off` of a space that firmware has mapped for a window, and whether it may be written. -/
def Device.grantExport (d : Device) (space off : Nat) : Option Bool :=
  let hit := d.grants.filter (fun e => d.isSelf (addrDevice e.2.base) && addrSpace e.2.base == space &&
    pageIn off (addrOffset e.2.base) e.2.bytes)
  if hit.isEmpty then none else some (hit.any (fun e => e.2.write))

/-- R777: the page lies in a region that the loader and the library have assigned to a job whose images run on other devices:
T1 and queue store of its partitions, its areas and pool in their stacks, its images (DESIGN CHOICE 39). -/
def Device.regionExport (d : Device) (space off : Nat) : Bool :=
  let js := d.farJobs
  let mine := fun p => decide (p < 12) && js.contains (d.part p).job
  match space with
  | 0 => mine (partOf 0 off)
  | 4 => mine (partOf 4 off)
  | _ =>
    let key := memKey space off
    let inKey := fun (a n : Nat) => pageIn key a n
    (space == 1 && (List.range 12).any (fun p => mine p &&
      (d.areas.any (fun a => a.stack == p && inKey (memKey 1 (p * 0x1000000000 + a.base)) a.bytes) ||
        inKey (localKey (d.kvBase p)) (65536 * d.kvFrames p) || inKey (localKey (d.kvScale p)) (2048 * d.kvFrames p)))) ||
      List.any d.images (fun e : Nat × Image => js.contains e.2.job &&
        ((List.range e.2.pages.length).any (fun i => e.2.pageKey i == some key) ||
          e.2.pages.any (fun r => e.2.homeKey r == key)))

/-- R776, R778: the page of another device's access is mapped; the answer says whether it may be written. Firmware maps each page
to its own offset. -/
def Device.exported (d : Device) (space off : Nat) : Option Bool :=
  let page := off / 65536 * 65536
  match d.grantExport space page with
  | some true => some true
  | g => if d.regionExport space page then some true else g

/-- R764, R776 to R778: what a target answers to an access of `n` bytes: 0 it is served, 1 a page is not mapped, 2 refused. `miss`:
the translation cache does not hold the page. -/
def Device.targetAnswer (d : Device) (a n : Nat) (write miss : Bool) : Nat × Device :=
  let s := addrSpace a
  let regs := s == 6 && (a % 4 != 0 || n % 4 != 0)
  if !d.isSelf (addrDevice a) || !d.inSpace s (addrOffset a) n || n = 0 || regs then (2, d)
  else
    let maps := decide (17 ≤ d.memberCount) && decide (s ≤ 4)
    let d := if maps && miss then d.bump PLV_XMAP_MISS 1 else d
    let first := d.exported s (addrOffset a)
    let last := d.exported s (addrOffset a + n - 1)
    if maps && (first.isNone || last.isNone) then (1, d.bump PLV_XMAP_REFUSED 1)
    else if write && ((maps && (first == some false || last == some false)) || d.isReadOnly a n) then (2, d)
    else (0, d)

/-! ### Answers and reports (R748, R764) -/

/-- A packet can arrive by circuit `c` of port `p`: an end of a circuit, or the twin port. -/
def Device.arrives (d : Device) (p c : Nat) : Bool :=
  decide (p ≤ 16) && d.portUp p &&
    (if p = 16 then c == 0 else decide (c ≤ 63) && (match d.circuit? (circKey p c) with | some x => x.ends | none => false))

/-- A RESPONSE goes back along the circuit the packet came on. -/
def Device.respond (d : Device) (p c req cls status : Nat) (data : List Byte) : Device :=
  let (u, d) := d.uid
  { d with txq := d.txq ++ [{ uid := u, kind := 2, dest := 127, cls := cls, status := status, arg := req, body := data,
                               len := data.length, route := circKey p c }] }

/-- R764: a landed packet is owed to the sender in a REPORT notice. -/
def Device.reportLanded (d : Device) (p c : Nat) : Device :=
  d.modLink p (fun x => { x with reports := Table.modify x.reports c 0 (· + 1) })

/-- PLV_WRITE_PACKET: a WRITE of `data` to `addr` arrives on circuit `c` of port `p`. -/
def fxPlvWritePacket (p c req cls addr : Nat) (data : List Byte) (miss : Bool) (d : Device) : Device :=
  if !d.arrives p c || 2048 < data.length then d
  else match d.targetAnswer addr data.length true miss with
    | (0, d) =>
      let d := if addrSpace addr = 6 then d.writeWords (addrOffset addr) (chunksOf 4 (data.length / 4) data)
        else d.store (localKey addr) data
      d.reportLanded p c
    | (st, d) => d.respond p c req cls st []

/-- PLV_QUEUE_PACKET: a QUEUE packet of 64-byte words from device `src` arrives for the queue that `addr` names: producer, level
and sequence number as its header gives them. A dropped one is told to the sending Gale engine (R491). -/
def fxPlvQueuePacket (p c req cls src addr producer level seq : Nat) (words : List (List Byte)) (miss : Bool) (d : Device) :
    Device :=
  if !d.arrives p c || words.isEmpty then d
  else match d.targetAnswer addr 64 true miss with
    | (0, d) =>
      let part := partOf 4 (addrOffset addr)
      let q := addrOffset addr % 0x400000 % 256
      if addrSpace addr ≠ 4 || (d.queue? part q).isNone then d.respond p c req cls 2 []
      else
        let v := d.pushVerdict part q producer (some seq) words.length
        let d := d.pushPacket part q producer level (some seq) words
        let head := words.headD []
        let r := leAt head 0 1
        let d := if v = 0 then d.galStored r (leAt head 4 2)
          else if v = 1 then d.sendControl src (d.part part).job 7 (leBytes 1 r) else d
        d.reportLanded p c
    | (st, d) => d.respond p c req cls st []

/-- PLV_READ_REQ: a request for `n` bytes at `addr`; `ce` and `ue` are what SECDED finds in a read of the queue store. Bytes that
cannot be read without error are refused (DESIGN CHOICE 40). -/
def fxPlvReadReq (p c req cls addr n ce : Nat) (ue : Option Nat) (miss : Bool) (d : Device) : Device :=
  if !d.arrives p c || 2048 < n then d
  else match d.targetAnswer addr n false miss with
    | (0, d) =>
      if addrSpace addr = 6 then
        let (b, d) := d.readWords (addrOffset addr) (n / 4)
        d.respond p c req cls 0 b
      else match d.poisonIn (localKey addr) n with
        | some g => (d.poisonRead g).respond p c req cls 2 []
        | none =>
          let d := d.secded addr ce ue
          if d.ueIn addr n ue then d.respond p c req cls 2 []
          else d.respond p c req cls 0 (d.readBytes (localKey addr) n)
    | (st, d) => d.respond p c req cls st []

/-- R702: a host read of another device whose bytes have all come is answered. -/
def Device.hostReadDone (d : Device) (uid : Nat) : Device :=
  match d.hostReads.find? (fun r => r.uid == uid) with
  | none => d
  | some r =>
    match d.readAny uid 0 r.addr r.bytes with
    | .bytes b =>
      ({ d with hostReads := d.hostReads.filter (fun x => x.uid != uid) }.forget uid).emit (if r.jtag then .jtag b else .pcie 0 b)
    | _ => d

/-- The transfer `uid` sends and asks for nothing more. -/
def Device.dropTransfer (d : Device) (uid : Nat) : Device :=
  { d with txq := d.txq.filter (fun t => t.uid != uid), requests := d.requests.filter (fun e => e.2.uid != uid)
           flight := d.flight.filter (fun f => !(f.remote && f.uid == uid)) }

/-- R764: a target has refused transfer `t`: cause 0x3 or 0x4 of R403. -/
def Device.transferRefused (d : Device) (t : TxItem) (status : Nat) : Device :=
  ((d.dropTransfer t.uid).hostReadFails t.uid).transferFails t (status + 2)

/-- PLV_RESPONSE: a RESPONSE with REQ_ID `req` brings the bytes of a request (STATUS 0), or a refusal (1 or 2) of a request or of
a write (R748, R764). -/
def fxPlvResponse (p c req status : Nat) (data : List Byte) (d : Device) : Device :=
  if !d.arrives p c then d
  else match Table.find? d.requests req with
    | some t =>
      if status = 0 then
        ({ d with requests := Table.drop d.requests req, arrived := d.arrived ++ [(t.uid, t.arg, data)] } : Device).hostReadDone t.uid
      else if status ≤ 2 then d.transferRefused t status
      else d
    | none =>
      match d.flight.find? (fun f => f.remote && f.req == req) with
      | some f =>
        if status = 1 || status = 2 then
          d.transferRefused { uid := f.uid, chan := f.chan, kind := 0, dest := 127, addr := f.addr, arg := f.off, tag := f.tag } status
        else d
      | none => d

end Sys2Proof.Machine
end

