-- ==== Sys2Proof/Machine/State.lean ====
section
/-!
DEFINITION. The state of the block: the device and the queue of waiting commands; the reasons a step can stop; the state
after reset.
-/
namespace Sys2Proof.Machine

/-- Reasons a command stops the model with a fault. The spec gives every command of this block an effect or a refusal
status of its own, so no command raises one. -/
inductive Fault where
  deriving DecidableEq, Repr

/-- Reasons a command is turned away by the model. -/
inductive Refusal where
  /-- A command that the model gives no meaning yet, by its mnemonic. Raised by the arms of `exec`; safe. -/
  | notModelled (mnemonic : String)
  deriving DecidableEq, Repr

/-- The state: everything the spec gives the device, and the commands that wait, first in, first out. -/
structure State where
  dev : Device := {}
  pending : List Instr := []
  deriving DecidableEq, Repr

/-- R821, R822, R808, R824: the registers that a first power-on leaves at another value than their own reset value, or that
the standing configuration writes: power-on as the cause, one reset counted, the first boot begun, the backup domain lost, the
defaults of the standing configuration, state RUN. -/
def resetRegs : Table Nat :=
  [(RCU_CAUSE, 1), (RCU_COUNT_TOTAL, 1), (RCU_COUNT_SRC, 1), (RCU_COUNT_SRC + 4, 0), (RCU_COUNT_SRC + 8, 0),
   (RCU_COUNT_SRC + 12, 0), (RCU_BOOT, 1), (RCU_CTRL, 1000), (RCU_VBAK, 2 ^ 31),
   (PMU_STATUS, 2 ^ 30), (PMU_CAP, 0), (PMU_DROOP, 11000), (PMU_RM_WATCH, 30), (BRT_PERIOD, 100), (BRT_SRC, 0),
   (PLV_DOMAIN_CFG, 0), (PLV_DOMAIN_ID, 0), (PLV_MEMBERS, 0), (PLV_MEMBERS + 4, 0), (PLV_MEMBERS + 8, 0),
   (PLV_PORT_CTRL, 2 ^ 31), (PLV_TWIN_CFG, 0), (MGT_STRAPS, 0), (regKey BRT_PERIOD 1, 100), (regKey BRT_SRC 1, 0)] ++
  (List.range 16).map (fun i => (regKey PLV_PORT_CTRL (i + 1), 2 ^ 31))

/-- R898: what the device has driven by then: every module in reset and in low power. -/
def resetOut : List Out := (List.range 17).flatMap (fun p => [.land (1000 + p) false, .land (1100 + p) true])

/-- The machine right after the release of the reset of its first power-on: every other register at its reset value, memory
with nothing listed, no command waiting; the boot stands before stage 0 (log entry 2). -/
def State.reset : State := { dev := { regs := resetRegs, out := resetOut } }

end Sys2Proof.Machine
end

