-- ==== Sys2Proof/Machine/Exec.lean ====
section
/-!
DEFINITION. The meaning of every command as an outcome over the state: its effect on the device, the queue kept as it
is. The effects themselves stand in the family files, under the name fx followed by the row's mnemonic.
-/
namespace Sys2Proof.Machine

/-- When a command can act: while the device runs; also while it is held in reset; also on standby power alone (R824);
whatever the state of the supplies. -/
inductive Gate where
  | runs | reset | standby | always
  deriving DecidableEq, Repr

/-- The gate is open: THERMTRIP_N low stops everything but a new power-on (R830); a device held in reset does nothing; the
management endpoint acts on standby power (R824). -/
def Gate.isOpen (g : Gate) (d : Device) : Bool :=
  match g with
  | .always => true
  | .reset => !d.supplies.tripped
  | .standby => !d.supplies.tripped && d.supplies.vstby && d.supplies.vio && (d.resetRun.isNone || !d.supplies.vin)
  | .runs => !d.supplies.tripped && d.resetRun.isNone

/-- The end of a command: the changes it has made to memory land on what memory held before it. -/
def Device.land (d : Device) (m : Memory) : Device := { d with mem := Memory.applyAll m d.wlog, wlog := [] }

/-- An effect on the device as a step of the state: where the gate is open, the effect, and the writes it made to memory
land; the queue stays. -/
def onDev (g : Gate) (f : Device → Device) (s : State) : Host.Outcome State Fault Refusal :=
  if g.isOpen s.dev then
    .next { s with dev := (f s.dev).land s.dev.mem }
  else .next s

/-- SQ_TAIL_DOORBELL (R719): A write to HUB_DB_SQ_TAIL publishes new submission entries of a session, and a tail out of range halts the session. -/
def execSqTailDoorbell (fn : Nat) (session : Nat) (v : Nat) (s : State) : Host.Outcome State Fault Refusal := onDev .runs (fxSqTailDoorbell fn session v) s

/-- ENTRY_FETCH (R719): The control complex fetches published entries of a session in ring order, stages them and advances SQ_HEAD. -/
def execEntryFetch (session : Nat) (data : Option (List Byte)) (s : State) : Host.Outcome State Fault Refusal := onDev .runs (fxEntryFetch session data) s

/-- CQ_HEAD_DOORBELL (R723): A write to HUB_DB_CQ_HEAD frees completion ring space, so held records can be written. -/
def execCqHeadDoorbell (fn : Nat) (session : Nat) (v : Nat) (s : State) : Host.Outcome State Fault Refusal := onDev .runs (fxCqHeadDoorbell fn session v) s

/-- COMPLETION_RECORD_WRITE (R722): A completion record is written at CQ_TAIL with the current phase once the ring has room, and CQ_TAIL advances. -/
def execCompletionRecordWrite (session : Nat) (n : Nat) (fail : Bool) (s : State) : Host.Outcome State Fault Refusal := onDev .runs (fxCompletionRecordWrite session n fail) s

/-- MSIX_HOLDOFF_EXPIRY (R726): The session's holdoff ends, and an MSI-X message held back by it is sent. -/
def execMsixHoldoffExpiry (session : Nat) (s : State) : Host.Outcome State Fault Refusal := onDev .runs (fxMsixHoldoffExpiry session) s

/-- SESSION_ENABLE (R715): A write of 1 to HUB_SES_CTRL.ENABLE while OFF makes the session RUNNING with pointers zeroed and phase 1. -/
def execSessionEnable (port : Port) (session : Nat) (word : Nat) (s : State) : Host.Outcome State Fault Refusal := onDev .runs (fxSessionEnable port session word) s

/-- SESSION_DISABLE (R716): A write of 0 to ENABLE stops fetching, aborts unstarted staged commands and drains the session to OFF. -/
def execSessionDisable (port : Port) (session : Nat) (word : Nat) (s : State) : Host.Outcome State Fault Refusal := onDev .runs (fxSessionDisable port session word) s

/-- FUNCTION_LEVEL_RESET (R697): A function-level reset or D3hot to D0 move of a virtual function disables its sessions, ends its requests and resets its per-port registers. -/
def execFunctionLevelReset (fn : Nat) (s : State) : Host.Outcome State Fault Refusal := onDev .runs (fxFunctionLevelReset fn) s

/-- PF_FUNCTION_LEVEL_RESET (R698): A function-level reset of the physical function resets it, clears VF Enable and resets every virtual function. -/
def execPfFunctionLevelReset (s : State) : Host.Outcome State Fault Refusal := onDev .runs (fxPfFunctionLevelReset) s

/-- PERST_OR_HOT_RESET (R820): PERST_N, a hot reset or a link-down resets the host port link and configuration space as a physical-function reset does. -/
def execPerstOrHotReset (s : State) : Host.Outcome State Fault Refusal := onDev .runs (fxPerstOrHotReset) s

/-- APERTURE_READ (R702): A host read through a BAR4 aperture is checked per granule and returns data, zeros or poisoned data. -/
def execApertureRead (fn : Nat) (off : Nat) (n : Nat) (ce : Nat) (ue : Option Nat) (s : State) : Host.Outcome State Fault Refusal := onDev .runs (fxApertureRead fn off n ce ue) s

/-- APERTURE_WRITE (R703): A host write through a BAR4 aperture is checked per granule and stored, with read-modify-write for partial granules, or dropped. -/
def execApertureWrite (fn : Nat) (off : Nat) (data : List Byte) (s : State) : Host.Outcome State Fault Refusal := onDev .runs (fxApertureWrite fn off data) s

/-- REG_LO_READ (R16): A read of a _LO register returns the low half and captures the 64-bit value as the port's snapshot. -/
def execRegLoRead (port : Port) (off : Nat) (s : State) : Host.Outcome State Fault Refusal := onDev .runs (fxRegLoRead port off) s

/-- REG_HI_READ (R17): A read of a _HI register returns the snapshot's high half, or the live half without a snapshot, and consumes the snapshot. -/
def execRegHiRead (port : Port) (off : Nat) (s : State) : Host.Outcome State Fault Refusal := onDev .runs (fxRegHiRead port off) s

/-- REG_LO_WRITE (R18): A write of a _LO register loads the port's holding register. -/
def execRegLoWrite (port : Port) (off : Nat) (word : Nat) (s : State) : Host.Outcome State Fault Refusal := onDev .runs (fxRegLoWrite port off word) s

/-- REG_HI_WRITE (R19): A write of a _HI register commits both halves as one 64-bit value. -/
def execRegHiWrite (port : Port) (off : Nat) (word : Nat) (s : State) : Host.Outcome State Fault Refusal := onDev .runs (fxRegHiWrite port off word) s

/-- REGISTER_WRITE (R13): A write to a register with no behaviour of its own acts under its access type, with reserved values ignored. -/
def execRegisterWrite (port : Port) (off : Nat) (word : Nat) (s : State) : Host.Outcome State Fault Refusal := onDev .runs (fxRegisterWrite port off word) s

/-- UNSUPPORTED_BAR_ACCESS (R47): A BAR0 access of another size or alignment completes with Unsupported Request and has no effect. -/
def execUnsupportedBarAccess (fn : Nat) (bar : Nat) (off : Nat) (bytes : Nat) (s : State) : Host.Outcome State Fault Refusal := onDev .runs (fxUnsupportedBarAccess fn bar off bytes) s

/-- NOP (R732): NOP completes at once. -/
def execNop (o : Origin) (s : State) : Host.Outcome State Fault Refusal := onDev .runs (fxNop o) s

/-- FENCE (R732): FENCE completes when every earlier command of the session has completed and holds later commands until then. -/
def execFence (o : Origin) (s : State) : Host.Outcome State Fault Refusal := onDev .runs (fxFence o) s

/-- LANDING_FENCE (R397): LANDING_FENCE covers the earlier writes of a mover channel and completes when they are visible. -/
def execLandingFence (o : Origin) (s : State) : Host.Outcome State Fault Refusal := onDev .runs (fxLandingFence o) s

/-- WAIT_EVENT (R732): WAIT_EVENT waits until an event count reaches a threshold. -/
def execWaitEvent (o : Origin) (s : State) : Host.Outcome State Fault Refusal := onDev .runs (fxWaitEvent o) s

/-- WAIT_EVENT_TIMEOUT (R732): A WAIT_EVENT whose TIMEOUT_US passes completes with EVT_TIMEOUT. -/
def execWaitEventTimeout (o : Origin) (s : State) : Host.Outcome State Fault Refusal := onDev .runs (fxWaitEventTimeout o) s

/-- SIGNAL (R732): SIGNAL adds to an event count once earlier commands of the session have completed. -/
def execSignal (o : Origin) (s : State) : Host.Outcome State Fault Refusal := onDev .runs (fxSignal o) s

/-- HUB_EVT_COUNT_WRITE (R735): A write to HUB_EVT_COUNT stores the selected event's count and is evaluated against waiting WAIT_EVENTs. -/
def execHubEvtCountWrite (port : Port) (v : Nat) (s : State) : Host.Outcome State Fault Refusal := onDev .runs (fxHubEvtCountWrite port v) s

/-- IMAGE_LOAD (R258): IMAGE_LOAD checks an image in twelve ordered checks and commits its resources in one action, or refuses it. -/
def execImageLoad (o : Origin) (s : State) : Host.Outcome State Fault Refusal := onDev .runs (fxImageLoad o) s

/-- IMAGE_UNLOAD (R267): IMAGE_UNLOAD releases an image's slots, stop-store positions, T1, queue store and circuits, unless it is in use. -/
def execImageUnload (o : Origin) (s : State) : Host.Outcome State Fault Refusal := onDev .runs (fxImageUnload o) s

/-- STOP_LOAD (R262): STOP_LOAD asks for a stop of an image to be loaded into a slot. -/
def execStopLoad (o : Origin) (s : State) : Host.Outcome State Fault Refusal := onDev .runs (fxStopLoad o) s

/-- STOP_SWITCH (R265): STOP_SWITCH asks for a switch to the slot holding the named stop. -/
def execStopSwitch (o : Origin) (s : State) : Host.Outcome State Fault Refusal := onDev .runs (fxStopSwitch o) s

/-- BOUND_SET (R295): BOUND_SET writes a PRT_BOUNDn register in session order. -/
def execBoundSet (o : Origin) (s : State) : Host.Outcome State Fault Refusal := onDev .runs (fxBoundSet o) s

/-- PRT_STOP_LOAD_GO (R271): A write of GO to PRT_STOP_LOAD starts a load from the stop store or T2 into a slot. -/
def execPrtStopLoadGo (port : Port) (p : Nat) (word : Nat) (s : State) : Host.Outcome State Fault Refusal := onDev .runs (fxPrtStopLoadGo port p word) s

/-- PRT_STOP_SWITCH_GO (R273): A write of GO to PRT_STOP_SWITCH starts a switch to a slot. -/
def execPrtStopSwitchGo (port : Port) (p : Nat) (word : Nat) (s : State) : Host.Outcome State Fault Refusal := onDev .runs (fxPrtStopSwitchGo port p word) s

/-- STOP_LOAD_START (R232): A waiting stop load starts when the partition's previous load has ended, and its slot enters LOADING. -/
def execStopLoadStart (p : Nat) (storeFails : Bool) (s : State) : Host.Outcome State Fault Refusal := onDev .runs (fxStopLoadStart p storeFails) s

/-- STOP_BLOCK_READ_COMPLETE (R233): The stop block has been read into the load buffer, its CRC is checked, and the write starts or the slot becomes FAILED. -/
def execStopBlockReadComplete (p : Nat) (storeFails : Bool) (s : State) : Host.Outcome State Fault Refusal := onDev .runs (fxStopBlockReadComplete p storeFails) s

/-- STOP_LOAD_COMPLETE (R233): The last configuration word is written, STOP_ID is recorded and the slot enters READY. -/
def execStopLoadComplete (p : Nat) (s : State) : Host.Outcome State Fault Refusal := onDev .runs (fxStopLoadComplete p) s

/-- SWITCH_START (R236): A switch begins when no step of the partition runs, closing tile ports and generator starts. -/
def execSwitchStart (p : Nat) (s : State) : Host.Outcome State Fault Refusal := onDev .runs (fxSwitchStart p) s

/-- DRAIN_END (R239): Occupancy reaches 0, the drain ends and commit begins. -/
def execDrainEnd (p : Nat) (cycles : Nat) (s : State) : Host.Outcome State Fault Refusal := onDev .runs (fxDrainEnd p cycles) s

/-- SWITCH_COMPLETE (R241): Tile ports reopen under the new stop and the switch completes. -/
def execSwitchComplete (p : Nat) (s : State) : Host.Outcome State Fault Refusal := onDev .runs (fxSwitchComplete p) s

/-- STOP_DRAIN_TIMEOUT (R239): DRAIN_BUDGET cycles pass with occupancy above 0, and the partition raises STOP_DRAIN_TIMEOUT. -/
def execStopDrainTimeout (p : Nat) (s : State) : Host.Outcome State Fault Refusal := onDev .runs (fxStopDrainTimeout p) s

/-- TOKEN_ARRIVAL_SWITCH (R111): A token arriving at a switch is forwarded on its routed outputs, multicast when several entries name it. -/
def execTokenArrivalSwitch (p : Nat) (site : Nat) (port : Nat) (scalar : Bool) (ch : Nat) (s : State) : Host.Outcome State Fault Refusal := onDev .runs (fxTokenArrivalSwitch p site port scalar ch) s

/-- CREDIT_RETURN (R112): A credit returns to the sender 2 cycles after a buffer entry empties. -/
def execCreditReturn (p : Nat) (site : Nat) (port : Nat) (scalar : Bool) (ch : Nat) (s : State) : Host.Outcome State Fault Refusal := onDev .runs (fxCreditReturn p site port scalar ch) s

/-- LINK_PARITY_ERROR (R163): A receiver finds a parity error, discards the token and later ones and asks for a re-send. -/
def execLinkParityError (p : Nat) (site : Nat) (port : Nat) (scalar : Bool) (ch : Nat) (s : State) : Host.Outcome State Fault Refusal := onDev .runs (fxLinkParityError p site port scalar ch) s

/-- LINK_RESEND (R163): A sender re-sends from its replay buffer in order, counting the re-send. -/
def execLinkResend (p : Nat) (site : Nat) (port : Nat) (scalar : Bool) (s : State) : Host.Outcome State Fault Refusal := onDev .runs (fxLinkResend p site port scalar) s

/-- TOKEN_ARRIVAL_CELL (R123): A token arriving at a cell is checked against the active epoch and opens or joins a tag context. -/
def execTokenArrivalCell (p : Nat) (site : Nat) (scalar : Bool) (ch : Nat) (s : State) : Host.Outcome State Fault Refusal := onDev .runs (fxTokenArrivalCell p site scalar ch) s

/-- CELL_BEAT (R126): A cell fires one beat when every declared input holds the context's next token. -/
def execCellBeat (p : Nat) (site : Nat) (s : State) : Host.Outcome State Fault Refusal := onDev .runs (fxCellBeat p site) s

/-- ANCHOR_PASS_COMPLETE (R71): The anchor pass of an output tile ends after reading its scale bytes, fixing the tile's anchor. -/
def execAnchorPassComplete (p : Nat) (site : Nat) (tag : Nat) (s : State) : Host.Outcome State Fault Refusal := onDev .runs (fxAnchorPassComplete p site tag) s

/-- TILE_CAPTURE (R136): After the last product reaches the ledgers, the conversion stage captures the tile and frees the ledgers. -/
def execTileCapture (p : Nat) (site : Nat) (s : State) : Host.Outcome State Fault Refusal := onDev .runs (fxTileCapture p site) s

/-- VECTOR_ROW_OUTPUT (R140): A row leaves the vector program, is converted to FMT_OUT and emitted on OUT. -/
def execVectorRowOutput (p : Nat) (site : Nat) (s : State) : Host.Outcome State Fault Refusal := onDev .runs (fxVectorRowOutput p site) s

/-- VEC_NOP (R142): Vector instruction NOP does nothing. -/
def execVecNop (p : Nat) (site : Nat) (s : State) : Host.Outcome State Fault Refusal := onDev .runs (fxVecNop p site) s

/-- VEC_ADD (R142): Vector instruction ADD adds two registers lane by lane. -/
def execVecAdd (p : Nat) (site : Nat) (s : State) : Host.Outcome State Fault Refusal := onDev .runs (fxVecAdd p site) s

/-- VEC_MUL (R142): Vector instruction MUL multiplies two registers lane by lane. -/
def execVecMul (p : Nat) (site : Nat) (s : State) : Host.Outcome State Fault Refusal := onDev .runs (fxVecMul p site) s

/-- VEC_FMA (R142): Vector instruction FMA computes A × B + C lane by lane. -/
def execVecFma (p : Nat) (site : Nat) (s : State) : Host.Outcome State Fault Refusal := onDev .runs (fxVecFma p site) s

/-- VEC_MAX (R142): Vector instruction MAX takes the element-wise maximum. -/
def execVecMax (p : Nat) (site : Nat) (s : State) : Host.Outcome State Fault Refusal := onDev .runs (fxVecMax p site) s

/-- VEC_MIN (R142): Vector instruction MIN takes the element-wise minimum. -/
def execVecMin (p : Nat) (site : Nat) (s : State) : Host.Outcome State Fault Refusal := onDev .runs (fxVecMin p site) s

/-- VEC_ROWMAX (R142): Vector instruction ROWMAX places the row maximum in every lane. -/
def execVecRowmax (p : Nat) (site : Nat) (s : State) : Host.Outcome State Fault Refusal := onDev .runs (fxVecRowmax p site) s

/-- VEC_ROWSUM (R142): Vector instruction ROWSUM places the row sum in every lane. -/
def execVecRowsum (p : Nat) (site : Nat) (s : State) : Host.Outcome State Fault Refusal := onDev .runs (fxVecRowsum p site) s

/-- VEC_EXP (R91): Vector instruction EXP computes exp of each lane. -/
def execVecExp (p : Nat) (site : Nat) (s : State) : Host.Outcome State Fault Refusal := onDev .runs (fxVecExp p site) s

/-- VEC_RECIP (R91): Vector instruction RECIP computes the reciprocal of each lane. -/
def execVecRecip (p : Nat) (site : Nat) (s : State) : Host.Outcome State Fault Refusal := onDev .runs (fxVecRecip p site) s

/-- VEC_RSQRT (R91): Vector instruction RSQRT computes the reciprocal square root of each lane. -/
def execVecRsqrt (p : Nat) (site : Nat) (s : State) : Host.Outcome State Fault Refusal := onDev .runs (fxVecRsqrt p site) s

/-- VEC_MASKAPPLY (R142): Vector instruction MASKAPPLY sets to −infinity the lanes whose mask bit is 0. -/
def execVecMaskapply (p : Nat) (site : Nat) (s : State) : Host.Outcome State Fault Refusal := onDev .runs (fxVecMaskapply p site) s

/-- VEC_MOVE (R142): Vector instruction MOVE copies a register. -/
def execVecMove (p : Nat) (site : Nat) (s : State) : Host.Outcome State Fault Refusal := onDev .runs (fxVecMove p site) s

/-- GENERATOR_RUN_START (R153): A memory cell generator starts a run on step issue or on a token on its scalar channel. -/
def execGeneratorRunStart (p : Nat) (site : Nat) (g : Nat) (s : State) : Host.Outcome State Fault Refusal := onDev .runs (fxGeneratorRunStart p site g) s

/-- BANK_ACCESS (R149): A memory cell bank serves one access per cycle in fixed priority with aging. -/
def execBankAccess (p : Nat) (site : Nat) (bank : Nat) (s : State) : Host.Outcome State Fault Refusal := onDev .runs (fxBankAccess p site bank) s

/-- T1_WRITE_TOKEN (R154): A write generator writes an arriving token at the next address of its walk. -/
def execT1WriteToken (p : Nat) (site : Nat) (g : Nat) (s : State) : Host.Outcome State Fault Refusal := onDev .runs (fxT1WriteToken p site g) s

/-- ACCUMULATE_WRITE (R155): A write generator in accumulate mode reads, adds and writes back a token. -/
def execAccumulateWrite (p : Nat) (site : Nat) (g : Nat) (s : State) : Host.Outcome State Fault Refusal := onDev .runs (fxAccumulateWrite p site g) s

/-- T1_PARITY_REISSUE (R157): A T1 read failing parity is re-issued 4 cycles later, and a third failure raises T1_PARITY. -/
def execT1ParityReissue (p : Nat) (site : Nat) (g : Nat) (s : State) : Host.Outcome State Fault Refusal := onDev .runs (fxT1ParityReissue p site g) s

/-- VALVE_TOKEN_ARRIVAL (R181): A token arriving at a valve fires with its partner, pairs, parks in the matching store or holds at its channel head. -/
def execValveTokenArrival (p : Nat) (site : Nat) (scalar : Bool) (ch : Nat) (s : State) : Host.Outcome State Fault Refusal := onDev .runs (fxValveTokenArrival p site scalar ch) s

/-- VALVE_BEAT (R184): A valve fires its earliest ready beat, moving one data token under its kind's rule. -/
def execValveBeat (p : Nat) (site : Nat) (parityOk : Bool) (s : State) : Host.Outcome State Fault Refusal := onDev .runs (fxValveBeat p site parityOk) s

/-- VALVE_PAIRING_TIMEOUT (R205): A parked token's age exceeds PAIR_LIMIT and the valve raises VALVE_PAIRING_TIMEOUT. -/
def execValvePairingTimeout (p : Nat) (site : Nat) (entry : Nat) (withDrain : Bool) (s : State) : Host.Outcome State Fault Refusal := onDev .runs (fxValvePairingTimeout p site entry withDrain) s

/-- PRT_VALVE_CLEAR_HW (R214): A write of CLEAR_HW sets the selected valve's HIGH_WATER to its current occupancy. -/
def execPrtValveClearHw (port : Port) (p : Nat) (s : State) : Host.Outcome State Fault Refusal := onDev .runs (fxPrtValveClearHw port p) s

/-- PRT_VALVE_PEAK_CLEAR (R217): A write of CLEAR to PRT_VALVE_PEAK clears PEAK and SITE. -/
def execPrtValvePeakClear (p : Nat) (s : State) : Host.Outcome State Fault Refusal := onDev .runs (fxPrtValvePeakClear p) s

/-- RING_FILL_ISSUE (R303): An inbound ring issues a step's next fill when its slot is free, reading its index list entry. -/
def execRingFillIssue (p : Nat) (col : Nat) (ch : Nat) (s : State) : Host.Outcome State Fault Refusal := onDev .runs (fxRingFillIssue p col ch) s

/-- RING_FILL_COMPLETE (R303): A fill's last byte is visible in its slot and TAIL advances. -/
def execRingFillComplete (p : Nat) (col : Nat) (ch : Nat) (s : State) : Host.Outcome State Fault Refusal := onDev .runs (fxRingFillComplete p col ch) s

/-- RING_INJECT (R304): A filled slot of an issued step is injected into the fabric as one tagged packet. -/
def execRingInject (p : Nat) (col : Nat) (ch : Nat) (s : State) : Host.Outcome State Fault Refusal := onDev .runs (fxRingInject p col ch) s

/-- OUTBOUND_TOKEN (R306): A token from the fabric is written into an outbound ring's TAIL slot, closing it when full or at END. -/
def execOutboundToken (p : Nat) (col : Nat) (ch : Nat) (s : State) : Host.Outcome State Fault Refusal := onDev .runs (fxOutboundToken p col ch) s

/-- RING_WRITE_OUT (R306): A closed outbound slot of a committed step is written to its destination. -/
def execRingWriteOut (p : Nat) (col : Nat) (ch : Nat) (s : State) : Host.Outcome State Fault Refusal := onDev .runs (fxRingWriteOut p col ch) s

/-- PUSH_TOKEN_ARRIVAL (R442): A token reaches a tile port's push port, to be written as a queue word 4 cycles later. -/
def execPushTokenArrival (p : Nat) (col : Nat) (s : State) : Host.Outcome State Fault Refusal := onDev .runs (fxPushTokenArrival p col) s

/-- QUEUE_WORD_WRITE (R436): A queue word is written, its packet checked for duplicates and stamped, and stored or dropped. -/
def execQueueWordWrite (p : Nat) (s : State) : Host.Outcome State Fault Refusal := onDev .runs (fxQueueWordWrite p) s

/-- PACKET_VISIBLE (R440): A packet or marker becomes visible 2 cycles after its END word, and raises its notice. -/
def execPacketVisible (p : Nat) (q : Nat) (marker : Bool) (s : State) : Host.Outcome State Fault Refusal := onDev .runs (fxPacketVisible p q marker) s

/-- POP_PORT_CHOOSE (R457): A pop port chooses its next packet or marker in level and arrival order and sends it. -/
def execPopPortChoose (p : Nat) (col : Nat) (ce : Nat) (ue : Option Nat) (s : State) : Host.Outcome State Fault Refusal := onDev .runs (fxPopPortChoose p col ce ue) s

/-- STALL_MARKER_TIMEOUT (R451): A stalled step read reaches STALL_LIMIT × 64 cycles and receives a stall marker. -/
def execStallMarkerTimeout (p : Nat) (col : Nat) (s : State) : Host.Outcome State Fault Refusal := onDev .runs (fxStallMarkerTimeout p col) s

/-- POP_SKIP_TOKEN (R454): A token on a pop port's skip channel ends the packet in progress. -/
def execPopSkipToken (p : Nat) (col : Nat) (s : State) : Host.Outcome State Fault Refusal := onDev .runs (fxPopSkipToken p col) s

/-- QUEUE_CREATE (R463): QUEUE_CREATE places a queue in the job's queue region after its checks. -/
def execQueueCreate (o : Origin) (s : State) : Host.Outcome State Fault Refusal := onDev .runs (fxQueueCreate o) s

/-- QUEUE_DESTROY (R464): QUEUE_DESTROY removes a queue not bound by an image and ends waiting pops with QUE_UNKNOWN. -/
def execQueueDestroy (o : Origin) (s : State) : Host.Outcome State Fault Refusal := onDev .runs (fxQueueDestroy o) s

/-- QUEUE_PUSH (R465): QUEUE_PUSH pushes one packet under the session's producer ID. -/
def execQueuePush (o : Origin) (ce : Nat) (ue : Option Nat) (s : State) : Host.Outcome State Fault Refusal := onDev .runs (fxQueuePush o ce ue) s

/-- QUEUE_POP (R466): QUEUE_POP reads up to MAX_WORDS of the next packet and keeps the rest current. -/
def execQueuePop (o : Origin) (ce : Nat) (ue : Option (Nat × Nat)) (s : State) : Host.Outcome State Fault Refusal := onDev .runs (fxQueuePop o ce ue) s

/-- QUEUE_POP_TIMEOUT (R467): A waiting QUEUE_POP reaches STALL_LIMIT × 64 cycles and completes with QUE_EMPTY. -/
def execQueuePopTimeout (o : Origin) (s : State) : Host.Outcome State Fault Refusal := onDev .runs (fxQueuePopTimeout o) s

/-- QUEUE_SKIP (R466): QUEUE_SKIP discards the rest of the session's current packet. -/
def execQueueSkip (o : Origin) (s : State) : Host.Outcome State Fault Refusal := onDev .runs (fxQueueSkip o) s

/-- BREATH_START (R602): A breath begins and its intake runs its ordered actions within 4 µs. -/
def execBreathStart (fails : List Nat) (s : State) : Host.Outcome State Fault Refusal := onDev .runs (fxBreathStart fails) s

/-- BREATH_IN_EDGE (R598): A rising edge on BREATH_IN begins a breath, or is ignored as early. -/
def execBreathInEdge (us : Nat) (s : State) : Host.Outcome State Fault Refusal := onDev .runs (fxBreathInEdge us) s

/-- TRACE_TRIG_EDGE (R600): An edge on the land serving TRACE_TRIG triggers the trace unit. -/
def execTraceTrigEdge (s : State) : Host.Outcome State Fault Refusal := onDev .runs (fxTraceTrigEdge) s

/-- BREATH_HOLDOVER (R598): No edge or tick arrives by E + 1 µs and the breath begins in holdover. -/
def execBreathHoldover (fails : List Nat) (s : State) : Host.Outcome State Fault Refusal := onDev .runs (fxBreathHoldover fails) s

/-- BRT_PERIOD_WRITE (R601): A write to BRT_PERIOD is held for the next boundary or refused with PERIOD_REFUSED. -/
def execBrtPeriodWrite (port : Port) (word : Nat) (s : State) : Host.Outcome State Fault Refusal := onDev .runs (fxBrtPeriodWrite port word) s

/-- BRT_SRC_WRITE (R601): A write to BRT_SRC is held for the next boundary. -/
def execBrtSrcWrite (port : Port) (word : Nat) (s : State) : Host.Outcome State Fault Refusal := onDev .runs (fxBrtSrcWrite port word) s

/-- SCH_ARB_BUDGET_WRITE (R627): A write to an arbiter budget is stored or refused with REFUSED. -/
def execSchArbBudgetWrite (port : Port) (c : Nat) (word : Nat) (s : State) : Host.Outcome State Fault Refusal := onDev .runs (fxSchArbBudgetWrite port c word) s

/-- REGULATOR_WRITE (R619): A write to a regulator register is held until the next intake. -/
def execRegulatorWrite (port : Port) (p : Nat) (k : Nat) (reg : Nat) (word : Nat) (s : State) : Host.Outcome State Fault Refusal := onDev .runs (fxRegulatorWrite port p k reg word) s

/-- STEP_ISSUE (R313): A free partition issues its next admitted step, reading its bounds. -/
def execStepIssue (p : Nat) (s : State) : Host.Outcome State Fault Refusal := onDev .runs (fxStepIssue p) s

/-- STEP_COMMIT (R278): A step with occupancy 0 and outbound slots closed commits, releasing its inbound slots and held queue packets. -/
def execStepCommit (p : Nat) (s : State) : Host.Outcome State Fault Refusal := onDev .runs (fxStepCommit p) s

/-- STEP_OVERRUN (R842): A fabric step's effective worst case runs out before it ends, faulting with STEP_OVERRUN. -/
def execStepOverrun (p : Nat) (s : State) : Host.Outcome State Fault Refusal := onDev .runs (fxStepOverrun p) s

/-- LEDGER_PARITY_FAILURE (R361): A parity failure in ledgers, conversion rows or vector registers ends the attempt and starts a replay. -/
def execLedgerParityFailure (p : Nat) (unit : Nat) (site : Nat) (s : State) : Host.Outcome State Fault Refusal := onDev .runs (fxLedgerParityFailure p unit site) s

/-- STEP_REPLAY_REISSUE (R362): After discarding the attempt, rings and queues rewind and the step issues again. -/
def execStepReplayReissue (p : Nat) (fits : Bool) (s : State) : Host.Outcome State Fault Refusal := onDev .runs (fxStepReplayReissue p fits) s

/-- DRONE_STEP_ISSUE (R515): A Drone step issues on every member of the group and runs its op list. -/
def execDroneStepIssue (image : Nat) (s : State) : Host.Outcome State Fault Refusal := onDev .runs (fxDroneStepIssue image) s

/-- D_MATMUL (R534): D_MATMUL multiplies every row by an item's panels. -/
def execDMatmul (drone : Nat) (s : State) : Host.Outcome State Fault Refusal := onDev .runs (fxDMatmul drone) s

/-- D_ATTN (R535): D_ATTN computes paged attention partials for every row. -/
def execDAttn (drone : Nat) (s : State) : Host.Outcome State Fault Refusal := onDev .runs (fxDAttn drone) s

/-- D_EXCHANGE (R537): D_EXCHANGE starts a gather, reduce-scatter or anchor maximum among the group. -/
def execDExchange (drone : Nat) (s : State) : Host.Outcome State Fault Refusal := onDev .runs (fxDExchange drone) s

/-- EXCHANGE_COMPLETE (R538): An exchange completes on a member once the last member has issued it. -/
def execExchangeComplete (image : Nat) (cycles : Nat) (s : State) : Host.Outcome State Fault Refusal := onDev .runs (fxExchangeComplete image cycles) s

/-- D_KV_WRITE (R534): D_KV_WRITE writes each row's K and V into this Drone's pages. -/
def execDKvWrite (drone : Nat) (s : State) : Host.Outcome State Fault Refusal := onDev .runs (fxDKvWrite drone) s

/-- D_VECTOR (R534): D_VECTOR runs a vector program on every row over WIDTH lanes. -/
def execDVector (drone : Nat) (s : State) : Host.Outcome State Fault Refusal := onDev .runs (fxDVector drone) s

/-- D_EMBED (R534): D_EMBED writes each row's embedding row. -/
def execDEmbed (drone : Nat) (s : State) : Host.Outcome State Fault Refusal := onDev .runs (fxDEmbed drone) s

/-- D_SAMPLE (R541): D_SAMPLE passes this Drone's logit columns for every row to the sampler. -/
def execDSample (drone : Nat) (s : State) : Host.Outcome State Fault Refusal := onDev .runs (fxDSample drone) s

/-- D_PUSH (R536): D_PUSH pushes each row as a stamped queue packet. -/
def execDPush (drone : Nat) (s : State) : Host.Outcome State Fault Refusal := onDev .runs (fxDPush drone) s

/-- DRONE_STEP_COMMIT (R518): A Drone step commits once its writes are visible and its exchanges complete. -/
def execDroneStepCommit (drone : Nat) (s : State) : Host.Outcome State Fault Refusal := onDev .runs (fxDroneStepCommit drone) s

/-- DRONE_STEP_OVERRUN (R843): A Drone step's worst case runs out on a member, faulting with DRN_STEP_OVERRUN. -/
def execDroneStepOverrun (drone : Nat) (s : State) : Host.Outcome State Fault Refusal := onDev .runs (fxDroneStepOverrun drone) s

/-- DRONE_PARITY_FAILURE (R540): Parity failure in Drone scratch or ledgers replays the step on the whole group, or faults. -/
def execDroneParityFailure (drone : Nat) (unit : Nat) (s : State) : Host.Outcome State Fault Refusal := onDev .runs (fxDroneParityFailure drone unit) s

/-- SAMPLER_ROW (R573): The sampler turns one assembled row of logits into a token under its mask and draw. -/
def execSamplerRow (failed : Bool) (s : State) : Host.Outcome State Fault Refusal := onDev .runs (fxSamplerRow failed) s

/-- PASS_COMMIT (R541): Once sampling ends, each sequence of the batch commits: COMMITTED, NEXT_TOKEN and DELIVERED advance and tokens are written. -/
def execPassCommit (image : Nat) (fails : List Nat) (s : State) : Host.Outcome State Fault Refusal := onDev .runs (fxPassCommit image fails) s

/-- MASK_PREPARATION_COMPLETE (R590): The masks of the next pass's rows are prepared after a commit. -/
def execMaskPreparationComplete (job : Nat) (seq : Nat) (ns : Nat) (s : State) : Host.Outcome State Fault Refusal := onDev .runs (fxMaskPreparationComplete job seq ns) s

/-- SAVE_STEP (R629): A suspending job with nothing running runs a save step on each partition at P1. -/
def execSaveStep (j : Nat) (s : State) : Host.Outcome State Fault Refusal := onDev .runs (fxSaveStep j) s

/-- CHECKPOINT_CUT (R639): A carried step under a pending suspend is cut at its next checkpoint and drained to ledger state. -/
def execCheckpointCut (p : Nat) (s : State) : Host.Outcome State Fault Refusal := onDev .runs (fxCheckpointCut p) s

/-- SAVE_COMPLETE (R636): When every save has landed the job becomes suspended and its slots empty. -/
def execSaveComplete (j : Nat) (s : State) : Host.Outcome State Fault Refusal := onDev .runs (fxSaveComplete j) s

/-- RESTORE_STEP (R637): Each partition restores a resumed job's T1, valves and ledgers and reloads its slots. -/
def execRestoreStep (j : Nat) (s : State) : Host.Outcome State Fault Refusal := onDev .runs (fxRestoreStep j) s

/-- RESTORE_COMPLETE (R638): The restore's CRCs are checked and the job resumes, or restarts with SCH_SAVE_CRC. -/
def execRestoreComplete (j : Nat) (s : State) : Host.Outcome State Fault Refusal := onDev .runs (fxRestoreComplete j) s

/-- JOB_SUSPEND (R629): JOB_SUSPEND stops new chains of a job so it can be saved at a breath boundary. -/
def execJobSuspend (o : Origin) (s : State) : Host.Outcome State Fault Refusal := onDev .runs (fxJobSuspend o) s

/-- JOB_RESUME (R637): JOB_RESUME restores a suspended job when its partitions are free. -/
def execJobResume (o : Origin) (s : State) : Host.Outcome State Fault Refusal := onDev .runs (fxJobResume o) s

/-- LONG_OP_STEP (R640): A step of a long operation runs on its engine during the run phase. -/
def execLongOpStep (id : Nat) (units : Nat) (busError : Bool) (data : Option (List Byte)) (s : State) : Host.Outcome State Fault Refusal := onDev .runs (fxLongOpStep id units busError data) s

/-- FRONT_LOAD_START (R346): A claimed Front load starts once the occupant's admitted instances have committed. -/
def execFrontLoadStart (p : Nat) (s : State) : Host.Outcome State Fault Refusal := onDev .runs (fxFrontLoadStart p) s

/-- TILE_MOVE (R377): TILE_MOVE queues a descriptor on a tile mover channel. -/
def execTileMove (o : Origin) (s : State) : Host.Outcome State Fault Refusal := onDev .runs (fxTileMove o) s

/-- PAGE_MOVE (R378): PAGE_MOVE queues a descriptor on a page mover. -/
def execPageMove (o : Origin) (s : State) : Host.Outcome State Fault Refusal := onDev .runs (fxPageMove o) s

/-- MOV_RESUME (R407): MOV_RESUME resumes a halted channel. -/
def execMovResume (o : Origin) (s : State) : Host.Outcome State Fault Refusal := onDev .runs (fxMovResume o) s

/-- MOV_DISCARD (R407): MOV_DISCARD discards a halted channel's waiting descriptors. -/
def execMovDiscard (o : Origin) (s : State) : Host.Outcome State Fault Refusal := onDev .runs (fxMovDiscard o) s

/-- MOV_CTRL_RESUME (R407): A write of RESUME to MOV_CTRL resumes the selected channel. -/
def execMovCtrlResume (port : Port) (s : State) : Host.Outcome State Fault Refusal := onDev .runs (fxMovCtrlResume port) s

/-- MOV_CTRL_DISCARD (R424): A write of DISCARD to MOV_CTRL discards the selected channel's waiting descriptors. -/
def execMovCtrlDiscard (port : Port) (s : State) : Host.Outcome State Fault Refusal := onDev .runs (fxMovCtrlDiscard port) s

/-- DESCRIPTOR_START (R380): A channel starts its next descriptor after checks 3 to 11, or refuses it. -/
def execDescriptorStart (chan : Nat) (ce : Nat) (ue : Option Nat) (s : State) : Host.Outcome State Fault Refusal := onDev .runs (fxDescriptorStart chan ce ue) s

/-- DESCRIPTOR_COMPLETE (R393): A descriptor completes when its last write leaves the mover, comparing its check result. -/
def execDescriptorComplete (chan : Nat) (done : Nat) (s : State) : Host.Outcome State Fault Refusal := onDev .runs (fxDescriptorComplete chan done) s

/-- WRITE_VISIBLE (R400): A write that left a mover becomes visible at its destination. -/
def execWriteVisible (entry : Nat) (s : State) : Host.Outcome State Fault Refusal := onDev .runs (fxWriteVisible entry) s

/-- LANDING_FENCE_COMPLETE (R398): A fence completes once its covered work is done and visible, or halted or discarded. -/
def execLandingFenceComplete (id : Nat) (s : State) : Host.Outcome State Fault Refusal := onDev .runs (fxLandingFenceComplete id) s

/-- BUS_ERROR (R404): A bus error halts the channel, latches the error and completes the descriptor with MOV_BUS_ERROR. -/
def execBusError (chan : Nat) (ring : Option Nat) (uid : Nat) (write : Bool) (addr : Nat) (cause : Nat) (done : Nat) (mask : Nat) (s : State) : Host.Outcome State Fault Refusal := onDev .runs (fxBusError chan ring uid write addr cause done mask) s

/-- CXL_COMPLETION_TIMEOUT (R403): A CXL access uncompleted after 50 µs is a bus error. -/
def execCxlCompletionTimeout (chan : Nat) (ring : Option Nat) (uid : Nat) (write : Bool) (addr : Nat) (done : Nat) (mask : Nat) (s : State) : Host.Outcome State Fault Refusal := onDev .runs (fxCxlCompletionTimeout chan ring uid write addr done mask) s

/-- GRANULE_REREAD (R357): A T2 or T3 granule failing parity is re-read, and a third failure faults or ends the read. -/
def execGranuleReread (addr : Nat) (fails : Nat) (ce : Nat) (job : Nat) (part : Nat) (chan : Nat) (poisoned : Bool) (s : State) : Host.Outcome State Fault Refusal := onDev .runs (fxGranuleReread addr fails ce job part chan poisoned) s

/-- T2_SCRUB (R360): The base die scrubs a granule in the background, correcting or poisoning it. -/
def execT2Scrub (stack : Nat) (granule : Nat) (found : Nat) (s : State) : Host.Outcome State Fault Refusal := onDev .runs (fxT2Scrub stack granule found) s

/-- CHECK_RANGE (R414): CHECK_RANGE computes a CRC over memory without moving it. -/
def execCheckRange (o : Origin) (ce : Nat) (ue : Option Nat) (s : State) : Host.Outcome State Fault Refusal := onDev .runs (fxCheckRange o ce ue) s

/-- DIGEST (R415): DIGEST runs SHA-256 over a range in ONE, START, CONTINUE or FINISH mode. -/
def execDigest (o : Origin) (ce : Nat) (ue : Option Nat) (s : State) : Host.Outcome State Fault Refusal := onDev .runs (fxDigest o ce ue) s

/-- DIGEST_COMPLETE (R419): A digest command ends, writing RESULT and context and comparing EXPECT. -/
def execDigestComplete (e : Nat) (s : State) : Host.Outcome State Fault Refusal := onDev .runs (fxDigestComplete e) s

/-- SCORE_PACKET_READ (R475): The Gale engine reads a score packet, computes keys and selects the top-k experts. -/
def execScorePacketRead (r : Nat) (s : State) : Host.Outcome State Fault Refusal := onDev .runs (fxScorePacketRead r) s

/-- GALE_ISSUE (R483): When a dispatch step's partition drains, its assignments are issued in order into lists or queues. -/
def execGaleIssue (r : Nat) (p : Nat) (s : State) : Host.Outcome State Fault Refusal := onDev .runs (fxGaleIssue r p) s

/-- GALE_DROP_REPORT (R491): A dropped Gale packet is reported to the sending Gale engine and counted. -/
def execGaleDropReport (r : Nat) (s : State) : Host.Outcome State Fault Refusal := onDev .runs (fxGaleDropReport r) s

/-- RETURN_PACKET_READ (R494): A return packet's row is written at the home device, then its combine entry. -/
def execReturnPacketRead (r : Nat) (s : State) : Host.Outcome State Fault Refusal := onDev .runs (fxReturnPacketRead r) s

/-- DISPATCH_CLOSE (R495): A dispatch close arrives, and when SOURCES have arrived the dispatch round closes with tallies written. -/
def execDispatchClose (r : Nat) (from_ : Nat) (s : State) : Host.Outcome State Fault Refusal := onDev .runs (fxDispatchClose r from_) s

/-- RETURN_CLOSE (R496): A return close arrives, and when RETURNS have arrived the return round closes. -/
def execReturnClose (r : Nat) (from_ : Nat) (s : State) : Host.Outcome State Fault Refusal := onDev .runs (fxReturnClose r from_) s

/-- BAROMETER_COUNT_EXCHANGE (R502): A device receives another device's window counts and adds them. -/
def execBarometerCountExchange (b : Nat) (counts : List Nat) (s : State) : Host.Outcome State Fault Refusal := onDev .runs (fxBarometerCountExchange b counts) s

/-- GAL_ROUTE_WRITE (R507): A write to a route register is stored, or ignored while a round is open. -/
def execGalRouteWrite (port : Port) (off : Nat) (v : Nat) (s : State) : Host.Outcome State Fault Refusal := onDev .runs (fxGalRouteWrite port off v) s

/-- BRM_BIAS_WRITE (R504): A software bias write is held and applied at the next intake after any update. -/
def execBrmBiasWrite (port : Port) (off : Nat) (v : Nat) (s : State) : Host.Outcome State Fault Refusal := onDev .runs (fxBrmBiasWrite port off v) s

/-- BRM_CTRL_WRITE (R509): A write to BRM_CTRL or BRM_ETA is stored unless its value is reserved. -/
def execBrmCtrlWrite (port : Port) (eta : Bool) (v : Nat) (s : State) : Host.Outcome State Fault Refusal := onDev .runs (fxBrmCtrlWrite port eta v) s

/-- GENERATE (R561): GENERATE creates or continues a sequence and reserves its pages for a request. -/
def execGenerate (o : Origin) (prompt : Option (List Byte)) (sampling : Option (List Byte)) (s : State) : Host.Outcome State Fault Refusal := onDev .runs (fxGenerate o prompt sampling) s

/-- CANCEL (R561): CANCEL ends a sequence's request at its next commit. -/
def execCancel (o : Origin) (s : State) : Host.Outcome State Fault Refusal := onDev .runs (fxCancel o) s

/-- LULL (R549): LULL packs an IDLE sequence into Lull state in T3. -/
def execLull (o : Origin) (s : State) : Host.Outcome State Fault Refusal := onDev .runs (fxLull o) s

/-- RESUME (R557): RESUME unpacks a LULLED sequence back into KV pages. -/
def execResume (o : Origin) (s : State) : Host.Outcome State Fault Refusal := onDev .runs (fxResume o) s

/-- PREFIX_BUILD (R544): PREFIX_BUILD prefills a prefix and marks its pages read-only. -/
def execPrefixBuild (o : Origin) (tokens : Option (List Byte)) (s : State) : Host.Outcome State Fault Refusal := onDev .runs (fxPrefixBuild o tokens) s

/-- PREFIX_RELEASE (R546): PREFIX_RELEASE marks a prefix retiring. -/
def execPrefixRelease (o : Origin) (s : State) : Host.Outcome State Fault Refusal := onDev .runs (fxPrefixRelease o) s

/-- SEQ_RELEASE (R561): SEQ_RELEASE frees an IDLE or LULLED sequence. -/
def execSeqRelease (o : Origin) (s : State) : Host.Outcome State Fault Refusal := onDev .runs (fxSeqRelease o) s

/-- MUTE_VALIDATE (R591): MUTE_VALIDATE checks an automaton header and returns its counts. -/
def execMuteValidate (o : Origin) (s : State) : Host.Outcome State Fault Refusal := onDev .runs (fxMuteValidate o) s

/-- SAMPLE_RUN (R591): SAMPLE_RUN samples one row and returns the token without writing. -/
def execSampleRun (o : Origin) (logits : Option (List Byte)) (sampling : Option (List Byte)) (s : State) : Host.Outcome State Fault Refusal := onDev .runs (fxSampleRun o logits sampling) s

/-- LIB_INIT (R651): LIB_INIT formats or mounts the library region. -/
def execLibInit (o : Origin) (s : State) : Host.Outcome State Fault Refusal := onDev .runs (fxLibInit o) s

/-- LIB_VERSION_ADD (R658): LIB_VERSION_ADD copies a version descriptor into the catalogue and starts its arrival check. -/
def execLibVersionAdd (o : Origin) (s : State) : Host.Outcome State Fault Refusal := onDev .runs (fxLibVersionAdd o) s

/-- LIB_VERSION_REMOVE (R681): LIB_VERSION_REMOVE clears a version's records and frees its pages. -/
def execLibVersionRemove (o : Origin) (s : State) : Host.Outcome State Fault Refusal := onDev .runs (fxLibVersionRemove o) s

/-- LIB_VERSION_CHECK (R663): LIB_VERSION_CHECK reruns the arrival check on shards that are not GOOD. -/
def execLibVersionCheck (o : Origin) (s : State) : Host.Outcome State Fault Refusal := onDev .runs (fxLibVersionCheck o) s

/-- LIB_DEPLOY (R665): LIB_DEPLOY creates a deployment and loads its first version. -/
def execLibDeploy (o : Origin) (s : State) : Host.Outcome State Fault Refusal := onDev .runs (fxLibDeploy o) s

/-- LIB_VERSION_LOAD (R677): LIB_VERSION_LOAD loads a new version alongside the old or through the drain path. -/
def execLibVersionLoad (o : Origin) (s : State) : Host.Outcome State Fault Refusal := onDev .runs (fxLibVersionLoad o) s

/-- LIB_UNDEPLOY (R681): LIB_UNDEPLOY unloads every version of an idle deployment. -/
def execLibUndeploy (o : Origin) (s : State) : Host.Outcome State Fault Refusal := onDev .runs (fxLibUndeploy o) s

/-- SHARD_DIGEST_RESULT (R659): A shard's digest ends and the shard becomes GOOD or the next source is tried. -/
def execShardDigestResult (id : Nat) (busError : Bool) (bytes : Option (List Byte)) (s : State) : Host.Outcome State Fault Refusal := onDev .runs (fxShardDigestResult id busError bytes) s

/-- SHARD_RESCAN_DUE (R684): A shard's rescan period ends and its rescan starts. -/
def execShardRescanDue (shard : Nat) (s : State) : Host.Outcome State Fault Refusal := onDev .runs (fxShardRescanDue shard) s

/-- TWIN_SHARD_REQUEST (R664): A twin's shard request is answered from a GOOD shard at P4. -/
def execTwinShardRequest (model : Nat) (version : Nat) (index : Nat) (digest : List Byte) (s : State) : Host.Outcome State Fault Refusal := onDev .runs (fxTwinShardRequest model version index digest) s

/-- PART_ASSIGN (R709): PART_ASSIGN assigns a partition to a function with its staging and Lull reservations. -/
def execPartAssign (o : Origin) (s : State) : Host.Outcome State Fault Refusal := onDev .runs (fxPartAssign o) s

/-- FUNC_GRANT (R711): FUNC_GRANT grants sessions, events, routes or a window to a function. -/
def execFuncGrant (o : Origin) (s : State) : Host.Outcome State Fault Refusal := onDev .runs (fxFuncGrant o) s

/-- CFG_STORE_READ (R810): CFG_STORE READ copies the configuration slot in use to memory. -/
def execCfgStoreRead (o : Origin) (s : State) : Host.Outcome State Fault Refusal := onDev .runs (fxCfgStoreRead o) s

/-- CFG_STORE_WRITE (R810): CFG_STORE WRITE checks a configuration and programs it into the slot not in use. -/
def execCfgStoreWrite (o : Origin) (s : State) : Host.Outcome State Fault Refusal := onDev .runs (fxCfgStoreWrite o) s

/-- CFG_STORE_ROLLBACK (R810): CFG_STORE ROLLBACK revokes the valid slot with the higher version. -/
def execCfgStoreRollback (o : Origin) (s : State) : Host.Outcome State Fault Refusal := onDev .runs (fxCfgStoreRollback o) s

/-- CFG_STORE_ACTIVATE_FW (R810): CFG_STORE ACTIVATE_FW marks a firmware activation pending for the next boot. -/
def execCfgStoreActivateFw (o : Origin) (s : State) : Host.Outcome State Fault Refusal := onDev .runs (fxCfgStoreActivateFw o) s

/-- RESET_REQUEST (R823): RESET_REQUEST schedules a device reset or resets an idle block. -/
def execResetRequest (o : Origin) (s : State) : Host.Outcome State Fault Refusal := onDev .runs (fxResetRequest o) s

/-- SOFTWARE_RESET (R823): The device reset begins 10 ms after RESET_REQUEST's completion record. -/
def execSoftwareReset (s : State) : Host.Outcome State Fault Refusal := onDev .runs (fxSoftwareReset) s

/-- POWER_CAP (R831): POWER_CAP sets the power cap from the next breath start. -/
def execPowerCap (o : Origin) (s : State) : Host.Outcome State Fault Refusal := onDev .runs (fxPowerCap o) s

/-- MGT_HOSTBOOT_GO (R804): A write of GO to MGT_HOSTBOOT starts the host boot with the image written in BAR4. -/
def execMgtHostbootGo (port : Port) (word : Nat) (s : State) : Host.Outcome State Fault Refusal := onDev .runs (fxMgtHostbootGo port word) s

/-- MGT_JOB_RESTART (R851): A write of RESTART starts stage 2 on a WAITING or STOPPED job. -/
def execMgtJobRestart (port : Port) (s : State) : Host.Outcome State Fault Refusal := onDev .runs (fxMgtJobRestart port) s

/-- FRING_BASE_WRITE (R859): A valid fault ring base turns the ring on and the hub page is written to it. -/
def execFringBaseWrite (port : Port) (base : Nat) (s : State) : Host.Outcome State Fault Refusal := onDev .runs (fxFringBaseWrite port base) s

/-- PORT_DETECT_START (R750): An enabled port with its module present leaves DOWN and sets up its media. -/
def execPortDetectStart (p : Nat) (s : State) : Host.Outcome State Fault Refusal := onDev .runs (fxPortDetectStart p) s

/-- MODULE_READY (R755): The module reports ready with a 200 Gb/s application and the port moves to EQUALISE. -/
def execModuleReady (p : Nat) (type : Nat) (s : State) : Host.Outcome State Fault Refusal := onDev .runs (fxModuleReady p type) s

/-- MEDIA_TIMEOUT (R755): A module not ready within 2 s sends the port DOWN with cause MEDIA. -/
def execMediaTimeout (p : Nat) (s : State) : Host.Outcome State Fault Refusal := onDev .runs (fxMediaTimeout p) s

/-- EQUALISE_COMPLETE (R750): Every lane meets its error ratio and the port moves to LOCK. -/
def execEqualiseComplete (p : Nat) (s : State) : Host.Outcome State Fault Refusal := onDev .runs (fxEqualiseComplete p) s

/-- EQUALISE_TIMEOUT (R750): Equalisation exceeds 400 ms and the port returns to DOWN. -/
def execEqualiseTimeout (p : Nat) (s : State) : Host.Outcome State Fault Refusal := onDev .runs (fxEqualiseTimeout p) s

/-- LANE_LOCK_COMPLETE (R750): Every lane decodes 64 good blocks and the port moves to IDENTIFY. -/
def execLaneLockComplete (p : Nat) (s : State) : Host.Outcome State Fault Refusal := onDev .runs (fxLaneLockComplete p) s

/-- PEER_IDENTITY (R753): The peer's identity is accepted or the port goes DOWN as FOREIGN or ROLE. -/
def execPeerIdentity (p : Nat) (domainId : Nat) (index : Nat) (port : Nat) (role : Nat) (s : State) : Host.Outcome State Fault Refusal := onDev .runs (fxPeerIdentity p domainId index port role) s

/-- DELAY_CALIBRATION (R752): The one-way delay is measured and the port goes UP or DOWN with DELAY. -/
def execDelayCalibration (p : Nat) (roundTrips : List Nat) (s : State) : Host.Outcome State Fault Refusal := onDev .runs (fxDelayCalibration p roundTrips) s

/-- PORT_RETRY_TIMER (R750): 1 ms after a port goes DOWN it starts again from DETECT. -/
def execPortRetryTimer (p : Nat) (s : State) : Host.Outcome State Fault Refusal := onDev .runs (fxPortRetryTimer p) s

/-- PORT_LOSS_TIMEOUT (R751): A lane with no good block for 1.0 µs sends the port DOWN with LOSS. -/
def execPortLossTimeout (p : Nat) (s : State) : Host.Outcome State Fault Refusal := onDev .runs (fxPortLossTimeout p) s

/-- MODULE_REMOVED (R751): The module's presence line deasserts and the port goes DOWN with REMOVED. -/
def execModuleRemoved (p : Nat) (s : State) : Host.Outcome State Fault Refusal := onDev .reset (fxModuleRemoved p) s

/-- PORT_TEST_SELECT (R754): A write of TEST selects a loopback or PRBS test mode, or is ignored with a live circuit. -/
def execPortTestSelect (port : Port) (word : Nat) (s : State) : Host.Outcome State Fault Refusal := onDev .runs (fxPortTestSelect port word) s

/-- BLOCK_RECEIVE (R749): A block arrives on a lane and passes FEC and CRC, or is discarded with a NAK sent. -/
def execBlockReceive (p : Nat) (lane : Nat) (wire : List Byte) (s : State) : Host.Outcome State Fault Refusal := onDev .runs (fxBlockReceive p lane wire) s

/-- BLOCK_NAK (R749): A NAK makes the sender re-send from the failed block, or the port goes DOWN with REPLAY. -/
def execBlockNak (p : Nat) (lane : Nat) (seq : Nat) (s : State) : Host.Outcome State Fault Refusal := onDev .runs (fxBlockNak p lane seq) s

/-- SLOT_SEND (R767): In each 32 ns slot a port sends a transit block, its entry's packets or IDLE. -/
def execSlotSend (p : Nat) (k : Nat) (s : State) : Host.Outcome State Fault Refusal := onDev .runs (fxSlotSend p k) s

/-- TRANSIT_FORWARD (R768): A transit block is forwarded in slot s + 3 with its circuit number rewritten. -/
def execTransitForward (p : Nat) (c : Nat) (slot : Nat) (payload : List Byte) (s : State) : Host.Outcome State Fault Refusal := onDev .runs (fxTransitForward p c slot payload) s

/-- PLV_WRITE_PACKET (R764): A WRITE packet is accepted at its target, translated if paged, and a REPORT is sent back. -/
def execPlvWritePacket (p : Nat) (c : Nat) (req : Nat) (cls : Nat) (addr : Nat) (data : List Byte) (miss : Bool) (s : State) : Host.Outcome State Fault Refusal := onDev .runs (fxPlvWritePacket p c req cls addr data miss) s

/-- PLV_QUEUE_PACKET (R487): A QUEUE packet is pushed into its destination queue. -/
def execPlvQueuePacket (p : Nat) (c : Nat) (req : Nat) (cls : Nat) (src : Nat) (addr : Nat) (producer : Nat) (level : Nat) (seq : Nat) (words : List (List Byte)) (miss : Bool) (s : State) : Host.Outcome State Fault Refusal := onDev .runs (fxPlvQueuePacket p c req cls src addr producer level seq words miss) s

/-- PLV_READ_REQ (R748): A READ_REQ is served and answered with a RESPONSE. -/
def execPlvReadReq (p : Nat) (c : Nat) (req : Nat) (cls : Nat) (addr : Nat) (n : Nat) (ce : Nat) (ue : Option Nat) (miss : Bool) (s : State) : Host.Outcome State Fault Refusal := onDev .runs (fxPlvReadReq p c req cls addr n ce ue miss) s

/-- PLV_RESPONSE (R764): A RESPONSE completes a request or, with STATUS 1 or 2, halts the channel. -/
def execPlvResponse (p : Nat) (c : Nat) (req : Nat) (status : Nat) (data : List Byte) (s : State) : Host.Outcome State Fault Refusal := onDev .runs (fxPlvResponse p c req status data) s

/-- REPORT_NOTICE (R764): A REPORT notice records landed write packets for the source's fences. -/
def execReportNotice (p : Nat) (c : Nat) (n : Nat) (s : State) : Host.Outcome State Fault Refusal := onDev .runs (fxReportNotice p c n) s

/-- TEARDOWN_NOTICE (R792): A TEARDOWN notice tears down the device's records of the circuit and faults its job. -/
def execTeardownNotice (p : Nat) (c : Nat) (s : State) : Host.Outcome State Fault Refusal := onDev .runs (fxTeardownNotice p c) s

/-- DOMAIN_TICK (R781): A received tick begins the device's breath at the derived time. -/
def execDomainTick (p : Nat) (breath : Nat) (period : Nat) (next : Nat) (skew : Nat) (s : State) : Host.Outcome State Fault Refusal := onDev .runs (fxDomainTick p breath period next skew) s

/-- PERIOD_NAK (R783): A PERIOD_NAK is repeated on all ports and makes the master refuse the proposed period. -/
def execPeriodNak (p : Nat) (s : State) : Host.Outcome State Fault Refusal := onDev .runs (fxPeriodNak p) s

/-- LIVE_FLOOD (R774): Every 10 µs live member sets are flooded and PLV_LIVE refreshed. -/
def execLiveFlood (p : Nat) (set : Nat) (s : State) : Host.Outcome State Fault Refusal := onDev .runs (fxLiveFlood p set) s

/-- MEDIA_MONITOR (R756): Every 10 ms module monitors are read, LOSS computed and CLEAN and INSPECT updated. -/
def execMediaMonitor (p : Nat) (temp : Nat) (tx : List Nat) (far : List Nat) (rx : List Nat) (s : State) : Host.Outcome State Fault Refusal := onDev .runs (fxMediaMonitor p temp tx far rx) s

/-- CMIS_READ (R758): A GO to PLV_CMIS with WRITE 0 reads a byte of the module. -/
def execCmisRead (port : Port) (word : Nat) (value : Option Nat) (s : State) : Host.Outcome State Fault Refusal := onDev .runs (fxCmisRead port word value) s

/-- CMIS_WRITE (R758): A GO to PLV_CMIS with WRITE 1 writes a byte of the module. -/
def execCmisWrite (port : Port) (word : Nat) (ok : Bool) (s : State) : Host.Outcome State Fault Refusal := onDev .runs (fxCmisWrite port word ok) s

/-- CIRCUIT_SETUP (R760): A GO with OP 0 sets up the selected circuit record. -/
def execCircuitSetup (port : Port) (s : State) : Host.Outcome State Fault Refusal := onDev .runs (fxCircuitSetup port) s

/-- CIRCUIT_TEARDOWN (R760): A GO with OP 1 tears down the selected circuit record. -/
def execCircuitTeardown (port : Port) (s : State) : Host.Outcome State Fault Refusal := onDev .runs (fxCircuitTeardown port) s

/-- DOMAIN_CONFIG_WRITE (R772): A write to the domain configuration is stored and forms the domain, or is ignored with ERR. -/
def execDomainConfigWrite (port : Port) (off : Nat) (word : Nat) (s : State) : Host.Outcome State Fault Refusal := onDev .runs (fxDomainConfigWrite port off word) s

/-- TWIN_HEARTBEAT_RECEIVE (R785): A heartbeat arrives from the twin and clears the miss count. -/
def execTwinHeartbeatReceive (breath : Nat) (s : State) : Host.Outcome State Fault Refusal := onDev .runs (fxTwinHeartbeatReceive breath) s

/-- MIRROR_UPDATE (R786): A mirror update from the twin is stored in its mirror and acknowledged. -/
def execMirrorUpdate (body : List Byte) (s : State) : Host.Outcome State Fault Refusal := onDev .runs (fxMirrorUpdate body) s

/-- MIRROR_ACK (R788): The twin's acknowledgement releases the commands and host writes it covers. -/
def execMirrorAck (position : Nat) (s : State) : Host.Outcome State Fault Refusal := onDev .runs (fxMirrorAck position) s

/-- TWIN_TAKEOVER (R790): The miss limit is reached and the device resets its twin, faults its jobs and adopts its sessions. -/
def execTwinTakeover (reads : List (List Byte)) (s : State) : Host.Outcome State Fault Refusal := onDev .runs (fxTwinTakeover reads) s

/-- JOB_FAULT_MESSAGE (R845): A JOB_FAULT message halts the job on this device and is forwarded once. -/
def execJobFaultMessage (j : Nat) (origin : Nat) (serial : Nat) (s : State) : Host.Outcome State Fault Refusal := onDev .runs (fxJobFaultMessage j origin serial) s

/-- RESTART_HOLD_EXPIRY (R847): After HOLD_BREATHS a halted job's partitions warm reset. -/
def execRestartHoldExpiry (j : Nat) (s : State) : Host.Outcome State Fault Refusal := onDev .runs (fxRestartHoldExpiry j) s

/-- PARTITION_WARM_RESET_COMPLETE (R818): A partition warm reset ends and the restart moves to RELOADING. -/
def execPartitionWarmResetComplete (p : Nat) (s : State) : Host.Outcome State Fault Refusal := onDev .runs (fxPartitionWarmResetComplete p) s

/-- RESTART_BREATH_ANNOUNCE (R848): The announced restart breath begins stage 4 on every device of the job. -/
def execRestartBreathAnnounce (j : Nat) (n : Nat) (s : State) : Host.Outcome State Fault Refusal := onDev .runs (fxRestartBreathAnnounce j n) s

/-- POWER_ON_RESET (R814): VSTBY and VIN rise above their thresholds and a power-on reset starts. -/
def execPowerOnReset (lost : Bool) (s : State) : Host.Outcome State Fault Refusal := onDev .always (fxPowerOnReset lost) s

/-- BROWN_OUT (R814): VIN below 10.2 V for 2 µs or a regulator out of range resets the device. -/
def execBrownOut (vin : Bool) (s : State) : Host.Outcome State Fault Refusal := onDev .always (fxBrownOut vin) s

/-- RAIL_FAIL (R881): VIO, VDDQ_DDR or VSTBY fails, regulators turn off and a brown-out follows. -/
def execRailFail (rail : Nat) (s : State) : Host.Outcome State Fault Refusal := onDev .always (fxRailFail rail) s

/-- RST_N_PULSE (R815): A low pulse on RST_N accepted by the filter resets the device. -/
def execRstNPulse (samples : Nat) (s : State) : Host.Outcome State Fault Refusal := onDev .reset (fxRstNPulse samples) s

/-- WATCHDOG_EXPIRY (R814): Firmware not servicing the watchdog for WDT_MS resets the device. -/
def execWatchdogExpiry (s : State) : Host.Outcome State Fault Refusal := onDev .reset (fxWatchdogExpiry) s

/-- DEBUG_RESET_REQUEST (R814): The JTAG reset instruction resets an ITD12-A1-LE. -/
def execDebugResetRequest (s : State) : Host.Outcome State Fault Refusal := onDev .reset (fxDebugResetRequest) s

/-- CLOCK_FAILURE (R814): The 25 MHz reference absent for 2 µs resets the device. -/
def execClockFailure (s : State) : Host.Outcome State Fault Refusal := onDev .reset (fxClockFailure) s

/-- LOCK_UP (R814): A stalled core or a lockstep mismatch resets the device. -/
def execLockUp (s : State) : Host.Outcome State Fault Refusal := onDev .reset (fxLockUp) s

/-- RESET_RELEASE (R880): 1 ms after every condition holds the reset is released, straps latched and boot begins. -/
def execResetRelease (s : State) : Host.Outcome State Fault Refusal := onDev .reset (fxResetRelease) s

/-- BOOT_STAGE_COMPLETE (R801): A boot stage ends and the next begins, ending in DONE or RECOVERY. -/
def execBootStageComplete (alive : Nat) (present : Nat) (dimms : List Nat) (cxl : List Nat) (s : State) : Host.Outcome State Fault Refusal := onDev .runs (fxBootStageComplete alive present dimms cxl) s

/-- BOOT_SOURCE_TIMEOUT (R804): The twin, host or UART source gives no image in time and boot enters RECOVERY. -/
def execBootSourceTimeout (s : State) : Host.Outcome State Fault Refusal := onDev .runs (fxBootSourceTimeout) s

/-- UART_XMODEM_BLOCK (R804): An XMODEM-1K block of the recovery image arrives on the UART. -/
def execUartXmodemBlock (frame : List Byte) (s : State) : Host.Outcome State Fault Refusal := onDev .runs (fxUartXmodemBlock frame) s

/-- TWIN_FIRMWARE_IMAGE (R804): The twin's firmware image arrives over the twin port for boot. -/
def execTwinFirmwareImage (image : List Byte) (s : State) : Host.Outcome State Fault Refusal := onDev .runs (fxTwinFirmwareImage image) s

/-- VIN_DROOP (R828): VIN below THRESH_MV for 0.5 µs demands level 12 within 20 µs. -/
def execVinDroop (s : State) : Host.Outcome State Fault Refusal := onDev .runs (fxVinDroop) s

/-- DROOP_LAPSE (R828): VIN above THRESH_MV + 400 mV for 1 ms lets the droop demand lapse. -/
def execDroopLapse (s : State) : Host.Outcome State Fault Refusal := onDev .runs (fxDroopLapse) s

/-- TJ_SAMPLE (R829): Every 100 µs the hottest Tj sets the throttle and emergency demands. -/
def execTjSample (tj : Nat) (s : State) : Host.Outcome State Fault Refusal := onDev .reset (fxTjSample tj) s

/-- THERMTRIP (R830): Tj at 115 °C drives THERMTRIP_N low, stops every clock and enters TRIPPED. -/
def execThermtrip (s : State) : Host.Outcome State Fault Refusal := onDev .reset (fxThermtrip) s

/-- POWER_AVERAGE (R831): The 1 ms average of input power moves the cap demand. -/
def execPowerAverage (watts : Nat) (s : State) : Host.Outcome State Fault Refusal := onDev .runs (fxPowerAverage watts) s

/-- ALERT_ASSERT (R832): SHELF_ALERT_N or COOL_ALERT_N low demands level 12 and sets its event. -/
def execAlertAssert (cool : Bool) (s : State) : Host.Outcome State Fault Refusal := onDev .reset (fxAlertAssert cool) s

/-- ALERT_RELEASE_EXPIRY (R832): 10 ms after the alert rises the level-12 demand ends. -/
def execAlertReleaseExpiry (cool : Bool) (s : State) : Host.Outcome State Fault Refusal := onDev .reset (fxAlertReleaseExpiry cool) s

/-- RM_TIMEOUT (R833): No message from the rack manager for TIMEOUT_S sets RM_LOST. -/
def execRmTimeout (s : State) : Host.Outcome State Fault Refusal := onDev .runs (fxRmTimeout) s

/-- MCTP_CONTROL_MESSAGE (R740): An MCTP control message on the management port is answered. -/
def execMctpControlMessage (body : List Byte) (s : State) : Host.Outcome State Fault Refusal := onDev .standby (fxMctpControlMessage body) s

/-- RENAIHEL_REQUEST (R741): A Renaihel request carries one command entry and is answered with a record. -/
def execRenaihelRequest (entry : List Byte) (slow : Bool) (s : State) : Host.Outcome State Fault Refusal := onDev .runs (fxRenaihelRequest entry slow) s

/-- PLDM_BASE_DISCOVERY (R740): A PLDM type 0 discovery message is answered. -/
def execPldmBaseDiscovery (body : List Byte) (s : State) : Host.Outcome State Fault Refusal := onDev .standby (fxPldmBaseDiscovery body) s

/-- PLDM_SENSOR_READ (R743): A PLDM platform message returns a numeric sensor reading. -/
def execPldmSensorRead (head : Nat) (sensor : Nat) (s : State) : Host.Outcome State Fault Refusal := onDev .standby (fxPldmSensorRead head sensor) s

/-- PLDM_FIRMWARE_UPDATE (R811): PLDM firmware update writes and checks an image in the slot not in use. -/
def execPldmFirmwareUpdate (head : Nat) (component : Nat) (image : List Byte) (activate : Bool) (s : State) : Host.Outcome State Fault Refusal := onDev .standby (fxPldmFirmwareUpdate head component image activate) s

/-- SENSOR_UPDATE (R743): Every 10 ms the PLDM sensors are refreshed. -/
def execSensorUpdate (tj : List Nat) (tm : List Nat) (vin : Nat) (watts : Nat) (vr : List Nat) (s : State) : Host.Outcome State Fault Refusal := onDev .reset (fxSensorUpdate tj tm vin watts vr) s

/-- JTAG_EXTEST (R896): EXTEST controls the lands while the device is held in reset. -/
def execJtagExtest (lands : Nat) (tdi : Nat) (s : State) : Host.Outcome State Fault Refusal := onDev .reset (fxJtagExtest lands tdi) s

/-- JTAG_SAMPLE_PRELOAD (R895): SAMPLE/PRELOAD captures and loads the boundary-scan register. -/
def execJtagSamplePreload (lands : Nat) (tdi : Nat) (s : State) : Host.Outcome State Fault Refusal := onDev .reset (fxJtagSamplePreload lands tdi) s

/-- JTAG_BYPASS (R895): BYPASS places the one-bit bypass register between TDI and TDO. -/
def execJtagBypass (code : Nat) (n : Nat) (tdi : Nat) (s : State) : Host.Outcome State Fault Refusal := onDev .reset (fxJtagBypass code n tdi) s

/-- CHECK_RANGE_COMPLETE (R414): A CHECK_RANGE ends its read over memory, compares its CRC with CHK_EXPECT and completes with the result. -/
def execCheckRangeComplete (u : Nat) (s : State) : Host.Outcome State Fault Refusal := onDev .runs (fxCheckRangeComplete u) s

/-- CONFIGURATION_REQUEST (R801): A PCIe configuration request reaches a function and is answered with Request Retry Status before stage 6, or served, including VF Enable and BAR size writes. -/
def execConfigurationRequest (fn : Nat) (field : CfgField) (value : Option Nat) (s : State) : Host.Outcome State Fault Refusal := onDev .runs (fxConfigurationRequest fn field value) s

/-- TWIN_FIRMWARE_REQUEST (R804): A twin booting with BOOT_SRC 0b01 asks this device for its active firmware image, which is sent over the twin port. -/
def execTwinFirmwareRequest (s : State) : Host.Outcome State Fault Refusal := onDev .runs (fxTwinFirmwareRequest) s

/-- LANE_LOCK_TIMEOUT (R750): A port whose lanes do not all lock is sent back from LOCK at its 1 ms retry. -/
def execLaneLockTimeout (p : Nat) (s : State) : Host.Outcome State Fault Refusal := onDev .runs (fxLaneLockTimeout p) s

/-- RESTART_RESET_REPORT (R848): The job's lowest-indexed device receives a device's report that its reset for the restart is done, and fixes the restart breath once all have reported. -/
def execRestartResetReport (j : Nat) (dev : Nat) (s : State) : Host.Outcome State Fault Refusal := onDev .runs (fxRestartResetReport j dev) s

/-- VERSION_AVAILABLE_REPORT (R676): The deployment's lowest-indexed device receives a device's report that the new version is AVAILABLE there. -/
def execVersionAvailableReport (job : Nat) (model : Nat) (version : Nat) (device : Nat) (s : State) : Host.Outcome State Fault Refusal := onDev .runs (fxVersionAvailableReport job model version device) s

/-- CURRENCY_BREATH_ANNOUNCE (R676): A device of a deployment receives the breath number at which the new version becomes CURRENT. -/
def execCurrencyBreathAnnounce (job : Nat) (model : Nat) (version : Nat) (breath : Nat) (s : State) : Host.Outcome State Fault Refusal := onDev .runs (fxCurrencyBreathAnnounce job model version breath) s

/-- ALERT_DEASSERT (R832): SHELF_ALERT_N or COOL_ALERT_N rises and the 10 ms hold of the level-12 demand begins. -/
def execAlertDeassert (cool : Bool) (s : State) : Host.Outcome State Fault Refusal := onDev .reset (fxAlertDeassert cool) s

/-- I3C_DYNAMIC_ADDRESS_ASSIGNMENT (R890): The I3C bus owner assigns the management port its dynamic address, as after a reset that reassigns the endpoint. -/
def execI3cDynamicAddressAssignment (addr : Nat) (s : State) : Host.Outcome State Fault Refusal := onDev .standby (fxI3cDynamicAddressAssignment addr) s

/-- JTAG_DEBUG_ACCESS (R3): On an ITD12-A1-LE the JTAG port posts a command or reads and writes a space, register or control-complex state with no check. -/
def execJtagDebugAccess (op : DebugOp) (s : State) : Host.Outcome State Fault Refusal := onDev .reset (fxJtagDebugAccess op) s

/-- JTAG_TAP_RESET (R894): A low pulse on JTAG_TRST_N resets the test access port and its instruction register. -/
def execJtagTapReset (s : State) : Host.Outcome State Fault Refusal := onDev .reset (fxJtagTapReset) s

end Sys2Proof.Machine
end

