-- ==== Sys2Proof/Machine/Dispatch.lean ====
section
/-!
DEFINITION. One arm per command: the effect of a command on everything but the queue.
-/
namespace Sys2Proof.Machine

def exec (i : Instr) (s : State) : Host.Outcome State Fault Refusal :=
  match i with
  | .sqTailDoorbell fn session v => Sys2Proof.Machine.execSqTailDoorbell fn session v s
  | .entryFetch session data => Sys2Proof.Machine.execEntryFetch session data s
  | .cqHeadDoorbell fn session v => Sys2Proof.Machine.execCqHeadDoorbell fn session v s
  | .completionRecordWrite session n fail => Sys2Proof.Machine.execCompletionRecordWrite session n fail s
  | .msixHoldoffExpiry session => Sys2Proof.Machine.execMsixHoldoffExpiry session s
  | .sessionEnable port session word => Sys2Proof.Machine.execSessionEnable port session word s
  | .sessionDisable port session word => Sys2Proof.Machine.execSessionDisable port session word s
  | .functionLevelReset fn => Sys2Proof.Machine.execFunctionLevelReset fn s
  | .pfFunctionLevelReset => Sys2Proof.Machine.execPfFunctionLevelReset s
  | .perstOrHotReset => Sys2Proof.Machine.execPerstOrHotReset s
  | .apertureRead fn off n ce ue => Sys2Proof.Machine.execApertureRead fn off n ce ue s
  | .apertureWrite fn off data => Sys2Proof.Machine.execApertureWrite fn off data s
  | .regLoRead port off => Sys2Proof.Machine.execRegLoRead port off s
  | .regHiRead port off => Sys2Proof.Machine.execRegHiRead port off s
  | .regLoWrite port off word => Sys2Proof.Machine.execRegLoWrite port off word s
  | .regHiWrite port off word => Sys2Proof.Machine.execRegHiWrite port off word s
  | .registerWrite port off word => Sys2Proof.Machine.execRegisterWrite port off word s
  | .unsupportedBarAccess fn bar off bytes => Sys2Proof.Machine.execUnsupportedBarAccess fn bar off bytes s
  | .nop o => Sys2Proof.Machine.execNop o s
  | .fence o => Sys2Proof.Machine.execFence o s
  | .landingFence o => Sys2Proof.Machine.execLandingFence o s
  | .waitEvent o => Sys2Proof.Machine.execWaitEvent o s
  | .waitEventTimeout o => Sys2Proof.Machine.execWaitEventTimeout o s
  | .signal o => Sys2Proof.Machine.execSignal o s
  | .hubEvtCountWrite port v => Sys2Proof.Machine.execHubEvtCountWrite port v s
  | .imageLoad o => Sys2Proof.Machine.execImageLoad o s
  | .imageUnload o => Sys2Proof.Machine.execImageUnload o s
  | .stopLoad o => Sys2Proof.Machine.execStopLoad o s
  | .stopSwitch o => Sys2Proof.Machine.execStopSwitch o s
  | .boundSet o => Sys2Proof.Machine.execBoundSet o s
  | .prtStopLoadGo port p word => Sys2Proof.Machine.execPrtStopLoadGo port p word s
  | .prtStopSwitchGo port p word => Sys2Proof.Machine.execPrtStopSwitchGo port p word s
  | .stopLoadStart p storeFails => Sys2Proof.Machine.execStopLoadStart p storeFails s
  | .stopBlockReadComplete p storeFails => Sys2Proof.Machine.execStopBlockReadComplete p storeFails s
  | .stopLoadComplete p => Sys2Proof.Machine.execStopLoadComplete p s
  | .switchStart p => Sys2Proof.Machine.execSwitchStart p s
  | .drainEnd p cycles => Sys2Proof.Machine.execDrainEnd p cycles s
  | .switchComplete p => Sys2Proof.Machine.execSwitchComplete p s
  | .stopDrainTimeout p => Sys2Proof.Machine.execStopDrainTimeout p s
  | .tokenArrivalSwitch p site port scalar ch => Sys2Proof.Machine.execTokenArrivalSwitch p site port scalar ch s
  | .creditReturn p site port scalar ch => Sys2Proof.Machine.execCreditReturn p site port scalar ch s
  | .linkParityError p site port scalar ch => Sys2Proof.Machine.execLinkParityError p site port scalar ch s
  | .linkResend p site port scalar => Sys2Proof.Machine.execLinkResend p site port scalar s
  | .tokenArrivalCell p site scalar ch => Sys2Proof.Machine.execTokenArrivalCell p site scalar ch s
  | .cellBeat p site => Sys2Proof.Machine.execCellBeat p site s
  | .anchorPassComplete p site tag => Sys2Proof.Machine.execAnchorPassComplete p site tag s
  | .tileCapture p site => Sys2Proof.Machine.execTileCapture p site s
  | .vectorRowOutput p site => Sys2Proof.Machine.execVectorRowOutput p site s
  | .vecNop p site => Sys2Proof.Machine.execVecNop p site s
  | .vecAdd p site => Sys2Proof.Machine.execVecAdd p site s
  | .vecMul p site => Sys2Proof.Machine.execVecMul p site s
  | .vecFma p site => Sys2Proof.Machine.execVecFma p site s
  | .vecMax p site => Sys2Proof.Machine.execVecMax p site s
  | .vecMin p site => Sys2Proof.Machine.execVecMin p site s
  | .vecRowmax p site => Sys2Proof.Machine.execVecRowmax p site s
  | .vecRowsum p site => Sys2Proof.Machine.execVecRowsum p site s
  | .vecExp p site => Sys2Proof.Machine.execVecExp p site s
  | .vecRecip p site => Sys2Proof.Machine.execVecRecip p site s
  | .vecRsqrt p site => Sys2Proof.Machine.execVecRsqrt p site s
  | .vecMaskapply p site => Sys2Proof.Machine.execVecMaskapply p site s
  | .vecMove p site => Sys2Proof.Machine.execVecMove p site s
  | .generatorRunStart p site g => Sys2Proof.Machine.execGeneratorRunStart p site g s
  | .bankAccess p site bank => Sys2Proof.Machine.execBankAccess p site bank s
  | .t1WriteToken p site g => Sys2Proof.Machine.execT1WriteToken p site g s
  | .accumulateWrite p site g => Sys2Proof.Machine.execAccumulateWrite p site g s
  | .t1ParityReissue p site g => Sys2Proof.Machine.execT1ParityReissue p site g s
  | .valveTokenArrival p site scalar ch => Sys2Proof.Machine.execValveTokenArrival p site scalar ch s
  | .valveBeat p site parityOk => Sys2Proof.Machine.execValveBeat p site parityOk s
  | .valvePairingTimeout p site entry withDrain => Sys2Proof.Machine.execValvePairingTimeout p site entry withDrain s
  | .prtValveClearHw port p => Sys2Proof.Machine.execPrtValveClearHw port p s
  | .prtValvePeakClear p => Sys2Proof.Machine.execPrtValvePeakClear p s
  | .ringFillIssue p col ch => Sys2Proof.Machine.execRingFillIssue p col ch s
  | .ringFillComplete p col ch => Sys2Proof.Machine.execRingFillComplete p col ch s
  | .ringInject p col ch => Sys2Proof.Machine.execRingInject p col ch s
  | .outboundToken p col ch => Sys2Proof.Machine.execOutboundToken p col ch s
  | .ringWriteOut p col ch => Sys2Proof.Machine.execRingWriteOut p col ch s
  | .pushTokenArrival p col => Sys2Proof.Machine.execPushTokenArrival p col s
  | .queueWordWrite p => Sys2Proof.Machine.execQueueWordWrite p s
  | .packetVisible p q marker => Sys2Proof.Machine.execPacketVisible p q marker s
  | .popPortChoose p col ce ue => Sys2Proof.Machine.execPopPortChoose p col ce ue s
  | .stallMarkerTimeout p col => Sys2Proof.Machine.execStallMarkerTimeout p col s
  | .popSkipToken p col => Sys2Proof.Machine.execPopSkipToken p col s
  | .queueCreate o => Sys2Proof.Machine.execQueueCreate o s
  | .queueDestroy o => Sys2Proof.Machine.execQueueDestroy o s
  | .queuePush o ce ue => Sys2Proof.Machine.execQueuePush o ce ue s
  | .queuePop o ce ue => Sys2Proof.Machine.execQueuePop o ce ue s
  | .queuePopTimeout o => Sys2Proof.Machine.execQueuePopTimeout o s
  | .queueSkip o => Sys2Proof.Machine.execQueueSkip o s
  | .breathStart fails => Sys2Proof.Machine.execBreathStart fails s
  | .breathInEdge us => Sys2Proof.Machine.execBreathInEdge us s
  | .traceTrigEdge => Sys2Proof.Machine.execTraceTrigEdge s
  | .breathHoldover fails => Sys2Proof.Machine.execBreathHoldover fails s
  | .brtPeriodWrite port word => Sys2Proof.Machine.execBrtPeriodWrite port word s
  | .brtSrcWrite port word => Sys2Proof.Machine.execBrtSrcWrite port word s
  | .schArbBudgetWrite port c word => Sys2Proof.Machine.execSchArbBudgetWrite port c word s
  | .regulatorWrite port p k reg word => Sys2Proof.Machine.execRegulatorWrite port p k reg word s
  | .stepIssue p => Sys2Proof.Machine.execStepIssue p s
  | .stepCommit p => Sys2Proof.Machine.execStepCommit p s
  | .stepOverrun p => Sys2Proof.Machine.execStepOverrun p s
  | .ledgerParityFailure p unit site => Sys2Proof.Machine.execLedgerParityFailure p unit site s
  | .stepReplayReissue p fits => Sys2Proof.Machine.execStepReplayReissue p fits s
  | .droneStepIssue image => Sys2Proof.Machine.execDroneStepIssue image s
  | .dMatmul drone => Sys2Proof.Machine.execDMatmul drone s
  | .dAttn drone => Sys2Proof.Machine.execDAttn drone s
  | .dExchange drone => Sys2Proof.Machine.execDExchange drone s
  | .exchangeComplete image cycles => Sys2Proof.Machine.execExchangeComplete image cycles s
  | .dKvWrite drone => Sys2Proof.Machine.execDKvWrite drone s
  | .dVector drone => Sys2Proof.Machine.execDVector drone s
  | .dEmbed drone => Sys2Proof.Machine.execDEmbed drone s
  | .dSample drone => Sys2Proof.Machine.execDSample drone s
  | .dPush drone => Sys2Proof.Machine.execDPush drone s
  | .droneStepCommit drone => Sys2Proof.Machine.execDroneStepCommit drone s
  | .droneStepOverrun drone => Sys2Proof.Machine.execDroneStepOverrun drone s
  | .droneParityFailure drone unit => Sys2Proof.Machine.execDroneParityFailure drone unit s
  | .samplerRow failed => Sys2Proof.Machine.execSamplerRow failed s
  | .passCommit image fails => Sys2Proof.Machine.execPassCommit image fails s
  | .maskPreparationComplete job seq ns => Sys2Proof.Machine.execMaskPreparationComplete job seq ns s
  | .saveStep j => Sys2Proof.Machine.execSaveStep j s
  | .checkpointCut p => Sys2Proof.Machine.execCheckpointCut p s
  | .saveComplete j => Sys2Proof.Machine.execSaveComplete j s
  | .restoreStep j => Sys2Proof.Machine.execRestoreStep j s
  | .restoreComplete j => Sys2Proof.Machine.execRestoreComplete j s
  | .jobSuspend o => Sys2Proof.Machine.execJobSuspend o s
  | .jobResume o => Sys2Proof.Machine.execJobResume o s
  | .longOpStep id units busError data => Sys2Proof.Machine.execLongOpStep id units busError data s
  | .frontLoadStart p => Sys2Proof.Machine.execFrontLoadStart p s
  | .tileMove o => Sys2Proof.Machine.execTileMove o s
  | .pageMove o => Sys2Proof.Machine.execPageMove o s
  | .movResume o => Sys2Proof.Machine.execMovResume o s
  | .movDiscard o => Sys2Proof.Machine.execMovDiscard o s
  | .movCtrlResume port => Sys2Proof.Machine.execMovCtrlResume port s
  | .movCtrlDiscard port => Sys2Proof.Machine.execMovCtrlDiscard port s
  | .descriptorStart chan ce ue => Sys2Proof.Machine.execDescriptorStart chan ce ue s
  | .descriptorComplete chan done => Sys2Proof.Machine.execDescriptorComplete chan done s
  | .writeVisible entry => Sys2Proof.Machine.execWriteVisible entry s
  | .landingFenceComplete id => Sys2Proof.Machine.execLandingFenceComplete id s
  | .busError chan ring uid write addr cause done mask => Sys2Proof.Machine.execBusError chan ring uid write addr cause done mask s
  | .cxlCompletionTimeout chan ring uid write addr done mask => Sys2Proof.Machine.execCxlCompletionTimeout chan ring uid write addr done mask s
  | .granuleReread addr fails ce job part chan poisoned => Sys2Proof.Machine.execGranuleReread addr fails ce job part chan poisoned s
  | .t2Scrub stack granule found => Sys2Proof.Machine.execT2Scrub stack granule found s
  | .checkRange o ce ue => Sys2Proof.Machine.execCheckRange o ce ue s
  | .digest o ce ue => Sys2Proof.Machine.execDigest o ce ue s
  | .digestComplete e => Sys2Proof.Machine.execDigestComplete e s
  | .scorePacketRead r => Sys2Proof.Machine.execScorePacketRead r s
  | .galeIssue r p => Sys2Proof.Machine.execGaleIssue r p s
  | .galeDropReport r => Sys2Proof.Machine.execGaleDropReport r s
  | .returnPacketRead r => Sys2Proof.Machine.execReturnPacketRead r s
  | .dispatchClose r from_ => Sys2Proof.Machine.execDispatchClose r from_ s
  | .returnClose r from_ => Sys2Proof.Machine.execReturnClose r from_ s
  | .barometerCountExchange b counts => Sys2Proof.Machine.execBarometerCountExchange b counts s
  | .galRouteWrite port off v => Sys2Proof.Machine.execGalRouteWrite port off v s
  | .brmBiasWrite port off v => Sys2Proof.Machine.execBrmBiasWrite port off v s
  | .brmCtrlWrite port eta v => Sys2Proof.Machine.execBrmCtrlWrite port eta v s
  | .generate o prompt sampling => Sys2Proof.Machine.execGenerate o prompt sampling s
  | .cancel o => Sys2Proof.Machine.execCancel o s
  | .lull o => Sys2Proof.Machine.execLull o s
  | .resume o => Sys2Proof.Machine.execResume o s
  | .prefixBuild o tokens => Sys2Proof.Machine.execPrefixBuild o tokens s
  | .prefixRelease o => Sys2Proof.Machine.execPrefixRelease o s
  | .seqRelease o => Sys2Proof.Machine.execSeqRelease o s
  | .muteValidate o => Sys2Proof.Machine.execMuteValidate o s
  | .sampleRun o logits sampling => Sys2Proof.Machine.execSampleRun o logits sampling s
  | .libInit o => Sys2Proof.Machine.execLibInit o s
  | .libVersionAdd o => Sys2Proof.Machine.execLibVersionAdd o s
  | .libVersionRemove o => Sys2Proof.Machine.execLibVersionRemove o s
  | .libVersionCheck o => Sys2Proof.Machine.execLibVersionCheck o s
  | .libDeploy o => Sys2Proof.Machine.execLibDeploy o s
  | .libVersionLoad o => Sys2Proof.Machine.execLibVersionLoad o s
  | .libUndeploy o => Sys2Proof.Machine.execLibUndeploy o s
  | .shardDigestResult id busError bytes => Sys2Proof.Machine.execShardDigestResult id busError bytes s
  | .shardRescanDue shard => Sys2Proof.Machine.execShardRescanDue shard s
  | .twinShardRequest model version index digest => Sys2Proof.Machine.execTwinShardRequest model version index digest s
  | .partAssign o => Sys2Proof.Machine.execPartAssign o s
  | .funcGrant o => Sys2Proof.Machine.execFuncGrant o s
  | .cfgStoreRead o => Sys2Proof.Machine.execCfgStoreRead o s
  | .cfgStoreWrite o => Sys2Proof.Machine.execCfgStoreWrite o s
  | .cfgStoreRollback o => Sys2Proof.Machine.execCfgStoreRollback o s
  | .cfgStoreActivateFw o => Sys2Proof.Machine.execCfgStoreActivateFw o s
  | .resetRequest o => Sys2Proof.Machine.execResetRequest o s
  | .softwareReset => Sys2Proof.Machine.execSoftwareReset s
  | .powerCap o => Sys2Proof.Machine.execPowerCap o s
  | .mgtHostbootGo port word => Sys2Proof.Machine.execMgtHostbootGo port word s
  | .mgtJobRestart port => Sys2Proof.Machine.execMgtJobRestart port s
  | .fringBaseWrite port base => Sys2Proof.Machine.execFringBaseWrite port base s
  | .portDetectStart p => Sys2Proof.Machine.execPortDetectStart p s
  | .moduleReady p type => Sys2Proof.Machine.execModuleReady p type s
  | .mediaTimeout p => Sys2Proof.Machine.execMediaTimeout p s
  | .equaliseComplete p => Sys2Proof.Machine.execEqualiseComplete p s
  | .equaliseTimeout p => Sys2Proof.Machine.execEqualiseTimeout p s
  | .laneLockComplete p => Sys2Proof.Machine.execLaneLockComplete p s
  | .peerIdentity p domainId index port role => Sys2Proof.Machine.execPeerIdentity p domainId index port role s
  | .delayCalibration p roundTrips => Sys2Proof.Machine.execDelayCalibration p roundTrips s
  | .portRetryTimer p => Sys2Proof.Machine.execPortRetryTimer p s
  | .portLossTimeout p => Sys2Proof.Machine.execPortLossTimeout p s
  | .moduleRemoved p => Sys2Proof.Machine.execModuleRemoved p s
  | .portTestSelect port word => Sys2Proof.Machine.execPortTestSelect port word s
  | .blockReceive p lane wire => Sys2Proof.Machine.execBlockReceive p lane wire s
  | .blockNak p lane seq => Sys2Proof.Machine.execBlockNak p lane seq s
  | .slotSend p k => Sys2Proof.Machine.execSlotSend p k s
  | .transitForward p c slot payload => Sys2Proof.Machine.execTransitForward p c slot payload s
  | .plvWritePacket p c req cls addr data miss => Sys2Proof.Machine.execPlvWritePacket p c req cls addr data miss s
  | .plvQueuePacket p c req cls src addr producer level seq words miss => Sys2Proof.Machine.execPlvQueuePacket p c req cls src addr producer level seq words miss s
  | .plvReadReq p c req cls addr n ce ue miss => Sys2Proof.Machine.execPlvReadReq p c req cls addr n ce ue miss s
  | .plvResponse p c req status data => Sys2Proof.Machine.execPlvResponse p c req status data s
  | .reportNotice p c n => Sys2Proof.Machine.execReportNotice p c n s
  | .teardownNotice p c => Sys2Proof.Machine.execTeardownNotice p c s
  | .domainTick p breath period next skew => Sys2Proof.Machine.execDomainTick p breath period next skew s
  | .periodNak p => Sys2Proof.Machine.execPeriodNak p s
  | .liveFlood p set => Sys2Proof.Machine.execLiveFlood p set s
  | .mediaMonitor p temp tx far rx => Sys2Proof.Machine.execMediaMonitor p temp tx far rx s
  | .cmisRead port word value => Sys2Proof.Machine.execCmisRead port word value s
  | .cmisWrite port word ok => Sys2Proof.Machine.execCmisWrite port word ok s
  | .circuitSetup port => Sys2Proof.Machine.execCircuitSetup port s
  | .circuitTeardown port => Sys2Proof.Machine.execCircuitTeardown port s
  | .domainConfigWrite port off word => Sys2Proof.Machine.execDomainConfigWrite port off word s
  | .twinHeartbeatReceive breath => Sys2Proof.Machine.execTwinHeartbeatReceive breath s
  | .mirrorUpdate body => Sys2Proof.Machine.execMirrorUpdate body s
  | .mirrorAck position => Sys2Proof.Machine.execMirrorAck position s
  | .twinTakeover reads => Sys2Proof.Machine.execTwinTakeover reads s
  | .jobFaultMessage j origin serial => Sys2Proof.Machine.execJobFaultMessage j origin serial s
  | .restartHoldExpiry j => Sys2Proof.Machine.execRestartHoldExpiry j s
  | .partitionWarmResetComplete p => Sys2Proof.Machine.execPartitionWarmResetComplete p s
  | .restartBreathAnnounce j n => Sys2Proof.Machine.execRestartBreathAnnounce j n s
  | .powerOnReset lost => Sys2Proof.Machine.execPowerOnReset lost s
  | .brownOut vin => Sys2Proof.Machine.execBrownOut vin s
  | .railFail rail => Sys2Proof.Machine.execRailFail rail s
  | .rstNPulse samples => Sys2Proof.Machine.execRstNPulse samples s
  | .watchdogExpiry => Sys2Proof.Machine.execWatchdogExpiry s
  | .debugResetRequest => Sys2Proof.Machine.execDebugResetRequest s
  | .clockFailure => Sys2Proof.Machine.execClockFailure s
  | .lockUp => Sys2Proof.Machine.execLockUp s
  | .resetRelease => Sys2Proof.Machine.execResetRelease s
  | .bootStageComplete alive present dimms cxl => Sys2Proof.Machine.execBootStageComplete alive present dimms cxl s
  | .bootSourceTimeout => Sys2Proof.Machine.execBootSourceTimeout s
  | .uartXmodemBlock frame => Sys2Proof.Machine.execUartXmodemBlock frame s
  | .twinFirmwareImage image => Sys2Proof.Machine.execTwinFirmwareImage image s
  | .vinDroop => Sys2Proof.Machine.execVinDroop s
  | .droopLapse => Sys2Proof.Machine.execDroopLapse s
  | .tjSample tj => Sys2Proof.Machine.execTjSample tj s
  | .thermtrip => Sys2Proof.Machine.execThermtrip s
  | .powerAverage watts => Sys2Proof.Machine.execPowerAverage watts s
  | .alertAssert cool => Sys2Proof.Machine.execAlertAssert cool s
  | .alertReleaseExpiry cool => Sys2Proof.Machine.execAlertReleaseExpiry cool s
  | .rmTimeout => Sys2Proof.Machine.execRmTimeout s
  | .mctpControlMessage body => Sys2Proof.Machine.execMctpControlMessage body s
  | .renaihelRequest entry slow => Sys2Proof.Machine.execRenaihelRequest entry slow s
  | .pldmBaseDiscovery body => Sys2Proof.Machine.execPldmBaseDiscovery body s
  | .pldmSensorRead head sensor => Sys2Proof.Machine.execPldmSensorRead head sensor s
  | .pldmFirmwareUpdate head component image activate => Sys2Proof.Machine.execPldmFirmwareUpdate head component image activate s
  | .sensorUpdate tj tm vin watts vr => Sys2Proof.Machine.execSensorUpdate tj tm vin watts vr s
  | .jtagExtest lands tdi => Sys2Proof.Machine.execJtagExtest lands tdi s
  | .jtagSamplePreload lands tdi => Sys2Proof.Machine.execJtagSamplePreload lands tdi s
  | .jtagBypass code n tdi => Sys2Proof.Machine.execJtagBypass code n tdi s
  | .checkRangeComplete u => Sys2Proof.Machine.execCheckRangeComplete u s
  | .configurationRequest fn field value => Sys2Proof.Machine.execConfigurationRequest fn field value s
  | .twinFirmwareRequest => Sys2Proof.Machine.execTwinFirmwareRequest s
  | .laneLockTimeout p => Sys2Proof.Machine.execLaneLockTimeout p s
  | .restartResetReport j dev => Sys2Proof.Machine.execRestartResetReport j dev s
  | .versionAvailableReport job model version device => Sys2Proof.Machine.execVersionAvailableReport job model version device s
  | .currencyBreathAnnounce job model version breath => Sys2Proof.Machine.execCurrencyBreathAnnounce job model version breath s
  | .alertDeassert cool => Sys2Proof.Machine.execAlertDeassert cool s
  | .i3cDynamicAddressAssignment addr => Sys2Proof.Machine.execI3cDynamicAddressAssignment addr s
  | .jtagDebugAccess op => Sys2Proof.Machine.execJtagDebugAccess op s
  | .jtagTapReset => Sys2Proof.Machine.execJtagTapReset s

end Sys2Proof.Machine
end

