-- ==== Sys2Proof/Safety.lean ====
section
/-!
DEFINITION. The terms that claims are stated in: when the device runs, what it means that a command ends, and what stays as it
was.
-/
namespace Sys2Proof.Machine

/-- The device runs: no reset is under way, THERMTRIP_N has not been driven, and no command is in the middle of its writes
(the log of writes is empty between commands). -/
abbrev Running (s : State) : Prop :=
  s.dev.supplies.tripped = false ∧ s.dev.resetRun = none ∧ s.dev.wlog = []

/-- Command `c` ends from `s` in a next state: the queue is the same, the device meets `P`. -/
def Ends (c : Instr) (s : State) (P : Device → Prop) : Prop :=
  ∃ t, exec c s = .next t ∧ t.pending = s.pending ∧ P t.dev

/-- Between commands: memory stands in its canonical form and nothing is left to be written. -/
abbrev Settled (s : State) : Prop := Memory.wf s.dev.mem = true ∧ s.dev.wlog = []

/-- The next staged command of an origin under an opcode. -/
abbrev Next (s : State) (o : Origin) (opcode : Nat) (e : Staged) : Prop := s.dev.startable o opcode = some e

/-- Port `p` has gone DOWN from `s` with a cause, or with the cause that stood there: its link starts afresh; on a Plovlink port that
carries no circuit nothing else changes but its status and its count of falls. -/
def WentDown (s : State) (p : Nat) (cause : Option Nat) (d : Device) : Prop :=
  (d.link p).media = false ∧ (d.link p).lanes = [] ∧ (d.link p).transit = [] ∧ (d.link p).reports = [] ∧
  (p < 16 → (∀ e ∈ s.dev.circuits, e.1 / 64 ≠ p) →
    d.portState p = 0 ∧ d.regField (regKey PLV_PORT_STATUS p) 28 21 = 0 ∧
    (∀ c, cause = some c → d.regField (regKey PLV_PORT_STATUS p) 3 0 = c % 16) ∧
    d.reg (regKey PLV_DOWN_COUNT p) = satAdd 32 (s.dev.reg (regKey PLV_DOWN_COUNT p)) 1 ∧
    (∀ q, q ≠ p → d.portState q = s.dev.portState q ∧ d.link q = s.dev.link q) ∧
    d = { s.dev with regs := d.regs, ports := d.ports, freeCounter := d.freeCounter })

end Sys2Proof.Machine
end

