-- ==== Sys2Proof/Certificates/Slice0/Obligations.lean ====
section
/-!
DEFINITION. The statements about the block: what each command does, what it leaves, and what holds of every step.
-/
open Sys2Proof Sys2Proof.Machine

/-! ### The step, the queue and memory -/

/-- The step takes the command at the front of the queue and answers what its meaning answers on the rest; on an empty queue
the block idles (log entry 1). -/
def Obligations.StepRunsFrontCommand : Prop :=
  (∀ (c : Instr) (rest : List Instr) (d : Device),
    step { dev := d, pending := c :: rest } = exec c { dev := d, pending := rest }) ∧
  (∀ d : Device, step { dev := d, pending := [] } = .next { dev := d, pending := [] })

/-- Every command, from every state, ends in a next state whose queue is as it was: no command of the table is refused or
faults. -/
def Obligations.EveryCommandAnswersNext : Prop :=
  ∀ (c : Instr) (s : State), Ends c s (fun _ => True)

/-- R817, R824, R830 and log entry 2: with THERMTRIP_N driven low no command but a new power-on, a brown-out or a failing rail
changes anything. -/
def Obligations.TrippedDeviceStandsStill : Prop :=
  ∀ (c : Instr) (s : State), s.dev.supplies.tripped = true → (∀ lost, c ≠ .powerOnReset lost) → (∀ vin, c ≠ .brownOut vin) →
    (∀ rail, c ≠ .railFail rail) → exec c s = .next s

/-- The canonical form of memory, and that no change of memory is left over, are kept by every step. -/
def Obligations.StepKeepsMemoryCanonical : Prop :=
  ∀ s t : State, Settled s → step s = .next t → Settled t

/-- R117 to R119: the bits of a token of either network, and their even parity. -/
def Obligations.TokenBits : Prop :=
  ∀ t : Token,
    let v := t.vectorBits.toNat
    let c := t.scalarBits.toNat
    let ones := fun (n lo k : Nat) => ((List.range k).filter (fun i => n.testBit (lo + i))).length
    let kind := match t.kind with | .data => 0 | .control => 1 | .gap => 2 | .reserved => 3
    (∀ i, i < 64 → (t.bytes.getD i 0).toNat = bitsOf v (8 * i + 7) (8 * i)) ∧ bitsOf v 511 0 = t.payload.toNat ∧
    bitsOf v 523 512 = t.tag % 4096 ∧ bitsOf v 525 524 = t.epoch % 4 ∧ v.testBit 526 = t.fin ∧ bitsOf v 528 527 = kind ∧
    (∀ w, 0 < w → w < 16 → (ones v (32 * w) 32 + ones v (529 + w) 1) % 2 = 0) ∧
    (ones v 0 32 + ones v 512 17 + ones v 529 1) % 2 = 0 ∧
    bitsOf c 31 0 = t.payload.toNat % 2 ^ 32 ∧ bitsOf c 43 32 = t.tag % 4096 ∧ bitsOf c 45 44 = t.epoch % 4 ∧
    c.testBit 46 = t.fin ∧ bitsOf c 48 47 = kind ∧ ones c 0 50 % 2 = 0

/-- R49 to R51, R596, R821 to R824, R877: the state after reset is settled, with memory and the queue empty, no reset under way, no
session, job, image or circuit; the reset is recorded as a power-on, and the device runs from its supplies. The instant (just after the
release of the first power-on's reset, its backup domain lost) is the model's choice (log entry 2). -/
def Obligations.ResetIsSettled : Prop :=
  let d := State.reset.dev
  Settled State.reset ∧ d.mem = [] ∧ State.reset.pending = [] ∧ Running State.reset ∧
  d.sessions = [] ∧ d.jobs = [] ∧ d.images = [] ∧ d.circuits = [] ∧ d.staged = [] ∧ d.boot.stage = 0 ∧ d.boot.done = false ∧
  (∃ t, exec (.powerOnReset true) { dev := {} } = .next t ∧ exec .resetRelease t = .next State.reset) ∧
  d.regField RCU_CAUSE 0 0 = 1 ∧ d.reg RCU_COUNT_TOTAL = 1 ∧
  d.regField PMU_STATUS 31 30 = 1 ∧ d.regField RCU_BOOT 3 0 = 1 ∧ d.reg BRT_PERIOD = 100 ∧ d.reg PLV_MEMBERS = 0 ∧
  (∀ p, p ≤ 16 → d.portState p = 0 ∧ d.portEnabled p = true)

/-- What a read of one byte gives after a command is what the command's last change of that byte made of it, and the byte as
before where it changed none: each byte written, each range zeroed, each reset, in order. -/
def Obligations.MemoryAfterCommand : Prop :=
  ∀ (g : Gate) (f : Device → Device) (s t : State) (a : Nat), Settled s → g.isOpen s.dev = true → onDev g f s = .next t →
    Memory.get t.dev.mem a = (lastWrite a (f s.dev).wlog).getD (Memory.get s.dev.mem a) ∧
    t.dev.readByte a = Memory.get t.dev.mem a

/-! ### Sessions, doorbells and records (15_host_port) -/

/-- What a completion does, whatever the command: its staging word frees; a session's record waits behind the others with the
command's tag, the status and eight bytes of value, and a waiting progress record of the same command goes; a management
request is answered by one message; nothing else of the device changes but these. -/
def Obligations.CompletionPostsOneRecord : Prop :=
  ∀ (d : Device) (c : CmdRef) (st : Nat) (v : List Byte),
    (d.complete c st v).staged = d.staged.filter (fun t => t.cmd.uid != c.uid) ∧
    (d.complete c st v) = { d with staged := (d.complete c st v).staged, records := (d.complete c st v).records
                                   out := (d.complete c st v).out } ∧
    (∀ n, c.origin = .session n → (d.complete c st v).out = d.out ∧
      Table.getD (d.complete c st v).records n [] =
        (Table.getD d.records n []).filter (fun q => !(q.uid == c.uid && q.progress)) ++
          [{ uid := c.uid, tag := c.tag, status := BitVec.ofNat 16 st, opcode := c.opcode, inst := c.inst,
             value := padTo 8 v }] ∧
      ∀ k, k ≠ n → Table.getD (d.complete c st v).records k [] = Table.getD d.records k []) ∧
    ((∀ n, c.origin ≠ .session n) → (d.complete c st v).records = d.records) ∧
    (c.origin = .mgmt → ∃ m, (d.complete c st v).out = d.out ++ [.mctp 0x7E m])

/-- R714, R717, R719, R723: a tail doorbell in range publishes entries, a head doorbell in range frees ring space; out of range
either halts a running session, with ERR 1 and ERR 4. Nothing else changes.
R715, R716: ENABLE of an OFF session by a port that reaches it sets the session RUNNING with its pointers and ERR at 0 and
phase 1, and waiting records of before are gone; disabling a RUNNING session makes it DRAINING while a started command of it is
staged, and OFF where it has no command and no record left. Nothing but the session and its records changes. -/
def Obligations.SessionsAndDoorbells : Prop :=
  (∀ (s : State) (n v : Nat), Running s → n < 4096 → (s.dev.session n).state = .running →
      (v % 65536 < 2 ^ (s.dev.session n).sqLog →
        Ends (.sqTailDoorbell (s.dev.session n).fn n v) s (fun d =>
          d = { s.dev with sessions := Table.put s.dev.sessions n { s.dev.session n with tail := v % 65536 } })) ∧
      (2 ^ (s.dev.session n).sqLog ≤ v % 65536 →
        Ends (.sqTailDoorbell (s.dev.session n).fn n v) s (fun d =>
          d = { s.dev with sessions := Table.put s.dev.sessions n { s.dev.session n with state := .halted, err := 1 } })) ∧
      (v % 65536 < 2 ^ (s.dev.session n).cqLog →
        Ends (.cqHeadDoorbell (s.dev.session n).fn n v) s (fun d =>
          d = { s.dev with sessions := Table.put s.dev.sessions n { s.dev.session n with head := v % 65536 } })) ∧
      (2 ^ (s.dev.session n).cqLog ≤ v % 65536 →
        Ends (.cqHeadDoorbell (s.dev.session n).fn n v) s (fun d =>
          d = { s.dev with sessions := Table.put s.dev.sessions n { s.dev.session n with state := .halted, err := 4 } }))) ∧
  (∀ (s : State) (port : Port) (n word : Nat), Running s → s.dev.maySession port n = true →
      ((s.dev.session n).state = .off → s.dev.boot.done = true →
        Ends (.sessionEnable port n word) s (fun d =>
          (d.session n).state = .running ∧ (d.session n).enable = true ∧ (d.session n).err = 0 ∧ (d.session n).sqHead = 0 ∧
          (d.session n).tail = 0 ∧ (d.session n).cqTail = 0 ∧ (d.session n).head = 0 ∧ (d.session n).phase = true ∧
          (d.session n).fn = (s.dev.session n).fn ∧ Table.find? d.records n = none ∧
          (∀ k, k ≠ n → d.session k = s.dev.session k ∧ Table.find? d.records k = Table.find? s.dev.records k) ∧
          d = { s.dev with sessions := d.sessions, records := d.records })) ∧
      ((s.dev.session n).state = .running → (∀ t ∈ s.dev.staged, t.cmd.origin = .session n → t.started = true) →
        (s.dev.staged.any (fun t => t.cmd.origin == .session n) = true →
          Ends (.sessionDisable port n word) s (fun d =>
            (d.session n).state = .draining ∧ (d.session n).enable = false ∧ d = { s.dev with sessions := d.sessions })) ∧
        (s.dev.staged.any (fun t => t.cmd.origin == .session n) = false → Table.getD s.dev.records n [] = [] →
          Ends (.sessionDisable port n word) s (fun d =>
            (d.session n).state = .off ∧ (d.session n).enable = false ∧ d = { s.dev with sessions := d.sessions }))))

/-- R719, R730: a fetched entry that passes its checks is staged at the end of the order, under the next number, and SQ_HEAD
advances around the ring; one that fails them is answered with the status of its first failed check. -/
def Obligations.FetchStagesOrRefuses : Prop :=
  ∀ (s : State) (n : Nat) (b : List Byte), Running s → (s.dev.session n).state = .running →
    (s.dev.session n).sqHead ≠ (s.dev.session n).tail → s.dev.boot.done = true → s.dev.mirroring = false → b.length = 64 →
    (s.dev.validateEntry (s.dev.session n).port b = 0 →
      s.dev.stagingRoom (.session n) (s.dev.homeOf (s.dev.session n).port b) = true →
      Ends (.entryFetch n (some b)) s (fun d =>
        (∃ e : Staged, d.staged = s.dev.staged ++ [e] ∧ e.cmd.origin = .session n ∧ e.cmd.uid = s.dev.nextUid ∧
          e.cmd.port = (s.dev.session n).port ∧ e.cmd.opcode = leAt b 0 1 ∧ e.entry = b ∧ e.started = false) ∧
        d.session n = { s.dev.session n with sqHead := ((s.dev.session n).sqHead + 1) % 2 ^ (s.dev.session n).sqLog } ∧
        d.nextUid = s.dev.nextUid + 1 ∧
        d = { s.dev with staged := d.staged, sessions := d.sessions, nextUid := d.nextUid })) ∧
    (s.dev.validateEntry (s.dev.session n).port b ≠ 0 →
      Ends (.entryFetch n (some b)) s (fun d =>
        (∃ r ∈ Table.getD d.records n [], r.uid = s.dev.nextUid ∧
          r.status = BitVec.ofNat 16 (s.dev.validateEntry (s.dev.session n).port b) ∧
          r.tag = BitVec.ofNat 32 (leAt b 4 4)) ∧
        d.session n = { s.dev.session n with sqHead := ((s.dev.session n).sqHead + 1) % 2 ^ (s.dev.session n).sqLog } ∧
        d.mem = s.dev.mem ∧ d.regs = s.dev.regs))

/-- R722, R723, R726: the oldest waiting record of a running session is written at CQ_TAIL with the current phase, CQ_TAIL
advances and the phase turns where it passes the end of the ring; one message follows, or is owed within the holdoff; when the
holdoff ends an owed message is sent. -/
def Obligations.RecordsAndMessagesLeave : Prop :=
  ∀ (s : State) (n : Nat), Running s →
    (∀ r l, (s.dev.session n).state = .running → (s.dev.session n).silent = false → (s.dev.session n).cqFull = false →
      Table.getD s.dev.records n [] = r :: l → s.dev.mirroring = false →
      Ends (.completionRecordWrite n 1 false) s (fun d =>
        d.out = s.dev.out ++ [Out.hostWrite (s.dev.session n).fn
            (BitVec.ofNat 64 ((s.dev.session n).cqBase + 16 * (s.dev.session n).cqTail))
            (r.bytes (bit (s.dev.session n).phase))] ++
          (if (s.dev.session n).irq && !(s.dev.session n).quiet then
             [Out.msix (s.dev.session n).fn (s.dev.session n).vector] else []) ∧
        Table.getD d.records n [] = l ∧
        (d.session n).cqTail = ((s.dev.session n).cqTail + 1) % 2 ^ (s.dev.session n).cqLog ∧
        (d.session n).phase = (if ((s.dev.session n).cqTail + 1) % 2 ^ (s.dev.session n).cqLog = 0
          then !(s.dev.session n).phase else (s.dev.session n).phase) ∧
        ((s.dev.session n).irq = true → (s.dev.session n).quiet = true → (d.session n).owed = true) ∧
        d = { s.dev with out := d.out, records := d.records, sessions := d.sessions })) ∧
    ((s.dev.session n).quiet = true →
      Ends (.msixHoldoffExpiry n) s (fun d =>
        d.out = s.dev.out ++ (if (s.dev.session n).owed then [Out.msix (s.dev.session n).fn (s.dev.session n).vector] else []) ∧
        (d.session n).quiet = ((s.dev.session n).owed && decide (0 < (s.dev.session n).holdoff)) ∧
        ((s.dev.session n).owed = true → (d.session n).owed = false) ∧
        d = { s.dev with out := d.out, sessions := d.sessions }))

/-- R697, R698, R820: a reset of a function with no request in the tables leaves none of its sessions running or halted; the
physical function's reset clears VF Enable too, and a fundamental reset all that configuration requests have set. Memory stays. -/
def Obligations.FunctionResetsDisableSessions : Prop :=
  ∀ (s : State), Running s → s.dev.seqs = [] →
    (∀ fn, 1 ≤ fn → fn ≤ 63 → s.dev.pcie.vfEnable = true →
      Ends (.functionLevelReset fn) s (fun d =>
        (∀ n x, (n, x) ∈ s.dev.sessions → (s.dev.session n).fn = fn → x.fn = fn →
          (d.session n).state ≠ .running ∧ (d.session n).state ≠ .halted) ∧
        d.mem = s.dev.mem ∧ d.parts = s.dev.parts)) ∧
    Ends .pfFunctionLevelReset s (fun d => d.pcie.vfEnable = false ∧ d.mem = s.dev.mem ∧ d.parts = s.dev.parts) ∧
    Ends .perstOrHotReset s (fun d => d.pcie = {} ∧ d.mem = s.dev.mem ∧ d.parts = s.dev.parts)

/-! ### Control commands, events, assignment and grants -/

/-- R732 to R735: NOP, FENCE (once every earlier command of its origin has completed), WAIT_EVENT and its timeout complete with
their status and value; SIGNAL and a write of HUB_EVT_COUNT change one event's count, modulo 2^32, and no other register. -/
def Obligations.ControlCommandsComplete : Prop :=
  ∀ (s : State) (o : Origin) (e : Staged), Running s →
    (Next s o 0x00 e → Ends (.nop o) s (fun d => d = (s.dev.start e).complete e.cmd 0 [])) ∧
    (Next s o 0x01 e → s.dev.earlierDone e.cmd = true →
      Ends (.fence o) s (fun d => d = (s.dev.start e).complete e.cmd 0 [])) ∧
    (Next s o 0x01 e → s.dev.earlierDone e.cmd = false → Ends (.fence o) s (fun d => d = s.dev)) ∧
    (Next s o 0x03 e → (∀ t ∈ s.dev.staged, t.cmd.opcode = 0x03 → t.started = false ∧ (t.cmd.uid = e.cmd.uid → t = e)) →
      e ∈ s.dev.staged →
      (s.dev.eventReached e = true → Ends (.waitEvent o) s (fun d =>
        (∀ t ∈ d.staged, t.cmd.uid ≠ e.cmd.uid) ∧ d.regs = s.dev.regs ∧ d.mem = s.dev.mem)) ∧
      (s.dev.eventReached e = false → Ends (.waitEvent o) s (fun d => d = s.dev.start e))) ∧
    (s.dev.startedOp o 0x03 = some e → e.op 12 4 ≠ 0 →
      Ends (.waitEventTimeout o) s (fun d => d = s.dev.complete e.cmd 0x0105 (leBytes 4 (s.dev.eventCount e.aux)))) ∧
    (Next s o 0x04 e → s.dev.earlierDone e.cmd = true →
      Ends (.signal o) s (fun d =>
        d.eventCount e.aux = (s.dev.eventCount e.aux + e.op 8 4) % 2 ^ 32 ∧
        (∀ k, k ≠ regKey HUB_EVT_COUNT e.aux → d.reg k = s.dev.reg k) ∧
        (∀ t ∈ d.staged, t.cmd.uid ≠ e.cmd.uid) ∧ d.mem = s.dev.mem)) ∧
    (∀ (port : Port) (v : Nat), s.dev.mayEvent port (bitsOf (s.dev.portReg port HUB_EVT_SEL) 10 0) = true →
      Ends (.hubEvtCountWrite port v) s (fun d =>
        d.eventCount (bitsOf (s.dev.portReg port HUB_EVT_SEL) 10 0) = v % 2 ^ 32 ∧
        (∀ k, k ≠ regKey HUB_EVT_COUNT (bitsOf (s.dev.portReg port HUB_EVT_SEL) 10 0) → d.reg k = s.dev.reg k) ∧
        d.mem = s.dev.mem))

/-- R709 to R712: PART_ASSIGN gives a free partition its function and its store sizes and touches no other partition;
FUNC_GRANT of a window lists or removes it, of events or routes makes the function their owner; both complete with 0. -/
def Obligations.AssignmentAndGrants : Prop :=
  ∀ (s : State) (o : Origin) (e : Staged), Running s →
    (Next s o 0x77 e → e.op 1 1 = 0 → e.aux = 0 → e.op 10 2 = 0 → allZero (sliceOf e.entry 20 44) = true → e.op 8 1 ≤ 11 →
      (e.op 9 1 ≤ 63 ∨ e.op 9 1 = 255) → e.op 12 4 % 4 = 0 → 4 ≤ e.op 12 4 → e.op 12 4 ≤ 2048 → e.op 16 4 = 0 →
      (s.dev.part (e.op 8 1)).job = 0 → s.dev.imagesOn (e.op 8 1) = [] →
      Ends (.partAssign o) s (fun d =>
        d.part (e.op 8 1) = { s.dev.part (e.op 8 1) with owner := e.op 9 1, staging := e.op 12 4, lull := 0 } ∧
        (∀ q, q ≠ e.op 8 1 → d.part q = s.dev.part q) ∧
        d = ({ s.dev.start e with parts := d.parts } : Device).complete e.cmd 0 [])) ∧
    (Next s o 0x78 e → e.op 1 1 = 0 → e.aux = 0 → e.op 8 1 = 3 → e.op 9 1 ≤ 63 → e.op 10 1 ≤ 15 →
      allZero (sliceOf e.entry 12 4) = true → allZero (sliceOf e.entry 32 32) = true →
      s.dev.windowBad (e.op 11 1) (e.op 16 8) (e.op 24 8) = false →
      Ends (.funcGrant o) s (fun d =>
        Table.find? d.grants (16 * e.op 9 1 + e.op 10 1) =
          (if e.op 24 8 = 0 then none else some { base := e.op 16 8, bytes := e.op 24 8, write := e.op 11 1 == 3 }) ∧
        (∀ k, k ≠ 16 * e.op 9 1 + e.op 10 1 → Table.find? d.grants k = Table.find? s.dev.grants k) ∧
        d = ({ s.dev.start e with grants := d.grants } : Device).complete e.cmd 0 [])) ∧
    (Next s o 0x78 e → e.op 1 1 = 0 → e.aux = 0 → e.op 8 1 = 1 → e.op 9 1 ≤ 63 → e.op 10 2 = 0 →
      allZero (sliceOf e.entry 20 44) = true → e.op 12 4 + e.op 16 4 ≤ 2048 →
      (∀ t ∈ s.dev.staged, (t.cmd.opcode = 0x03 → t.started = false) ∧ (t.cmd.uid = e.cmd.uid → t = e)) →
      Ends (.funcGrant o) s (fun d =>
        (∀ i, e.op 12 4 ≤ i → i < e.op 12 4 + e.op 16 4 → d.eventOwner i = e.op 9 1) ∧
        (∀ i, (i < e.op 12 4 ∨ e.op 12 4 + e.op 16 4 ≤ i) → d.eventOwner i = s.dev.eventOwner i) ∧
        d = ({ s.dev.start e with owners := d.owners } : Device).complete e.cmd 0 []))

/-- R741, R742, R833: a Renaihel request is a message of the bus owner (RM_LOST clears); an entry that passes its checks is staged
under the management port's origin, and answered at once by an acceptance record where it will take longer; a sixteenth
outstanding request is answered QUEUE_FULL and nothing is staged. -/
def Obligations.RenaihelRequestIsStaged : Prop :=
  ∀ (s : State) (entry : List Byte) (slow : Bool), Running s → s.dev.supplies.vstby = true → s.dev.supplies.vio = true →
    s.dev.mirroring = false → entry.length = 64 →
    ((s.dev.staged.filter (fun t => t.cmd.origin == .mgmt)).length < 16 → s.dev.rmHeard.validateEntry .mgmt entry = 0 →
      s.dev.rmHeard.stagingRoom .mgmt (s.dev.rmHeard.homeOf .mgmt entry) = true →
      Ends (.renaihelRequest entry slow) s (fun d =>
        (∃ e : Staged, d.staged = s.dev.staged ++ [e] ∧ e.cmd.origin = .mgmt ∧ e.cmd.uid = s.dev.nextUid ∧
          e.cmd.opcode = leAt entry 0 1 ∧ e.cmd.late = slow ∧ e.entry = entry) ∧
        (∃ m, d.out = s.dev.out ++ (if slow then [Out.mctp 0x7E m] else [])) ∧
        (∀ k, k ≠ PMU_STATUS → d.reg k = s.dev.reg k) ∧ d.regField PMU_STATUS 27 27 = 0 ∧
        d = { s.dev with staged := d.staged, out := d.out, nextUid := d.nextUid, regs := d.regs })) ∧
    (16 ≤ (s.dev.staged.filter (fun t => t.cmd.origin == .mgmt)).length →
      Ends (.renaihelRequest entry slow) s (fun d =>
        (∃ m, d.out = s.dev.out ++ [Out.mctp 0x7E m] ∧ leAt m 5 2 = 0x0108) ∧ d.staged = s.dev.staged ∧ d.mem = s.dev.mem))

/-! ### Registers and apertures -/

/-- R16, R17: a port's read of a low half answers the low half and keeps the high half of that moment for that port; its next
read of the high half answers what was kept and forgets it. No other port's snapshot changes.
Without a snapshot a read of the high half answers the live one. R18, R19, R713: a write of a low half waits in the port's holding register and changes no register; the write of the high half of
an OFF session's ring base takes both halves at once and empties the holding register; with no low half held, the current low half
stays. -/
def Obligations.RegisterPairs : Prop :=
  (∀ (s : State) (port : Port) (off : Nat), Running s → s.dev.portAnswers port = true →
      (pairHalf off = 1 →
        Ends (.regLoRead port off) s (fun d =>
          d.out = s.dev.out ++ [.value port (leBytes 4 (s.dev.peekReg port off))] ∧
          Table.find? d.snaps (portKey (off + 4) port) = some (s.dev.peekReg port (off + 4)) ∧
          (∀ k, k ≠ portKey (off + 4) port → Table.find? d.snaps k = Table.find? s.dev.snaps k) ∧
          d = { s.dev with out := d.out, snaps := d.snaps })) ∧
      (∀ v, pairHalf off = 2 → Table.find? s.dev.snaps (portKey off port) = some v →
        Ends (.regHiRead port off) s (fun d =>
          d.out = s.dev.out ++ [.value port (leBytes 4 v)] ∧ Table.find? d.snaps (portKey off port) = none ∧
          (∀ k, k ≠ portKey off port → Table.find? d.snaps k = Table.find? s.dev.snaps k) ∧
          d = { s.dev with out := d.out, snaps := d.snaps })) ∧
      (pairHalf off = 2 → Table.find? s.dev.snaps (portKey off port) = none →
        Ends (.regHiRead port off) s (fun d =>
          d = { s.dev with out := s.dev.out ++ [.value port (leBytes 4 (s.dev.peekReg port off))] }))) ∧
  (∀ (s : State) (port : Port) (n lo hi : Nat), Running s → s.dev.portAnswers port = true → n < 4096 →
      s.dev.maySession port n = true →
      Ends (.regLoWrite port (sessionBase + 0x40 * n + 0x04) lo) s (fun d =>
        Table.find? d.holds (portKey (sessionBase + 0x40 * n + 0x04) port) = some (lo % 2 ^ 32) ∧
        d = { s.dev with holds := d.holds }) ∧
      ((s.dev.session n).enable = false → (s.dev.session n).state = .off →
        Table.find? s.dev.holds (portKey (sessionBase + 0x40 * n + 0x04) port) = some lo →
        Ends (.regHiWrite port (sessionBase + 0x40 * n + 0x08) hi) s (fun d =>
          d.session n = { s.dev.session n with sqBase := lo % 2 ^ 32 + 2 ^ 32 * (hi % 2 ^ 32) } ∧
          Table.find? d.holds (portKey (sessionBase + 0x40 * n + 0x04) port) = none ∧
          (∀ k, k ≠ n → d.session k = s.dev.session k) ∧
          d = { s.dev with sessions := d.sessions, holds := d.holds })) ∧
      ((s.dev.session n).enable = false → (s.dev.session n).state = .off →
        Table.find? s.dev.holds (portKey (sessionBase + 0x40 * n + 0x04) port) = none →
        Ends (.regHiWrite port (sessionBase + 0x40 * n + 0x08) hi) s (fun d =>
          d.session n = { s.dev.session n with sqBase := (s.dev.session n).sqBase % 2 ^ 32 + 2 ^ 32 * (hi % 2 ^ 32) } ∧
          d = { s.dev with sessions := d.sessions, holds := d.holds })))

/-- R704, R13: a write of a port's selection register changes that port's copy and no other register; a write of a read-only
register (HUB_SIZE_COUNT) changes nothing. -/
def Obligations.RegisterWriteKeepsPortsApart : Prop :=
  ∀ (s : State) (port : Port) (v : Nat), Running s → s.dev.portAnswers port = true →
    (port = .pf ∨ port = .mgmt →
      Ends (.registerWrite port HUB_EVT_SEL v) s (fun d =>
        d.portReg port HUB_EVT_SEL % 2 ^ 11 = v % 2 ^ 11 ∧
        (∀ k, k ≠ portKey HUB_EVT_SEL port → d.reg k = s.dev.reg k) ∧ d = { s.dev with regs := d.regs }) ∧
      Ends (.registerWrite port HUB_SIZE_COUNT v) s (fun d =>
        (∀ k, d.reg k = s.dev.reg k) ∧ d = { s.dev with regs := d.regs }))

/-- R47, R701 to R703: an access of a width that a BAR does not support is answered Unsupported Request and changes nothing;
a read through a granted aperture answers the bytes of the domain address; a read through an aperture that is off answers zeros
and is latched with REASON 3; a write through an aperture stores its bytes and no others. -/
def Obligations.HostAccessesReachMemory : Prop :=
  ∀ (s : State) (fn off : Nat), Running s → s.dev.fnAnswers fn = true →
    (∀ bar bytes, (bar = 0 ∨ bar = 2) → ((bytes == 4 && off % 4 == 0) || (bar == 0 && bytes == 8 && off % 8 == 0)) = false →
      Ends (.unsupportedBarAccess fn bar off bytes) s (fun d => d = { s.dev with out := s.dev.out ++ [.pcie 1 []] })) ∧
    (∀ n a, 0 < n → s.dev.bootWindow fn off n = false → s.dev.apertureAddr fn off = some a → s.dev.hostError fn a n false = none →
      s.dev.isSelf (addrDevice a) = true → addrSpace a = 2 → s.dev.poisonIn (localKey a) n = none →
      Ends (.apertureRead fn off n 0 none) s (fun d =>
        d.out = s.dev.out ++ [.pcie 0 (s.dev.readBytes (localKey a) n)] ∧ d.mem = s.dev.mem)) ∧
    (∀ n, 0 < n → s.dev.bootWindow fn off n = false → s.dev.apertureAddr fn off = none →
      bitOf (s.dev.portReg (fnPort fn) HUB_HOST_ERR) 31 = false →
      Ends (.apertureRead fn off n 0 none) s (fun d =>
        d.out = s.dev.out ++ [.pcie 0 (List.replicate n 0)] ∧ d.mem = s.dev.mem ∧
        bitsOf (d.portReg (fnPort fn) HUB_HOST_ERR) 31 28 = 8 + 3)) ∧
    (∀ data a, data ≠ [] → s.dev.bootWindow fn off data.length = false → s.dev.apertureAddr fn off = some a →
      s.dev.hostError fn a data.length true = none → s.dev.isSelf (addrDevice a) = true → addrSpace a = 2 → s.dev.poison = [] →
      Ends (.apertureWrite fn off data) s (fun d =>
        d.mem = Memory.applyAll s.dev.mem (cellsOf (localKey a) data) ∧
        d = { s.dev with mem := d.mem, nextUid := d.nextUid }))

/-! ### Movers, check units, parity (08_movers_and_checks) -/

/-- R372, R373: a TILE_MOVE or PAGE_MOVE that may start is accepted at the end of its channel's queue once the channel has room;
no other channel and nothing else changes. -/
def Obligations.MovesJoinTheirChannel : Prop :=
  ∀ (s : State) (o : Origin) (e : Staged) (c : Nat), Running s → s.dev.acceptor e.entry = some c →
    (Next s o 0x20 e → Ends (.tileMove o) s (fun d =>
      (d.mover c).queue = (s.dev.mover c).queue ++
        [⟨e.cmd.uid, .command e.cmd, (match o with | .firmware => none | _ => some e.cmd.port), Move.ofEntry e.entry⟩] ∧
      (∀ k, k ≠ c → d.mover k = s.dev.mover k) ∧ d = { s.dev.start e with movers := d.movers })) ∧
    (Next s o 0x21 e → Ends (.pageMove o) s (fun d =>
      (d.mover c).queue = (s.dev.mover c).queue ++
        [⟨e.cmd.uid, .command e.cmd, (match o with | .firmware => none | _ => some e.cmd.port), Move.ofEntry e.entry⟩] ∧
      (∀ k, k ≠ c → d.mover k = s.dev.mover k) ∧ d = { s.dev.start e with movers := d.movers }))

/-- R372, R380, R393: the head descriptor of an idle channel that passes its checks runs; one that fails them ends at once with
the status of its first failed check, and is counted; a running copy of which no check was asked completes with 0 and its length,
and its bytes are then on their way to the destination, in order, 64-byte granule by granule. -/
def Obligations.DescriptorsRunAndComplete : Prop :=
  ∀ (s : State) (c : Nat) (w : Work) (l : List Work), Running s → c ≤ 199 → (s.dev.mover c).queue = w :: l →
    (s.dev.mover c).halted = false →
    ((s.dev.mover c).running = false → w.mv.len ≠ 0 → s.dev.moveOpen c w.mv = true →
      (s.dev.checkMove c w.port w.mv = 0 → w.mv.check = false → s.dev.isSelf (addrDevice w.mv.src) = true →
        addrSpace w.mv.src ≠ 4 →
        Ends (.descriptorStart c 0 none) s (fun d =>
          d.mover c = { s.dev.mover c with running := true } ∧ (∀ k, k ≠ c → d.mover k = s.dev.mover k) ∧
          d = { s.dev with movers := d.movers, buckets := d.buckets })) ∧
      (∀ st cmd, s.dev.checkMove c w.port w.mv = st → st ≠ 0 → w.owner = .command cmd → (s.dev.mover c).unit = none →
        Ends (.descriptorStart c 0 none) s (fun d =>
          (d.mover c).queue = l ∧ (d.mover c).running = false ∧
          d.reg MOV_DESC_FAULT_COUNT = satAdd 32 (s.dev.reg MOV_DESC_FAULT_COUNT) 1 ∧
          d = ({ s.dev with movers := d.movers, regs := d.regs } : Device).complete { cmd with inst := c } st []))) ∧
    (∀ cmd bs, (s.dev.mover c).running = true → (s.dev.mover c).sent = none → (s.dev.mover c).unit = none →
      w.owner = .command cmd → s.dev.moved w = (.bytes bs, s.dev) → s.dev.isSelf (addrDevice w.mv.dst) = true →
      Ends (.descriptorComplete c 0) s (fun d =>
        (d.mover c).queue = l ∧ (d.mover c).running = false ∧
        (∃ fs : List Flight, d.flight = s.dev.flight ++ fs ∧ fs.flatMap (·.bytes) = bs ∧
          ∀ f ∈ fs, f.uid = w.uid ∧ f.chan = c ∧ f.remote = false) ∧
        d = ({ s.dev with movers := d.movers, flight := d.flight, regs := d.regs, arrived := d.arrived } : Device).complete
          { cmd with inst := c } 0 (valueOf bs.length)))

/-- R398, R400, R401: a write on its way that becomes visible changes exactly its bytes of memory; a LANDING_FENCE that covers
nothing completes at once, another waits with what it covers (a standing halt's maker, with MOV_HALTED, included: log 86), and
completes with the status its rule gives once that is done. -/
def Obligations.WritesLandAndFencesWait : Prop :=
  ∀ (s : State), Running s →
    (∀ i f, (s.dev.flight.filter (fun f => !f.remote))[i]? = some f → addrSpace f.addr ≠ 6 → s.dev.poison = [] →
      Ends (.writeVisible i) s (fun d =>
        d.flight = s.dev.flight.erase f ∧ d.mem = Memory.applyAll s.dev.mem (cellsOf (localKey f.addr) f.bytes) ∧
        d = { s.dev with flight := d.flight, mem := d.mem })) ∧
    (∀ o e, Next s o 0x02 e →
      ((s.dev.start e).coverOf e.aux (some { e.cmd with inst := e.aux % 256 }) = [] → (s.dev.mover e.aux).halted = false →
        Ends (.landingFence o) s (fun d => d = (s.dev.start e).complete { e.cmd with inst := e.aux % 256 } 0 [])) ∧
      ((s.dev.start e).coverOf e.aux (some { e.cmd with inst := e.aux % 256 }) ≠ [] ∨ (s.dev.mover e.aux).halted = true →
        Ends (.landingFence o) s (fun d =>
          d.fences = s.dev.fences ++ [⟨s.dev.nextUid, .command { e.cmd with inst := e.aux % 256 }, e.aux,
            (s.dev.start e).coverOf e.aux (some { e.cmd with inst := e.aux % 256 }),
            if (s.dev.mover e.aux).halted then 0x0512 else 0⟩] ∧
          d = { s.dev.start e with fences := d.fences, nextUid := s.dev.nextUid + 1 }))) ∧
    (∀ id f c st, s.dev.fences.find? (fun f => f.id == id) = some f → f.owner = .command c → s.dev.fenceStatus f = some st →
      Ends (.landingFenceComplete id) s (fun d =>
        d = ({ s.dev with fences := s.dev.fences.filter (fun g => g.id != id) } : Device).complete c st []))

/-- R404 to R408, R424: a bus error of a running copy halts its channel, reports address, direction, cause and the bytes done, and
ends the descriptor; a resume lets a halted channel go on with its queue; a discard empties the queue too; both clear VALID. -/
def Obligations.HaltResumeDiscard : Prop :=
  ∀ (s : State) (c : Nat), Running s → c ≤ 199 →
    (∀ w l cmd a cause done, (s.dev.mover c).running = true → (s.dev.mover c).halted = false → (s.dev.mover c).queue = w :: l →
      (s.dev.mover c).unit = none → w.owner = .command cmd → s.dev.moved w = (.waiting, s.dev) → a < 2 ^ 64 →
      let P := fun (k : Nat) (d : Device) =>
        (d.mover c).halted = true ∧ (d.mover c).running = false ∧ (d.mover c).queue = l ∧
        d.reg (regKey MOV_ERR_ADDR_LO c) + 2 ^ 32 * d.reg (regKey MOV_ERR_ADDR_HI c) = a ∧
        d.regField (regKey MOV_ERR_STATUS c) 31 31 = 1 ∧ d.regField (regKey MOV_ERR_STATUS c) 3 0 = k ∧
        d.reg (regKey MOV_ERR_DONE c) = 0 ∧ d.mem = s.dev.mem
      (cause = 1 ∨ cause = 6 ∨ cause = 7 → Ends (.busError c none w.uid false a cause done 0) s (P cause)) ∧
      Ends (.cxlCompletionTimeout c none w.uid false a done 0) s (P 2)) ∧
    ((s.dev.mover c).halted = true →
      (∀ o e, Next s o 0x22 e → e.aux = c → Ends (.movResume o) s (fun d =>
        d.mover c = { s.dev.mover c with halted := false } ∧ d.regField (regKey MOV_ERR_STATUS c) 31 31 = 0 ∧
        d = ({ s.dev.start e with movers := d.movers, regs := d.regs } : Device).complete e.cmd 0 [])) ∧
      (∀ o e, Next s o 0x23 e → e.aux = c → (s.dev.mover c).queue = [] → Ends (.movDiscard o) s (fun d =>
        (d.mover c).halted = false ∧ (d.mover c).queue = [] ∧ (d.mover c).running = false ∧
        d.regField (regKey MOV_ERR_STATUS c) 31 31 = 0 ∧ (∀ t ∈ d.staged, t.cmd.uid ≠ e.cmd.uid) ∧ d.mem = s.dev.mem)) ∧
      (∀ port, s.dev.movSel port = c → s.dev.mayMove port c = true →
        Ends (.movCtrlResume port) s (fun d =>
          d.mover c = { s.dev.mover c with halted := false } ∧ d.regField (regKey MOV_ERR_STATUS c) 31 31 = 0 ∧
          d = { s.dev with movers := d.movers, regs := d.regs }) ∧
        (∀ w cmd, (s.dev.mover c).queue = [w] → w.owner = .command cmd →
          Ends (.movCtrlDiscard port) s (fun d =>
            (d.mover c).halted = false ∧ (d.mover c).queue = [] ∧ d.regField (regKey MOV_ERR_STATUS c) 31 31 = 0 ∧
            (∀ t ∈ d.staged, t.cmd.uid ≠ cmd.uid) ∧ d.mem = s.dev.mem))))

/-- R357 to R360: fewer than three failures of a granule that is not poisoned are counted as re-reads of its memory and nothing
else; a third failure of a granule that comes back poisoned leaves it poisoned; a scrub of a good granule of a stack counts a
corrected one, and poisons one that cannot be corrected. -/
def Obligations.ParityIsCounted : Prop :=
  ∀ (s : State), Running s →
    (∀ addr fails job part chan, addrSpace addr = 1 → s.dev.isSelf (addrDevice addr) = true → s.dev.mapped addr 1 = true →
      (fails < 3 → Ends (.granuleReread addr fails 0 job part chan false) s (fun d =>
        d = s.dev.bump (regKey MEM_T2_REREAD_COUNT (localKey addr / 64 * 64 % 2 ^ 53 / 0x1000000000)) fails)) ∧
      (3 ≤ fails → s.dev.poisoned (localKey addr / 64) = false →
        Ends (.granuleReread addr fails 0 job part chan true) s (fun d =>
          d = { s.dev with poison := s.dev.poison ++ [localKey addr / 64] }))) ∧
    (∀ stack granule, stack < 12 →
      s.dev.poisoned (memKey 1 (stack * 0x1000000000) / 64 + granule % 0x40000000) = false →
      Ends (.t2Scrub stack granule 1) s (fun d => d = s.dev.bump64 (regKey MEM_T2_CE_COUNT_LO stack) 1) ∧
      Ends (.t2Scrub stack granule 2) s (fun d =>
        d.poison = s.dev.poison ++ [memKey 1 (stack * 0x1000000000) / 64 + granule % 0x40000000] ∧
        d = { s.dev with poison := d.poison, regs := d.regs }))

/-- R411 to R414: a CHECK_RANGE whose source passes its checks runs on the unit it names; at its end the CRC over the range is its
value, and where a comparison was asked a difference gives CHK_MISMATCH; the unit is free again.
R415 to R420: a DIGEST of mode ONE runs on the engine it names; at its end the SHA-256 of the range stands at RESULT, its first
eight bytes are the value, and the engine is free again. -/
def Obligations.ChecksAndDigests : Prop :=
  (∀ (s : State), Running s →
      (∀ o e u, Next s o 0x60 e → (Move.ofEntry e.entry).len ≠ 0 →
        s.dev.checkRangeSource (match o with | .firmware => none | _ => some e.cmd.port) (Move.ofEntry e.entry) = 0 →
        s.dev.isSelf (addrDevice (Move.ofEntry e.entry).src) = true → addrSpace (Move.ofEntry e.entry).src ≠ 4 →
        s.dev.takeUnit (Move.ofEntry e.entry).unit = some u →
        Ends (.checkRange o 0 none) s (fun d =>
          (Table.getD d.checks u {}).run = some { cmd := { e.cmd with inst := u }, mv := Move.ofEntry e.entry } ∧
          (Table.getD d.checks u {}).serves = some 255 ∧
          d = { s.dev.start e with checks := d.checks })) ∧
      (∀ u r bs, u < 16 → (Table.getD s.dev.checks u {}).run = some r → s.dev.readAny r.cmd.uid 0 r.mv.src r.mv.len = .bytes bs →
        (r.mv.expect = none →
          Ends (.checkRangeComplete u) s (fun d =>
            (Table.getD d.checks u {}).run = none ∧ (Table.getD d.checks u {}).serves = none ∧
            (Table.getD d.checks u {}).last = s.dev.checkResult r.mv r.mv.src bs ∧
            d = (({ s.dev with checks := d.checks } : Device).forget r.cmd.uid).complete r.cmd 0
              (valueOf (s.dev.checkResult r.mv r.mv.src bs)))) ∧
        (∀ x, r.mv.expect = some x → x % 2 ^ (CrcKind.ofCode r.mv.poly).width ≠ s.dev.checkResult r.mv r.mv.src bs →
          Ends (.checkRangeComplete u) s (fun d =>
            d.reg CHK_MISMATCH_COUNT = satAdd 32 (s.dev.reg CHK_MISMATCH_COUNT) 1 ∧ d.regField CHK_IRQ_STATUS u u = 1 ∧
            (∀ t ∈ d.staged, t.cmd.uid ≠ r.cmd.uid) ∧ d.mem = s.dev.mem)))) ∧
  (∀ (s : State), Running s →
      (∀ o e n, Next s o 0x68 e → digestMalformed e.entry = false → leAt e.entry 20 1 = 0 → leAt e.entry 21 1 = n → n ≤ 3 →
        s.dev.digestAddresses (match o with | .firmware => none | _ => some e.cmd.port) (DigestRun.ofEntry e.cmd e.entry) = 0 →
        s.dev.isSelf (addrDevice (leAt e.entry 8 8)) = true → leAt e.entry 40 8 = 0 → Table.find? s.dev.digests n = none →
        Ends (.digest o 0 none) s (fun d =>
          Table.find? d.digests n = some { DigestRun.ofEntry e.cmd e.entry with cmd := { e.cmd with inst := 16 + n } } ∧
          (∀ k, k ≠ n → Table.find? d.digests k = Table.find? s.dev.digests k) ∧
          d = { s.dev.start e with digests := d.digests })) ∧
      (∀ n r bs, Table.find? s.dev.digests n = some r → r.mode = 0 → r.expect = 0 → r.len = bs.length →
        s.dev.readAny r.cmd.uid 0 r.src r.len = .bytes bs →
        (r.result = 0 → Ends (.digestComplete n) s (fun d =>
          Table.find? d.digests n = none ∧
          d = (({ s.dev with digests := d.digests, regs := d.regs } : Device).forget r.cmd.uid).complete r.cmd 0
            ((sha256 bs).take 8))) ∧
        (r.result ≠ 0 → s.dev.isSelf (addrDevice r.result) = true → s.dev.poison = [] → Ends (.digestComplete n) s (fun d =>
          Table.find? d.digests n = none ∧ d.mem = Memory.applyAll s.dev.mem (cellsOf (localKey r.result) (sha256 bs))))))

/-! ### Stops and images (05_stops) -/

/-- R232, R247, R266, R271 to R275: STOP_LOAD and a write of PRT_STOP_LOAD with GO put a load behind the partition's others;
a write of PRT_STOP_SWITCH with GO and STOP_SWITCH ask for a switch; while a load, or a switch, is busy a GO is lost and sets
GO_LOST. BOUND_SET writes one bound of the partition. Every other partition stays. -/
def Obligations.StopRequestsAreAccepted : Prop :=
  ∀ (s : State) (p : Nat), Running s → p < 12 →
    (∀ o e r, Next s o 0x12 e → s.dev.findStop e.cmd.port (e.op 8 4) (e.op 12 4) = some (r, p) → e.op 16 1 ≤ 3 →
      s.dev.loadRefusal p (e.op 16 1) = 0 →
      Ends (.stopLoad o) s (fun d =>
        (d.part p).loads = (s.dev.part p).loads ++
          [{ slot := e.op 16 1, src := r.source, image := e.op 8 4, stopId := r.id, cmd := some e.cmd }] ∧
        (∀ q, q ≠ p → d.part q = s.dev.part q) ∧ d = { s.dev.start e with parts := d.parts })) ∧
    (∀ o e r i, Next s o 0x13 e → s.dev.findStop e.cmd.port (e.op 8 4) (e.op 12 4) = some (r, p) →
      s.dev.slotOf p (e.op 8 4) r.id = some i → s.dev.switchRefusal p i = 0 →
      Ends (.stopSwitch o) s (fun d =>
        (d.part p).switch = some { target := i, cmd := some e.cmd } ∧
        (∀ q, q ≠ p → d.part q = s.dev.part q) ∧ d = { s.dev.start e with parts := d.parts })) ∧
    (∀ port word, s.dev.covers (some port) p = true → bitOf word 31 = true →
      ((s.dev.part p).loads = [] → bitOf word 9 = false → s.dev.storeOwner p (bitsOf word 17 10) = none →
        s.dev.loadRefusal p (word % 4) = 0 →
        Ends (.prtStopLoadGo port p word) s (fun d =>
          (d.part p).loads = [{ slot := word % 4, src := .store (bitsOf word 17 10) }] ∧
          (∀ q, q ≠ p → d.part q = s.dev.part q) ∧ d = { s.dev with parts := d.parts, regs := d.regs })) ∧
      ((s.dev.part p).loads ≠ [] →
        Ends (.prtStopLoadGo port p word) s (fun d =>
          d.regField (prtOff p PRT_STOP_STATUS) 29 29 = 1 ∧ d = { s.dev with regs := d.regs })) ∧
      ((s.dev.part p).switch = none → s.dev.switchRefusal p (word % 4) = 0 →
        Ends (.prtStopSwitchGo port p word) s (fun d =>
          (d.part p).switch = some { target := word % 4, cmd := none } ∧
          (∀ q, q ≠ p → d.part q = s.dev.part q) ∧ d = { s.dev with parts := d.parts, regs := d.regs })) ∧
      ((s.dev.part p).switch ≠ none →
        Ends (.prtStopSwitchGo port p word) s (fun d =>
          d.regField (prtOff p PRT_STOP_STATUS) 29 29 = 1 ∧ d = { s.dev with regs := d.regs }))) ∧
    (∀ o e x, Next s o 0x14 e → s.dev.image? (e.op 8 4) = some x → x.parts.getD (e.op 12 1) 12 = p → x.ready = true →
      x.seen e.cmd.port = true → (s.dev.part p).job = x.job → e.op 13 1 ≤ 15 →
      Ends (.boundSet o) s (fun d =>
        d.reg (prtOff p (PRT_BOUND + 4 * e.op 13 1)) = e.op 16 4 % 2 ^ 32 ∧
        (∀ k, k ≠ prtOff p (PRT_BOUND + 4 * e.op 13 1) → d.reg k = s.dev.reg k) ∧
        d = ({ s.dev.start e with regs := d.regs } : Device).complete { e.cmd with inst := p } 0 []))

/-- R229 to R235: a load takes its slot to LOADING, reads its block, checks its CRC, and leaves the slot READY with the block's
stop and configuration, completing with the stop's ID; a block from T2 that fails its CRC leaves the slot FAILED and ends the
load with STOP_CRC. -/
def Obligations.StopLoadFillsASlot : Prop :=
  ∀ (s : State) (p : Nat) (l : Load), Running s → (s.dev.part p).switch = none → l.front = none →
    (∀ pos, l.src = .store pos → (s.dev.part p).loads = [l] → l.started = false → ((s.dev.part p).slot l.slot).state ≠ .active →
      Ends (.stopLoadStart p false) s (fun d =>
        (d.part p).loads = [{ l with started := true }] ∧ ((d.part p).slot l.slot).state = .loading ∧
        (∀ i, i ≠ l.slot → (d.part p).slot i = (s.dev.part p).slot i) ∧
        (∀ q, q ≠ p → d.part q = s.dev.part q) ∧ d = { s.dev with parts := d.parts })) ∧
    (∀ pos, l.src = .store pos → (s.dev.part p).loads = [l] → l.started = true → l.block = none →
      Ends (.stopBlockReadComplete p false) s (fun d =>
        blockCrcOk (s.dev.readBytes (storeKey p pos) 65536) = true →
          (d.part p).loads = [{ l with block := some (StopCfg.ofBlock (s.dev.readBytes (storeKey p pos) 65536)) }] ∧
          (∀ q, q ≠ p → d.part q = s.dev.part q) ∧ d = { s.dev with parts := d.parts })) ∧
    (∀ a, l.src = .t2 a → (s.dev.part p).loads = [l] → l.started = true → l.block = none →
      s.dev.poisonIn (localKey a.toNat) 65536 = none →
      Ends (.stopBlockReadComplete p false) s (fun d =>
        (blockCrcOk (s.dev.readBytes (localKey a.toNat) 65536) = true →
          (d.part p).loads = [{ l with block := some (StopCfg.ofBlock (s.dev.readBytes (localKey a.toNat) 65536)) }] ∧
          d = { s.dev with parts := d.parts }) ∧
        (blockCrcOk (s.dev.readBytes (localKey a.toNat) 65536) = false →
          (d.part p).loads = [] ∧ ((d.part p).slot l.slot).state = .failed ∧
          d.regField (prtOff p PRT_STOP_STATUS) 15 0 = 0x1053 ∧ d.mem = s.dev.mem))) ∧
    (∀ cfg c, (s.dev.part p).loads = [l] → l.started = true → l.block = some cfg → l.cmd = some c →
      Ends (.stopLoadComplete p) s (fun d =>
        (d.part p).loads = [] ∧
        (d.part p).slot l.slot = { state := .ready, stopId := cfg.stopId, image := l.image, cfg := cfg } ∧
        (∀ i, i ≠ l.slot → (d.part p).slot i = (s.dev.part p).slot i) ∧
        d.regField (prtOff p PRT_STOP_STATUS) 15 0 = 0 ∧
        d = ({ s.dev with parts := d.parts, regs := d.regs } : Device).complete { c with inst := p } 0 (leBytes 4 cfg.stopId)))

/-- R236 to R241, R246: a switch closes the tile ports and drains once no step runs; at occupancy 0 the epoch advances, the old
slot becomes READY and the target ACTIVE; then the ports reopen and the switch completes with its drain's cycles. A drain that
outlasts its budget halts the partition with DRAIN_TIMEOUT and ends the switch. -/
def Obligations.SwitchDrainsThenCommits : Prop :=
  ∀ (s : State) (p : Nat) (w : Switch), Running s → p < 12 → (s.dev.part p).switch = some w →
    (w.phase = .waiting → (s.dev.part p).running = none → (s.dev.part p).replay = none → (s.dev.fab p).halted = false →
      (s.dev.part p).active ≠ none →
      Ends (.switchStart p) s (fun d =>
        d.part p = { s.dev.part p with closed := true, draining := true, switch := some { w with phase := .draining } } ∧
        (∀ q, q ≠ p → d.part q = s.dev.part q) ∧ d = { s.dev with parts := d.parts })) ∧
    (∀ a cycles, w.phase = .draining → s.dev.occupancy p = 0 → (s.dev.part p).active = some a → a ≠ w.target →
      ((s.dev.part p).slot w.target).state = .ready → ((s.dev.part p).slot a).cfg.bindings = [] →
      Ends (.drainEnd p cycles) s (fun d =>
        (d.part p).epoch = ((s.dev.part p).epoch + 1) % 4 ∧ (d.part p).active = some w.target ∧
        ((d.part p).slot a).state = .ready ∧ ((d.part p).slot w.target).state = .active ∧
        (d.part p).switch = some { w with drainCycles := cycles, phase := .committing } ∧
        (d.part p).closed = (s.dev.part p).closed ∧ (d.part p).fabric = (s.dev.part p).fabric ∧
        d.reg (prtOff p PRT_DRAIN_LAST) = cycles % 2 ^ 32 ∧
        (∀ q, q ≠ p → d.part q = s.dev.part q) ∧ d = { s.dev with parts := d.parts, regs := d.regs })) ∧
    (∀ c, w.phase = .committing → w.cmd = some c →
      Ends (.switchComplete p) s (fun d =>
        d.part p = { s.dev.part p with switch := none, draining := false, closed := false } ∧
        d.regField (prtOff p PRT_STOP_STATUS) 15 0 = 0 ∧
        d = ({ s.dev with parts := d.parts, regs := d.regs } : Device).complete { c with inst := p } 0
          (leBytes 4 w.drainCycles))) ∧
    (w.phase = .draining → s.dev.occupancy p ≠ 0 → (s.dev.job (s.dev.part p).job).state = .none →
      s.dev.regField (prtOff p PRT_FABRIC_FAULT) 31 31 = 0 →
      Ends (.stopDrainTimeout p) s (fun d =>
        (d.fab p).halted = true ∧ (d.part p).switch = none ∧ (d.part p).slots = (s.dev.part p).slots ∧
        d.regField (prtOff p PRT_FABRIC_FAULT) 7 0 = 0x25 ∧ d.regField (prtOff p PRT_STOP_STATUS) 15 0 = 0x1025 ∧
        d.mem = s.dev.mem))

/-- R258, R260, R264, R267, R640: IMAGE_LOAD becomes a long operation that digests its bytes; its last digest step hands them to the
loader: a refused image completes with its status, KIND and INDEX, an admitted one goes on with the copies of its stop blocks under
the command; IMAGE_UNLOAD of an image that nothing holds releases it and completes. -/
def Obligations.ImageLoadAndUnload : Prop :=
  ∀ (s : State) (o : Origin) (e : Staged), Running s →
    (Next s o 0x10 e →
      (s.dev.job (e.op 20 4)).state.settled = true → e.op 20 4 ≠ 0 → allZero (sliceOf e.entry 30 34) = true → e.aux = 0 →
      mapBad (e.op 24 6) = false → (addrSpace (e.op 8 8) = 1 ∨ isT3 (addrSpace (e.op 8 8)) = true) →
      s.dev.mapped (e.op 8 8) (max (e.op 16 4) 1) = true → s.dev.isSelf (addrDevice (e.op 8 8)) = true →
      s.dev.inWindow (some e.cmd.port) (e.op 8 8) (e.op 16 4) false = true →
      Ends (.imageLoad o) s (fun d =>
        d = { s.dev.start e with
          longOps := s.dev.longOps ++ [{ id := s.dev.nextUid, kind := .imageDigest, cls := 4, cmd := some e.cmd }]
          nextUid := s.dev.nextUid + 1 })) ∧
    (∀ id l units data, s.dev.longOps.find? (fun l => l.id == id) = some l → s.dev.planned.contains id = true →
      l.kind = .imageDigest → s.dev.staged.find? (fun s => l.cmd == some s.cmd) = some e →
      let step := l.step + min units (250 * (s.dev.period - 4))
      let y : Device := ({ s.dev with planned := s.dev.planned.filter (fun i => i != id) } : Device).modLong id
        (fun l => { l with step := step })
      (64 * step < e.op 16 4 → Ends (.longOpStep id units false data) s (fun d => d = y)) ∧
      (∀ b, e.op 16 4 ≤ 64 * step → y.loadBefore e.cmd.uid = false → (y.job (e.op 20 4)).state.settled = true →
        y.readAny e.cmd.uid 0 (e.op 8 8) (e.op 16 4) = .bytes b →
        Ends (.longOpStep id units false data) s (fun d =>
          let z := (y.endLong id).forget e.cmd.uid
          let load := z.loadImage (portFn e.cmd.port) (e.op 20 4) (e.op 8 8) (e.op 16 4) (mapOf (e.op 24 6)) b none none
          (∀ st kind index, load = .error (st, kind, index) →
            d = z.complete e.cmd st (if st = 0x0A05 then [] else leBytes 4 kind ++ leBytes 4 index)) ∧
          (∀ h x, load = .ok (h, x) →
            d.image? h = x.image? h ∧
            d = { x with longOps := x.longOps ++ [{ id := x.nextUid, kind := .imageLoad h, cls := 4, cmd := some e.cmd }]
                         nextUid := x.nextUid + 1 })))) ∧
    (∀ x, Next s o 0x11 e → s.dev.image? (e.op 8 4) = some x → (s.dev.job x.job).state.settled = true → x.ready = true →
      x.seen e.cmd.port = true → x.lib = none → allZero (sliceOf e.entry 12 52) = true →
      s.dev.imageInUse (e.op 8 4) = false →
      Ends (.imageUnload o) s (fun d =>
        d.image? (e.op 8 4) = none ∧ (∀ t ∈ d.staged, t.cmd.uid ≠ e.cmd.uid) ∧
        (∀ a ∈ d.areas, a.use ≠ .stop (e.op 8 4)) ∧ d.mem = s.dev.mem))

/-! ### The fabric (03_fabric) -/

/-- R111, R112: a token that arrives at a switch leaves on the output that routes its channel when that output has a credit, which
it spends, and its buffer entry's credit is on the way back; without a credit it waits in the buffer. A credit of a cell's local
input that comes back can be spent again. Only the partition's fabric changes. -/
def Obligations.SwitchesForwardUnderCredit : Prop :=
  ∀ (s : State) (p : Nat) (c : Chan), Running s → s.dev.live p = true → c.ch < 4 →
    (∀ t rest o oc, c.port ≤ 4 → c.site < siteCount → (s.dev.fab p).wire c = t :: rest → (s.dev.fab p).buf c = [] →
      (s.dev.part p).stop.routed c = [o] → outputChan c.site o.1 c.scalar o.2 = some oc → oc.key ≠ c.key →
      ((s.dev.fab p).credit oc = true → Ends (.tokenArrivalSwitch p c.site c.port c.scalar c.ch) s (fun d =>
        (d.fab p).wire oc = (s.dev.fab p).wire oc ++ [t] ∧ (d.fab p).wire c = rest ∧ (d.fab p).buf c = [] ∧
        Table.getD (d.fab p).spent oc.key 0 = Table.getD (s.dev.fab p).spent oc.key 0 + 1 ∧
        Table.getD (d.fab p).due c.key 0 = Table.getD (s.dev.fab p).due c.key 0 + 1 ∧
        (∀ q, q ≠ p → d.part q = s.dev.part q) ∧ d = { s.dev with parts := d.parts })) ∧
      ((s.dev.fab p).credit oc = false → Ends (.tokenArrivalSwitch p c.site c.port c.scalar c.ch) s (fun d =>
        (d.fab p).buf c = [t] ∧ (d.fab p).wire c = rest ∧ (d.fab p).spent = (s.dev.fab p).spent ∧
        (∀ q, q ≠ p → d.part q = s.dev.part q) ∧ d = { s.dev with parts := d.parts }))) ∧
    (∀ n, c.port = 4 → Table.getD (s.dev.fab p).due c.key 0 = n + 1 → Table.getD (s.dev.fab p).outs c.key [] = [] →
      Ends (.creditReturn p c.site 4 c.scalar c.ch) s (fun d =>
        Table.getD (d.fab p).due c.key 0 = n ∧
        Table.getD (d.fab p).spent c.key 0 = Table.getD (s.dev.fab p).spent c.key 0 - 1 ∧
        (d.fab p).wires = (s.dev.fab p).wires ∧ (d.fab p).bufs = (s.dev.fab p).bufs ∧
        (∀ q, q ≠ p → d.part q = s.dev.part q) ∧ d = { s.dev with parts := d.parts }))

/-- R163, R164: a token that fails parity on a link is asked for again with all that the link carries; the sender re-sends what it
kept, in order, and counts it; a third failed arrival halts the partition with LINK_PARITY. -/
def Obligations.LinksReplay : Prop :=
  ∀ (s : State) (p : Nat) (c : Chan), Running s → s.dev.live p = true → c.ch < 4 →
    ((s.dev.fab p).wire c ≠ [] → (∀ x ∈ Table.getD (s.dev.fab p).replay c.link [], x.ch = c.ch → x.sends < 3) →
      Ends (.linkParityError p c.site c.port c.scalar c.ch) s (fun d =>
        (∀ k, k < 4 → (d.fab p).wire { c with ch := k } = []) ∧ (d.fab p).resend.contains c.link = true ∧
        (d.fab p).halted = false ∧ (d.fab p).replay = (s.dev.fab p).replay ∧
        (∀ q, q ≠ p → d.part q = s.dev.part q) ∧ d = { s.dev with parts := d.parts })) ∧
    ((s.dev.fab p).wire c ≠ [] → (∀ x ∈ Table.getD (s.dev.fab p).replay c.link [], x.ch = c.ch → 3 ≤ x.sends) →
      (∃ x ∈ Table.getD (s.dev.fab p).replay c.link [], x.ch = c.ch) →
      (s.dev.job (s.dev.part p).job).state = .none → s.dev.regField (prtOff p PRT_FABRIC_FAULT) 31 31 = 0 →
      Ends (.linkParityError p c.site c.port c.scalar c.ch) s (fun d =>
        (d.fab p).halted = true ∧ d.regField (prtOff p PRT_FABRIC_FAULT) 7 0 = 0x20 ∧ d.mem = s.dev.mem)) ∧
    (∀ x, (s.dev.fab p).resend.contains c.link = true → Table.getD (s.dev.fab p).replay c.link [] = [x] →
      Ends (.linkResend p c.site c.port c.scalar) s (fun d =>
        (d.fab p).wire { c with ch := x.ch } = (s.dev.fab p).wire { c with ch := x.ch } ++ [x.tok] ∧
        (d.fab p).resend.contains c.link = false ∧
        Table.getD (d.fab p).replay c.link [] = [{ x with sends := x.sends + 1 }] ∧
        d.reg64 (prtOff p PRT_LINK_REPLAY_COUNT_LO) =
          satAdd 64 (s.dev.reg64 (prtOff p PRT_LINK_REPLAY_COUNT_LO)) 1 ∧
        (∀ q, q ≠ p → d.part q = s.dev.part q) ∧ d = { s.dev with parts := d.parts, regs := d.regs }))

/-- R123, R125, R115: a token of the current epoch at a compute cell's declared input opens a tag context where the cell has one
free, and its buffer entry is free again; a token of another epoch is stray: it is counted and halts the partition. -/
def Obligations.CellsTakeTokens : Prop :=
  ∀ (s : State) (p site ch : Nat) (scalar : Bool) (t : Token) (rest : List Token), Running s → s.dev.live p = true → ch < 4 →
    (s.dev.fab p).wire ⟨site, 5, scalar, ch⟩ = t :: rest → (s.dev.fab p).buf ⟨site, 5, scalar, ch⟩ = [] →
    (siteKind site = .compute → t.epoch = (s.dev.part p).epoch → (s.dev.part p).stop.enabled site = true →
      ((s.dev.part p).stop.compute site).declares (computeInput scalar ch) = true → computeInput scalar ch ≠ 3 → t.kind = .data →
      (s.dev.cell p site).ctx t.tag = none →
      (s.dev.cell p site).ctxs.length < ((s.dev.part p).stop.compute site).contexts →
      Ends (.tokenArrivalCell p site scalar ch) s (fun d =>
        (d.cell p site).ctxs = (s.dev.cell p site).ctxs ++
          [{ tag := t.tag, opened := (s.dev.cell p site).nextOpen, waiting := [(computeInput scalar ch, t)] }] ∧
        (∀ k, k ≠ site → d.cell p k = s.dev.cell p k) ∧ (d.fab p).wire ⟨site, 5, scalar, ch⟩ = rest ∧
        (d.fab p).buf ⟨site, 5, scalar, ch⟩ = [] ∧
        (∀ q, q ≠ p → d.part q = s.dev.part q) ∧ d = { s.dev with parts := d.parts })) ∧
    (siteKind site ≠ .valve → t.epoch ≠ (s.dev.part p).epoch → (s.dev.job (s.dev.part p).job).state = .none →
      s.dev.regField (prtOff p PRT_FABRIC_FAULT) 31 31 = 0 →
      Ends (.tokenArrivalCell p site scalar ch) s (fun d =>
        d.reg (prtOff p PRT_STRAY_COUNT) = satAdd 32 (s.dev.reg (prtOff p PRT_STRAY_COUNT)) 1 ∧ (d.fab p).halted = true ∧
        d.regField (prtOff p PRT_FABRIC_FAULT) 7 0 = 0x22 ∧ d.mem = s.dev.mem))

/-- R126, R135, R137, R140: a beat counts and takes the next token of A where its context needs one; the anchor pass fixes the
context's anchor; the conversion stage takes a finished tile's ledger and frees it; a row at the end of its program leaves in its
output format. -/
def Obligations.ComputeCellsReduceTiles : Prop :=
  ∀ (s : State) (p site : Nat), Running s → s.dev.live p = true → siteKind site = .compute →
    (s.dev.part p).stop.enabled site = true →
    (∀ x t, minByKey Ctx.opened ((s.dev.cell p site).ctxs.filter
        (ctxReady ((s.dev.part p).stop.compute site) (s.dev.part p).bounds (s.dev.cell p site))) = some x →
      ((s.dev.part p).stop.compute site).kSrc = 0 → ((s.dev.part p).stop.compute site).usesA = true →
      x.hasEnded 0 = false → x.next 0 = some t →
      Ends (.cellBeat p site) s (fun d =>
        (d.cell p site).fires = ((s.dev.cell p site).fires + 1) % 2 ^ 32 ∧
        ∃ y, (d.cell p site).ctx x.tag = some y ∧ y.tokens 0 = x.tokens 0 ++ [t])) ∧
    (∀ tag x kk, ((s.dev.part p).stop.compute site).family = .mx → (s.dev.cell p site).ctx tag = some x → x.anchor = none →
      ctxK ((s.dev.part p).stop.compute site) (s.dev.part p).bounds x = some kk →
      ((s.dev.part p).stop.compute site).scaleTokens kk ≤ (x.tokens 0).length →
      ((s.dev.part p).stop.compute site).scaleTokens kk ≤ (x.tokens 1).length →
      ((s.dev.part p).stop.compute site).recA = false → ((s.dev.part p).stop.compute site).recB = false →
      ((s.dev.part p).stop.compute site).anchorMode ≠ 2 →
      Ends (.anchorPassComplete p site tag) s (fun d =>
        (∃ y, (d.cell p site).ctx tag = some y ∧ y.anchor = some (ctxAnchor ((s.dev.part p).stop.compute site) x kk
          (tileOf ((s.dev.part p).stop.compute site) (s.dev.cell p site) x))) ∧
        (∀ q, q ≠ p → d.part q = s.dev.part q) ∧ d = { s.dev with parts := d.parts, regs := d.regs })) ∧
    (∀ tag x, (s.dev.cell p site).conv = none → (s.dev.cell p site).ledgerTag = some tag → (s.dev.cell p site).ctx tag = some x →
      x.tag = tag → ((s.dev.part p).stop.compute site).usesA = true → ((s.dev.part p).stop.compute site).usesB = true →
      ((s.dev.part p).stop.compute site).combine = false → ((s.dev.part p).stop.compute site).family = .float →
      x.hasEnded 0 = true → x.hasEnded 1 = true →
      Ends (.tileCapture p site) s (fun d =>
        (d.cell p site).ledger = [] ∧ (d.cell p site).ledgerTag = none ∧
        (d.cell p site).tilesDone = (s.dev.cell p site).tilesDone + 1 ∧
        (∃ v, (d.cell p site).conv = some v ∧ v.tag = tag ∧ v.lanes = (s.dev.cell p site).ledger) ∧
        (∀ q, q ≠ p → d.part q = s.dev.part q) ∧ d = { s.dev with parts := d.parts, regs := d.regs })) ∧
    (∀ r, (s.dev.cell p site).vec = some r → (s.dev.cell p site).conv = none → (s.dev.cell p site).rowQueue = [] →
      ((s.dev.part p).stop.compute site).fmtOut ≠ Fmt.raw → ((s.dev.part p).stop.compute site).vlen ≤ r.pc → r.last = false →
      s.dev.outFree p site false 0 = true → (s.dev.fab p).credit ⟨site, 4, false, 0⟩ = false → (s.dev.fab p).bufs = [] →
      Ends (.vectorRowOutput p site) s (fun d =>
        (d.cell p site).vec = none ∧
        Table.getD (d.fab p).outs (Chan.key ⟨site, 4, false, 0⟩) [] =
          ((rowPayloads ((s.dev.part p).stop.compute site).fmtOut ((r.regs.getD 0 zeroRow).zipIdx.map (fun (x : Word × Nat) =>
            if ((s.dev.part p).stop.compute site).cols ≤ x.2 then Fl.fin false 0 0 else f32Val x.1))).1.map (fun pay =>
              { payload := pay, tag := r.tag, fin := false, epoch := (s.dev.part p).epoch })) ∧
        (∀ q, q ≠ p → d.part q = s.dev.part q) ∧ d = { s.dev with parts := d.parts, regs := d.regs }))

/-- R142: the row in the vector program executes its next instruction under the command that its operation code names: the
program counter advances and the destination takes the result; every other register of the row, every other cell and everything
outside the partition stays. A reserved code executes as NOP, and NOP writes nothing. -/
def Obligations.VectorInstructionsExecute : Prop :=
  ∀ (s : State) (p site : Nat) (r : VecRow) (code : Nat) (c : Instr), Running s → s.dev.live p = true →
    siteKind site = .compute → (s.dev.cell p site).vec = some r → r.pc < ((s.dev.part p).stop.compute site).vlen →
    (code, c) ∈ [(0, Instr.vecNop p site), (1, .vecAdd p site), (2, .vecMul p site), (3, .vecFma p site), (4, .vecMax p site),
      (5, .vecMin p site), (6, .vecRowmax p site), (7, .vecRowsum p site), (8, .vecExp p site), (9, .vecRecip p site),
      (10, .vecRsqrt p site), (11, .vecMaskapply p site), (12, .vecMove p site)] →
    (vInstr ((s.dev.part p).stop.cellWord site (8 + r.pc))).code = code →
    Ends c s (fun d =>
      (∃ r', (d.cell p site).vec = some r' ∧ r'.pc = r.pc + 1 ∧ r'.tag = r.tag ∧ r'.row = r.row ∧ r'.last = r.last ∧
        (code = 0 → r'.regs = r.regs) ∧
        (∀ v, vecResult (vInstr ((s.dev.part p).stop.cellWord site (8 + r.pc)))
            (fun j => BitVec.ofNat 32 ((s.dev.part p).stop.cellWord site (24 + j))) r.regs = some v →
          r'.regs = r.regs.set (vInstr ((s.dev.part p).stop.cellWord site (8 + r.pc))).dst v)) ∧
      (∀ k, k ≠ site → d.cell p k = s.dev.cell p k) ∧ (d.cell p site).ctxs = (s.dev.cell p site).ctxs ∧
      (∀ q, q ≠ p → d.part q = s.dev.part q) ∧ d = { s.dev with parts := d.parts })

/-- R142, lane by lane: what the thirteen operations write; source B is a constant in every lane where B_CONST is 1. -/
def Obligations.VectorResults : Prop :=
  ∀ (w : Nat) (k : Nat → Word) (regs : List (List Word)),
    let i := vInstr w
    let a := regs.getD i.a zeroRow
    let b := if i.bConst then List.replicate 64 (k i.b) else regs.getD i.b zeroRow
    let c := regs.getD i.c zeroRow
    i.op = bitsOf w 4 0 ∧ i.bConst = bitOf w 17 ∧ i.dst = bitsOf w 7 5 ∧ i.a = bitsOf w 10 8 ∧ i.b = bitsOf w 13 11 ∧ i.c = bitsOf w 16 14 ∧
    (i.op = 0 ∨ 13 ≤ i.op → vecResult i k regs = none) ∧
    (i.op = 1 → vecResult i k regs = some (List.zipWith f32Add a b)) ∧
    (i.op = 2 → vecResult i k regs = some (List.zipWith f32Mul a b)) ∧
    (i.op = 3 → a.length = b.length → b.length = c.length → ∀ (n : Nat) x y z, a[n]? = some x → b[n]? = some y → (c)[n]? = some z →
      ∃ v : List Word, vecResult i k regs = some v ∧ v[n]? = some (f32Fma x y z)) ∧
    (i.op = 4 → vecResult i k regs = some (List.zipWith f32Max a b)) ∧ (i.op = 5 → vecResult i k regs = some (List.zipWith f32Min a b)) ∧
    (i.op = 6 → vecResult i k regs = some (List.replicate 64 (rowMax a))) ∧
    (i.op = 7 → vecResult i k regs = some (List.replicate 64 (rowSum a))) ∧ (i.op = 8 → vecResult i k regs = some (a.map vecExp)) ∧
    (i.op = 9 → vecResult i k regs = some (a.map vecRecip)) ∧ (i.op = 10 → vecResult i k regs = some (a.map vecRsqrt)) ∧
    (i.op = 11 → ∀ (n : Nat) x, a[n]? = some x → ∃ v : List Word, vecResult i k regs = some v ∧
      v[n]? = some (if ((b.getD 0 0).toNat + 2 ^ 32 * (b.getD 1 0).toNat).testBit n then x else 0xFF800000#32)) ∧
    (i.op = 12 → vecResult i k regs = some a)

/-- R149, R153 to R157: a read generator armed for step issue starts its run with its first access; a bank serves an access; a
write generator's token lands at the next address of its walk, or is added there; a read that fails parity is issued again and
counted, and a third failure halts the partition with T1_PARITY. -/
def Obligations.MemoryCellsReadAndWriteT1 : Prop :=
  ∀ (s : State) (p site g : Nat), Running s → s.dev.live p = true → siteKind site = .memory →
    (s.dev.part p).stop.enabled site = true →
    let gc := (s.dev.part p).stop.gen (s.dev.part p).bounds site g
    (g ≤ 3 → gc.mode = 1 → gc.trigger = 0 → (s.dev.part p).closed = false → (s.dev.cell p site).armed.contains g = true →
      Table.find? (s.dev.cell p site).gens g = none → 0 < gc.total →
      Ends (.generatorRunStart p site g) s (fun d =>
        (d.cell p site).armed = (s.dev.cell p site).armed.filter (fun i => i != g) ∧
        Table.find? (d.cell p site).gens g = some { tag := gc.tagBase } ∧
        (d.cell p site).accs = (s.dev.cell p site).accs ++ [{ path := 3, gen := g, addr := (gc.at gc.base 0).1 }] ∧
        (∀ q, q ≠ p → d.part q = s.dev.part q) ∧ d = { s.dev with parts := d.parts })) ∧
    (∀ bank a, nextAccess bank (s.dev.cell p site).accs = some a → a.path = 2 →
      Ends (.bankAccess p site bank) s (fun d =>
        d.mem = Memory.applyAll s.dev.mem (cellsOf (t1Key p site a.addr) a.tok.bytes) ∧ (d.cell p site).accs.length + 1 = (s.dev.cell p site).accs.length ∧
        (∀ q, q ≠ p → d.part q = s.dev.part q) ∧ d = { s.dev with parts := d.parts, mem := d.mem })) ∧
    (∀ t rest r, 4 ≤ g → g ≤ 7 → (s.dev.fab p).buf ⟨site, 5, false, g - 4⟩ = t :: rest →
      Table.find? (s.dev.cell p site).gens g = some r →
      let a := (gc.at (r.base.getD gc.base) r.pos).1
      (gc.mode = 1 → (s.dev.cell p site).accs = [] →
        Ends (.t1WriteToken p site g) s (fun d =>
          d.mem = Memory.applyAll s.dev.mem (cellsOf (t1Key p site a) t.bytes) ∧
          (d.fab p).buf ⟨site, 5, false, g - 4⟩ = rest ∧
          Table.find? (d.cell p site).gens g = (if t.fin then none else some { r with pos := (r.pos + 1) % max 1 gc.total }) ∧
          (∀ q, q ≠ p → d.part q = s.dev.part q) ∧ d = { s.dev with parts := d.parts, mem := d.mem })) ∧
      (gc.mode = 3 →
        Ends (.accumulateWrite p site g) s (fun d =>
          d.mem = Memory.applyAll s.dev.mem (cellsOf (t1Key p site a) (leBytes 64
            (accumulate gc.accFp32 (BitVec.ofNat 512 (s.dev.readNat (t1Key p site a) 64)) t.payload).toNat)) ∧
          (d.fab p).buf ⟨site, 5, false, g - 4⟩ = rest ∧
          Table.find? (d.cell p site).gens g = (if t.fin then none else some { r with pos := (r.pos + 1) % max 1 gc.total }) ∧
          (∀ q, q ≠ p → d.part q = s.dev.part q) ∧ d = { s.dev with parts := d.parts, mem := d.mem }))) ∧
    (∀ a, (s.dev.cell p site).accs.find? (fun a => a.gen == g && a.path == 3) = some a →
      (a.reissues < 2 → Ends (.t1ParityReissue p site g) s (fun d =>
        { a with reissues := a.reissues + 1 } ∈ (d.cell p site).accs ∧
        d.reg64 (prtOff p PRT_T1_REISSUE_COUNT_LO) = satAdd 64 (s.dev.reg64 (prtOff p PRT_T1_REISSUE_COUNT_LO)) 1 ∧
        (∀ q, q ≠ p → d.part q = s.dev.part q) ∧ d = { s.dev with parts := d.parts, regs := d.regs })) ∧
      (2 ≤ a.reissues → (s.dev.job (s.dev.part p).job).state = .none → s.dev.regField (prtOff p PRT_FABRIC_FAULT) 31 31 = 0 →
        Ends (.t1ParityReissue p site g) s (fun d =>
          (d.fab p).halted = true ∧ d.regField (prtOff p PRT_FABRIC_FAULT) 7 0 = 0x21 ∧ d.mem = s.dev.mem)))

/-! ### Valves (04_valves) -/

/-- R179 to R184, R204, R205, R214, R216, R217: a data token with no control token yet parks in an entry of the matching store of
a SELECT, MERGE or FILTER valve; a paired packet's beat leaves SELECT on the channel that the control value names; an entry that
fails parity, and a token older than PAIR_LIMIT, halt the partition; CLEAR_HW and CLEAR reset the marks. -/
def Obligations.ValvesPairAndFire : Prop :=
  ∀ (s : State) (p site : Nat), Running s → s.dev.valveLive p site = true → (s.dev.part p).stop.enabled site = true →
    let k := (s.dev.part p).stop.valve site
    (∀ scalar ch t rest i, let c : Chan := ⟨site, 5, scalar, ch⟩
      (s.dev.fab p).wire c = t :: rest → (s.dev.fab p).buf c = [] → t.epoch = (s.dev.part p).epoch → t.kind = .data →
      k.input scalar ch = some i → i < 4 → (k.kind = .select ∨ k.kind = .merge ∨ k.kind = .filter) → 0 < k.bound →
      s.dev.valve p site = {} →
      Ends (.valveTokenArrival p site scalar ch) s (fun d =>
        (d.valve p site).toks = [{ input := i, pkt := 0, tok := t, stored := true }] ∧
        (d.valve p site).pkts = [{ id := 0, input := i, tag := t.tag, ended := t.fin }] ∧
        (d.valve p site).openTags = [t.tag] ∧ (d.valve p site).highWater = 1 ∧
        (d.fab p).wire c = rest ∧ (d.fab p).buf c = [] ∧
        (∀ q, q ≠ p → d.part q = s.dev.part q) ∧ d = { s.dev with parts := d.parts, regs := d.regs })) ∧
    (∀ q t v, k.pick (s.dev.valve p site) = some q → Valve.nextTok k (s.dev.valve p site) q = some t →
      (k.kind = .select → q.started = false → q.pair = some v → bitOf k.outMask (v % 4) = true →
        s.dev.outFree p site k.dataScalar (v % 4) = true → (s.dev.fab p).credit ⟨site, 4, k.dataScalar, v % 4⟩ = false →
        Ends (.valveBeat p site true) s (fun d =>
          Table.getD (d.fab p).outs (Chan.key ⟨site, 4, k.dataScalar, v % 4⟩) [] =
            [{ t.tok with tag := q.tag, epoch := (s.dev.part p).epoch }] ∧
          (d.cell p site).fires = ((s.dev.cell p site).fires + 1) % 2 ^ 32 ∧
          (∀ q, q ≠ p → d.part q = s.dev.part q) ∧ d = { s.dev with parts := d.parts })) ∧
      (t.stored = true → (s.dev.job (s.dev.part p).job).state = .none → s.dev.regField (prtOff p PRT_FABRIC_FAULT) 31 31 = 0 →
        Ends (.valveBeat p site false) s (fun d =>
          (d.fab p).halted = true ∧ d.regField (prtOff p PRT_FABRIC_FAULT) 7 0 = 0x24 ∧ d.mem = s.dev.mem))) ∧
    (∀ i t, ((s.dev.valve p site).aging k)[i]? = some t → (s.dev.job (s.dev.part p).job).state = .none →
      s.dev.regField (prtOff p PRT_FABRIC_FAULT) 31 31 = 0 → s.dev.regField (prtOff p PRT_VALVE_TIMEOUT) 31 31 = 0 →
      Ends (.valvePairingTimeout p site i false) s (fun d =>
        (d.fab p).halted = true ∧ d.regField (prtOff p PRT_FABRIC_FAULT) 7 0 = 0x23 ∧
        d.regField (prtOff p PRT_VALVE_TIMEOUT) 11 0 = t.tok.tag % 4096 ∧ d.mem = s.dev.mem)) ∧
    (∀ port, s.dev.selSite port p = site →
      Ends (.prtValveClearHw port p) s (fun d =>
        (d.valve p site).highWater = (s.dev.valve p site).occupancy ∧
        (∀ k, k ≠ site → d.cell p k = s.dev.cell p k) ∧ (d.fab p).outs = (s.dev.fab p).outs ∧
        (∀ q, q ≠ p → d.part q = s.dev.part q) ∧ d = { s.dev with parts := d.parts })) ∧
    Ends (.prtValvePeakClear p) s (fun d =>
      d.reg (prtOff p PRT_VALVE_PEAK) = 0 ∧ (∀ k, k ≠ prtOff p PRT_VALVE_PEAK → d.reg k = s.dev.reg k) ∧
      d = { s.dev with regs := d.regs })

/-! ### Rings of the tile ports (06_tiling_and_streams) -/

/-- R298, R299, R303, R304, R306, R309: a ring issues its next fill where a slot is free, from the address that its table
gives, and stops with the status where that is refused; the fill's bytes land in its slot; the running step's complete fill
enters the fabric as one packet; a token of the output channel goes into the TAIL slot; a committed slot is written out and
released. -/
def Obligations.RingsFillInjectAndDrain : Prop :=
  ∀ (s : State) (p col ch : Nat) (c : RingCfg), Running s → p < 12 → col < 16 → (s.dev.fab p).halted = false →
    (s.dev.part p).stop.ring col ch = some c → (s.dev.portRing p col ch).stopped = false →
    let r := s.dev.portRing p col ch
    (∀ x e i, ch < 2 → (s.dev.part p).closed = false → s.dev.nextFill p col ch = some (x, e, i) → r.nextFill < r.keep + c.slots →
      r.fills.any (fun f => f.index % c.slots == r.nextFill % c.slots) = false →
      (3 ≤ e.mode → s.dev.arrived = [] → Ends (.ringFillIssue p col ch) s (fun d =>
        (d.portRing p col ch).fills = r.fills ++
          [{ index := r.nextFill, uid := s.dev.nextUid, step := x.uid, bytes := e.bytes, src := none }] ∧
        (d.portRing p col ch).nextFill = r.nextFill + 1 ∧ (d.part p).fabric = (s.dev.part p).fabric ∧
        (∀ q, q ≠ p → d.part q = s.dev.part q) ∧ d = { s.dev with parts := d.parts, nextUid := s.dev.nextUid + 1 })) ∧
      (e.mode = 0 →
        let a := unsignedOf 64 ((e.base : Int) + i * signedOf 64 e.list)
        (s.dev.ringRefusal p a e.bytes false = 0 → s.dev.isSelf (addrDevice a) = true → Ends (.ringFillIssue p col ch) s (fun d =>
          (d.portRing p col ch).fills = r.fills ++
            [{ index := r.nextFill, uid := s.dev.nextUid, step := x.uid, bytes := e.bytes, src := some a }] ∧
          (d.mover (16 * p + col)).ringWork = (s.dev.mover (16 * p + col)).ringWork ++ [s.dev.nextUid] ∧
          (∀ q, q ≠ p → d.part q = s.dev.part q) ∧
          d = { s.dev with parts := d.parts, nextUid := s.dev.nextUid + 1, movers := d.movers })) ∧
        (∀ st, s.dev.ringRefusal p a e.bytes false = st → st ≠ 0 → Ends (.ringFillIssue p col ch) s (fun d =>
          (d.portRing p col ch).stopped = true ∧ (d.portRing p col ch).fills = r.fills ∧
          d.reg (regKey (prtOff p PRT_RING_STATUS) (ringKey col ch)) = 2 ^ 31 + st ∧
          (∀ q, q ≠ p → d.part q = s.dev.part q) ∧ d = { s.dev with parts := d.parts, regs := d.regs })))) ∧
    (∀ f bs, ch < 2 → r.fills.find? (fun f => !f.done) = some f →
      (match f.src with
       | none => bs = List.replicate f.bytes 0
       | some a => s.dev.readAny f.uid 0 a f.bytes = .bytes bs) →
      Ends (.ringFillComplete p col ch) s (fun d =>
        d.mem = Memory.applyAll s.dev.mem (cellsOf (c.key p f.index) bs) ∧ (d.portRing p col ch).tail = r.tail + 1 ∧
        (d.portRing p col ch).fills = r.fills.map (fun g => if g.uid = f.uid then { g with done := true } else g) ∧
        (∀ q, q ≠ p → d.part q = s.dev.part q) ∧ d.out = s.dev.out)) ∧
    (∀ x f, ch < 2 → (s.dev.part p).closed = false → (s.dev.part p).running = some x →
      r.fills.find? (fun f => f.step == x.uid && !f.injected) = some f → f.done = true → s.dev.cutDue p x = false →
      (s.dev.fab p).credit ⟨col, 4, false, ch⟩ = false →
      Ends (.ringInject p col ch) s (fun d =>
        (d.portRing p col ch).head = r.head + 1 ∧
        Table.getD (d.fab p).outs (Chan.key ⟨col, 4, false, ch⟩) [] =
          Table.getD (s.dev.fab p).outs (Chan.key ⟨col, 4, false, ch⟩) [] ++
            (s.dev.slotTokens p c f).map (fun t => { t with epoch := (s.dev.part p).epoch }) ∧
        (∀ q, q ≠ p → d.part q = s.dev.part q) ∧ d = { s.dev with parts := d.parts })) ∧
    (∀ x t rest o, (ch = 2 ∨ ch = 3) → (s.dev.part p).running = some x →
      (s.dev.fab p).buf ⟨col, 5, false, ch - 2⟩ = t :: rest → r.openSlot c x (s.dev.ringEntry x col ch) = some o → o.tokens < c.tokens →
      Ends (.outboundToken p col ch) s (fun d =>
        d.mem = Memory.applyAll s.dev.mem (cellsOf (c.key p o.index + 64 * o.tokens) t.bytes) ∧
        d.portRing p col ch =
          r.putSlot { o with tokens := o.tokens + 1, closed := t.fin || o.tokens + 1 == c.tokens } ∧
        (d.fab p).buf ⟨col, 5, false, ch - 2⟩ = rest ∧
        (∀ q, q ≠ p → d.part q = s.dev.part q) ∧ d = { s.dev with parts := d.parts, mem := d.mem })) ∧
    (∀ o, (ch = 2 ∨ ch = 3) → r.outs.find? (fun o => o.closed && o.committed) = some o → o.mode = 0 →
      let a := unsignedOf 64 ((o.base : Int) + o.nth * signedOf 64 o.list)
      s.dev.ringRefusal p a (64 * o.tokens) true = 0 → s.dev.isSelf (addrDevice a) = true →
      Ends (.ringWriteOut p col ch) s (fun d =>
        (d.portRing p col ch).head = r.head + 1 ∧ (d.portRing p col ch).keep = r.keep + 1 ∧
        (d.portRing p col ch).outs = r.outs.filter (fun y => y.index != o.index) ∧
        d.flight = (s.dev.sendBytes o.uid (16 * p + col) (s.dev.part p).job 2 p a
          (s.dev.readBytes (c.key p o.index) (64 * o.tokens))).flight ∧
        d.mem = s.dev.mem ∧ (∀ q, q ≠ p → d.part q = s.dev.part q)))

/-! ### The queue unit (09_queue_unit) -/

/-- R433, R436, R440, R442, R443, R451, R454 to R457: a push port's token becomes a word on its way; a packet's word is written
under the next sequence number, and a queue with no room drops it; a packet becomes visible in arrival order; a pop port takes
the next item and sends its first word; a stall marker answers a read that found nothing; a skip token is taken or ignored. -/
def Obligations.QueuePortsMoveWords : Prop :=
  ∀ (s : State) (p col : Nat), Running s → p < 12 → col < 16 → (s.dev.fab p).halted = false →
    (∀ t rest b, let w := (s.dev.part p).tileWord col
      bitOf w 6 = true → (s.dev.fab p).buf ⟨col, 5, false, 2⟩ = t :: rest →
      (s.dev.part p).bindingQueue (bitsOf w 13 8) = some b →
      Ends (.pushTokenArrival p col) s (fun d =>
        (d.qpart p).incoming = (s.dev.qpart p).incoming ++
          [{ queue := b.queue, producer := 192 * s.dev.index + 16 * p + col, level := bitsOf w 22 20, bytes := t.bytes, fin := t.fin }] ∧
        (d.qpart p).queues = (s.dev.qpart p).queues ∧ (d.fab p).buf ⟨col, 5, false, 2⟩ = rest ∧
        (∀ q, q ≠ p → d.part q = s.dev.part q ∧ d.qpart q = s.dev.qpart q) ∧
        d = { s.dev with parts := d.parts, queues := d.queues })) ∧
    (∀ w rest x, (s.dev.qpart p).incoming = w :: rest → w.fin = true → s.dev.queue? p w.queue = some x →
      x.discarding = [] → x.partials = [] → 1 ≤ x.maxPacket →
      (∀ n y, x.verdict w.producer none = (.accepted n, y) → x.packetWords + 1 ≤ x.capacity - 1 →
        Ends (.queueWordWrite p) s (fun d =>
          (d.qpart p).incoming = rest ∧
          d.queue? p w.queue = some { y with packets := y.packets ++
            [{ producer := w.producer, seq := n, level := w.level, words := [padTo 64 w.bytes] }] } ∧
          (∀ q, q ≠ w.queue → d.queue? p q = s.dev.queue? p q) ∧ d = { s.dev with queues := d.queues, regs := d.regs })) ∧
      (∀ n y, x.verdict w.producer none = (.accepted n, y) → x.capacity - 1 < x.packetWords + 1 →
        Ends (.queueWordWrite p) s (fun d =>
          (d.qpart p).incoming = rest ∧ (∃ z, d.queue? p w.queue = some z ∧ z.packets = x.packets) ∧
          d.reg (regKey QUE_DROP_COUNT (queInst p w.queue)) = satAdd 32 (s.dev.reg (regKey QUE_DROP_COUNT (queInst p w.queue))) 1 ∧
          d = { s.dev with queues := d.queues, regs := d.regs }))) ∧
    (∀ q x i, s.dev.queue? p q = some x → indexWhere (fun y : Packet => !y.visible) 0 x.packets = some i →
      (let ps := x.packets.mapIdx (fun j z => if j = i then { z with visible := true, order := x.nextOrder } else z)
       let y := { x with packets := ps, nextOrder := x.nextOrder + 1 }
       (x.notify = 0 → Ends (.packetVisible p q false) s (fun d =>
          d = s.dev.setQueue p q y)) ∧
       (x.notify = 1 → Ends (.packetVisible p q false) s (fun d =>
          d.queue? p q = some y ∧ d.eventCount x.notifyArg = (s.dev.eventCount x.notifyArg + 1) % 2 ^ 32 ∧
          d = { s.dev with queues := d.queues, regs := d.regs })))) ∧
    (∀ r x ce, (s.dev.part p).running ≠ none → (s.dev.qpart p).pops.find? (fun r => r.col == col) = some r →
      r.current = none → r.done < r.reads → r.skip = false → s.dev.queue? p r.queue = some x →
      (∀ i y, x.replayList = [] → x.nextItem = some (.packet i y) → y.words ≠ [] → y.cutAt = none → y.marker = false →
        s.dev.outFree p col false 2 = true → (s.dev.fab p).credit ⟨col, 4, false, 2⟩ = false →
        Ends (.popPortChoose p col ce none) s (fun d =>
          Table.getD (d.fab p).outs (Chan.key ⟨col, 4, false, 2⟩) [] =
            [{ payload := BitVec.ofNat 512 (leNat (y.words.getD 0 [])), tag := r.tag, fin := decide (y.words.length = 1)
               epoch := (s.dev.part p).epoch }] ∧
          d.queue? p r.queue = some { x with packets := x.packets.eraseIdx i, held := x.held ++ [y]
                                             readList := x.readList ++ [(col, y)] } ∧
          (d.qpart p).pops.find? (fun r => r.col == col) =
            some (if y.words.length = 1 then { r with done := r.done + 1, sent := 0 }
                  else { r with current := some y, sent := 1 }) ∧
          (∀ k, k ≠ p → d.part k = s.dev.part k ∧ d.qpart k = s.dev.qpart k) ∧
          d = { s.dev with parts := d.parts, queues := d.queues, regs := d.regs })) ∧
      (x.stallLimit ≠ 0 → x.replayList = [] → x.nextItem = none →
        Ends (.stallMarkerTimeout p col) s (fun d =>
          (d.qpart p).pops.find? (fun r => r.col == col) = some { r with done := r.done + 1 } ∧
          d.reg (regKey QUE_STALL_COUNT (queInst p r.queue)) = satAdd 32 (s.dev.reg (regKey QUE_STALL_COUNT (queInst p r.queue))) 1 ∧
          d.queue? p r.queue = some x ∧
          (∀ k, k ≠ p → d.part k = s.dev.part k ∧ d.qpart k = s.dev.qpart k) ∧
          d = { s.dev with parts := d.parts, queues := d.queues, regs := d.regs, freeCounter := s.dev.freeCounter + 1 }))) ∧
    (∀ r t rest, (s.dev.fab p).buf ⟨col, 5, false, 3⟩ = t :: rest →
      (s.dev.qpart p).pops.find? (fun r => r.col == col) = some r →
      (∀ y, r.current = some y → r.sent + 1 < y.words.length → r.skip = false →
        Ends (.popSkipToken p col) s (fun d =>
          (d.qpart p).pops.find? (fun r => r.col == col) = some { r with skip := true } ∧
          d.reg (regKey QUE_SKIP_COUNT (queInst p r.queue)) = satAdd 32 (s.dev.reg (regKey QUE_SKIP_COUNT (queInst p r.queue))) 1 ∧
          (d.fab p).buf ⟨col, 5, false, 3⟩ = rest ∧
          (∀ k, k ≠ p → d.part k = s.dev.part k ∧ d.qpart k = s.dev.qpart k) ∧
          d = { s.dev with parts := d.parts, queues := d.queues, regs := d.regs })) ∧
      (r.current = none → Ends (.popSkipToken p col) s (fun d =>
        d.reg (regKey QUE_SKIP_IGNORED (queInst p r.queue)) = satAdd 32 (s.dev.reg (regKey QUE_SKIP_IGNORED (queInst p r.queue))) 1 ∧
        (d.fab p).buf ⟨col, 5, false, 3⟩ = rest ∧ d.queues = s.dev.queues ∧
        d = { s.dev with parts := d.parts, regs := d.regs })))

/-- R463 to R467: QUEUE_CREATE places a queue where it fits; QUEUE_DESTROY takes one that a session made; QUEUE_PUSH completes
with what its packet met and stores an accepted one; QUEUE_POP delivers up to MAX_WORDS words of the next packet, waits where
the queue has a stall limit, and completes with QUE_EMPTY at its end; QUEUE_SKIP drops the rest of the origin's packet. -/
def Obligations.QueueCommandsComplete : Prop :=
  ∀ (s : State) (o : Origin) (e : Staged) (p q : Nat), Running s → e.op 8 1 = p → e.op 9 1 = q →
    (∀ base, Next s o 0x30 e → e.op 16 4 ≠ 0 → e.op 16 4 + 1 ≤ e.op 12 4 → e.op 12 4 ≤ 65536 →
      e.op 20 2 ≤ (if e.op 10 1 % 4 = 2 then 11 else 2047) → s.dev.queue? p q = none → (s.dev.part p).job ≠ 0 →
      (s.dev.qpart p).carved = true → (s.dev.qpart p).firstFit (e.op 12 4) = some base →
      Ends (.queueCreate o) s (fun d =>
        d.queue? p q = some { base := base, capacity := e.op 12 4, maxPacket := e.op 16 4, notify := e.op 10 1 % 4
                              notifyArg := e.op 20 2, stallLimit := e.op 22 2 } ∧
        (∀ k, k ≠ q → d.queue? p k = s.dev.queue? p k) ∧ (∀ k, k ≠ p → d.qpart k = s.dev.qpart k) ∧
        d = ({ s.dev.start e with queues := d.queues } : Device).complete e.cmd 0 (leBytes 2 base))) ∧
    (∀ x, Next s o 0x31 e → s.dev.queue? p q = some x → x.waiting = [] →
      (x.image = 0 → Ends (.queueDestroy o) s (fun d =>
        d.queue? p q = none ∧ (∀ k, k ≠ q → d.queue? p k = s.dev.queue? p k) ∧ (∀ k, k ≠ p → d.qpart k = s.dev.qpart k) ∧
        d = ({ s.dev.start e with queues := d.queues, regs := d.regs } : Device).complete e.cmd 0 [])) ∧
      (x.image ≠ 0 → Ends (.queueDestroy o) s (fun d => d = (s.dev.start e).complete e.cmd 0x0405 []))) ∧
    (∀ x, Next s o 0x32 e → s.dev.startedOp o 0x32 = none → s.dev.queue? p q = some x → e.op 24 4 ≤ x.maxPacket →
      s.dev.isSelf (addrDevice (e.op 16 8)) = true → addrSpace (e.op 16 8) ≠ 4 →
      s.dev.poisonIn (localKey (e.op 16 8)) (64 * e.op 24 4) = none →
      Ends (.queuePush o 0 none) s (fun d =>
        d = ({ s.dev.start e with queues := d.queues, regs := d.regs, arrived := d.arrived } : Device).complete e.cmd 0
          (leBytes 1 (s.dev.pushVerdict p q o.producer (some (e.op 12 4)) (e.op 24 4))) ∧
        (∀ n y, e.op 24 4 = 1 → x.discarding = [] → x.partials = [] → x.verdict o.producer (some (e.op 12 4)) = (.accepted n, y) →
          x.packetWords + 1 ≤ x.capacity - 1 →
          d.queue? p q = some { y with packets := y.packets ++
            [{ producer := o.producer, seq := n, level := e.op 10 1
               words := [s.dev.readBytes (localKey (e.op 16 8)) 64] }] }))) ∧
    (∀ x, Next s o 0x33 e → s.dev.waitingPop o = none → s.dev.popFault p = none → s.dev.queue? p q = some x → x.current = none →
      s.dev.isReadOnly (e.op 16 8) (64 * e.op 12 4) = false → s.dev.isSelf (addrDevice (e.op 16 8)) = true →
      (∀ i y, x.nextItem = some (.packet i y) →
        Ends (.queuePop o 0 none) s (fun d =>
          d.mem = Memory.applyAll s.dev.mem (cellsOf (localKey (e.op 16 8)) (y.words.take (e.op 12 4)).flatten) ∧
          d.queue? p q = some { x with
            packets := x.packets.eraseIdx i,
            current := if (y.words.drop (e.op 12 4)).isEmpty then none
                       else some (e.cmd.origin.key, { y with words := y.words.drop (e.op 12 4) }) } ∧
          d = ({ s.dev.start e with queues := d.queues, regs := d.regs, mem := d.mem, poison := d.poison } : Device).complete e.cmd 0
            (popValue (y.words.take (e.op 12 4)).length y.level (bit y.marker) (!(y.words.drop (e.op 12 4)).isEmpty)))) ∧
      (x.nextItem = none →
        (x.stallLimit = 0 → Ends (.queuePop o 0 none) s (fun d => d = (s.dev.start e).complete e.cmd 0x0403 [])) ∧
        (x.stallLimit ≠ 0 → Ends (.queuePop o 0 none) s (fun d =>
          d.queue? p q = some { x with waiting := x.waiting ++ [(e.cmd, e.op 12 4, e.op 16 8)] } ∧
          d = { s.dev.start e with queues := d.queues })))) ∧
    (∀ x c n dst, s.dev.waitingPop o = some (p, q, c, n, dst) → s.dev.queue? p q = some x →
      Ends (.queuePopTimeout o) s (fun d =>
        d.queue? p q = some { x with waiting := x.waiting.filter (fun w => w.1.uid != c.uid) } ∧
        d = ({ s.dev with queues := d.queues } : Device).complete c 0x0403 [])) ∧
    (∀ x, Next s o 0x34 e → s.dev.queue? p q = some x →
      (∀ y, x.current = some (e.cmd.origin.key, y) → Ends (.queueSkip o) s (fun d =>
        d.queue? p q = some { x with current := none } ∧
        d.reg (regKey QUE_SKIP_COUNT (queInst p q)) = satAdd 32 (s.dev.reg (regKey QUE_SKIP_COUNT (queInst p q))) 1 ∧
        d = ({ s.dev.start e with queues := d.queues, regs := d.regs } : Device).complete e.cmd 0 (valueOf y.words.length))) ∧
      (x.current = none → Ends (.queueSkip o) s (fun d =>
        d.reg (regKey QUE_SKIP_IGNORED (queInst p q)) = satAdd 32 (s.dev.reg (regKey QUE_SKIP_IGNORED (queInst p q))) 1 ∧
        d = ({ s.dev.start e with regs := d.regs } : Device).complete e.cmd 0 [])))

/-! ### The breath, its registers and the domain (13_breath_and_scheduling, 16_plovlink_and_domain) -/

/-- R57, R595, R597, R598, R601, R615: on a device with no work, a breath from the device's own timer takes the next number, puts
the written period in force and refills every bucket whose settings are not held; without an edge by its time a breath begins in
holdover, which the registers count. Edges are accepted or counted as early.
R601, R597, R619, R626, R627, R772, R773: a period the device could run is held for the next boundary, another one is refused
with PERIOD_REFUSED; a source is held likewise; an arbiter budget above the run phase is refused; a regulator's settings are held
for the next intake; the domain's registers are locked while a circuit record is live, else HUB_DEVICE_INDEX follows them. -/
def Obligations.BreathsAndTheirRegisters : Prop :=
  (∀ (s : State), Running s → s.dev.timer.on = true →
      (s.dev.jobs = [] → s.dev.images = [] → s.dev.deploys = [] → s.dev.chains = [] → s.dev.groups = [] → s.dev.seqs = [] →
        s.dev.banks = [] → s.dev.timer.begun = true → s.dev.timer.proposed = none → s.dev.timer.heldSource = none →
        (s.dev.source = 0 → Ends (.breathStart []) s (fun d =>
          d.breath = (s.dev.breath + 1) % 2 ^ 64 ∧ d.regField BRT_STATUS 31 31 = 0 ∧ d.mem = s.dev.mem ∧
          d.timer.begun = true ∧ d.timer.edge = false ∧ d.timer.misses = 0 ∧ d.staged = s.dev.staged ∧
          (∀ v, s.dev.timer.heldPeriod = some v → d.period = v % 2 ^ 32 ∧ d.timer.heldPeriod = none) ∧
          (∀ p k, p < 12 → k < 3 → (s.dev.bucket p k).held = false → d.bucket p k = (s.dev.bucket p k).refilled))) ∧
        (s.dev.source = 1 → s.dev.timer.edge = false → Ends (.breathHoldover []) s (fun d =>
          d.breath = (s.dev.breath + 1) % 2 ^ 64 ∧ d.regField BRT_STATUS 31 31 = 1 ∧ d.mem = s.dev.mem ∧
          d.reg BRT_IN_MISS = satAdd 32 (s.dev.reg BRT_IN_MISS) 1 ∧ d.staged = s.dev.staged))) ∧
      (∀ us, s.dev.source = 1 →
        (s.dev.timer.edge = false → s.dev.period ≤ us → Ends (.breathInEdge us) s (fun d =>
          d = { s.dev with timer := { s.dev.timer with edge := true } })) ∧
        (s.dev.timer.edge = true → Ends (.breathInEdge us) s (fun d =>
          d.reg BRT_IN_EARLY = satAdd 32 (s.dev.reg BRT_IN_EARLY) 1 ∧ d = { s.dev with regs := d.regs }))) ∧
      (s.dev.source ≠ 1 → s.dev.regField BRT_PIN 0 0 = 1 → Ends .traceTrigEdge s (fun d =>
        d = { s.dev with timer := { s.dev.timer with traceTriggers := s.dev.timer.traceTriggers + 1 } })) ∧
      (∀ p b per nxt skew, s.dev.source = 2 → s.dev.timer.master = false → s.dev.timer.tick = none → p ≤ 16 →
        s.dev.portUp p = true → bitOf (s.dev.reg PLV_TICK_PORTS) p = true → s.dev.timer.begun = true → s.dev.breath < b →
        Ends (.domainTick p b per nxt skew) s (fun d =>
          d.timer = { s.dev.timer with tick := some ⟨b % 2 ^ 48, per % 2 ^ 16, nxt % 2 ^ 16⟩ } ∧
          d.reg PLV_TICK_SKEW = skew % 2 ^ 16 ∧ d = { s.dev with timer := d.timer, regs := d.regs })) ∧
      (∀ p, p ≤ 16 → s.dev.portUp p = true → Ends (.periodNak p) s (fun d =>
        (d.link p).nakPeriod = true ∧ d.timer.nak = (s.dev.timer.nak || s.dev.timer.announced) ∧
        d = { s.dev with ports := d.ports, timer := { s.dev.timer with nak := d.timer.nak } }))) ∧
  (∀ (s : State) (port : Port) (word : Nat), Running s → port.operates = true →
      (s.dev.couldRun (bitsOf word 11 0) = true → s.dev.sourceComing ≠ 2 → s.dev.isMaster = false →
        Ends (.brtPeriodWrite port word) s (fun d =>
          d.timer = { s.dev.timer with heldPeriod := some (bitsOf word 11 0) } ∧ d.reg BRT_PERIOD = bitsOf word 11 0 ∧
          d.period = s.dev.period ∧ d = { s.dev with timer := d.timer, regs := d.regs })) ∧
      (s.dev.couldRun (bitsOf word 11 0) = false → Ends (.brtPeriodWrite port word) s (fun d =>
        d.regField BRT_STATUS 30 30 = 1 ∧ d.reg BRT_PERIOD = s.dev.reg BRT_PERIOD ∧ d = { s.dev with regs := d.regs })) ∧
      (bitsOf word 1 0 ≠ 3 → Ends (.brtSrcWrite port word) s (fun d =>
        d.timer = { s.dev.timer with heldSource := some (bitsOf word 1 0) } ∧ d.source = s.dev.source ∧
        d = { s.dev with timer := d.timer, regs := d.regs })) ∧
      (∀ c, c ≤ 3 → s.dev.images = [] →
        let kind := bitsOf (s.dev.portReg port SCH_ARB_SEL) 2 0
        let n := fun i : Nat => if i = c then bitsOf word 21 0 else s.dev.reg (regKey (SCH_ARB_BUDGET + 4 * i) kind)
        kind ≤ 6 → kind ≠ 0 →
        (n 0 + n 1 + n 2 + n 3 ≤ s.dev.budgetLimit → Ends (.schArbBudgetWrite port c word) s (fun d =>
          d.reg (regKey (SCH_ARB_BUDGET + 4 * c) kind) = bitsOf word 21 0 ∧
          (∀ k, k ≠ regKey (SCH_ARB_BUDGET + 4 * c) kind → d.reg k = s.dev.reg k) ∧ d = { s.dev with regs := d.regs })) ∧
        (s.dev.budgetLimit < n 0 + n 1 + n 2 + n 3 → Ends (.schArbBudgetWrite port c word) s (fun d =>
          d.regField (portKey SCH_ARB_SEL port) 31 31 = 1 ∧
          (∀ k, k ≠ portKey SCH_ARB_SEL port → d.reg k = s.dev.reg k) ∧ d = { s.dev with regs := d.regs }))) ∧
      (∀ p k reg, p < 12 → k < 3 → reg < 3 → Ends (.regulatorWrite port p k reg word) s (fun d =>
        d.bucket p k = { s.dev.bucket p k with held := true } ∧
        (∀ r, r ≠ prtOff p (PRT_REG_CTRL + 0x20 * k + 4 * reg) → d.reg r = s.dev.reg r) ∧
        d.reg (prtOff p (PRT_REG_CTRL + 0x20 * k + 4 * reg)) = (if reg = 0 then 2 ^ 31 * bitsOf word 31 31 else word % 2 ^ 32) ∧
        (∀ q j, j < 3 → (q, j) ≠ (p, k) → d.bucket q j = s.dev.bucket q j) ∧
        d = { s.dev with buckets := d.buckets, regs := d.regs })) ∧
      (∀ off, port.steward = true →
        (s.dev.circuits ≠ [] → Ends (.domainConfigWrite port off word) s (fun d =>
          d.regField PLV_DOMAIN_CFG 30 30 = 1 ∧ (∀ k, k ≠ PLV_DOMAIN_CFG → d.reg k = s.dev.reg k) ∧
          d = { s.dev with regs := d.regs })) ∧
        (s.dev.circuits = [] → 0x800000 + off = PLV_MEMBERS → Ends (.domainConfigWrite port off word) s (fun d =>
          d.reg PLV_MEMBERS = word % 2 ^ 32 ∧
          d.regField HUB_DEVICE_INDEX 31 31 = bit (d.formed && decide (2 ≤ countOnes d.memberMask 72)) ∧
          d = { s.dev with regs := d.regs }))))

/-! ### Fabric steps (06_tiling_and_streams, 07_memory_tiers, 13_breath_and_scheduling, 18_faults_and_recovery) -/

/-- R288, R290, R313, R608: a free partition issues its next admitted step with the bounds it reads, or asks for the switch to the
step's stop; a bound out of range is latched and the step does not run. R315: a step with nothing left to do commits, and its
rings are released.
R842: a step that runs past its worst case halts the partition with STEP_OVERRUN. R361 to R365: a ledger's parity failure
discards the attempt, which is counted and latched and issues again with its bounds, now or from the next intake; where the stop
accumulates in T1, or at the third attempt, the partition halts. -/
def Obligations.FabricStepsRun : Prop :=
  (∀ (s : State) (p : Nat) (x : StepInst), Running s → p < 12 → (s.dev.fab p).halted = false →
      ((s.dev.part p).running = none → (s.dev.part p).replay = none → (s.dev.part p).switch = none →
        (s.dev.part p).closed = false → s.dev.nextStep p = some x →
        (∀ vs r, (s.dev.part p).runs x = true → x.bound = false → s.dev.stepRec x = some r →
          s.dev.readBounds p 0 r.bounds = .ok vs →
          Ends (.stepIssue p) s (fun d =>
            (d.part p).running = some { x with bounds := vs, bound := true } ∧
            (d.part p).admitted = (s.dev.part p).admitted.filter (fun t => t.uid != x.uid) ∧
            (d.part p).rings = (s.dev.part p).rings ∧ (d.fab p).bufs = (s.dev.fab p).bufs ∧
            (∀ q, q ≠ p → d.part q = s.dev.part q ∧ d.qpart q = s.dev.qpart q) ∧
            d = { s.dev with parts := d.parts, queues := d.queues })) ∧
        (∀ r i why v, (s.dev.part p).runs x = true → x.bound = false → s.dev.stepRec x = some r →
          s.dev.readBounds p 0 r.bounds = .out i why v → s.dev.chain? x.chain = none →
          s.dev.regField (prtOff p PRT_BOUND_STATUS) 31 31 = 0 → why < 4 →
          Ends (.stepIssue p) s (fun d =>
            (d.part p).running = none ∧ (d.part p).admitted = (s.dev.part p).admitted.filter (fun t => t.uid != x.uid) ∧
            d.regField (prtOff p PRT_BOUND_STATUS) 5 0 = i % 64 ∧ d.regField (prtOff p PRT_BOUND_STATUS) 9 8 = why ∧
            d.reg (prtOff p PRT_BOUND_VALUE) = unsignedOf 32 v ∧ d.mem = s.dev.mem ∧
            (∀ q, q ≠ p → d.part q = s.dev.part q))) ∧
        (∀ i, (s.dev.part p).runs x = false → s.dev.slotOf p x.image x.stopId = some i → s.dev.switchRefusal p i = 0 →
          Ends (.stepIssue p) s (fun d =>
            (d.part p).switch = some { target := i } ∧ (d.part p).running = none ∧
            (∀ q, q ≠ p → d.part q = s.dev.part q) ∧ d = { s.dev with parts := d.parts }))) ∧
      ((s.dev.part p).running = some x → s.dev.stepDone p x = true → s.dev.chain? x.chain = none → s.dev.validRoutes = [] →
        (∀ r, s.dev.stepRec x = some r → ∀ e ∈ r.rings, e.mode ≠ 2) →
        Ends (.stepCommit p) s (fun d =>
          (d.part p).running = none ∧ (d.part p).admitted = (s.dev.part p).admitted ∧ (d.part p).fabric = (s.dev.part p).fabric ∧
          (∀ col ch, col < 16 → ch < 2 → d.portRing p col ch = (s.dev.portRing p col ch).release x.uid) ∧
          d.mem = s.dev.mem ∧ d.staged = s.dev.staged ∧ (∀ q, q ≠ p → d.part q = s.dev.part q)))) ∧
  (∀ (s : State) (p : Nat) (x : StepInst), Running s → p < 12 → (s.dev.fab p).halted = false →
      ((s.dev.part p).running = some x → (s.dev.job (s.dev.part p).job).state = .none →
        s.dev.regField (prtOff p PRT_FABRIC_FAULT) 31 31 = 0 →
        Ends (.stepOverrun p) s (fun d =>
          (d.fab p).halted = true ∧ d.regField (prtOff p PRT_FABRIC_FAULT) 7 0 = 0x27 ∧ d.mem = s.dev.mem) ∧
        (∀ unit site, siteKind site = .compute → unit ≤ 2 → ((s.dev.part p).stop.accumulates = true ∨ 2 ≤ x.attempt) →
          Ends (.ledgerParityFailure p unit site) s (fun d =>
            (d.fab p).halted = true ∧ d.regField (prtOff p PRT_FABRIC_FAULT) 7 0 = 0x26 ∧ d.mem = s.dev.mem))) ∧
      (∀ unit site, (s.dev.part p).running = some x → siteKind site = .compute → unit ≤ 2 →
        (s.dev.part p).stop.accumulates = false → x.attempt < 2 →
        Ends (.ledgerParityFailure p unit site) s (fun d =>
          (d.part p).running = none ∧ (d.part p).replay = some { x with attempt := x.attempt + 1, status := 0 } ∧
          (d.fab p).occupancy = 0 ∧ (d.fab p).halted = false ∧
          d.reg (prtOff p PRT_STEP_REPLAY_COUNT) = satAdd 32 (s.dev.reg (prtOff p PRT_STEP_REPLAY_COUNT)) 1 ∧
          (s.dev.regField (prtOff p PRT_REPLAY_STATUS) 31 31 = 0 →
            d.regField (prtOff p PRT_REPLAY_STATUS) 30 28 = unit ∧ d.reg (prtOff p PRT_REPLAY_STEP) = x.stepId % 2 ^ 32) ∧
          (∀ q, q ≠ p → d.part q = s.dev.part q ∧ d.qpart q = s.dev.qpart q) ∧
          d = { s.dev with parts := d.parts, queues := d.queues, regs := d.regs })) ∧
      ((s.dev.part p).replay = some x → (s.dev.part p).parked = false →
        Ends (.stepReplayReissue p true) s (fun d =>
          (d.part p).running = some x ∧ (d.part p).replay = none ∧
          (∀ q, q ≠ p → d.part q = s.dev.part q) ∧ d = { s.dev with parts := d.parts }) ∧
        Ends (.stepReplayReissue p false) s (fun d =>
          (d.part p).parked = true ∧ (d.part p).replay = some x ∧
          (∀ q, q ≠ p → d.part q = s.dev.part q) ∧ d = { s.dev with parts := d.parts })))

/-! ### Drone engines (11_serving, 18_faults_and_recovery) -/

/-- R529, R534 to R538: a Drone that has come to an operation executes it under its own command: the scratch operations and
D_MATMUL go on to the next operation and write nothing outside this Drone's scratch; D_ATTN and D_EXCHANGE wait in their exchange;
D_KV_WRITE writes only for rows whose page lies in this Drone's stack; D_SAMPLE hands the rows to the sampler; D_PUSH counts
NEXT_SEQ of its queue. No other Drone changes. -/
def Obligations.DroneOperationsExecute : Prop :=
  ∀ (s : State) (n : Nat) (st : DroneStep) (x : Image) (g : Group) (o : List Byte), Running s → n < 12 →
    s.dev.droneHalted n = false → (s.dev.drone n).step = some st → s.dev.droneOpAt n st = some o → s.dev.image? st.image = some x →
    s.dev.group? st.image = some g → st.exchange = none →
    let on := fun d : Device => (∃ y, (d.drone n).step = some y ∧ y.op = st.op + 1 ∧ y.index = st.index ∧ y.exchange = none) ∧
      (∀ k, k ≠ n → d.drone k = s.dev.drone k)
    let kept := fun d : Device => ∀ a, a / 2 ^ 53 ≠ 16 + n → d.readByte a = s.dev.readByte a
    (∀ t, leAt o 0 1 = 0x48 → x.tiles.find? (fun t => t.id == (MatOp.ofBytes o).item) = some t →
      (∀ i, i < (MatOp.ofBytes o).panels → s.dev.itemPoison x (x.panelKey t ((MatOp.ofBytes o).first + i)) t.size = none) →
      Ends (.dMatmul n) s (fun d => on d ∧ kept d ∧
        d = { s.dev with drones := d.drones, mem := d.mem, regs := d.regs, freeCounter := d.freeCounter })) ∧
    (leAt o 0 1 = 0x49 → s.dev.attnPoison n (AttnOp.ofBytes x o) g = none → Ends (.dAttn n) s (fun d =>
      (∃ y, (d.drone n).step = some y ∧ y.op = st.op ∧ y.exchange = some (3, 0, 0, 0)) ∧
      (∀ k, k ≠ n → d.drone k = s.dev.drone k) ∧ d = { s.dev with drones := d.drones })) ∧
    (leAt o 0 1 = 0x4A → Ends (.dExchange n) s (fun d =>
      (d.drone n).step = some { st with exchange := some (leAt o 8 1, leAt o 12 4, leAt o 16 4, leAt o 20 4) } ∧
      (∀ k, k ≠ n → d.drone k = s.dev.drone k) ∧ d = { s.dev with drones := d.drones })) ∧
    (leAt o 0 1 = 0x4B → Ends (.dKvWrite n) s (fun d => on d ∧
      ((∀ r ∈ g.rows, r.entry.onStack s.dev n r.pos = false) → d.mem = s.dev.mem) ∧
      d = { s.dev with drones := d.drones, mem := d.mem, regs := d.regs, poison := d.poison })) ∧
    (leAt o 0 1 = 0x4C → Ends (.dVector n) s (fun d => on d ∧ kept d ∧
      d = { s.dev with drones := d.drones, mem := d.mem, regs := d.regs, freeCounter := d.freeCounter })) ∧
    (∀ t, leAt o 0 1 = 0x4D → x.tiles.find? (fun t => t.id == leAt o 8 4) = some t → t.k ≤ 2 ^ 32 →
      (∀ r ∈ g.rows, s.dev.itemPoison x (x.panelKey t (r.token / 64)) t.size = none) →
      Ends (.dEmbed n) s (fun d => on d ∧ kept d ∧ d = { s.dev with drones := d.drones, mem := d.mem })) ∧
    (leAt o 0 1 = 0x4E → Ends (.dSample n) s (fun d => on d ∧ (∃ y, (d.drone n).step = some y ∧ y.sampled = true) ∧
      (g.passDone = true → d.rows = s.dev.rows) ∧ d = { s.dev with drones := d.drones, rows := d.rows })) ∧
    (leAt o 0 1 = 0x4F → st.rows = 1 → Ends (.dPush n) s (fun d => on d ∧
      (let key := 256 * leAt o 8 1 + leAt o 9 1
       let seq := (((s.dev.drone n).pushSeq.find? (fun e => e.1 == key)).map (·.2)).getD 1
       ((d.drone n).pushSeq.find? (fun e => e.1 == key)).map (·.2) = some ((seq + 1) % 2 ^ 32)) ∧
      (s.dev.queue? (leAt o 8 1) (leAt o 9 1) = none → d.queues = s.dev.queues) ∧
      d = { s.dev with drones := d.drones, queues := d.queues, regs := d.regs }))

/-- R515 to R518, R537, R540, R843: a pass's next step issues on every member with its bounds; an exchange that every member has
issued completes on all of them; a member whose work is done commits, the last one moving the pass on; an overrun halts the Drone;
a parity failure starts the step again on every member, and is counted. -/
def Obligations.DroneStepsRun : Prop :=
  ∀ (s : State) (image : Nat) (g : Group) (x : Image), Running s → s.dev.group? image = some g → s.dev.image? image = some x →
    g.members.Nodup → (∀ m ∈ g.members, m < 12 ∧ s.dev.droneHalted m = false) →
    (g.members ≠ [] → g.nextStep < g.admitted → g.batch ≠ [] → (∀ m ∈ g.members, (s.dev.drone m).step = none) →
      (∀ m ∈ g.members, ∀ r, (x.droneSteps m)[g.nextStep]? = some r →
        ∃ vs, s.dev.readBounds m 0 (passBounds r g.rowCount g.longest) = .ok vs) →
      Ends (.droneStepIssue image) s (fun d =>
        (∀ m ∈ g.members, ∀ r, (x.droneSteps m)[g.nextStep]? = some r →
          ∃ y, (d.drone m).step = some y ∧ y.stepId = r.id ∧ y.index = g.nextStep ∧ y.op = 0 ∧ y.rows = g.rowCount ∧
            y.image = image ∧ y.snapshot = (s.dev.drone m).pushSeq) ∧
        (∀ k, k ∉ g.members → d.drone k = s.dev.drone k) ∧ d.group? image = some { g with running := true } ∧
        d = { s.dev with drones := d.drones, groups := d.groups, nextUid := d.nextUid })) ∧
    (∀ kind cycles, kind ≠ 3 → g.members ≠ [] →
      (∀ m ∈ g.members, ∃ y a b c, (s.dev.drone m).step = some y ∧ y.image = image ∧ y.exchange = some (kind, a, b, c)) →
      Ends (.exchangeComplete image cycles) s (fun d =>
        (∀ m ∈ g.members, ∀ y, (s.dev.drone m).step = some y →
          ∃ z, (d.drone m).step = some z ∧ z.exchange = none ∧ z.op = y.op + 1) ∧
        (∀ k, k ∉ g.members → d.drone k = s.dev.drone k) ∧
        d = { s.dev with drones := d.drones, mem := d.mem, regs := d.regs })) ∧
    (∀ n st, n ∈ g.members → (s.dev.drone n).step = some st → st.image = image → st.status = 0 →
      (∀ m ∈ g.members, ∀ y, (s.dev.drone m).step = some y → s.dev.droneDone m y g = true) →
      ((∃ m ∈ g.members, m ≠ n ∧ (s.dev.drone m).step ≠ none) → Ends (.droneStepCommit n) s (fun d =>
        (d.drone n).step = none ∧ (∀ k, k ≠ n → d.drone k = s.dev.drone k) ∧ d = { s.dev with drones := d.drones })) ∧
      ((∀ m ∈ g.members, m ≠ n → (s.dev.drone m).step = none) → g.batch ≠ [] →
        g.nextStep + 1 < (x.droneSteps (g.members.headD 0)).length → Ends (.droneStepCommit n) s (fun d =>
          (d.drone n).step = none ∧
          d.group? image = some { g with nextStep := g.nextStep + 1, running := false, carried := false } ∧
          d = { s.dev with drones := d.drones, groups := d.groups }))) ∧
    (∀ n st, n ∈ g.members → (s.dev.drone n).step = some st → (s.dev.job st.job).state = .none →
      Ends (.droneStepOverrun n) s (fun d => d.droneHalted n = true ∧ d = { s.dev with regs := d.regs })) ∧
    (∀ n st unit, n ∈ g.members → (s.dev.drone n).step = some st → st.image = image → st.attempt < 2 → unit ≤ 2 →
      (∀ m ∈ g.members, (s.dev.drone m).step ≠ none) →
      Ends (.droneParityFailure n unit) s (fun d =>
        (∀ m ∈ g.members, ∀ y, (s.dev.drone m).step = some y →
          (d.drone m).pushSeq = y.snapshot ∧
          (d.drone m).step = some { y with op := 0, attempt := y.attempt + 1, exchange := none, anchors := []
                                           sampled := false, status := 0 }) ∧
        (∀ k, k ∉ g.members → d.drone k = s.dev.drone k) ∧
        d.reg (drnOff n DRN_REPLAY_COUNT) = satAdd 32 (s.dev.reg (drnOff n DRN_REPLAY_COUNT)) 1 ∧
        d = { s.dev with drones := d.drones, regs := d.regs }))

/-! ### Suspension, long operations, the Front schedule (07_memory_tiers, 13_breath_and_scheduling) -/

/-- R629, R632, R636, R637, R639: JOB_SUSPEND marks a running job; the save step of a quiet job keeps every partition's fabric,
rings and slots; as the saves have landed the partitions are free and empty and JOB_SUSPEND completes; JOB_RESUME takes the
partitions of the job's images again, the restore step brings everything back, and as the checks agree the job runs with its
active slots and epochs. A carried step that stands at its checkpoint is cut there. -/
def Obligations.JobsSuspendAndResume : Prop :=
  ∀ (s : State) (j : Nat), Running s →
    (∀ o e, Next s o 0x7A e → e.op 8 4 = j → e.op 1 1 = 0 → e.aux = 0 → allZero (sliceOf e.entry 12 52) = true →
      (s.dev.job j).state = .running → (s.dev.job j).suspend = .no →
      Ends (.jobSuspend o) s (fun d =>
        d.job j = { s.dev.job j with suspend := .suspending, cmd := some e.cmd } ∧
        (∀ k, k ≠ j → d.job k = s.dev.job k) ∧ d = { s.dev.start e with jobs := d.jobs })) ∧
    ((s.dev.job j).suspend = .suspending → s.dev.jobQuiet j = true →
      Ends (.saveStep j) s (fun d =>
        d.job j = { s.dev.job j with suspend := .saving } ∧
        (∀ p ∈ s.dev.jobParts j, s.dev.saveKey j p ≠ none →
          d.saved j p = ⟨s.dev.fab p, (s.dev.part p).rings, (s.dev.part p).slots, (s.dev.part p).active, (s.dev.part p).epoch,
            (s.dev.part p).replay⟩) ∧
        d = { s.dev with jobs := d.jobs, saves := d.saves, mem := d.mem, freeCounter := d.freeCounter })) ∧
    (∀ c, (s.dev.job j).suspend = .saving → (s.dev.job j).cmd = some c →
      Ends (.saveComplete j) s (fun d =>
        (d.job j).suspend = .saved ∧
        (∀ p ∈ s.dev.jobParts j, (d.part p).job = 0 ∧ (d.part p).slots = [] ∧ (d.part p).rings = [] ∧ (d.part p).active = none ∧
          (d.fab p).occupancy = 0) ∧
        (∀ p, p ∉ s.dev.jobParts j → d.part p = s.dev.part p) ∧
        d = ({ s.dev with jobs := d.jobs, parts := d.parts } : Device).complete c 0 (valueOf ((s.dev.jobParts j).foldl
          (fun n p => n + s.dev.saveBytes j p (s.dev.part p).cutStep.isSome) 0)))) ∧
    (∀ o e, Next s o 0x7B e → e.op 8 4 = j → e.op 1 1 = 0 → e.aux = 0 → allZero (sliceOf e.entry 12 52) = true →
      (s.dev.job j).state = .running → (s.dev.job j).suspend = .saved →
      (∀ p ∈ s.dev.imageParts j, (s.dev.part p).job = 0) →
      Ends (.jobResume o) s (fun d =>
        d.job j = { s.dev.job j with suspend := .resuming, cmd := some e.cmd } ∧
        (∀ p ∈ s.dev.imageParts j, d.part p = { s.dev.part p with job := j }) ∧
        (∀ p, p ∉ s.dev.imageParts j → d.part p = s.dev.part p) ∧
        d = { s.dev.start e with jobs := d.jobs, parts := d.parts })) ∧
    ((s.dev.job j).suspend = .resuming →
      Ends (.restoreStep j) s (fun d =>
        d.job j = { s.dev.job j with suspend := .restoring } ∧
        (∀ p ∈ s.dev.jobParts j, s.dev.saveKey j p ≠ none →
          (d.part p).rings = (s.dev.saved j p).rings ∧ (d.part p).replay = (s.dev.saved j p).replay ∧
          (d.fab p).bufs = (s.dev.saved j p).fabric.bufs ∧ (d.fab p).halted = (s.dev.fab p).halted) ∧
        (∀ p, p ∉ s.dev.jobParts j → d.part p = s.dev.part p) ∧
        d = { s.dev with jobs := d.jobs, parts := d.parts, mem := d.mem })) ∧
    (∀ c, (s.dev.job j).suspend = .restoring → (s.dev.job j).cmd = some c →
      (∀ p ∈ s.dev.jobParts j, ∀ l ∈ (s.dev.part p).loads, l.restart = false) →
      Ends (.restoreComplete j) s (fun d =>
        ((∀ p ∈ s.dev.jobParts j, s.dev.saveIntact j p = true ∧ ∀ e ∈ (s.dev.saved j p).slots,
            (e.2.state = .ready ∨ e.2.state = .active) → s.dev.slotState p e.1 = .ready) →
          (d.job j).suspend = .no ∧
          (∀ p ∈ s.dev.jobParts j, (d.part p).active = (s.dev.saved j p).active ∧ (d.part p).epoch = (s.dev.saved j p).epoch) ∧
          d = ({ s.dev with jobs := d.jobs, parts := d.parts, saves := d.saves } : Device).complete c 0 []))) ∧
    (∀ p x n, p < 12 → (s.dev.fab p).halted = false → (s.dev.part p).running = some x → s.dev.checkpointOf p x = some n →
      s.dev.cutDue p x = true → (s.dev.fab p).onlyLedgers = true → s.dev.taken p = 0 →
      Ends (.checkpointCut p) s (fun d =>
        (d.part p).running = none ∧ (d.part p).parked = true ∧
        (d.part p).replay = some { x with cut := n, carried := false } ∧ (d.fab p).cells = (s.dev.fab p).cells ∧
        d.jobs = s.dev.jobs ∧ d.mem = s.dev.mem))

/-- R346, R348: a claimed Front load whose region is free starts: a TILE_LOAD queues its moves on its channel, a STOP_LOAD waits
behind the partition's loads. R360, R640, R641: a long operation steps only where the intake planned it: the T3 scrub goes on by
the granules it has visited. -/
def Obligations.FrontAndLongOperationsStep : Prop :=
  ∀ (s : State), Running s →
    (∀ p h x i f, p < 12 → (s.dev.fab p).halted = false →
      (s.dev.frontOn p).find? (fun e =>
        let y := s.dev.frontEntry p e.1 e.2.2.1
        y.claimed && !y.started && !s.dev.frontOccupied p e) = some (h, x, i, f) →
      (∀ t, f.kind = 0 → x.tiles.find? (fun t => t.id == f.arg0) = some t →
        (s.dev.mover (16 * p + f.arg3 % 16)).queue.length + (x.tileMoves p f t).length ≤ 64 →
        Ends (.frontLoadStart p) s (fun d =>
          (d.frontEntry p h i).started = true ∧
          (d.mover (16 * p + f.arg3 % 16)).queue.map (·.mv) =
            (s.dev.mover (16 * p + f.arg3 % 16)).queue.map (·.mv) ++ x.tileMoves p f t ∧
          (∀ c, c ≠ 16 * p + f.arg3 % 16 → d.mover c = s.dev.mover c) ∧ (∀ q, q ≠ p → d.part q = s.dev.part q) ∧
          d.mem = s.dev.mem ∧ d.images = s.dev.images)) ∧
      (∀ r, f.kind ≠ 0 → x.stops.find? (fun r => r.id == f.arg0) = some r → s.dev.loadRefusal p (f.arg1 % 4) = 0 →
        Ends (.frontLoadStart p) s (fun d =>
          (d.frontEntry p h i).started = true ∧
          (d.part p).loads = (s.dev.part p).loads ++
            [{ slot := f.arg1 % 4, src := r.source, image := h, stopId := r.id, front := some i }] ∧
          (∀ q, q ≠ p → d.part q = s.dev.part q) ∧ d = { s.dev with parts := d.parts }))) ∧
    (∀ id units l data, s.dev.longOps.find? (fun l => l.id == id) = some l →
      (s.dev.planned.contains id = false → Ends (.longOpStep id units false data) s (fun d => d = s.dev)) ∧
      (s.dev.planned.contains id = true → l.kind = .scrubT3 → s.dev.poison = [] →
        Ends (.longOpStep id units false data) s (fun d =>
          (let total := (s.dev.ddr + s.dev.cxl.getD 0 0 + s.dev.cxl.getD 1 0) / 4096
           let next := l.step + min units 2048
           d.longOps.find? (fun l => l.id == id) = some { l with step := if total ≤ next then 0 else next }) ∧
          d.planned = s.dev.planned.filter (fun i => i != id) ∧
          d = { s.dev with planned := d.planned, longOps := d.longOps })))

/-! ### Serving and sampling (11_serving, 12_mutes_and_sampling) -/

/-- R528, R544, R545, R559 to R561, R569, R572: GENERATE and PREFIX_BUILD with good operands take in a sequence with its pages and a
chain; CANCEL stops a decoding request at its next commit and is refused while it is packed or unpacked; SEQ_RELEASE frees an idle
or packed sequence; PREFIX_RELEASE retires a prefix; LULL and RESUME begin a long operation. -/
def Obligations.RequestsAreAdmittedAndReleased : Prop :=
  ∀ (s : State) (o : Origin) (e : Staged), Running s →
    (∀ h dep id q hx x r pb sb prompt sampling, Next s o 0x40 e → s.dev.awaitingOp o 0x40 = none → s.dev.mirrorFull = false →
      s.dev.resolveImage e.cmd.port (e.op 48 4) = .image h dep → s.dev.generateFrom e h dep = .ok (id, q, hx, x) →
      (0 < e.op 53 1 → x.hasSpec = true) → q.committed + e.op 24 4 ≤ x.contextBound →
      s.dev.readOp e.cmd promptOff (e.op 16 8) (4 * e.op 24 4) prompt = .ok pb →
      s.dev.readOp e.cmd 0 (e.op 40 8) 64 sampling = .ok sb → s.dev.blockMalformed e.cmd.port sb x.vocab = false →
      s.dev.opRange e.cmd.port (e.op 32 8) (4 * e.op 28 4) true = 0 → s.dev.isReadOnly (e.op 32 8) (4 * e.op 28 4) = false →
      s.dev.reservePages q x.group (q.committed + e.op 24 4 + e.op 28 4 + e.op 53 1) = some r →
      Ends (.generate o prompt sampling) s (fun d =>
        (let y := d.seq x.job id
         y.state = .prefill ∧ y.cmd = some e.cmd ∧ y.chain = some s.dev.nextUid ∧ y.image = hx ∧ y.committed = q.committed ∧
           y.promptLen = e.op 24 4 ∧ y.maxTokens = e.op 28 4 ∧ y.specK = e.op 53 1 ∧ y.level = e.op 52 1 ∧ y.out = e.op 32 8 ∧
           y.delivered = 0 ∧ y.tokens = [] ∧ y.block = SampleBlock.ofBytes sb ∧ y.pages = r.pages ∧ y.scales = r.scales ∧
           y.reservedPos = r.reservedPos) ∧
        (∀ k, k ≠ seqKey x.job id → Table.find? d.seqs k = Table.find? s.dev.seqs k) ∧
        d.chains = s.dev.chains ++ [{ id := s.dev.nextUid, job := x.job, image := hx, seq := id }] ∧
        d = { s.dev.start e with seqs := d.seqs, prefixes := d.prefixes, chains := d.chains, nextUid := d.nextUid
                                 arrived := d.arrived, txq := d.txq })) ∧
    (∀ h dep id x r tb tokens, Next s o 0x44 e → s.dev.awaitingOp o 0x44 = none →
      s.dev.resolveImage e.cmd.port (e.op 20 4) = .image h dep → s.dev.image? h = some x → x.group ≠ [] →
      e.op 16 4 % 32 = 0 → 32 ≤ e.op 16 4 → e.op 16 4 ≤ 65536 →
      s.dev.readOp e.cmd 0 (e.op 8 8) (4 * e.op 16 4) tokens = .ok tb → s.dev.freeSeqId x.job = some id →
      s.dev.reservePages { perPage := x.framesPerPage } x.group (e.op 16 4) = some r →
      Ends (.prefixBuild o tokens) s (fun d =>
        (let y := d.seq x.job id
         y.state = .prefill ∧ y.building = true ∧ y.cmd = some e.cmd ∧ y.chain = some s.dev.nextUid ∧ y.image = h ∧
           y.promptLen = e.op 16 4 ∧ y.pages = r.pages ∧ y.scales = r.scales) ∧
        (∀ k, k ≠ seqKey x.job id → Table.find? d.seqs k = Table.find? s.dev.seqs k) ∧
        d.chains = s.dev.chains ++ [{ id := s.dev.nextUid, job := x.job, image := h, seq := id }] ∧
        d = { s.dev.start e with seqs := d.seqs, chains := d.chains, nextUid := d.nextUid, arrived := d.arrived, txq := d.txq })) ∧
    (∀ p, Next s o 0x45 e → Table.find? s.dev.prefixes (e.op 8 4) = some p →
      (∀ x, s.dev.image? p.image = some x → x.seen e.cmd.port = true) →
      Ends (.prefixRelease o) s (fun d =>
        Table.find? d.prefixes (e.op 8 4) = (if p.refs = 0 then none else some { p with retiring := true }) ∧
        d = ({ s.dev.start e with prefixes := d.prefixes, readOnly := d.readOnly } : Device).complete e.cmd 0 (leBytes 4 p.refs))) ∧
    (∀ job q, s.dev.findSeq e.cmd.port (e.op 8 4) = some (job, q) →
      (Next s o 0x41 e → q.state = .decode → ((s.dev.job job).state = .running ∨ (s.dev.job job).state = .replaying) →
        Ends (.cancel o) s (fun d => d.seq job (e.op 8 4) = { q with cancelled := true } ∧
          d = { (s.dev.start e).complete e.cmd 0 [] with seqs := d.seqs })) ∧
      (Next s o 0x41 e → (q.state = .idle ∨ q.state = .lulled) →
        Ends (.cancel o) s (fun d => d = (s.dev.start e).complete e.cmd 0 [])) ∧
      (Next s o 0x41 e → (q.state = .lulling ∨ q.state = .resuming) →
        Ends (.cancel o) s (fun d => d = (s.dev.start e).complete e.cmd 0x1103 [])) ∧
      (Next s o 0x46 e → (q.state = .idle ∨ q.state = .lulled) →
        Ends (.seqRelease o) s (fun d => Table.find? d.seqs (seqKey job (e.op 8 4)) = none ∧
          (∀ k, k ≠ seqKey job (e.op 8 4) → Table.find? d.seqs k = Table.find? s.dev.seqs k) ∧
          d = ({ s.dev.start e with seqs := d.seqs, prefixes := d.prefixes, readOnly := d.readOnly } : Device).complete e.cmd 0 [])) ∧
      (Next s o 0x46 e → q.state ≠ .idle → q.state ≠ .lulled →
        Ends (.seqRelease o) s (fun d => d = (s.dev.start e).complete e.cmd 0x1103 [])) ∧
      (Next s o 0x42 e → q.state = .idle →
        s.dev.mapped (e.op 16 8) (q.shape.pages * 65536) = true → s.dev.reaches 0 (addrDevice (e.op 16 8)) = true →
        s.dev.inWindow (some e.cmd.port) (e.op 16 8) (q.shape.pages * 65536) true = true →
        s.dev.isReadOnly (e.op 16 8) (q.shape.pages * 65536) = false → (∀ p ∈ s.dev.jobParts job, (s.dev.part p).lull ≠ 0) →
        Ends (.lull o) s (fun d => d.seq job (e.op 8 4) = { q with state := .lulling, lull := e.op 16 8 } ∧
          d.longOps = s.dev.longOps ++
            [{ id := s.dev.nextUid, kind := .lull job (e.op 8 4) (e.op 16 8), cls := 4, cmd := some e.cmd }] ∧
          d = { s.dev.start e with seqs := d.seqs, longOps := d.longOps, nextUid := s.dev.nextUid + 1 })) ∧
      (Next s o 0x43 e → q.state = .lulled →
        Ends (.resume o) s (fun d => d.seq job (e.op 8 4) = { q with state := .resuming } ∧
          d.longOps = s.dev.longOps ++ [{ id := s.dev.nextUid, kind := .resume job (e.op 8 4), cls := 4, cmd := some e.cmd }] ∧
          d = { s.dev.start e with seqs := d.seqs, longOps := d.longOps, nextUid := s.dev.nextUid + 1 }))) ∧
    (s.dev.findSeq e.cmd.port (e.op 8 4) = none →
      (Next s o 0x41 e → Ends (.cancel o) s (fun d => d = (s.dev.start e).complete e.cmd 0x1102 [])) ∧
      (Next s o 0x46 e → Ends (.seqRelease o) s (fun d => d = (s.dev.start e).complete e.cmd 0x1102 [])) ∧
      (Next s o 0x42 e → Ends (.lull o) s (fun d => d = (s.dev.start e).complete e.cmd 0x1102 [])) ∧
      (Next s o 0x43 e → Ends (.resume o) s (fun d => d = (s.dev.start e).complete e.cmd 0x1102 [])))

/-- R565, R566, R573, R581, R584, R588, R590, R591, R593: MUTE_VALIDATE answers the counts of a good automaton; SAMPLE_RUN draws
its row and writes nothing; preparation gives a decoding sequence its masks; a row of a pass draws its token; the last row of a
prefill delivers token 0 and opens decoding; the commit of a pass delivers its token at its place in OUT and moves the sequence on. -/
def Obligations.RowsAreSampledAndCommitted : Prop :=
  ∀ (s : State), Running s →
    (∀ o e, Next s o 0x50 e →
      (s.dev.automatonOk e.cmd.port (e.op 8 8) (e.op 16 4) = true → Ends (.muteValidate o) s (fun d =>
        d = (s.dev.start e).complete e.cmd 0 (leBytes 4 (s.dev.automaton (localKey (e.op 8 8))).states ++
          leBytes 4 (s.dev.automaton (localKey (e.op 8 8))).edges))) ∧
      (s.dev.automatonOk e.cmd.port (e.op 8 8) (e.op 16 4) = false → Ends (.muteValidate o) s (fun d =>
        d = (s.dev.start e).complete e.cmd 0x0704 []))) ∧
    (∀ o e ls bs logits sampling, Next s o 0x51 e → s.dev.startedOp o 0x51 = none → e.op 16 4 ≠ 0 → e.op 16 4 ≤ 262144 →
      e.op 20 8 % 64 = 0 → e.op 8 8 % 4 = 0 → s.dev.readOp e.cmd 0 (e.op 8 8) (4 * e.op 16 4) logits = .ok ls →
      s.dev.readOp e.cmd (4 * e.op 16 4) (e.op 20 8) 64 sampling = .ok bs →
      s.dev.blockMalformed e.cmd.port bs (e.op 16 4) = false → (SampleBlock.ofBytes bs).maskKind = 0 →
      Ends (.sampleRun o logits sampling) s (fun d =>
        d = (match sampleRow ((chunksOf 4 (e.op 16 4 + 1) ls).map (fun w => BitVec.ofNat 32 (leNat w))) (fun _ => true)
              (SampleBlock.ofBytes bs) (drawOf (SampleBlock.ofBytes bs).seed (e.op 28 4)) with
          | some t => ({ s.dev.start e with arrived := d.arrived, txq := d.txq } : Device).complete e.cmd 0
              (leBytes 4 t ++ leBytes 4 (e.op 32 4))
          | none => ({ s.dev.start e with arrived := d.arrived, txq := d.txq } : Device).complete e.cmd 0x0701 []))) ∧
    (∀ job id ns q, s.dev.seq job id = q → q.block.maskKind ≠ 0 → q.prepared = false → q.state = .decode →
      Ends (.maskPreparationComplete job id ns) s (fun d =>
        d.seq job id = { q with prep := s.dev.prepare q.block q.mute (if q.plainPass then [] else q.guesses.take q.specK)
                                prepared := true } ∧
        d.reg MUT_PREP_MAX = max (s.dev.reg MUT_PREP_MAX) (min ns (2 ^ 32 - 1)) % 2 ^ 32 ∧
        d = { s.dev with seqs := d.seqs, regs := d.regs })) ∧
    (∀ y x g l t failed, s.dev.rows = [y] → y.done = false → s.dev.image? y.image = some x → s.dev.group? y.image = some g →
      y.logits x.vocab = some l → (s.dev.seq y.job y.seq).block.maskKind = 0 →
      sampleRow l (fun _ => true) (s.dev.seq y.job y.seq).block (drawOf (s.dev.seq y.job y.seq).block.seed (y.pos + 1)) = some t →
      (y.pass = true → Ends (.samplerRow failed) s (fun d =>
        (∃ m, d.rows = [{ y with done := true, mute := m, token := some t, cols := [] }]) ∧
        d.reg64 MUT_ROWS_LO = satAdd 64 (s.dev.reg64 MUT_ROWS_LO) 1 ∧ d = { s.dev with rows := d.rows, regs := d.regs })) ∧
      (∀ q, y.pass = false → s.dev.seq y.job y.seq = q → q.state = .handoff → q.building = false → q.tokenReady = false →
        q.fenceBad = false → q.image = y.image → q.block.stops = [] → 1 < q.maxTokens → q.committed + 1 + q.specK ≤ q.reservedPos →
        q.committed + 1 + q.specK ≤ x.contextBound → q.cancelled = false → failed = false →
        (∀ f ∈ s.dev.fences, f.owner ≠ .kv y.job y.seq) →
        Ends (.samplerRow failed) s (fun d =>
          d.rows = [] ∧
          d.seq y.job y.seq = { q with state := .decode, delivered := 1, tokens := [t], nextToken := t, tokenReady := true
                                       progressed := true, prep := [], prepared := false } ∧
          d.group? y.image = some { g with tickets := g.tickets ++ [y.seq] } ∧ d.parts = s.dev.parts ∧ d.jobs = s.dev.jobs))) ∧
    (∀ image g x b y q c t, s.dev.group? image = some g → s.dev.image? image = some x → g.batch = [b] → b.specK = 0 →
      b.guesses = [] → g.passDone = false → (∀ m ∈ g.members, s.dev.droneHalted m = false) →
      (∃ m ∈ g.members, ∃ z, (s.dev.drone m).step = some z ∧ z.sampled = true) →
      (∀ m ∈ g.members, ∀ z, (s.dev.drone m).step = some z → z.status = 0) →
      s.dev.rows = [y] → y.pass = true → y.image = image → y.row = b.firstRow → y.done = true → y.isVoid = false →
      y.token = some t → s.dev.seq g.job b.seq = q → q.state = .decode → q.image = image → q.specK = 0 → q.block.maskKind = 0 →
      q.block.stops = [] → q.cmd = some c → hostAddr c.port q.out = false → s.dev.isSelf (addrDevice (q.out + 4 * q.delivered)) = true →
      addrOffset (q.out + 4 * q.delivered) + 4 ≤ 2 ^ 53 →
      q.delivered + 1 < q.maxTokens → b.committed + 2 ≤ q.reservedPos → b.committed + 2 ≤ x.contextBound → q.cancelled = false →
      (∀ i, i ≠ b.seq → (s.dev.seq g.job i).cancelled = false) →
      Ends (.passCommit image []) s (fun d =>
        d.seq g.job b.seq = { q with committed := b.committed + 1, nextToken := t, delivered := q.delivered + 1
                                     tokens := q.tokens ++ [t], guesses := [], progressed := true, plainPass := false, prep := []
                                     prepared := false } ∧
        (∀ k, k ≠ seqKey g.job b.seq → Table.find? d.seqs k = Table.find? s.dev.seqs k) ∧
        d.readNat (localKey (q.out + 4 * q.delivered)) 4 = t % 2 ^ 32 ∧ d.rows = [] ∧
        (∃ g', d.group? image = some g' ∧ g'.passDone = true ∧ g'.tickets = g.tickets ∧
          g'.batch = [{ b with committed := b.committed + 1, nextToken := t }]) ∧
        d.parts = s.dev.parts ∧ d.jobs = s.dev.jobs ∧ d.queues = s.dev.queues ∧ d.staged = s.dev.staged))

/-! ### Gale routes and the Barometer (10_expert_routing) -/

/-- R473 to R479, R483, R484, R491 to R496: a score packet of a route gives its chosen experts their assignments in rank order,
with their gate weights; one that names another route stops the round; a drained dispatch step's assignments are issued (one
assignment here: its expert's count or the drop counter, or its destination queue's sequence number, moves on); a return packet
writes its combine entry; dispatch and return closes are counted once per device and close their round. -/
def Obligations.GaleRoutesAssignIssueAndClose : Prop :=
  ∀ (s : State) (r : Nat), Running s → r ≤ 63 → (s.dev.routeCfg r).valid = true →
    let cfg := s.dev.routeCfg r
    let x := s.dev.route r
    (∀ y d1, x.stopped = false → s.dev.takeItem (s.dev.scoreQueue r).1 (s.dev.scoreQueue r).2 = some (y, d1) → y.marker = false →
      (leAt (y.words.headD []) 0 1 = r → y.words.length = (cfg.experts + 15) / 16 + 1 → (s.dev.openRound r).assignments + cfg.k ≤ 65536 →
        Ends (.scorePacketRead r) s (fun d =>
          (let h := y.words.headD []
           let f := scoreValues cfg.scoreFn (packetScores cfg.experts (y.words.drop 1))
           let es := topExperts (f.mapIdx (fun e w => f32Add w (s.dev.bias r e))) cfg.k
           let ws := gateWeights cfg.norm (BitVec.ofNat 32 (s.dev.galReg r GAL_ROUTE_SCALE)) (es.map (fun e => f.getD e 0))
           let o := (s.dev.openRound r).route r
           d.route r = { o with assigns := o.assigns ++ (List.zip es ws).mapIdx (fun i e =>
             ({ part := (s.dev.scoreQueue r).1, level := leAt h 1 1 % 8, token := leAt h 4 2, rank := i, expert := e.1
                weight := e.2, hidden := leAt h 8 8, uid := s.dev.nextUid } : Assign)) } ∧
           ((s.dev.bank r).counting = true → ∀ e, Table.getD (d.bank r).cur e 0 =
             Table.getD (s.dev.bank r).cur e 0 + es.count e) ∧
           ((s.dev.bank r).counting = false → d.banks = s.dev.banks)) ∧
          (∀ k, k ≠ r → d.route k = s.dev.route k) ∧ d.queues = d1.queues ∧
          d = { s.dev with routes := d.routes, banks := d.banks, regs := d.regs, queues := d.queues, nextUid := d.nextUid
                           txq := d.txq })) ∧
      (leAt (y.words.headD []) 0 1 ≠ r → s.dev.regField GAL_ERROR 31 31 = 0 →
        Ends (.scorePacketRead r) s (fun d =>
          (d.route r).stopped = true ∧ (d.route r).assigns = x.assigns ∧ d.reg GAL_ERROR = 2 ^ 31 + 256 * r + 1 ∧
          d = { s.dev with routes := d.routes, queues := d1.queues, regs := d.regs }))) ∧
    (∀ p a, x.stopped = false → x.assigns.filter (fun a => a.part == p) = [a] → s.dev.occupancy p = 0 →
      (s.dev.fab p).halted = false →
      (cfg.scatter = false → Ends (.galeIssue r p) s (fun d =>
        (let cap := bitsOf (s.dev.galReg r GAL_ROUTE_CAP) 15 0
         let n := Table.getD x.counts a.expert 0
         (n < cap → Table.getD (d.route r).counts a.expert 0 = n + 1 ∧ d.reg GAL_DROP_COUNT = s.dev.reg GAL_DROP_COUNT) ∧
         (cap ≤ n → Table.getD (d.route r).counts a.expert 0 = n ∧
           d.reg GAL_DROP_COUNT = satAdd 32 (s.dev.reg GAL_DROP_COUNT) 1)) ∧
        (d.route r).assigns = x.assigns.filter (fun a => a.part != p) ∧ (∀ k, k ≠ r → d.route k = s.dev.route k) ∧
        d = { s.dev with routes := d.routes, mem := d.mem, txq := d.txq, regs := d.regs, poison := d.poison
                         nextUid := s.dev.nextUid + 1 })) ∧
      (∀ row, cfg.scatter = true → s.dev.hiddenRow cfg a = .bytes row → Ends (.galeIssue r p) s (fun d =>
        (let key := ((x.dest a.expert).1 * 16 + (x.dest a.expert).2.1) * 256 + (x.dest a.expert).2.2
         Table.getD (d.route r).seqs key 1 = (Table.getD x.seqs key 1 + 1) % 2 ^ 32) ∧
        (d.route r).assigns = x.assigns.filter (fun a => a.part != p) ∧ (∀ k, k ≠ r → d.route k = s.dev.route k) ∧
        d = { s.dev with routes := d.routes, mem := d.mem, txq := d.txq, regs := d.regs, poison := d.poison, queues := d.queues
                         nextUid := d.nextUid }))) ∧
    (Ends (.galeDropReport r) s (fun d => d = s.dev.bump GAL_DROP_COUNT 1)) ∧
    (∀ y d1, cfg.scatter = true → s.dev.takeItem (s.dev.returnQueue r).1 (s.dev.returnQueue r).2 = some (y, d1) →
      y.marker = false → s.dev.isSelf (addrDevice (leAt (y.words.headD []) 16 8)) = true →
      s.dev.isSelf (addrDevice (leAt (y.words.headD []) 24 8)) = true →
      Ends (.returnPacketRead r) s (fun d =>
        d.readNat (localKey (leAt (y.words.headD []) 24 8)) 8 = leAt (y.words.headD []) 16 8 ∧
        d.route r = { x with under := x.under ++ [s.dev.nextUid] } ∧ (∀ k, k ≠ r → d.route k = s.dev.route k) ∧
        d = { s.dev with routes := d.routes, queues := d1.queues, mem := d.mem, regs := d.regs, poison := d.poison
                         nextUid := s.dev.nextUid + 1 })) ∧
    (∀ v, cfg.scatter = true → x.dispatchClosed = false → v ∉ x.dispatchFrom → x.map ≠ [] →
      (x.dispatchFrom.length + 1 < leAt x.map 2 2 → Ends (.dispatchClose r v) s (fun d =>
        d.route r = { x with dispatchFrom := x.dispatchFrom ++ [v] } ∧ (∀ k, k ≠ r → d.route k = s.dev.route k) ∧
        d = { s.dev with routes := d.routes })) ∧
      (leAt x.map 2 2 ≤ x.dispatchFrom.length + 1 → Ends (.dispatchClose r v) s (fun d =>
        d.route r = { x with dispatchFrom := x.dispatchFrom ++ [v], dispatchClosed := true } ∧
        (∀ k, k ≠ r → d.route k = s.dev.route k) ∧
        d = { s.dev with routes := d.routes, mem := d.mem, txq := d.txq, regs := d.regs, poison := d.poison
                         nextUid := s.dev.nextUid + 1 }))) ∧
    (∀ v, cfg.scatter = true → x.returnClosed = false → v ∉ x.returnFrom →
      Ends (.returnClose r v) s (fun d =>
        d.route r = (if x.returnFrom.length + 1 < leAt x.map 4 2 then { x with returnFrom := x.returnFrom ++ [v] }
          else { x with returnFrom := x.returnFrom ++ [v], returnClosed := true, isOpen := false }) ∧
        (∀ k, k ≠ r → d.route k = s.dev.route k) ∧ d = { s.dev with routes := d.routes }))

/-- R502, R504, R507, R509: a route register takes a good value while no round is open and keeps its value while one is; the counts
of another device are added to the completed window and shown; a bias is held for the next intake; BRM_CTRL and BRM_ETA take
the fields that are not reserved. -/
def Obligations.RouteAndBarometerRegisters : Prop :=
  ∀ (s : State) (port : Port) (off v : Nat), Running s →
    let r := s.dev.portReg port GAL_ROUTE_SEL % 64
    (s.dev.mayRoute port r = true → 4 ≤ off → off ≤ 0x44 → off % 4 = 0 →
      (((s.dev.routeCfg r).valid = false ∨ (s.dev.route r).isOpen = false) → off ≠ 4 → off ≠ 0xC →
        ∀ x, descAt (0x700000 + off) = some x →
        Ends (.galRouteWrite port off v) s (fun d => d.reg (regKey (0x700000 + off) r) = (v &&& x.rw) % 2 ^ 32 ∧
          (∀ k, k ≠ regKey (0x700000 + off) r → d.reg k = s.dev.reg k) ∧ d = { s.dev with regs := d.regs })) ∧
      ((s.dev.routeCfg r).valid = true → (s.dev.route r).isOpen = true →
        Ends (.galRouteWrite port off v) s (fun d => d = s.dev))) ∧
    (∀ b counts, b < 64 → s.dev.brmOn b = true → (s.dev.bank b).due ≠ none →
      Ends (.barometerCountExchange b counts) s (fun d =>
        (∀ e, Table.getD (d.bank b).last e 0 = Table.getD (s.dev.bank b).last e 0 + counts.getD e 0) ∧
        (∀ e, e < (s.dev.routeCfg b).experts →
          d.reg (BRM_COUNT + 0x800 * b + 4 * e) = (Table.getD (s.dev.bank b).last e 0 + counts.getD e 0) % 2 ^ 32) ∧
        (∀ k, k ≠ b → d.bank k = s.dev.bank k) ∧ d = { s.dev with banks := d.banks, regs := d.regs })) ∧
    (s.dev.mayRoute port (off / 0x400) = true → off / 0x400 < 64 → off % 4 = 0 →
      Ends (.brmBiasWrite port off v) s (fun d =>
        d.bank (off / 0x400) = { s.dev.bank (off / 0x400) with
          held := (s.dev.bank (off / 0x400)).held ++ [(BRM_BIAS + off, v % 2 ^ 32)] } ∧
        (∀ k, k ≠ off / 0x400 → d.bank k = s.dev.bank k) ∧ d = { s.dev with banks := d.banks })) ∧
    (s.dev.mayRoute port r = true → 1 ≤ bitsOf v 10 0 → bitsOf v 10 0 ≤ 1024 →
      Ends (.brmCtrlWrite port false v) s (fun d =>
        d.regField (regKey BRM_CTRL r) 31 31 = bitsOf v 31 31 ∧ d.regField (regKey BRM_CTRL r) 10 0 = bitsOf v 10 0 ∧
        (∀ k, k ≠ regKey BRM_CTRL r → d.reg k = s.dev.reg k) ∧ d = { s.dev with regs := d.regs })) ∧
    (s.dev.mayRoute port r = true → halfSpecial (bitsOf v 31 16) = false → halfSpecial (bitsOf v 15 0) = false →
      Ends (.brmCtrlWrite port true v) s (fun d =>
        d.reg (regKey BRM_ETA r) = v % 2 ^ 32 ∧
        (∀ k, k ≠ regKey BRM_ETA r → d.reg k = s.dev.reg k) ∧ d = { s.dev with regs := d.regs }))

/-! ### The model library (14_model_library) -/

/-- R648, R651, R652, R658 to R664, R681, R684, R689: LIB_INIT formats a region and names it, and is refused while a deployment
stands; a good descriptor of LIB_VERSION_ADD becomes a version record and checks of its own shards; LIB_VERSION_CHECK completes on
good shards and checks the rest; LIB_VERSION_REMOVE clears the record, and is refused for a deployed version; a due rescan begins;
a digest that agrees makes the shard GOOD, one that does not goes on to the next attempt; the twin gets a GOOD shard, or word that
there is none. -/
def Obligations.CatalogueHoldsVersions : Prop :=
  ∀ (s : State) (o : Origin) (e : Staged), Running s →
    (Next s o 0x70 e → e.op 1 1 = 0 → e.aux = 0 → e.op 24 1 = 0 → allZero (sliceOf e.entry 25 39) = true → e.op 8 8 % 65536 = 0 →
      isT3 (addrSpace (e.op 8 8)) = true → s.dev.isSelf (addrDevice (e.op 8 8)) = true → e.op 16 8 % 65536 = 0 →
      0x20010000 ≤ e.op 16 8 → s.dev.inSpace (addrSpace (e.op 8 8)) (addrOffset (e.op 8 8)) (e.op 16 8) = true →
      (s.dev.deploys = [] → Ends (.libInit o) s (fun d =>
        d.libOn = true ∧ d.reg64 LIB_BASE_LO = e.op 8 8 ∧ d.libBytes = e.op 16 8 ∧ d.readNat (localKey (e.op 8 8)) 4 = 0x5942494C ∧
        d.readNat (localKey (e.op 8 8) + 8) 8 = 0 ∧ d.readNat (localKey (e.op 8 8) + 20) 4 = 0 ∧
        d = ({ s.dev.start e with mem := d.mem, regs := d.regs, readOnly := d.readOnly, longOps := d.longOps
                                  poison := d.poison } : Device).complete e.cmd 0 [])) ∧
      (s.dev.deploys ≠ [] → Ends (.libInit o) s (fun d => d = (s.dev.start e).complete e.cmd 0x0B0A []))) ∧
    (∀ b, Next s o 0x71 e → s.dev.startedOp o 0x71 = none → e.op 1 1 = 0 → e.aux = 0 → allZero (sliceOf e.entry 20 44) = true →
      e.op 8 8 % 64 = 0 → addrSpace (e.op 8 8) ≤ 3 → s.dev.libOn = true →
      s.dev.readOp e.cmd 0 (e.op 8 8) (e.op 16 4) none = .ok b →
      Ends (.libVersionAdd o) s (fun d =>
        (∀ i, s.dev.descriptorStatus b = 0 → (List.range 4096).find? (fun i => s.dev.readNat (s.dev.verKey i) 4 == 0) = some i →
          d.readNat (s.dev.verKey i) 4 = leAt b 0 4 ∧ d.readNat (s.dev.verKey i + 4) 4 = leAt b 4 4 ∧
          d.readNat (s.dev.verKey i + 8) 1 = 0 ∧ d.readNat (s.dev.verKey i + 16) 4 = leAt b 16 4 ∧
          (∀ j ∈ d.ownShards i, ∃ l ∈ d.longOps, l.kind = .shardFetch j) ∧
          d = { s.dev.start e with mem := d.mem, regs := d.regs, longOps := d.longOps, nextUid := d.nextUid
                                   arrived := d.arrived, txq := d.txq }) ∧
        (s.dev.descriptorStatus b ≠ 0 →
          d = ({ s.dev.start e with arrived := d.arrived, txq := d.txq } : Device).complete e.cmd (s.dev.descriptorStatus b) []))) ∧
    (∀ v, e.op 1 1 = 0 → e.aux = 0 → allZero (sliceOf e.entry 16 48) = true → s.dev.libOn = true → e.op 8 4 ≠ 0 →
      s.dev.findVersion (e.op 8 4) (e.op 12 4) = some v →
      (Next s o 0x73 e → s.dev.checking v = false →
        ((∀ i ∈ s.dev.ownShards v, (s.dev.shard i).state = 2) → Ends (.libVersionCheck o) s (fun d =>
          d.readNat (s.dev.verKey v + 8) 1 = 2 ∧
          d = ({ s.dev.start e with mem := d.mem, regs := d.regs } : Device).complete e.cmd 0 (s.dev.readBytes (s.dev.verKey v + 12) 4))) ∧
        ((∃ i ∈ s.dev.ownShards v, (s.dev.shard i).state ≠ 2) → Ends (.libVersionCheck o) s (fun d =>
          d.readNat (s.dev.verKey v + 8) 1 = 1 ∧
          (∀ i ∈ s.dev.ownShards v, (s.dev.shard i).state ≠ 2 → ∃ l ∈ d.longOps, l.kind = .shardFetch i) ∧
          d = { s.dev.start e with mem := d.mem, regs := d.regs, longOps := d.longOps, nextUid := d.nextUid }))) ∧
      (Next s o 0x72 e → s.dev.versionDeployed (e.op 8 4) (e.op 12 4) = false → s.dev.checking v = false →
        Ends (.libVersionRemove o) s (fun d =>
          d.readNat (s.dev.verKey v) 4 = 0 ∧
          d = ({ s.dev.start e with mem := d.mem, regs := d.regs, readOnly := d.readOnly, longOps := d.longOps } : Device).complete
            e.cmd 0 [])) ∧
      (Next s o 0x72 e → s.dev.versionDeployed (e.op 8 4) (e.op 12 4) = true → Ends (.libVersionRemove o) s (fun d =>
        d = (s.dev.start e).complete e.cmd 0x0B0A []))) ∧
    (∀ i v, s.dev.libOn = true → s.dev.regField LIB_RESCAN 31 31 = 1 → s.dev.shardVersion i = some v →
      s.dev.own (s.dev.shard i) = true → (s.dev.shard i).state = 2 →
      (∀ l ∈ s.dev.longOps, l.kind ≠ .rescan i ∧ l.kind ≠ .shardFetch i) →
      Ends (.shardRescanDue i) s (fun d =>
        (∃ l, d.longOps = s.dev.longOps ++ [l] ∧ l.kind = .rescan i ∧ l.cls = 4 ∧ l.id = s.dev.nextUid) ∧
        d = { s.dev with mem := d.mem, regs := d.regs, longOps := d.longOps, nextUid := s.dev.nextUid + 1 })) ∧
    (∀ id l i bytes, s.dev.longOps.find? (fun l => l.id == id) = some l → l.kind = .shardFetch i → i < 262144 → l.attempt = 0 →
      (s.dev.shard i).bytes ≤ 64 * l.step → s.dev.poisonIn (localKey (s.dev.shard i).addr) (s.dev.shard i).bytes = none →
      Ends (.shardDigestResult id false bytes) s (fun d =>
        (sha256 (s.dev.readBytes (localKey (s.dev.shard i).addr) (s.dev.shard i).bytes) = (s.dev.shard i).digest →
          (d.shard i).state = 2 ∧ ∀ l ∈ d.longOps, l.id ≠ id) ∧
        (sha256 (s.dev.readBytes (localKey (s.dev.shard i).addr) (s.dev.shard i).bytes) ≠ (s.dev.shard i).digest →
          d.longOps.find? (fun l => l.id == id) = some { l with attempt := 1, step := 0 } ∧
          d.reg LIB_FETCH_RETRY_COUNT = satAdd 32 (s.dev.reg LIB_FETCH_RETRY_COUNT) 1 ∧
          d = { s.dev with longOps := d.longOps, regs := d.regs }))) ∧
    (∀ model version index digest, s.dev.twinUp = true → s.dev.libOn = true →
      (s.dev.findVersion model version = none → Ends (.twinShardRequest model version index digest) s (fun d =>
        d = s.dev.peerSend 13 (leBytes 4 model ++ leBytes 4 version ++ leBytes 4 index ++ leBytes 4 0))) ∧
      (∀ v i, s.dev.findVersion model version = some v →
        (s.dev.versionShards v).find? (fun i => (s.dev.shard i).index == index && (s.dev.shard i).state == 2 &&
          (s.dev.shard i).digest == digest) = some i →
        Ends (.twinShardRequest model version index digest) s (fun d =>
          d = s.dev.peerSend 13 (leBytes 4 model ++ leBytes 4 version ++ leBytes 4 index ++ leBytes 4 1 ++
            s.dev.readBytes (localKey (s.dev.shard i).addr) (s.dev.shard i).bytes))))

/-- R665, R669, R675 to R677, R681, R689: LIB_DEPLOY makes a deployment and begins the load of its version; LIB_VERSION_LOAD
begins the load of another, answers at once for the current one, and is refused while a load runs; LIB_UNDEPLOY takes a deployment
away; a report that a version is available, and the breath announced for it, are noted in the load. -/
def Obligations.DeploymentsLoadVersions : Prop :=
  ∀ (s : State) (o : Origin) (e : Staged), Running s →
    let phase := fun v => if (s.dev.ownShards v).all (fun i => (s.dev.shard i).state == 2) then LoadPhase.placing else LoadPhase.fetching
    (∀ v n, Next s o 0x74 e → e.op 1 1 = 0 → e.aux = 0 → allZero (sliceOf e.entry 27 37) = true → e.op 16 4 ≠ 0 →
      mapBad (e.op 20 6) = false → e.op 26 1 ≤ 63 → s.dev.libOn = true → s.dev.findVersion (e.op 8 4) (e.op 12 4) = some v →
      e.op 8 4 ≠ 0 → (List.range 256).find? (fun n => (s.dev.deploy? n).isNone) = some n →
      Ends (.libDeploy o) s (fun d =>
        d.deploy? n = some ⟨e.op 8 4, e.op 16 4, e.op 26 1, mapOf (e.op 20 6), 0, 0, [],
          some { version := e.op 12 4, phase := phase v, cmd := some e.cmd }, false⟩ ∧
        (∀ m, m ≠ n → d.deploy? m = s.dev.deploy? m) ∧ (∃ l ∈ d.longOps, l.kind = .versionLoad n (e.op 12 4)) ∧
        d = { s.dev.start e with deploys := d.deploys, longOps := d.longOps, nextUid := d.nextUid, mem := d.mem, regs := d.regs })) ∧
    (∀ n y, 2 ^ 31 ≤ e.op 8 4 → n = e.op 8 4 - 2 ^ 31 → s.dev.deploy? n = some y → s.dev.libOn = true → e.op 1 1 = 0 → e.aux = 0 →
      (∀ v, Next s o 0x75 e → e.op 16 1 ≤ 1 → allZero (sliceOf e.entry 17 47) = true →
        s.dev.findVersion y.model (e.op 12 4) = some v →
        (y.load = none → y.current ≠ e.op 12 4 → Ends (.libVersionLoad o) s (fun d =>
          d.deploy? n = some { y with load := some { version := e.op 12 4, phase := phase v, drain := e.op 16 1 == 1
                                                     cmd := some e.cmd } } ∧
          (∀ m, m ≠ n → d.deploy? m = s.dev.deploy? m) ∧ (∃ l ∈ d.longOps, l.kind = .versionLoad n (e.op 12 4)) ∧
          d = { s.dev.start e with deploys := d.deploys, longOps := d.longOps, nextUid := d.nextUid, mem := d.mem
                                   regs := d.regs })) ∧
        (y.load = none → y.current = e.op 12 4 → Ends (.libVersionLoad o) s (fun d =>
          d = (s.dev.start e).complete e.cmd 0 (leBytes 4 y.current))) ∧
        (y.load ≠ none → Ends (.libVersionLoad o) s (fun d => d = (s.dev.start e).complete e.cmd 0x0B09 []))) ∧
      (Next s o 0x76 e → allZero (sliceOf e.entry 12 52) = true → y.load = none →
        (∀ h ∈ (if y.image = 0 then [] else [y.image]) ++ y.olds.map (·.2), s.dev.pinned n h = 0 ∧ s.dev.imageHeld h = false) →
        Ends (.libUndeploy o) s (fun d =>
          d.deploy? n = none ∧ (∀ m, m ≠ n → d.deploy? m = s.dev.deploy? m) ∧
          (∀ h ∈ (if y.image = 0 then [] else [y.image]) ++ y.olds.map (·.2), d.image? h = none) ∧
          (y.image = 0 → y.olds = [] →
            d = ({ s.dev.start e with deploys := d.deploys, jobs := d.jobs, seqs := d.seqs, prefixes := d.prefixes
                                      readOnly := d.readOnly } : Device).complete e.cmd 0 []))) ∧
      (Next s o 0x76 e → allZero (sliceOf e.entry 12 52) = true → y.load ≠ none →
        Ends (.libUndeploy o) s (fun d => d = (s.dev.start e).complete e.cmd 0x0B0A []))) ∧
    (∀ n y l job model version device, s.dev.deploys = [(n, y)] → y.job = job → y.model = model → y.load = some l →
      l.version = version →
      (s.dev.lowestDevice job = s.dev.index → l.breath = none → Ends (.versionAvailableReport job model version device) s (fun d =>
        d.deploys = [(n, { y with load := some { l with
          reports := (device :: l.reports).eraseDups
          breath := if 1 < (s.dev.jobDevices job).length ∧
              (s.dev.jobDevices job).all (fun x => (device :: l.reports).eraseDups.contains x) = true
            then some (s.dev.breath + 2) else none } })] ∧
        d = { s.dev with deploys := d.deploys, txq := d.txq, nextUid := d.nextUid })) ∧
      (s.dev.lowestDevice job ≠ s.dev.index → Ends (.versionAvailableReport job model version device) s (fun d => d = s.dev)) ∧
      (∀ breath, Ends (.currencyBreathAnnounce job model version breath) s (fun d =>
        d.deploys = [(n, { y with load := some { l with breath := some breath } })] ∧ d = { s.dev with deploys := d.deploys })))

/-! ### Configuration and management commands (17_power_reset_boot, 18_faults_and_recovery) -/

/-- R804, R807, R810, R811, R823, R831, R835, R851, R859: the CFG_STORE commands, RESET_REQUEST of the device and of an idle or busy
block, POWER_CAP, the host's firmware, the restart that an operator asks for, and the base of the fault ring. -/
def Obligations.ConfigurationAndManagementCommands : Prop :=
  ∀ (s : State) (o : Origin) (e : Staged) (port : Port), Running s →
    (s.dev.cfgCommand o 0 = some e → s.dev.cfgEntry e (e.op 24 4) = 0 →
      (s.dev.standing = [] → Ends (.cfgStoreRead o) s (fun d => d = (s.dev.start e).complete e.cmd 0x0202 [])) ∧
      (s.dev.standing ≠ [] → cfgLength s.dev.standing ≤ e.op 24 4 →
        s.dev.isReadOnly (e.op 16 8) (cfgLength s.dev.standing) = false → s.dev.isSelf (addrDevice (e.op 16 8)) = true →
        Ends (.cfgStoreRead o) s (fun d =>
          (let b := s.dev.standing.take (cfgLength s.dev.standing)
           d.readBytes (localKey (e.op 16 8)) b.length = b) ∧
          d = ({ s.dev.start e with mem := d.mem, poison := d.poison, regs := d.regs } : Device).complete e.cmd 0
            (leBytes 4 (cfgVersion s.dev.standing))))) ∧
    (s.dev.cfgCommand o 1 = some e → s.dev.cfgEntry e (e.op 24 4) = 0 → Ends (.cfgStoreWrite o) s (fun d =>
      d.longOps = s.dev.longOps ++ [{ id := s.dev.nextUid, kind := .configure e.cmd.uid, cls := 4, cmd := some e.cmd }] ∧
      d.boot = s.dev.boot ∧ d = { s.dev.start e with longOps := d.longOps, nextUid := s.dev.nextUid + 1, txq := d.txq })) ∧
    (s.dev.cfgCommand o 2 = some e → s.dev.cfgEntry e 0 = 0 →
      (s.dev.boot.cfgA.valid = true ∧ s.dev.boot.cfgB.valid = true → Ends (.cfgStoreRollback o) s (fun d =>
        d.longOps = s.dev.longOps ++ [{ id := s.dev.nextUid, kind := .configure e.cmd.uid, cls := 4, cmd := some e.cmd }] ∧
        d = { s.dev.start e with longOps := d.longOps, nextUid := s.dev.nextUid + 1 })) ∧
      (s.dev.boot.cfgA.valid = false ∨ s.dev.boot.cfgB.valid = false → Ends (.cfgStoreRollback o) s (fun d =>
        d = (s.dev.start e).complete e.cmd 0x0202 []))) ∧
    (s.dev.cfgCommand o 3 = some e → s.dev.cfgEntry e 0 = 0 →
      Ends (.cfgStoreActivateFw o) s (fun d =>
        let v := match s.dev.boot.fwChoice with | some b => (s.dev.boot.fw b).version | none => 0
        d = if v ≤ s.dev.reg MGT_FW_VERSION then (s.dev.start e).complete e.cmd 0x0202 []
          else ({ s.dev.start e with boot := { s.dev.boot with activate := true } } : Device).complete e.cmd 0 (leBytes 4 v))) ∧
    (Next s o 0x7D e → e.op 1 1 = 0 → e.aux = 0 → allZero (sliceOf e.entry 12 52) = true → e.op 9 1 = 0 →
      (e.op 8 1 = 0 → e.op 10 1 = 0 → e.op 11 1 = 0 → Ends (.resetRequest o) s (fun d =>
        d = { (s.dev.start e).complete e.cmd 0 [] with boot := { s.dev.boot with requested := some 0 } })) ∧
      (e.op 8 1 = 1 → e.op 10 1 ≤ 5 → e.op 11 1 < blockCount (e.op 10 1) →
        (s.dev.notIdle (e.op 10 1) (e.op 11 1) ≠ 0 → Ends (.resetRequest o) s (fun d =>
          d = (s.dev.start e).complete e.cmd 0x0201 (leBytes 1 (s.dev.notIdle (e.op 10 1) (e.op 11 1))))) ∧
        (s.dev.notIdle (e.op 10 1) (e.op 11 1) = 0 → e.op 10 1 = 2 → Ends (.resetRequest o) s (fun d =>
          Table.find? d.checks (e.op 11 1) = none ∧ d.reg RCU_LAST_BLOCK = 2 ^ 31 + 512 + e.op 11 1 ∧
          d = ({ s.dev.start e with checks := d.checks, regs := d.regs } : Device).complete e.cmd 0 [])) ∧
        (s.dev.notIdle (e.op 10 1) (e.op 11 1) = 0 → e.op 10 1 = 0 → (∀ c, c < 16 → (s.dev.mover (16 * e.op 11 1 + c)).queue = []) →
          Ends (.resetRequest o) s (fun d =>
          d.blockResets = s.dev.blockResets ++ [(0, e.op 11 1, e.cmd)] ∧ d.reg RCU_LAST_BLOCK = 2 ^ 31 + e.op 11 1 ∧
          (d.part (e.op 11 1)).slots = [] ∧ (d.fab (e.op 11 1)).occupancy = 0 ∧
          (∀ q, q ≠ e.op 11 1 → d.part q = s.dev.part q))))) ∧
    (Next s o 0x7E e → e.op 1 1 = 0 → e.aux = 0 → allZero (sliceOf e.entry 10 54) = true →
      ((e.op 8 2 = 0 ∨ (800 ≤ e.op 8 2 ∧ e.op 8 2 ≤ 3200)) → Ends (.powerCap o) s (fun d =>
        d = ({ s.dev.start e with power := { s.dev.power with nextCap := some (e.op 8 2) } } : Device).complete e.cmd 0 [])) ∧
      (e.op 8 2 ≠ 0 → (e.op 8 2 < 800 ∨ 3200 < e.op 8 2) → Ends (.powerCap o) s (fun d =>
        d = (s.dev.start e).complete e.cmd 0x0203 []))) ∧
    (∀ word, (port = .pf ∨ port = .mgmt ∨ port = .jtag) → s.dev.awaits 2 = true → 6 ≤ s.dev.boot.stage → word % 2 ^ 25 ≤ 16777216 →
      Ends (.mgtHostbootGo port word) s (fun d =>
        (let x := FwSlot.ofImage (s.dev.readBytes (bootKey 0) (word % 2 ^ 25))
         (x.good = true → d.boot.fwReady = true ∧ d.boot.kept = x.image ∧ d.reg MGT_FW_VERSION = x.version % 2 ^ 32) ∧
         (x.good = false → d.boot.recovery = true ∧ d.regField MGT_BOOT_STATUS 30 30 = 1)) ∧
        d.reg MGT_HOSTBOOT = word % 2 ^ 25 ∧ d = { s.dev with regs := d.regs, boot := d.boot })) ∧
    (let j := s.dev.portReg port MGT_JOB_SEL
     (port.steward = true → ((s.dev.job j).state = .waiting ∨ (s.dev.job j).state = .stopped) → Ends (.mgtJobRestart port) s (fun d =>
       (d.job j).state = .resetting ∧ (d.job j).restartBreath = none ∧ (d.job j).landed = [] ∧
       (∀ p ∈ s.dev.jobParts j, (d.part p).slots = [] ∧ (d.part p).running = none ∧ (d.part p).admitted = [] ∧
         (d.fab p).occupancy = 0) ∧
       ((s.dev.job j).state = .stopped → (∀ p ∈ s.dev.jobParts j, ∀ c, c < 16 → (s.dev.mover (16 * p + c)).queue = []) →
         d.reg MGT_RESTART_COUNT = satAdd 32 (s.dev.reg MGT_RESTART_COUNT) 1))) ∧
     ((port.steward = false ∨ ((s.dev.job j).state ≠ .waiting ∧ (s.dev.job j).state ≠ .stopped)) →
       Ends (.mgtJobRestart port) s (fun d => d = s.dev))) ∧
    (∀ base, (port.steward = true → Ends (.fringBaseWrite port base) s (fun d =>
        d.reg64 MGT_FRING_BASE_LO = base % 2 ^ 64 ∧ d.ring.on = d.ringBase.isSome ∧
        (d.ringBase.isSome = true → d.ring.page = []) ∧
        d = { s.dev with regs := d.regs, ring := d.ring, mem := d.mem, poison := d.poison })) ∧
      (port.steward = false → Ends (.fringBaseWrite port base) s (fun d => d = s.dev)))

/-! ### Bringing ports up and down, modules (16_plovlink_and_domain) -/

/-- R750 to R758, R795: each event of the port state machine moves the port to its next state, or takes it DOWN with its cause; the
test modes; the readings of a module and the accesses to its registers. -/
def Obligations.PortsComeUpAndGoDown : Prop :=
  ∀ (s : State) (p : Nat), Running s → p ≤ 16 →
    let status := regKey PLV_PORT_STATUS p
    let st := s.dev.portState p
    let moved := fun (d : Device) (n : Nat) => d.portState p = n ∧ (∀ q, q ≠ p → d.portState q = s.dev.portState q)
    (s.dev.portsRun = true → Ends (.portDetectStart p) s (fun d =>
      (d.link p).present = true ∧ d.regField (regKey PLV_MEDIA_STATUS p) 31 31 = 1 ∧
      moved d (if st = 0 ∧ s.dev.portEnabled p = true then 1 else st) ∧
      d = { s.dev with regs := d.regs, ports := d.ports, out := d.out })) ∧
    (∀ t, st = 1 → (t = 1 ∨ t = 2) → Ends (.moduleReady p t) s (fun d =>
      moved d 2 ∧ (d.link p).media = true ∧ d.regField (regKey PLV_MEDIA_STATUS p) 30 29 = t ∧
      d = { s.dev with regs := d.regs, ports := d.ports, out := d.out })) ∧
    (∀ t, st = 1 → t ≠ 1 → t ≠ 2 → Ends (.moduleReady p t) s (WentDown s p (some 7))) ∧
    (st = 1 → Ends (.mediaTimeout p) s (WentDown s p (some 7))) ∧
    (st = 2 → Ends (.equaliseComplete p) s (fun d => moved d 3 ∧ d = { s.dev with regs := d.regs })) ∧
    (st = 2 → Ends (.equaliseTimeout p) s (WentDown s p none)) ∧
    (st = 3 → Ends (.laneLockComplete p) s (fun d =>
      moved d 4 ∧ d.regField status 28 21 = 2 ^ laneCount p - 1 ∧ d = { s.dev with regs := d.regs })) ∧
    (st = 3 → Ends (.laneLockTimeout p) s (fun d =>
      moved d 1 ∧ d.regField status 28 21 = 0 ∧ d = { s.dev with regs := d.regs, out := d.out })) ∧
    (∀ domain index port role, st = 4 → p < 16 →
      (domain % 2 ^ 32 = s.dev.reg PLV_DOMAIN_ID → index ≤ 71 → bitOf s.dev.memberMask index = true → index ≠ s.dev.index →
        Ends (.peerIdentity p domain index port role) s (fun d =>
          moved d 5 ∧ d.reg (regKey PLV_PORT_PEER p) = index * 256 + port % 32 ∧ d = { s.dev with regs := d.regs })) ∧
      ((domain % 2 ^ 32 ≠ s.dev.reg PLV_DOMAIN_ID ∨ 71 < index ∨ bitOf s.dev.memberMask index = false ∨ index = s.dev.index) →
        Ends (.peerIdentity p domain index port role) s (WentDown s p (some 5)))) ∧
    (∀ domain index port role, st = 4 → p = 16 →
      (s.dev.regField PLV_TWIN_CFG 30 30 ≠ role % 2 → Ends (.peerIdentity p domain index port role) s (fun d =>
        moved d 5 ∧ d.regField PLV_TWIN_STATUS 6 0 = index % 128 ∧ d = { s.dev with regs := d.regs })) ∧
      (s.dev.regField PLV_TWIN_CFG 30 30 = role % 2 → Ends (.peerIdentity p domain index port role) s (WentDown s p (some 6)))) ∧
    (∀ l n, st = 5 → leastOf l = some n →
      (n ≤ 180 → (∀ b ∈ s.dev.blockResets, ¬(b.1 = 4 ∧ b.2.1 = p)) → Ends (.delayCalibration p l) s (fun d =>
        moved d 6 ∧ d.reg (regKey PLV_PORT_DELAY p) = n / 2 ∧ (d.link p).lanes = [] ∧
        d = { s.dev with regs := d.regs, ports := d.ports, out := d.out })) ∧
      (180 < n → Ends (.delayCalibration p l) s (WentDown s p (some 4)))) ∧
    (s.dev.portsRun = true → st = 0 → s.dev.portEnabled p = true → (s.dev.link p).present = true →
      Ends (.portRetryTimer p) s (fun d => moved d 1 ∧ d = { s.dev with regs := d.regs, out := d.out })) ∧
    (st = 6 → Ends (.portLossTimeout p) s (WentDown s p (some 1))) ∧
    ((st = 0 ∨ st = 7) → Ends (.moduleRemoved p) s (fun d =>
      moved d st ∧ (d.link p).present = false ∧ d.regField (regKey PLV_MEDIA_STATUS p) 31 29 = 0 ∧
      d = { s.dev with regs := d.regs, ports := d.ports })) ∧
    (st ≠ 0 → st ≠ 7 → Ends (.moduleRemoved p) s (fun d => WentDown s p (some 3) d ∧
      (p < 16 → (∀ e ∈ s.dev.circuits, e.1 / 64 ≠ p) → (d.link p).present = false))) ∧
    (∀ port word, (port = .pf ∨ port = .mgmt ∨ port = .jtag) → bitsOf (s.dev.portReg port PLV_PORT_SEL) 4 0 = p →
      (1 ≤ bitsOf word 2 0 → bitsOf word 2 0 ≤ 4 → p < 16 → (∀ e ∈ s.dev.circuits, e.1 / 64 ≠ p) →
        Ends (.portTestSelect port word) s (fun d =>
          moved d 7 ∧ d.portTest p = bitsOf word 2 0 ∧ d.regField (regKey PLV_PORT_CTRL p) 31 31 = bitsOf word 31 31 ∧
          d = { s.dev with regs := d.regs })) ∧
      (1 ≤ bitsOf word 2 0 → bitsOf word 2 0 ≤ 4 → (∃ e ∈ s.dev.circuits, e.1 / 64 = p) →
        Ends (.portTestSelect port word) s (fun d => d = s.dev)) ∧
      (bitsOf word 2 0 = 0 → st ≠ 7 → Ends (.portTestSelect port word) s (fun d =>
        moved d st ∧ d.portTest p = 0 ∧ d.regField (regKey PLV_PORT_CTRL p) 31 31 = bitsOf word 31 31 ∧
        d = { s.dev with regs := d.regs })) ∧
      (bitsOf word 2 0 = 0 → st = 7 → Ends (.portTestSelect port word) s (WentDown s p none))) ∧
    (∀ temp tx far rx, (s.dev.link p).present = true → Ends (.mediaMonitor p temp tx far rx) s (fun d =>
      (d.link p).txPower = tx.take (laneCount p) ∧ d.regField (regKey PLV_MEDIA_STATUS p) 7 0 = temp % 256 ∧ moved d st ∧
      d = { s.dev with regs := d.regs, ports := d.ports, freeCounter := d.freeCounter })) ∧
    (∀ port word, (port = .mgmt ∨ port = .jtag) → bitsOf (s.dev.portReg port PLV_PORT_SEL) 4 0 = p →
      (∀ v, (s.dev.link p).present = true → Ends (.cmisRead port word (some v)) s (fun d =>
        d.regField (regKey PLV_CMIS p) 7 0 = v % 256 ∧ d.regField (regKey PLV_CMIS p) 23 8 = bitsOf word 23 8 ∧
        d = { s.dev with regs := d.regs })) ∧
      Ends (.cmisRead port word none) s (fun d => d.regField (regKey PLV_CMIS p) 28 28 = 1 ∧ d = { s.dev with regs := d.regs }) ∧
      ((st ≠ 6 ∨ (0x10 ≤ bitsOf word 23 16 ∧ bitsOf word 23 16 ≤ 0x1F)) →
        ((s.dev.link p).present = true → Ends (.cmisWrite port word true) s (fun d =>
          d = { s.dev.emit (.cmis p (bitsOf word 23 16) (bitsOf word 15 8) (bitsOf word 7 0)) with regs := d.regs })) ∧
        Ends (.cmisWrite port word false) s (fun d =>
          d.regField (regKey PLV_CMIS p) 28 28 = 1 ∧ d = { s.dev with regs := d.regs })) ∧
      (st = 6 → (bitsOf word 23 16 < 0x10 ∨ 0x1F < bitsOf word 23 16) →
        ∀ ok, Ends (.cmisWrite port word ok) s (fun d => d.out = s.dev.out ∧ d = { s.dev with regs := d.regs })))

/-! ### Blocks, slots, packets, circuits (16_plovlink_and_domain) -/

/-- R745 to R749, R754, R764 to R768, R774: a good block that is expected moves the lane on, a bad one is asked for again or takes the
port DOWN at its third failure; a NAK sends the lane's blocks again from its SEQ on; every slot of an UP port sends one block on each
lane: a transit block, packets of its circuit, or IDLE; a transit block leaves three slots after it came; the flood is the union of
what the UP ports have heard. -/
def Obligations.BlocksAndSlots : Prop :=
  ∀ (s : State) (p : Nat), Running s → p ≤ 16 →
    let lane := fun (d : Device) (l : Nat) => Table.getD (d.link p).lanes l {}
    (∀ l wire, l < laneCount p → s.dev.portState p = 6 → Ends (.blockReceive p l wire) s (fun d =>
      (∀ b n, unwireBlock wire = some (b, n) → leAt b 28 4 = blockCrc b → leAt b 4 4 = (lane s.dev l).expect → leAt b 0 1 % 4 ≠ 3 →
        lane d l = { lane s.dev l with expect := ((lane s.dev l).expect + 1) % 2 ^ 32, fails := 0, nak := false } ∧
        d = { s.dev with regs := d.regs, ports := d.ports }) ∧
      (∀ b n, unwireBlock wire = some (b, n) → leAt b 28 4 = blockCrc b → leAt b 4 4 ≠ (lane s.dev l).expect →
        d = { s.dev with regs := d.regs }) ∧
      (unwireBlock wire = none → (lane s.dev l).fails < 2 →
        lane d l = { lane s.dev l with fails := (lane s.dev l).fails + 1, nak := true } ∧
        d.reg (regKey PLV_FEC_UNCORR p) = satAdd 32 (s.dev.reg (regKey PLV_FEC_UNCORR p)) 1 ∧
        d = { s.dev with regs := d.regs, ports := d.ports }) ∧
      (unwireBlock wire = none → 2 ≤ (lane s.dev l).fails → WentDown s p (some 2) d))) ∧
    (∀ l wire, l < laneCount p → s.dev.portState p = 7 → s.dev.portTest p < 3 → Ends (.blockReceive p l wire) s (fun d => d = s.dev)) ∧
    (∀ l seq b, l < laneCount p → s.dev.portState p = 6 → (lane s.dev l).sent.find? (fun b => b.seq == seq) = some b →
      (b.resends < 2 → Ends (.blockNak p l seq) s (fun d =>
        (let again := (lane s.dev l).sent.dropWhile (fun b => b.seq != seq)
         d.out = s.dev.out ++ again.map (fun b => .block p l (leAt b.data 0 1 % 4) (wireBlock b.data)) ∧
         d.reg (regKey PLV_REPLAY_COUNT p) = satAdd 32 (s.dev.reg (regKey PLV_REPLAY_COUNT p)) again.length) ∧
        (lane d l).next = (lane s.dev l).next ∧ d = { s.dev with regs := d.regs, ports := d.ports, out := d.out })) ∧
      (2 ≤ b.resends → Ends (.blockNak p l seq) s (WentDown s p (some 2)))) ∧
    (∀ k, s.dev.portState p = 6 →
      let sent := fun d : Device => d.out.length = s.dev.out.length + laneCount p ∧ (d.link p).tick = false ∧
        (∀ l, l < laneCount p → (lane d l).next = ((lane s.dev l).next + 1) % 2 ^ 32)
      (∀ b, Table.find? (s.dev.link p).transit k = some b → Ends (.slotSend p k) s (fun d =>
        sent d ∧ Table.find? (d.link p).transit k = none ∧ d = { s.dev with regs := d.regs, ports := d.ports, out := d.out })) ∧
      (p < 16 → Table.find? (s.dev.link p).transit k = none → s.dev.slotCircuit p k = none → Ends (.slotSend p k) s (fun d =>
        sent d ∧ d = { s.dev with ports := d.ports, out := d.out })) ∧
      (∀ rt, Table.find? (s.dev.link p).transit k = none → (if p = 16 then some twinRoute else s.dev.slotCircuit p k) = some rt →
        Ends (.slotSend p k) s (fun d =>
          sent d ∧ d.txq = (s.dev.pickRoute p rt (25 * laneCount p)).2 ∧
          d = { s.dev with regs := d.regs, ports := d.ports, out := d.out, txq := d.txq, flight := d.flight, requests := d.requests
                           nextUid := d.nextUid }))) ∧
    (∀ c n payload x, s.dev.circuit? (circKey p c) = some x → x.ends = false → c ≤ 63 → s.dev.portState p = 6 →
      s.dev.portState x.outPort = 6 →
      (Table.find? (s.dev.link x.outPort).transit (n + 3) = none → Ends (.transitForward p c n payload) s (fun d =>
        Table.find? (d.link x.outPort).transit (n + 3) = some (p, x.outCircuit, payload) ∧
        (∀ q, q ≠ x.outPort → d.link q = s.dev.link q) ∧ d = { s.dev with ports := d.ports })) ∧
      (∀ b, Table.find? (s.dev.link x.outPort).transit (n + 3) = some b → Ends (.transitForward p c n payload) s (fun d =>
        (p < b.1 → Table.find? (d.link x.outPort).transit (n + 3) = some (p, x.outCircuit, payload)) ∧
        d.reg (regKey PLV_SLOT_CONFLICT x.outPort) = satAdd 32 (s.dev.reg (regKey PLV_SLOT_CONFLICT x.outPort)) 1 ∧
        d = { s.dev with regs := d.regs, ports := d.ports }))) ∧
    (∀ set, Ends (.liveFlood p set) s (fun d =>
      d.liveSet = (List.range 17).foldl (fun v q => if s.dev.portState q = 6 then Nat.lor v (d.link q).live else v)
        (if s.dev.inDomain then 2 ^ s.dev.index else 0) % 2 ^ 96 ∧
      (s.dev.portState p = 6 → (d.link p).live = set % 2 ^ 72) ∧ d = { s.dev with regs := d.regs, ports := d.ports }))

/-- R748, R759 to R761, R764, R776, R792: a packet at the end of a circuit is served and owed a report, or answered; a response brings
the bytes of its request; notices are taken or passed on; circuits are set up and torn down with the result of their checks. -/
def Obligations.PacketsAndCircuits : Prop :=
  ∀ (s : State) (p c : Nat), Running s →
    (s.dev.arrives p c = true →
      (∀ req cls addr data miss d1, data.length ≤ 2048 → s.dev.targetAnswer addr data.length true miss = (0, d1) → addrSpace addr ≠ 6 →
        Ends (.plvWritePacket p c req cls addr data miss) s (fun d =>
          d.mem = Memory.applyAll s.dev.mem (cellsOf (localKey addr) data) ∧
          Table.getD (d.link p).reports c 0 = Table.getD (s.dev.link p).reports c 0 + 1 ∧
          d = { s.dev with regs := d.regs, ports := d.ports, mem := d.mem, poison := d.poison })) ∧
      (∀ req cls addr data miss st d1, data.length ≤ 2048 → s.dev.targetAnswer addr data.length true miss = (st, d1) → st ≠ 0 →
        Ends (.plvWritePacket p c req cls addr data miss) s (fun d => d = d1.respond p c req cls st [])) ∧
      (∀ req cls src addr producer level seq words miss d1, words ≠ [] → s.dev.targetAnswer addr 64 true miss = (0, d1) →
        let part := partOf 4 (addrOffset addr)
        let q := addrOffset addr % 0x400000 % 256
        ((addrSpace addr ≠ 4 ∨ s.dev.queue? part q = none) →
          Ends (.plvQueuePacket p c req cls src addr producer level seq words miss) s (fun d => d = d1.respond p c req cls 2 [])) ∧
        (addrSpace addr = 4 → s.dev.queue? part q ≠ none →
          Ends (.plvQueuePacket p c req cls src addr producer level seq words miss) s (fun d =>
            d.queues = (d1.pushPacket part q producer level (some seq) words).queues ∧
            Table.getD (d.link p).reports c 0 = Table.getD (s.dev.link p).reports c 0 + 1 ∧
            d = { s.dev with queues := d.queues, ports := d.ports, regs := d.regs, routes := d.routes, txq := d.txq
                             nextUid := d.nextUid }))) ∧
      (∀ req cls addr n miss d1, n ≤ 2048 → s.dev.targetAnswer addr n false miss = (0, d1) → addrSpace addr ≠ 6 →
        s.dev.poisonIn (localKey addr) n = none →
        Ends (.plvReadReq p c req cls addr n 0 none miss) s (fun d =>
          d.txq = s.dev.txq ++ [{ uid := s.dev.nextUid, kind := 2, dest := 127, cls := cls, status := 0, arg := req
                                  body := s.dev.readBytes (localKey addr) n, len := n, route := circKey p c }] ∧
          d = { s.dev with txq := d.txq, regs := d.regs, nextUid := s.dev.nextUid + 1 })) ∧
      (∀ req data t, Table.find? s.dev.requests req = some t → (∀ r ∈ s.dev.hostReads, r.uid ≠ t.uid) →
        Ends (.plvResponse p c req 0 data) s (fun d =>
          Table.find? d.requests req = none ∧ d.arrived = s.dev.arrived ++ [(t.uid, t.arg, data)] ∧
          d = { s.dev with requests := d.requests, arrived := d.arrived })) ∧
      (∀ req st data, Table.find? s.dev.requests req = none → s.dev.flight = [] →
        Ends (.plvResponse p c req st data) s (fun d => d = s.dev))) ∧
    (∀ x n, p < 16 → c ≤ 63 → s.dev.portState p = 6 → s.dev.circuit? (circKey p c) = some x →
      (x.ends = true → Ends (.reportNotice p c n) s (fun d => d = { s.dev with flight := dropLanded (circKey p c) n s.dev.flight })) ∧
      (x.ends = false → Ends (.reportNotice p c n) s (fun d =>
        Table.getD (d.link x.outPort).reports x.outCircuit 0 = Table.getD (s.dev.link x.outPort).reports x.outCircuit 0 + n ∧
        (∀ q, q ≠ x.outPort → d.link q = s.dev.link q) ∧ d = { s.dev with ports := d.ports }))) ∧
    (∀ n, c ≤ 63 → s.dev.portState 16 = 6 →
      Ends (.reportNotice 16 c n) s (fun d => d = { s.dev with flight := dropLanded twinRoute n s.dev.flight })) ∧
    (∀ x, p ≤ 15 → c ≤ 63 → s.dev.circuit? (circKey p c) = some x → x.ends = false →
      (∀ y, s.dev.circuit? (circKey x.outPort x.outCircuit) = some y → y.ends = false) →
      Ends (.teardownNotice p c) s (fun d =>
        d.circuit? (circKey p c) = none ∧ d.circuit? (circKey x.outPort x.outCircuit) = none ∧
        x.outCircuit ∈ (d.link x.outPort).teardowns ∧ d = { s.dev with circuits := d.circuits, ports := d.ports })) ∧
    (∀ x, p ≤ 15 → c ≤ 63 → s.dev.circuit? (circKey p c) = some x → x.ends = true → s.dev.txq = [] → s.dev.requests = [] →
      s.dev.flight = [] → (s.dev.job x.job).state = .none →
      Ends (.teardownNotice p c) s (fun d =>
        d.circuit? (circKey p c) = none ∧ (∀ k, k ≠ circKey p c → d.circuit? k = s.dev.circuit? k) ∧
        d = { s.dev with circuits := d.circuits })) ∧
    (∀ port, port.circuits = true →
      let k := s.dev.circSel port
      (∀ r, s.dev.circSetupResult port k = r → Ends (.circuitSetup port) s (fun d =>
        d.regField (regKey PLV_CIRC_CMD k) 7 0 = r ∧ d = { s.dev with regs := d.regs, circuits := d.circuits } ∧
        (r ≠ 0 → d.circuits = s.dev.circuits) ∧
        (r = 0 → d.circuit? k = some (s.dev.circConfig k).2 ∧
          ((s.dev.circConfig k).1 = 2 → d.circuit? (circKey (s.dev.circConfig k).2.outPort (s.dev.circConfig k).2.outCircuit) =
            some { (s.dev.circConfig k).2 with outPort := k / 64, outCircuit := k % 64 })))) ∧
      (∀ r, s.dev.circTeardownResult port k = r → r ≠ 0 → Ends (.circuitTeardown port) s (fun d =>
        d.regField (regKey PLV_CIRC_CMD k) 7 0 = r ∧ d = { s.dev with regs := d.regs })) ∧
      (s.dev.circTeardownResult port k = 0 → s.dev.txq = [] → s.dev.requests = [] → s.dev.flight = [] →
        Ends (.circuitTeardown port) s (fun d =>
          d.regField (regKey PLV_CIRC_CMD k) 7 0 = 0 ∧ d.circuit? k = none ∧
          (∀ x, s.dev.circuit? k = some x → x.ends = false → d.circuit? (circKey x.outPort x.outCircuit) = none) ∧
          d = { s.dev with regs := d.regs, circuits := d.circuits })))

/-! ### Twin pairs and restarts (16_plovlink_and_domain, 17_boot_reset_power, 18_faults_and_recovery) -/

/-- R785 to R791, R804, R845 to R848, R818: heartbeats pair the twins; an update is stored and acknowledged, and the acknowledgement
releases what it covers; at the miss limit the device resets its twin, releases what waits and adopts the mirrored sessions; a
JOB_FAULT message halts the job once; after the hold the partitions of a halted job reset, and the job goes on to the restart breath.
The layout of the mirror is the model's choice (log entry 36); the status of a fault of another device is a free value. -/
def Obligations.TwinsAndRestarts : Prop :=
  ∀ s : State, Running s →
    let twin := s.dev.regField PLV_TWIN_STATUS 6 0
    (∀ b,
      (s.dev.twinOn = false → Ends (.twinHeartbeatReceive b) s (fun d => d = s.dev)) ∧
      (s.dev.twinOn = true → Ends (.twinHeartbeatReceive b) s (fun d =>
        d.reg PLV_TWIN_HB = b % 2 ^ 32 ∧ d.twinState = 1 ∧ d.regField PLV_TWIN_STATUS 15 8 = 0 ∧ d.twin.heard = true ∧
        (s.dev.twin.waiting = true → d.out = s.dev.out ∧ d.twin = { s.dev.twin with heard := true }) ∧
        (s.dev.twin.waiting = false → s.dev.held ≠ [] → d.twin.waiting = true ∧ d.twin.carried = s.dev.held.length ∧
          d.twin.position = s.dev.twin.position + 1 ∧ d.out.length = s.dev.out.length + 1) ∧
        d = { s.dev with regs := d.regs, twin := d.twin, out := d.out }))) ∧
    (∀ body,
      (s.dev.mirrorKey = none ∨ s.dev.twinOn = false → Ends (.mirrorUpdate body) s (fun d => d = s.dev)) ∧
      (∀ k, s.dev.mirrorKey = some k → s.dev.twinOn = true → Ends (.mirrorUpdate body) s (fun d =>
        d.twin = { s.dev.twin with received := leAt body 0 8 } ∧
        d.out = s.dev.out ++ [.link s.dev.twinPath 18 twin (leBytes 8 (leAt body 0 8))] ∧
        (∀ n off bs, body = leBytes 8 n ++ mirrorPart off bs → off + bs.length ≤ 0x400000 →
          d.mem = Memory.applyAll s.dev.mem (cellsOf (k + off) bs)) ∧
        d = { s.dev with mem := d.mem, poison := d.poison, regs := d.regs, twin := d.twin, out := d.out }))) ∧
    (∀ n,
      (n ≠ s.dev.twin.position ∨ s.dev.twin.waiting = false → Ends (.mirrorAck n) s (fun d => d = s.dev)) ∧
      (n = s.dev.twin.position → s.dev.twin.waiting = true → Ends (.mirrorAck n) s (fun d =>
        d.mirrorFrom = s.dev.twin.upTo ∧ d.held = s.dev.held.drop s.dev.twin.carried ∧
        (s.dev.out ++ s.dev.held.take s.dev.twin.carried) <+: d.out ∧
        (s.dev.held.length ≤ s.dev.twin.carried → (∀ e ∈ s.dev.staged, e.cmd.uid < s.dev.twin.upTo) →
          d.out = s.dev.out ++ s.dev.held ∧ d.twin = { s.dev.twin with waiting := false }) ∧
        d = { s.dev with out := d.out, held := d.held, mirrorFrom := d.mirrorFrom, twin := d.twin }))) ∧
    (∀ reads,
      (s.dev.twinOn = false ∨ s.dev.twinState ≠ 2 ∨ s.dev.regField PLV_TWIN_STATUS 15 8 < s.dev.missLimit →
        Ends (.twinTakeover reads) s (fun d => d = s.dev)) ∧
      (s.dev.twinOn = true → s.dev.twinState = 2 → s.dev.missLimit ≤ s.dev.regField PLV_TWIN_STATUS 15 8 →
        (∀ e ∈ s.dev.jobs, (s.dev.farDevices e.1).contains twin = false) → Ends (.twinTakeover reads) s (fun d =>
        let said := s.dev.out ++ [.land 68 false, .land 68 true] ++ s.dev.held
        d.twinState = 3 ∧ d.reg PLV_TAKEOVER_COUNT = satAdd 32 (s.dev.reg PLV_TAKEOVER_COUNT) 1 ∧ d.held = [] ∧ said <+: d.out ∧
        (s.dev.mirrorKey = none → d.out = said ∧
          d = { s.dev with regs := d.regs, out := d.out, held := [], twin := { s.dev.twin with waiting := false } }) ∧
        (∀ k i, s.dev.mirrorKey = some k → i < 4096 →
          (leAt (s.dev.readBytes (k + 64 * i) 64) 0 1 = 1 → (s.dev.session i).enable = false → (s.dev.session i).state = .off →
            (d.session i).enable = true ∧ (d.session i).state = .running ∧
            (d.session i).sqBase = leAt (s.dev.readBytes (k + 64 * i) 64) 8 8) ∧
          (leAt (s.dev.readBytes (k + 64 * i) 64) 0 1 ≠ 1 ∨ (s.dev.session i).enable = true →
            d.session i = s.dev.session i))))) ∧
    (s.dev.twinUp = true → s.dev.boot.done = true →
      Ends .twinFirmwareRequest s (fun d => d = { s.dev with out := s.dev.out ++ [.link 16 15 twin s.dev.boot.kept] })) ∧
    (s.dev.twinUp = false ∨ s.dev.boot.done = false → Ends .twinFirmwareRequest s (fun d => d = s.dev)) ∧
    (∀ image,
      (s.dev.awaits 1 = true → s.dev.twinUp = true → Ends (.twinFirmwareImage image) s (fun d =>
        ((FwSlot.ofImage image).good = true →
          d.boot = { s.dev.boot with kept := image, keptGood := true, fwReady := true, activate := false } ∧
          d.reg MGT_FW_VERSION = (FwSlot.ofImage image).version % 2 ^ 32) ∧
        ((FwSlot.ofImage image).good = false →
          d.boot = { s.dev.boot with recovery := true } ∧ d.regField MGT_BOOT_STATUS 30 30 = 1) ∧
        d = { s.dev with boot := d.boot, regs := d.regs })) ∧
      (s.dev.awaits 1 = false ∨ s.dev.twinUp = false → Ends (.twinFirmwareImage image) s (fun d => d = s.dev))) ∧
    (∀ j,
      let x := s.dev.job j
      let others := fun d : Device => ∀ i, i ≠ j → d.job i = s.dev.job i
      let limit := s.dev.regField MGT_FAULT_CFG 15 8
      (∀ o n, x.state = .none ∨ x.seen.contains (o, n) = true → Ends (.jobFaultMessage j o n) s (fun d => d = s.dev)) ∧
      (∀ o n, x.state ≠ .none → x.seen.contains (o, n) = false → Ends (.jobFaultMessage j o n) s (fun d =>
        (d.job j).seen = x.seen ++ [(o, n)] ∧ others d ∧
        (x.state.down = true → (d.job j).state = x.state ∧ d.ring.serial = s.dev.ring.serial + 1 ∧
          d.txq.length = s.dev.txq.length + (s.dev.farDevices j).length ∧
          d = { s.dev with jobs := d.jobs, ring := d.ring, regs := d.regs, mem := d.mem, poison := d.poison, txq := d.txq
                           nextUid := d.nextUid, freeCounter := s.dev.freeCounter + 1 }) ∧
        (x.state.down = false → limit = 0 ∨ (s.dev.stormNow j).length + 1 < limit →
          (d.job j).state = .halted ∧ (d.job j).held = 0 ∧ (d.job j).restarts = x.restarts + 1 ∧
          (∀ p ∈ s.dev.jobParts j, (d.part p).fabric.halted = true ∧ (d.part p).front = []) ∧
          d.ring.serial = s.dev.ring.serial + 1 ∧ d.txq.length = s.dev.txq.length + (s.dev.farDevices j).length ∧
          d.reg MGT_RESTART_COUNT = satAdd 32 (s.dev.reg MGT_RESTART_COUNT) 1) ∧
        (x.state.down = false → limit ≠ 0 → limit ≤ (s.dev.stormNow j).length + 1 →
          (d.job j).state = .stopped ∧ d.ring.serial = s.dev.ring.serial + 2))) ∧
      (x.state ≠ .halted ∨ x.suspend = .saved ∨ x.held ≤ s.dev.regField MGT_FAULT_CFG 7 0 →
        Ends (.restartHoldExpiry j) s (fun d => d = s.dev)) ∧
      (x.state = .halted → x.suspend ≠ .saved → s.dev.regField MGT_FAULT_CFG 7 0 < x.held → Ends (.restartHoldExpiry j) s (fun d =>
        (d.job j).state = .resetting ∧ (d.job j).landed = [] ∧ (d.job j).restartBreath = none ∧ others d ∧
        (∀ p ∈ s.dev.jobParts j, (d.part p).slots = [] ∧ (d.part p).running = none ∧ (d.part p).admitted = [] ∧
          (∀ a, p * 0x4000000 ≤ a → a < (p + 1) * 0x4000000 → Memory.get d.mem (memKey 0 a) = 0)))) ∧
      (∀ n,
        (x.state = .resetting ∨ x.state = .reloading ∨ x.state = .waiting → Ends (.restartBreathAnnounce j n) s (fun d =>
          d.job j = { x with restartBreath := some n } ∧ others d ∧ d = { s.dev with jobs := d.jobs })) ∧
        (¬(x.state = .resetting ∨ x.state = .reloading ∨ x.state = .waiting) →
          Ends (.restartBreathAnnounce j n) s (fun d => d = s.dev))) ∧
      (∀ v,
        (x.state = .none → Ends (.restartResetReport j v) s (fun d => d = s.dev)) ∧
        (x.state ≠ .none → Ends (.restartResetReport j v) s (fun d =>
          v ∈ (d.job j).reports ∧ (d.job j).state = x.state ∧ others d ∧
          (s.dev.lowestDevice j ≠ s.dev.index → d = { s.dev with jobs := d.jobs }) ∧
          (s.dev.lowestDevice j = s.dev.index → x.restartBreath = none → 1 < (s.dev.jobDevices j).length →
            (∀ u ∈ s.dev.jobDevices j, u ∈ (d.job j).reports) →
            (d.job j).restartBreath = some (s.dev.breath + 2) ∧
            d.txq.length = s.dev.txq.length + ((s.dev.jobDevices j).length - 1)) ∧
          d = { s.dev with jobs := d.jobs, txq := d.txq, nextUid := d.nextUid })))) ∧
    (∀ p, p < 12 →
      let j := (s.dev.part p).job
      let x := s.dev.job j
      (x.state = .resetting → x.landed.contains p = false → Ends (.partitionWarmResetComplete p) s (fun d =>
        (d.part p).fabric = { (s.dev.part p).fabric with halted := false } ∧ (d.job j).landed = x.landed ++ [p] ∧
        (d.job j).state = (if (s.dev.jobParts j).all (fun q => (x.landed ++ [p]).contains q) then .reloading else .resetting) ∧
        (∀ q, q ≠ p → d.part q = s.dev.part q) ∧
        d = { s.dev with parts := d.parts, jobs := d.jobs, txq := d.txq, nextUid := d.nextUid })) ∧
      (x.state ≠ .resetting → (∀ e ∈ s.dev.blockResets, ¬(e.1 = 0 ∧ e.2.1 = p)) →
        Ends (.partitionWarmResetComplete p) s (fun d => d = s.dev)) ∧
      (∀ c, x.state ≠ .resetting → s.dev.blockResets = [(0, p, c)] → Ends (.partitionWarmResetComplete p) s (fun d =>
        d = ({ (s.dev.modFab p (fun f => { f with halted := false })) with blockResets := [] } : Device).complete c 0 [])))

/-! ### Resets and the boot (17_boot_reset_power) -/

/-- R814 to R823, R798 to R806, R881, R882: a source asserts: the device is held in reset with the reach of the source, or the wider
one under way, what the reach does not keep is cleared, and the reset is recorded and counted; released, the boot begins, and goes
through its stages. The reaches are numbered in the order of R819: 0 power-on, 1 cold, 2 system, 3 device warm, 4 core. What the reach leaves of memory is one change of it, and of the boot's own state a function of it. -/
def Obligations.ResetsAndBoot : Prop :=
  ∀ s : State, s.dev.wlog = [] →
    let asserted := fun (b : Device) (src : Nat) (core : Bool) (d : Device) =>
      let was := match b.resetRun with | some r => r.sources | none => []
      let reach := match b.resetRun with | some r => min r.reach (b.reachOf src core) | none => b.reachOf src core
      let sources := if was.contains src then was else was ++ [src]
      let hi := 16 * (src % 2) + 15
      let lo := 16 * (src % 2)
      let k := RCU_COUNT_SRC + 4 * (src / 2)
      d.resetRun = some { reach := reach, sources := sources } ∧
      (b.resetRun = none → b.compat = false → reach = if src ≤ 1 then 1 else 3) ∧
      (b.resetRun = none → b.compat = true →
        reach = if src ≤ 1 then 0 else if src = 2 ∨ src = 6 ∨ (src = 4 ∧ core = false) then 2 else 4) ∧ d.blockResets = [] ∧
      d.mem = Memory.applyAll b.mem [.reset reach] ∧ d.boot = b.boot.atReset reach ∧
      d.staged = [] ∧ d.jobs = [] ∧ d.images = [] ∧ d.queues = [] ∧ d.seqs = [] ∧ d.circuits = [] ∧ d.movers = [] ∧ d.longOps = [] ∧
      (∀ p, (d.part p).job = 0 ∧ (d.part p).slots = []) ∧
      d.regField RCU_CAUSE src src = 1 ∧ d.regField RCU_CAUSE 10 8 = sources.foldl max 0 % 8 ∧
      d.regField RCU_CAUSE 18 16 = reachCode reach ∧
      d.reg RCU_COUNT_TOTAL = (if b.resetRun.isNone then satAdd 32 (b.reg RCU_COUNT_TOTAL) 1 else b.reg RCU_COUNT_TOTAL) ∧
      d.regField k hi lo = (if was.contains src then b.regField k hi lo else satAdd 16 (b.regField k hi lo) 1)
    (s.dev.supplies.tripped = false →
      (∀ n, (n < 401 → Ends (.rstNPulse n) s (fun d => d = s.dev)) ∧
        (401 ≤ n → Ends (.rstNPulse n) s (fun d => asserted s.dev 2 false d ∧ d.out = s.dev.out ∧
          d.supplies = { s.dev.supplies with rstHigh := false }))) ∧
      Ends .watchdogExpiry s (fun d => asserted s.dev 3 false d ∧ d.out = s.dev.out ∧ d.supplies = s.dev.supplies) ∧
      Ends .clockFailure s (fun d => asserted s.dev 6 false d ∧ d.out = s.dev.out ∧
        d.supplies = { s.dev.supplies with reference := false }) ∧
      Ends .lockUp s (fun d => asserted s.dev 7 false d ∧ d.out = s.dev.out ∧ d.supplies = s.dev.supplies) ∧
      (s.dev.boot.requested = none → Ends .softwareReset s (fun d => d = s.dev)) ∧
      (∀ r, s.dev.boot.requested = some r → Ends .softwareReset s (fun d =>
        asserted s.dev 4 (r == 1) d ∧ d.out = s.dev.out ∧ d.supplies = s.dev.supplies)) ∧
      (s.dev.sample = true → Ends .debugResetRequest s (fun d =>
        asserted s.dev 5 false d ∧ d.out = s.dev.out ∧ d.supplies = s.dev.supplies)) ∧
      (s.dev.sample = false → Ends .debugResetRequest s (fun d => d = s.dev)) ∧
      (∀ vin, Ends (.brownOut vin) s (fun d => asserted s.dev 1 false d ∧ d.out = s.dev.out ∧
        d.supplies = (if vin then { s.dev.supplies with vin := false } else s.dev.supplies) ∧
        d.regField PMU_STATUS 31 30 = (if vin then 0 else s.dev.regField PMU_STATUS 31 30))) ∧
      (∀ r, (r ≤ 2 → Ends (.railFail r) s (fun d => asserted s.dev 1 false d ∧ d.out = s.dev.out ∧
          d.supplies = (if r = 0 then { s.dev.supplies with vio := false } else if r = 1 then { s.dev.supplies with vddq := false }
            else { s.dev.supplies with vstby := false }))) ∧
        (2 < r → Ends (.railFail r) s (fun d => d = s.dev))) ∧
      (s.dev.resetRun = none ∨ s.dev.supplies.vstby = false ∨ s.dev.supplies.vin = false →
        Ends .resetRelease s (fun d => d = s.dev)) ∧
      (s.dev.resetRun ≠ none → s.dev.supplies.vstby = true → s.dev.supplies.vin = true → Ends .resetRelease s (fun d =>
        let n := s.dev.regField RCU_BOOT 3 0
        d.resetRun = none ∧ d.boot = { s.dev.boot with failsAt := n, recovery := s.dev.boot.recovery || decide (6 ≤ n) } ∧
        d.regField RCU_BOOT 3 0 = min 15 (n + 1) ∧
        d.reg MGT_STRAPS = 4 * (s.dev.boot.clkMode % 4) + s.dev.boot.bootSrc % 4 ∧
        d = { s.dev with resetRun := none, regs := d.regs, boot := d.boot
                         supplies := { s.dev.supplies with vio := true, vddq := true, reference := true, rstHigh := true } }))) ∧
    (s.dev.supplies.tripped = true → ∀ vin, Ends (.brownOut vin) s (fun d =>
      d = { s.dev with supplies := if vin then { s.dev.supplies with vin := false } else s.dev.supplies })) ∧
    (∀ lost, Ends (.powerOnReset lost) s (fun d =>
      asserted (if lost then s.dev.backupLost else s.dev) 0 false d ∧ (lost = true → d.reg RCU_VBAK / 2 ^ 31 % 2 = 1) ∧
      d.supplies = { s.dev.supplies with vstby := true, vio := true, vddq := true, vin := true, tripped := false } ∧
      d.regField PMU_STATUS 31 30 = 1 ∧ d.since = {})) ∧
    (Running s →
      (∀ st pr di cx,
        let n := nextStage s.dev.boot.warm s.dev.boot.stage
        let x := s.dev.boot
        (x.recovery = true ∨ x.done = true ∨ (7 ≤ n ∧ x.fwReady = false) →
          Ends (.bootStageComplete st pr di cx) s (fun d => d = s.dev)) ∧
        (x.recovery = false → x.done = false → n ≤ 8 → (n < 7 ∨ x.fwReady = true) → Ends (.bootStageComplete st pr di cx) s (fun d =>
          d.boot.stage = n ∧ d.regField MGT_BOOT_STATUS 3 0 = n ∧
          (n = 1 ∨ n = 2 ∨ n = 6 ∨ n = 7 → d.boot = { x with stage := n } ∧ d = { s.dev with boot := d.boot, regs := d.regs }) ∧
          (n = 3 → x.warm = true → x.keptGood = true → x.activate = false → d.boot = { x with stage := 3, fwReady := true }) ∧
          (n = 3 → x.warm = false ∨ x.keptGood = false ∨ x.activate = true → s.dev.bootFrom = 0 →
            (x.fwChoice = none → d.boot.recovery = true) ∧
            (∀ b, x.fwChoice = some b → x.failsAt < 3 ∨ (x.fw b).proven = true →
              d.boot.useB = b ∧ ((x.fw b).good = true → d.boot.fwReady = true ∧ d.boot.recovery = false) ∧
              ((x.fw b).good = false → d.boot.recovery = true)) ∧
            (∀ b, x.fwChoice = some b → 3 ≤ x.failsAt → (x.fw b).proven = false →
              (d.boot.fw b).revoked = true ∧ d.regField MGT_BOOT_STATUS 26 26 = 1 ∧
              ((x.fw (!b)).valid = true → d.boot.useB = !b) ∧ ((x.fw (!b)).valid = false → d.boot.recovery = true))) ∧
          (n = 4 → x.cfgChoice = none → d.boot.cfgDefault = true ∧ d.regField MGT_BOOT_STATUS 29 29 = 1 ∧ d.reg MGT_CFG_VERSION = 0) ∧
          (n = 4 → ∀ b, x.cfgChoice = some b → x.failsAt < 3 → d.boot.cfgDefault = false ∧ d.boot.cfgUseB = b) ∧
          (n = 5 → d.ddr = (ddrWays di).1.length * (ddrWays di).2 ∧ d.cxl = [cx.getD 0 0, cx.getD 1 0] ∧
            (∀ p, p < 12 → (d.part p).inService = bitOf st p)) ∧
          (n = 8 → d.boot.done = true ∧ d.timer.on = true ∧ d.regField RCU_BOOT 3 0 = 0 ∧
            d.regField MGT_BOOT_STATUS 31 31 = 1 ∧ d.reg HUB_SIZE_COUNT = 2 ^ 31 + 83)))) ∧
      (let late := (s.dev.awaits 1 && !s.dev.twinUp) || (s.dev.awaits 2 && decide (6 ≤ s.dev.boot.stage)) ||
          (s.dev.awaits 3 && s.dev.boot.uart.isEmpty)
       (late = true → Ends .bootSourceTimeout s (fun d => d.boot = { s.dev.boot with recovery := true } ∧
          d.regField MGT_BOOT_STATUS 30 30 = 1 ∧ d = { s.dev with boot := d.boot, regs := d.regs })) ∧
       (late = false → Ends .bootSourceTimeout s (fun d => d = s.dev))) ∧
      (∀ f, s.dev.awaits 3 = false → Ends (.uartXmodemBlock f) s (fun d => d = s.dev)) ∧
      (∀ f, s.dev.awaits 3 = true → f.length ≠ 1 → f.length ≠ 1029 → Ends (.uartXmodemBlock f) s (fun d =>
        d = { s.dev with out := s.dev.out ++ [.uart 0x15] })) ∧
      (s.dev.awaits 3 = true → Ends (.uartXmodemBlock [0x04]) s (fun d =>
        d.out = s.dev.out ++ [.uart 0x06] ∧ (d.boot.fwReady = true ∨ d.boot.recovery = true) ∧
        d = { s.dev with boot := d.boot, regs := d.regs, out := d.out })) ∧
      (∀ n data, s.dev.awaits 3 = true → data.length = 1024 → n < 256 →
        let f := leBytes 1 2 ++ leBytes 1 n ++ leBytes 1 (255 - n) ++ data ++ leBytes 1 (crc16 data / 256) ++ leBytes 1 (crc16 data)
        (n = s.dev.boot.uartBlock % 256 → s.dev.boot.uart.length < 16777216 → Ends (.uartXmodemBlock f) s (fun d =>
          d = { s.dev with boot := { s.dev.boot with uart := s.dev.boot.uart ++ data, uartBlock := s.dev.boot.uartBlock + 1 }
                           out := s.dev.out ++ [.uart 0x06] })) ∧
        (n ≠ s.dev.boot.uartBlock % 256 → Ends (.uartXmodemBlock f) s (fun d =>
          d = { s.dev with out := s.dev.out ++ [.uart (if n = (s.dev.boot.uartBlock + 255) % 256 then 0x06 else 0x15)] }))))

/-! ### Power and the management port (17_boot_reset_power, 15_host_port) -/

/-- R828 to R834: droop, heat, the average of power and the rack's alerts set their demands and events; a demand of level 12 comes into
force at once; THERMTRIP_N stops the device. R743: the sensors are refreshed. -/
def Obligations.PowerDemands : Prop :=
  ∀ s : State, s.dev.supplies.tripped = false → s.dev.wlog = [] →
    let x := s.dev.power
    let told := fun i : Nat => if s.dev.regField PMU_EVENTS i i ≠ 1 ∧ s.dev.regField PMU_IRQ 31 31 = 1 then
      [Out.msix 0 (s.dev.regField PMU_IRQ 10 0)] else []
    let twelve := fun d : Device => d.regField PMU_STATUS 19 16 = 12 ∧ d.regField PMU_STATUS 29 29 = 1 ∧
      d.reg PMU_FCLK_KHZ = 760000 ∧ d.reg PMU_DCLK_KHZ = 480000
    let urgent := fun (i : Nat) (d : Device) => twelve d ∧ d.regField PMU_EVENTS i i = 1 ∧ d.out = s.dev.out ++ told i ∧
      d = { s.dev with regs := d.regs, power := d.power, out := d.out }
    (s.dev.resetRun = none →
      Ends .vinDroop s (fun d => urgent 0 d ∧ d.power = { x with droop := true, droopEnds := false } ∧
        d.reg PMU_DROOP_COUNT = satAdd 32 (s.dev.reg PMU_DROOP_COUNT) 1) ∧
      Ends .droopLapse s (fun d => d = { s.dev with power := { x with droopEnds := x.droop } }) ∧
      (∀ w, Ends (.powerAverage w) s (fun d =>
        let cap := s.dev.regField PMU_CAP 11 0
        (cap ≠ 0 → 100 * w < 95 * cap → d.power = { x with watts := w, capBelow := x.capBelow + 1 }) ∧
        (cap = 0 ∨ 95 * cap ≤ 100 * w → d.power = { x with watts := w, capBelow := 0 }) ∧ d = { s.dev with power := d.power })) ∧
      Ends .rmTimeout s (fun d => d.regField PMU_STATUS 27 27 = 1 ∧ d.regField PMU_EVENTS 4 4 = 1 ∧ d.out = s.dev.out ++ told 4 ∧
        d = { s.dev with regs := d.regs, out := d.out })) ∧
    (∀ tj,
      (105 ≤ tj → x.emergency = false → Ends (.tjSample tj) s (fun d => urgent 1 d ∧ d.power = { x with emergency := true } ∧
        d.regField PMU_STATUS 7 0 = min 255 tj ∧ d.reg PMU_EMERG_COUNT = satAdd 32 (s.dev.reg PMU_EMERG_COUNT) 1)) ∧
      (tj < 100 → Ends (.tjSample tj) s (fun d => d.regField PMU_STATUS 7 0 = tj ∧
        d = { s.dev with regs := d.regs, power := { x with emergency := false } })) ∧
      (100 ≤ tj → tj < 105 ∨ x.emergency = true → Ends (.tjSample tj) s (fun d => d.regField PMU_STATUS 7 0 = min 255 tj ∧
        d = { s.dev with regs := d.regs }))) ∧
    Ends .thermtrip s (fun d => d.regField PMU_STATUS 31 30 = 2 ∧
      d = { s.dev with regs := d.regs, supplies := { s.dev.supplies with tripped := true }, out := s.dev.out ++ [.land 67 false] }) ∧
    Ends (.alertAssert false) s (fun d => urgent 2 d ∧ d.power = { x with shelf := true, shelfLow := true }) ∧
    Ends (.alertAssert true) s (fun d => urgent 3 d ∧ d.power = { x with cool := true, coolLow := true }) ∧
    Ends (.alertDeassert false) s (fun d => d = { s.dev with power := { x with shelfLow := false } }) ∧
    Ends (.alertDeassert true) s (fun d => d = { s.dev with power := { x with coolLow := false } }) ∧
    Ends (.alertReleaseExpiry false) s (fun d => d = { s.dev with power := { x with shelf := x.shelfLow } }) ∧
    Ends (.alertReleaseExpiry true) s (fun d => d = { s.dev with power := { x with cool := x.coolLow } }) ∧
    (∀ tj st vin w vr, Ends (.sensorUpdate tj st vin w vr) s (fun d =>
      let now := fun n => Table.getD d.sensors n 0
      (∀ i, i < 5 → i < tj.length → now (1 + i) = tj.getD i 0 % 2 ^ 32) ∧
      (∀ i, i < 12 → i < st.length → now (0x10 + i) = st.getD i 0 % 2 ^ 32) ∧
      (s.dev.standby = false → now 0x20 = vin % 2 ^ 32 ∧ now 0x21 = w % 2 ^ 32) ∧
      (s.dev.standby = true → now 0x20 = Table.getD s.dev.sensors 0x20 0) ∧
      now 0x22 = s.dev.regField PMU_CAP 11 0 ∧ now 0x30 = s.dev.since.jobsFaulted % 2 ^ 32 ∧ now 0x31 = s.dev.since.tokens % 2 ^ 32 ∧
      (∀ i, i < 25 → i < vr.length → d.reg (regKey PMU_VR_STATUS i) = vr.getD i 0 % 2 ^ 32) ∧
      d = { s.dev with sensors := d.sensors, regs := d.regs }))

/-- R740, R743, R811, R833, R890: a message of the rack manager is answered, on standby power too, and clears the sign of its loss; it
assigns the endpoint its IDs, reads the sensors and brings firmware into the slot not in use. The layouts of the messages are presumed
from the DMTF's documents (log entry 45). -/
def Obligations.ManagementMessages : Prop :=
  ∀ s : State, s.dev.supplies.tripped = false → s.dev.wlog = [] → s.dev.supplies.vstby = true → s.dev.supplies.vio = true →
    (s.dev.resetRun = none ∨ s.dev.supplies.vin = false) →
    let heard := fun d : Device => d.regField PMU_STATUS 27 27 = 0 ∧
      d = { s.dev with regs := d.regs, mgmt := d.mgmt, out := d.out, freeCounter := d.freeCounter, boot := d.boot }
    let gives := fun (d : Device) (o : List Out) => heard d ∧ d.out = s.dev.out ++ o
    (∀ (h c : Nat) (data : List Byte), h < 256 → c < 256 →
      let i : Byte := BitVec.ofNat 8 (h % 128)
      let body := BitVec.ofNat 8 h :: BitVec.ofNat 8 c :: data
      (h < 128 → Ends (.mctpControlMessage body) s (fun d => gives d [] ∧ d.mgmt = s.dev.mgmt)) ∧
      (128 ≤ h →
        (∀ o e : Byte, c = 1 → data = [o, e] → o.toNat % 4 ≤ 1 → 8 ≤ e.toNat → e.toNat ≠ 255 →
          Ends (.mctpControlMessage body) s (fun d =>
            gives d [.mctp 0 [i, 1, 0, 0, e, 0]] ∧ d.mgmt = { s.dev.mgmt with eid := e.toNat })) ∧
        (∀ o e : Byte, c = 1 → data = [o, e] → e.toNat < 8 ∨ e.toNat = 255 → Ends (.mctpControlMessage body) s (fun d =>
          gives d [.mctp 0 [i, 1, 2]] ∧ d.mgmt = s.dev.mgmt)) ∧
        (c = 2 → Ends (.mctpControlMessage body) s (fun d =>
          gives d [.mctp 0 [i, 2, 0, BitVec.ofNat 8 s.dev.mgmt.eid, 0, 0]] ∧ d.mgmt = s.dev.mgmt)) ∧
        (c = 4 ∨ c = 6 → Ends (.mctpControlMessage body) s (fun d =>
          heard d ∧ d.out.length = s.dev.out.length + 1 ∧ d.mgmt = s.dev.mgmt ∧ d.boot = s.dev.boot)) ∧
        (c = 5 → Ends (.mctpControlMessage body) s (fun d => gives d [.mctp 0 [i, 5, 0, 2, 1, 0x7E]] ∧ d.mgmt = s.dev.mgmt)) ∧
        (c = 0 ∨ c = 3 ∨ 6 < c → Ends (.mctpControlMessage body) s (fun d =>
          gives d [.mctp 0 [i, BitVec.ofNat 8 c, 5]] ∧ d.mgmt = s.dev.mgmt)))) ∧
    (∀ (h c : Nat) (data : List Byte), 128 ≤ h → h < 256 → c < 256 →
      let i : Byte := BitVec.ofNat 8 (h % 128)
      let body := BitVec.ofNat 8 h :: 0 :: BitVec.ofNat 8 c :: data
      (∀ t : Byte, c = 1 → data = [t] → t.toNat ≠ 0 → t.toNat ≠ 255 → Ends (.pldmBaseDiscovery body) s (fun d =>
        gives d [.mctp 1 [i, 0, 1, 0]] ∧ d.mgmt = { s.dev.mgmt with tid := t.toNat })) ∧
      (c = 2 → Ends (.pldmBaseDiscovery body) s (fun d =>
        gives d [.mctp 1 [i, 0, 2, 0, BitVec.ofNat 8 s.dev.mgmt.tid]] ∧ d.mgmt = s.dev.mgmt)) ∧
      (c = 4 → Ends (.pldmBaseDiscovery body) s (fun d =>
        gives d [.mctp 1 [i, 0, 4, 0, 0x25, 0, 0, 0, 0, 0, 0, 0]] ∧ d.mgmt = s.dev.mgmt)) ∧
      (c = 3 ∨ c = 5 → Ends (.pldmBaseDiscovery body) s (fun d =>
        heard d ∧ d.out.length = s.dev.out.length + 1 ∧ d.mgmt = s.dev.mgmt)) ∧
      (c = 0 ∨ 5 < c → Ends (.pldmBaseDiscovery body) s (fun d =>
        gives d [.mctp 1 [i, 0, BitVec.ofNat 8 c, 5]] ∧ d.mgmt = s.dev.mgmt))) ∧
    (∀ h n,
      let i : Byte := BitVec.ofNat 8 (h % 128)
      (pldmSensor n = false → Ends (.pldmSensorRead h n) s (fun d => gives d [.mctp 1 [i, 2, 0x11, 0x80]])) ∧
      (pldmSensor n = true → s.dev.standby = false ∨ (n ≠ 0x20 ∧ n ≠ 0x21) → Ends (.pldmSensorRead h n) s (fun d =>
        gives d [.mctp 1 ([i, 2, 0x11, 0, 4, 0, 0, 1, 1, 1] ++ leBytes 4 (Table.getD s.dev.sensors n 0))])) ∧
      (s.dev.standby = true → n = 0x20 ∨ n = 0x21 → Ends (.pldmSensorRead h n) s (fun d =>
        gives d [.mctp 1 [i, 2, 0x11, 0, 4, 2, 0, 1, 1, 1, 0, 0, 0, 0]]))) ∧
    (∀ h n image act,
      let slot := FwSlot.ofImage image
      let i : Byte := BitVec.ofNat 8 (128 + h % 32)
      (n ≠ 1 ∨ 16777216 < image.length → Ends (.pldmFirmwareUpdate h n image act) s (fun d =>
        gives d [.mctp 1 [BitVec.ofNat 8 (h % 128), 5, 0x14, 2]] ∧ d.boot = s.dev.boot)) ∧
      (n = 1 → image.length ≤ 16777216 → Ends (.pldmFirmwareUpdate h n image act) s (fun d =>
        (slot.good = true → gives d [.mctp 1 [i, 5, 0x17, 0], .mctp 1 [i, 5, 0x18, 0, 0, 0]] ∧
          d.boot = { s.dev.boot.setFw s.dev.spareFw slot with activate := s.dev.boot.activate || act }) ∧
        (slot.good = false → gives d [.mctp 1 [i, 5, 0x17, 1]] ∧ d.boot = s.dev.boot.setFw s.dev.spareFw slot)))) ∧
    (∀ a, Ends (.i3cDynamicAddressAssignment a) s (fun d =>
      d = { s.dev with mgmt := if 8 ≤ a ∧ a ≤ 0x7D then { s.dev.mgmt with i3c := a } else s.dev.mgmt }))

/-! ### The JTAG port and PCIe configuration requests (00_scope, 15_host_port, 19_package_and_electrical) -/

/-- R2, R3, R694 to R699, R801, R894 to R897: EXTEST, SAMPLE/PRELOAD and BYPASS select their registers, EXTEST only while RST_N holds
the device in reset; a sample part's port reads and writes spaces, registers and the boot memory with no check; a configuration request
is answered with a retry until stage 6, then with the field's value. What else of the control complex's memory a read returns, and a
field that the spec gives no value, is free. -/
def Obligations.JtagAndConfiguration : Prop :=
  ∀ s : State, s.dev.supplies.tripped = false → s.dev.wlog = [] →
    let j := s.dev.jtag
    let m := 2 ^ 3131
    let gives := fun (d : Device) (o : List Out) => d = { s.dev with jtag := d.jtag, out := s.dev.out ++ o }
    (∀ lands tdi,
      (s.dev.resetRun ≠ none → s.dev.supplies.rstHigh = false → Ends (.jtagExtest lands tdi) s (fun d =>
        gives d [.jtag [1], .jtag (leBytes 392 (lands % m))] ∧ d.jtag = { j with ir := 0, boundary := tdi % m, update := tdi % m })) ∧
      (s.dev.resetRun = none ∨ s.dev.supplies.rstHigh = true → Ends (.jtagExtest lands tdi) s (fun d =>
        gives d [.jtag [1], .jtag (leBytes 392 (2 * tdi % m))] ∧ d.jtag = { j with ir := 0, bypass := bitOf tdi 3130 })) ∧
      Ends (.jtagSamplePreload lands tdi) s (fun d =>
        gives d [.jtag [1], .jtag (leBytes 392 (lands % m))] ∧ d.jtag = { j with ir := 1, boundary := tdi % m, update := tdi % m })) ∧
    (∀ code n tdi,
      (code % 256 ≤ 1 → Ends (.jtagBypass code n tdi) s (fun d => d = s.dev)) ∧
      (2 ≤ code % 256 → n = 0 → Ends (.jtagBypass code n tdi) s (fun d =>
        gives d [.jtag [1]] ∧ d.jtag = { j with ir := code % 256 })) ∧
      (2 ≤ code % 256 → 0 < n → Ends (.jtagBypass code n tdi) s (fun d =>
        gives d [.jtag [1], .jtag (leBytes ((n + 7) / 8) (2 * (tdi % 2 ^ n) % 2 ^ n))] ∧
        d.jtag = { j with ir := code % 256, bypass := bitOf (tdi % 2 ^ n) (n - 1) }))) ∧
    Ends .jtagTapReset s (fun d => d = { s.dev with jtag := { j with ir := 0xFF } }) ∧
    (∀ op, s.dev.sample = false ∨ s.dev.resetRun ≠ none → Ends (.jtagDebugAccess op) s (fun d => d = s.dev)) ∧
    (s.dev.sample = true → s.dev.resetRun = none →
      (∀ e,
        (∀ d1, s.dev.takeEntry .jtag .jtag e false = some d1 → Ends (.jtagDebugAccess (.command e)) s (fun d => d = d1)) ∧
        (s.dev.takeEntry .jtag .jtag e false = none → Ends (.jtagDebugAccess (.command e)) s (fun d => d = s.dev))) ∧
      (∀ a n, s.dev.isSelf (addrDevice a) = true → addrSpace a ≠ 6 →
        (s.dev.mapped a n = true → Ends (.jtagDebugAccess (.read a n)) s (fun d =>
          d = { s.dev with out := s.dev.out ++ [.jtag (s.dev.readBytes (localKey a) n)] })) ∧
        (s.dev.mapped a n = false → Ends (.jtagDebugAccess (.read a n)) s (fun d =>
          d = { s.dev with out := s.dev.out ++ [.jtag []] }))) ∧
      (∀ a data,
        (s.dev.mapped a data.length = false → Ends (.jtagDebugAccess (.write a data)) s (fun d => d = s.dev)) ∧
        (s.dev.mapped a data.length = true → s.dev.isSelf (addrDevice a) = true → addrSpace a ≠ 6 →
          Ends (.jtagDebugAccess (.write a data)) s (fun d =>
            d.mem = Memory.applyAll s.dev.mem (cellsOf (localKey a) data) ∧
            d = { s.dev with mem := d.mem, poison := d.poison, regs := d.regs }))) ∧
      (∀ off, Ends (.jtagDebugAccess (.readReg off)) s (fun d => d.out = s.dev.out ++ [.jtag (leBytes 4 (s.dev.readReg .jtag off).1)])) ∧
      (∀ v, Ends (.jtagDebugAccess (.writeReg HUB_FN_IRQ v)) s (fun d =>
        Nat.land (d.portReg .jtag HUB_FN_IRQ) 0xC7FF07FF = Nat.land v 0xC7FF07FF ∧ d = { s.dev with regs := d.regs })) ∧
      (∀ off n,
        (off + n ≤ 16777216 → Ends (.jtagDebugAccess (.readControl off n)) s (fun d =>
          d = { s.dev with out := s.dev.out ++ [.jtag (s.dev.readBytes (bootKey off) n)] })) ∧
        (16777216 < off + n → Ends (.jtagDebugAccess (.readControl off n)) s (fun d =>
          d.out.length = s.dev.out.length + 1 ∧ d = { s.dev with out := d.out, freeCounter := d.freeCounter }))) ∧
      (∀ off b,
        (off + b.length ≤ 16777216 → Ends (.jtagDebugAccess (.writeControl off b)) s (fun d =>
          d = { s.dev with mem := Memory.applyAll s.dev.mem (cellsOf (bootKey off) b) })) ∧
        (16777216 < off + b.length → Ends (.jtagDebugAccess (.writeControl off b)) s (fun d => d = s.dev)))) ∧
    (s.dev.resetRun = none → ∀ fn f v,
      (s.dev.boot.stage < 2 → Ends (.configurationRequest fn f v) s (fun d => d = s.dev)) ∧
      (2 ≤ s.dev.boot.stage → s.dev.boot.stage < 6 ∨ s.dev.boot.recovery = true → Ends (.configurationRequest fn f v) s (fun d =>
        d = { s.dev with out := s.dev.out ++ [.pcie 2 []] })) ∧
      (6 ≤ s.dev.boot.stage → s.dev.boot.recovery = false →
        (63 < fn ∨ (fn ≠ 0 ∧ s.dev.pcie.vfEnable = false) → Ends (.configurationRequest fn f v) s (fun d =>
          d = { s.dev with out := s.dev.out ++ [.pcie 1 []] })) ∧
        (fn = 0 ∨ (fn ≤ 63 ∧ s.dev.pcie.vfEnable = true) →
          let reads := fun w => Ends (.configurationRequest fn f none) s (fun d =>
            d = { s.dev with out := s.dev.out ++ [.pcie 0 (leBytes 4 w)] })
          let kept := fun p : Pcie => ∀ w, v = some w → Ends (.configurationRequest fn f v) s (fun d =>
            d = { s.dev with pcie := p, out := s.dev.out ++ [.pcie 0 []] })
          (f = .ident → reads (if fn = 0 then 0x0C121F3C else 0x0C131F3C) ∧ kept s.dev.pcie) ∧
          (f = .totalVfs → reads 63 ∧ kept s.dev.pcie) ∧ (f = .vfOffset → reads 1 ∧ kept s.dev.pcie) ∧
          (f = .vfStride → reads 1 ∧ kept s.dev.pcie) ∧ (f = .msixSize → reads (if fn = 0 then 2048 else 32) ∧ kept s.dev.pcie) ∧
          (f = .classRevision → reads (0x12000000 + bitsOf s.dev.identWord 15 8) ∧ kept s.dev.pcie) ∧
          (f = .subsystem → reads (s.dev.cfgValue 1) ∧ kept s.dev.pcie) ∧
          (f = .vfEnable → reads (bit s.dev.pcie.vfEnable) ∧
            (fn ≠ 0 → kept s.dev.pcie) ∧ (fn = 0 → (∀ w, v = some w → w % 2 = 1) → kept { s.dev.pcie with vfEnable := true }) ∧
            (∀ w, fn = 0 → v = some w → w % 2 = 0 → Ends (.configurationRequest fn f v) s (fun d =>
              d.pcie.vfEnable = false ∧ ∀ i ∈ d.pcie.d3hot, i = 0))) ∧
          (f = .bar4Size → reads (s.dev.bar4Log fn) ∧
            (∀ w, v = some w → (if fn = 0 then 30 ≤ w ∧ w ≤ 40 else 28 ≤ w ∧ w ≤ 36) →
              Ends (.configurationRequest fn f v) s (fun d => d.bar4Log fn = w ∧
                d = { s.dev with pcie := { s.dev.pcie with bar4 := d.pcie.bar4 }, out := s.dev.out ++ [.pcie 0 []] })) ∧
            (∀ w, v = some w → ¬(if fn = 0 then 30 ≤ w ∧ w ≤ 40 else 28 ≤ w ∧ w ≤ 36) → kept s.dev.pcie)) ∧
          (f = .power → reads (if s.dev.pcie.d3hot.contains fn then 3 else 0) ∧
            (∀ w, v = some w → w = 3 → s.dev.pcie.d3hot.contains fn = false → kept { s.dev.pcie with d3hot := fn :: s.dev.pcie.d3hot }) ∧
            (∀ w, v = some w → w = 0 → s.dev.pcie.d3hot.contains fn = true → Ends (.configurationRequest fn f v) s (fun d =>
              d.pcie.d3hot.contains fn = false)) ∧
            (∀ w, v = some w → (w ≠ 0 ∧ w ≠ 3) ∨ (w = 3 ∧ s.dev.pcie.d3hot.contains fn = true) ∨
              (w = 0 ∧ s.dev.pcie.d3hot.contains fn = false) → kept s.dev.pcie)) ∧
          (f = .other → kept s.dev.pcie ∧ Ends (.configurationRequest fn f none) s (fun d =>
            d.out.length = s.dev.out.length + 1 ∧ d = { s.dev with out := d.out, freeCounter := s.dev.freeCounter + 1 })))))
end

