-- ==== Sys2Proof/Laws/Memory.lean ====
section
/-!
SUPPORT. Memory: the canonical form is kept by every change, a read after a write gives the byte written, and a change leaves
every other byte.
-/
namespace Sys2Proof.Machine

theorem Memory.wf_of_above {a : Nat} {m : Memory} (h : Memory.above a m = true) : Memory.wf m = true := by
  cases m with
  | nil => rfl
  | cons e r =>
    simp only [Memory.above, Bool.and_eq_true] at h
    simp [Memory.wf, h]

theorem Memory.above_of_le {a b : Nat} {m : Memory} (hab : b ≤ a) (h : Memory.above a m = true) :
    Memory.above b m = true := by
  cases m with
  | nil => rfl
  | cons e r =>
    simp only [Memory.above, Bool.and_eq_true, decide_eq_true_eq] at h ⊢
    exact ⟨⟨by omega, h.1.2⟩, h.2⟩

theorem Memory.above_put {k a : Nat} {m : Memory} {b : Byte} (h : Memory.above k m = true) (ha : k < a) :
    Memory.above k (Memory.put m a b) = true := by
  induction m generalizing k with
  | nil => unfold Memory.put; split <;> simp_all [Memory.above]
  | cons e r ih =>
    obtain ⟨j, c⟩ := e
    simp only [Memory.above, Bool.and_eq_true, decide_eq_true_eq] at h
    unfold Memory.put
    split
    · split <;> simp_all [Memory.above]
    · split
      · rename_i hj
        subst hj
        split
        · exact Memory.above_of_le (by omega) h.2
        · simp_all [Memory.above]
      · have := ih h.2 (by omega)
        simp_all [Memory.above]

/-- A write keeps the canonical form. -/
theorem Memory.wf_put {m : Memory} (h : Memory.wf m = true) (a : Nat) (b : Byte) :
    Memory.wf (Memory.put m a b) = true := by
  cases m with
  | nil => unfold Memory.put; split <;> simp_all [Memory.wf, Memory.above]
  | cons e r =>
    obtain ⟨j, c⟩ := e
    simp only [Memory.wf, Bool.and_eq_true, decide_eq_true_eq] at h
    unfold Memory.put
    split
    · split <;> simp_all [Memory.wf, Memory.above]
    · split
      · rename_i hj
        subst hj
        split
        · exact Memory.wf_of_above h.2
        · simp_all [Memory.wf]
      · have := Memory.above_put (b := b) h.2 (show j < a by omega)
        simp_all [Memory.wf]

theorem Memory.above_filter {k : Nat} {m : Memory} (f : Host.Cell → Bool) (h : Memory.above k m = true) :
    Memory.above k (List.filter f m) = true := by
  induction m generalizing k with
  | nil => rfl
  | cons e r ih =>
    obtain ⟨j, c⟩ := e
    simp only [Memory.above, Bool.and_eq_true, decide_eq_true_eq] at h
    rw [List.filter_cons]
    split
    · simp_all [Memory.above]
    · exact Memory.above_of_le (by omega) (ih h.2)

/-- Leaving cells out keeps the canonical form. -/
theorem Memory.wf_filter {m : Memory} (f : Host.Cell → Bool) (h : Memory.wf m = true) :
    Memory.wf (List.filter f m) = true := by
  cases m with
  | nil => rfl
  | cons e r =>
    obtain ⟨j, c⟩ := e
    simp only [Memory.wf, Bool.and_eq_true, decide_eq_true_eq] at h
    rw [List.filter_cons]
    split
    · have := Memory.above_filter f h.2
      simp_all [Memory.wf]
    · exact Memory.wf_of_above (Memory.above_filter f h.2)

/-- Every change of memory keeps the canonical form. -/
theorem Memory.wf_apply {m : Memory} (h : Memory.wf m = true) (o : MemOp) : Memory.wf (Memory.apply m o) = true := by
  cases o with
  | byte a b => exact Memory.wf_put h a b
  | zero a n => exact Memory.wf_filter _ h
  | reset r => exact Memory.wf_filter _ h

theorem Memory.wf_applyAll {m : Memory} (h : Memory.wf m = true) (l : List MemOp) :
    Memory.wf (Memory.applyAll m l) = true := by
  induction l generalizing m with
  | nil => exact h
  | cons o r ih => exact ih (Memory.wf_apply h o)

/-- Below the first cell everything reads as the default. -/
theorem Memory.get_above {k a : Nat} {m : Memory} (h : Memory.above k m = true) (ha : a ≤ k) :
    Memory.get m a = memDefault := by
  cases m with
  | nil => rfl
  | cons e r =>
    obtain ⟨j, c⟩ := e
    simp only [Memory.above, Bool.and_eq_true, decide_eq_true_eq] at h
    simp only [Memory.get]
    rw [if_neg (by omega), if_pos (by omega)]

/-- A read after a write: the byte written, and every other byte as before. -/
theorem Memory.get_put {m : Memory} (h : Memory.wf m = true) (a x : Nat) (b : Byte) :
    Memory.get (Memory.put m a b) x = if a = x then b else Memory.get m x := by
  induction m with
  | nil =>
    unfold Memory.put
    split
    · rename_i hb; subst hb; simp [Memory.get]
    · simp only [Memory.get]; split <;> simp
  | cons e r ih =>
    obtain ⟨j, c⟩ := e
    simp only [Memory.wf, Bool.and_eq_true, decide_eq_true_eq] at h
    have ihr := ih (Memory.wf_of_above h.2)
    unfold Memory.put
    split
    · rename_i haj
      split
      · rename_i hb
        subst hb
        by_cases hax : a = x
        · subst hax; rw [if_pos rfl]; simp only [Memory.get]; rw [if_neg (by omega), if_pos haj]
        · rw [if_neg hax]
      · by_cases hax : a = x
        · subst hax; simp [Memory.get]
        · simp only [Memory.get, if_neg hax]
          by_cases hx : x < a
          · rw [if_pos hx, if_neg (show ¬ j = x by omega), if_pos (show x < j by omega)]
          · rw [if_neg hx]
    · split
      · rename_i _ hj
        subst hj
        split
        · rename_i hb
          subst hb
          by_cases hax : j = x
          · subst hax; rw [if_pos rfl]; exact Memory.get_above h.2 (Nat.le_refl _)
          · simp only [Memory.get, if_neg hax]
            by_cases hx : x < j
            · rw [if_pos hx]; exact Memory.get_above h.2 (by omega)
            · rw [if_neg hx]
        · by_cases hax : j = x <;> simp [Memory.get, hax]
      · rename_i h1 h2
        simp only [Memory.get, ihr]
        by_cases hjx : j = x
        · subst hjx
          rw [if_pos rfl, if_neg (by omega), if_pos rfl]
        · rw [if_neg hjx]
          by_cases hx : x < j
          · rw [if_pos hx, if_neg (show ¬ a = x by omega), if_neg hjx, if_pos hx]
          · rw [if_neg hx, if_neg hjx, if_neg hx]

/-- Reading after cells have been left out by their address. -/
theorem Memory.get_filter {m : Memory} (h : Memory.wf m = true) (keep : Nat → Bool) (x : Nat) :
    Memory.get (List.filter (fun c => keep c.1) m) x = if keep x then Memory.get m x else memDefault := by
  induction m with
  | nil => simp [Memory.get]
  | cons e r ih =>
    obtain ⟨j, c⟩ := e
    simp only [Memory.wf, Bool.and_eq_true, decide_eq_true_eq] at h
    have ihr := ih (Memory.wf_of_above h.2)
    have low : ∀ y, y ≤ j → Memory.get (List.filter (fun c => keep c.1) r) y = memDefault :=
      fun y hy => Memory.get_above (Memory.above_filter _ h.2) hy
    rw [List.filter_cons]
    by_cases hk : keep j = true
    · simp only [hk, if_true]
      by_cases hjx : j = x
      · subst hjx; simp [Memory.get, hk]
      · simp only [Memory.get, if_neg hjx, ihr]
        by_cases hx : x < j <;> simp [hx]
    · simp only [hk]
      by_cases hjx : j = x
      · subst hjx; simp [hk, low j (Nat.le_refl _)]
      · simp only [Memory.get, if_neg hjx]
        by_cases hx : x < j
        · simp [hx, low x (by omega)]
        · simp [hx, ihr]

end Sys2Proof.Machine
end

