-- ==== Sys2Proof/Laws/State.lean ====
section
/-!
SUPPORT. What the plain updates of the state leave as it was: one lemma for each field and update.
-/
namespace Sys2Proof.Machine

variable (d : Device)

@[simp] theorem State.dev_mk (d : Device) (l : List Instr) : ({ dev := d, pending := l } : State).dev = d := rfl
@[simp] theorem State.pending_mk (d : Device) (l : List Instr) : ({ dev := d, pending := l } : State).pending = l := rfl

@[simp] theorem Device.setReg_mem (k v : Nat) : (d.setReg k v).mem = d.mem := rfl
@[simp] theorem Device.setReg_wlog (k v : Nat) : (d.setReg k v).wlog = d.wlog := rfl
@[simp] theorem Device.setReg_parts (k v : Nat) : (d.setReg k v).parts = d.parts := rfl
@[simp] theorem Device.setReg_jobs (k v : Nat) : (d.setReg k v).jobs = d.jobs := rfl
@[simp] theorem Device.setReg_staged (k v : Nat) : (d.setReg k v).staged = d.staged := rfl
@[simp] theorem Device.setReg_records (k v : Nat) : (d.setReg k v).records = d.records := rfl
@[simp] theorem Device.setReg_out (k v : Nat) : (d.setReg k v).out = d.out := rfl
@[simp] theorem Device.setReg_sessions (k v : Nat) : (d.setReg k v).sessions = d.sessions := rfl
@[simp] theorem Device.setReg_boot (k v : Nat) : (d.setReg k v).boot = d.boot := rfl
@[simp] theorem Device.setReg_freeCounter (k v : Nat) : (d.setReg k v).freeCounter = d.freeCounter := rfl
@[simp] theorem Device.setReg_nextUid (k v : Nat) : (d.setReg k v).nextUid = d.nextUid := rfl
@[simp] theorem Device.setReg_supplies (k v : Nat) : (d.setReg k v).supplies = d.supplies := rfl
@[simp] theorem Device.setReg_resetRun (k v : Nat) : (d.setReg k v).resetRun = d.resetRun := rfl
@[simp] theorem Device.setReg_poison (k v : Nat) : (d.setReg k v).poison = d.poison := rfl
@[simp] theorem Device.setReg_seqs (k v : Nat) : (d.setReg k v).seqs = d.seqs := rfl
@[simp] theorem Device.setReg_images (k v : Nat) : (d.setReg k v).images = d.images := rfl
@[simp] theorem Device.setReg_queues (k v : Nat) : (d.setReg k v).queues = d.queues := rfl
@[simp] theorem Device.setReg_movers (k v : Nat) : (d.setReg k v).movers = d.movers := rfl
@[simp] theorem Device.setReg_flight (k v : Nat) : (d.setReg k v).flight = d.flight := rfl

@[simp] theorem Device.modReg_mem (k : Nat) (f : Nat → Nat) : (d.modReg k f).mem = d.mem := rfl
@[simp] theorem Device.modReg_wlog (k : Nat) (f : Nat → Nat) : (d.modReg k f).wlog = d.wlog := rfl
@[simp] theorem Device.modReg_parts (k : Nat) (f : Nat → Nat) : (d.modReg k f).parts = d.parts := rfl
@[simp] theorem Device.modReg_jobs (k : Nat) (f : Nat → Nat) : (d.modReg k f).jobs = d.jobs := rfl
@[simp] theorem Device.modReg_staged (k : Nat) (f : Nat → Nat) : (d.modReg k f).staged = d.staged := rfl
@[simp] theorem Device.modReg_records (k : Nat) (f : Nat → Nat) : (d.modReg k f).records = d.records := rfl
@[simp] theorem Device.modReg_out (k : Nat) (f : Nat → Nat) : (d.modReg k f).out = d.out := rfl
@[simp] theorem Device.modReg_sessions (k : Nat) (f : Nat → Nat) : (d.modReg k f).sessions = d.sessions := rfl
@[simp] theorem Device.modReg_boot (k : Nat) (f : Nat → Nat) : (d.modReg k f).boot = d.boot := rfl
@[simp] theorem Device.modReg_freeCounter (k : Nat) (f : Nat → Nat) : (d.modReg k f).freeCounter = d.freeCounter := rfl
@[simp] theorem Device.modReg_nextUid (k : Nat) (f : Nat → Nat) : (d.modReg k f).nextUid = d.nextUid := rfl
@[simp] theorem Device.modReg_supplies (k : Nat) (f : Nat → Nat) : (d.modReg k f).supplies = d.supplies := rfl
@[simp] theorem Device.modReg_resetRun (k : Nat) (f : Nat → Nat) : (d.modReg k f).resetRun = d.resetRun := rfl
@[simp] theorem Device.modReg_poison (k : Nat) (f : Nat → Nat) : (d.modReg k f).poison = d.poison := rfl
@[simp] theorem Device.modReg_seqs (k : Nat) (f : Nat → Nat) : (d.modReg k f).seqs = d.seqs := rfl
@[simp] theorem Device.modReg_images (k : Nat) (f : Nat → Nat) : (d.modReg k f).images = d.images := rfl
@[simp] theorem Device.modReg_queues (k : Nat) (f : Nat → Nat) : (d.modReg k f).queues = d.queues := rfl
@[simp] theorem Device.modReg_movers (k : Nat) (f : Nat → Nat) : (d.modReg k f).movers = d.movers := rfl
@[simp] theorem Device.modReg_flight (k : Nat) (f : Nat → Nat) : (d.modReg k f).flight = d.flight := rfl

@[simp] theorem Device.setRegField_mem (k hi lo v : Nat) : (d.setRegField k hi lo v).mem = d.mem := rfl
@[simp] theorem Device.setRegField_wlog (k hi lo v : Nat) : (d.setRegField k hi lo v).wlog = d.wlog := rfl
@[simp] theorem Device.setRegField_parts (k hi lo v : Nat) : (d.setRegField k hi lo v).parts = d.parts := rfl
@[simp] theorem Device.setRegField_jobs (k hi lo v : Nat) : (d.setRegField k hi lo v).jobs = d.jobs := rfl
@[simp] theorem Device.setRegField_staged (k hi lo v : Nat) : (d.setRegField k hi lo v).staged = d.staged := rfl
@[simp] theorem Device.setRegField_records (k hi lo v : Nat) : (d.setRegField k hi lo v).records = d.records := rfl
@[simp] theorem Device.setRegField_out (k hi lo v : Nat) : (d.setRegField k hi lo v).out = d.out := rfl
@[simp] theorem Device.setRegField_sessions (k hi lo v : Nat) : (d.setRegField k hi lo v).sessions = d.sessions := rfl
@[simp] theorem Device.setRegField_boot (k hi lo v : Nat) : (d.setRegField k hi lo v).boot = d.boot := rfl
@[simp] theorem Device.setRegField_freeCounter (k hi lo v : Nat) : (d.setRegField k hi lo v).freeCounter = d.freeCounter := rfl
@[simp] theorem Device.setRegField_nextUid (k hi lo v : Nat) : (d.setRegField k hi lo v).nextUid = d.nextUid := rfl
@[simp] theorem Device.setRegField_supplies (k hi lo v : Nat) : (d.setRegField k hi lo v).supplies = d.supplies := rfl
@[simp] theorem Device.setRegField_resetRun (k hi lo v : Nat) : (d.setRegField k hi lo v).resetRun = d.resetRun := rfl
@[simp] theorem Device.setRegField_poison (k hi lo v : Nat) : (d.setRegField k hi lo v).poison = d.poison := rfl
@[simp] theorem Device.setRegField_seqs (k hi lo v : Nat) : (d.setRegField k hi lo v).seqs = d.seqs := rfl
@[simp] theorem Device.setRegField_images (k hi lo v : Nat) : (d.setRegField k hi lo v).images = d.images := rfl
@[simp] theorem Device.setRegField_queues (k hi lo v : Nat) : (d.setRegField k hi lo v).queues = d.queues := rfl
@[simp] theorem Device.setRegField_movers (k hi lo v : Nat) : (d.setRegField k hi lo v).movers = d.movers := rfl
@[simp] theorem Device.setRegField_flight (k hi lo v : Nat) : (d.setRegField k hi lo v).flight = d.flight := rfl

@[simp] theorem Device.bump_mem (k n : Nat) : (d.bump k n).mem = d.mem := rfl
@[simp] theorem Device.bump_wlog (k n : Nat) : (d.bump k n).wlog = d.wlog := rfl
@[simp] theorem Device.bump_parts (k n : Nat) : (d.bump k n).parts = d.parts := rfl
@[simp] theorem Device.bump_jobs (k n : Nat) : (d.bump k n).jobs = d.jobs := rfl
@[simp] theorem Device.bump_staged (k n : Nat) : (d.bump k n).staged = d.staged := rfl
@[simp] theorem Device.bump_records (k n : Nat) : (d.bump k n).records = d.records := rfl
@[simp] theorem Device.bump_out (k n : Nat) : (d.bump k n).out = d.out := rfl
@[simp] theorem Device.bump_sessions (k n : Nat) : (d.bump k n).sessions = d.sessions := rfl
@[simp] theorem Device.bump_boot (k n : Nat) : (d.bump k n).boot = d.boot := rfl
@[simp] theorem Device.bump_freeCounter (k n : Nat) : (d.bump k n).freeCounter = d.freeCounter := rfl
@[simp] theorem Device.bump_nextUid (k n : Nat) : (d.bump k n).nextUid = d.nextUid := rfl
@[simp] theorem Device.bump_supplies (k n : Nat) : (d.bump k n).supplies = d.supplies := rfl
@[simp] theorem Device.bump_resetRun (k n : Nat) : (d.bump k n).resetRun = d.resetRun := rfl
@[simp] theorem Device.bump_poison (k n : Nat) : (d.bump k n).poison = d.poison := rfl
@[simp] theorem Device.bump_seqs (k n : Nat) : (d.bump k n).seqs = d.seqs := rfl
@[simp] theorem Device.bump_images (k n : Nat) : (d.bump k n).images = d.images := rfl
@[simp] theorem Device.bump_queues (k n : Nat) : (d.bump k n).queues = d.queues := rfl
@[simp] theorem Device.bump_movers (k n : Nat) : (d.bump k n).movers = d.movers := rfl
@[simp] theorem Device.bump_flight (k n : Nat) : (d.bump k n).flight = d.flight := rfl

@[simp] theorem Device.bump64_mem (k n : Nat) : (d.bump64 k n).mem = d.mem := rfl
@[simp] theorem Device.bump64_wlog (k n : Nat) : (d.bump64 k n).wlog = d.wlog := rfl
@[simp] theorem Device.bump64_parts (k n : Nat) : (d.bump64 k n).parts = d.parts := rfl
@[simp] theorem Device.bump64_jobs (k n : Nat) : (d.bump64 k n).jobs = d.jobs := rfl
@[simp] theorem Device.bump64_staged (k n : Nat) : (d.bump64 k n).staged = d.staged := rfl
@[simp] theorem Device.bump64_records (k n : Nat) : (d.bump64 k n).records = d.records := rfl
@[simp] theorem Device.bump64_out (k n : Nat) : (d.bump64 k n).out = d.out := rfl
@[simp] theorem Device.bump64_sessions (k n : Nat) : (d.bump64 k n).sessions = d.sessions := rfl
@[simp] theorem Device.bump64_boot (k n : Nat) : (d.bump64 k n).boot = d.boot := rfl
@[simp] theorem Device.bump64_freeCounter (k n : Nat) : (d.bump64 k n).freeCounter = d.freeCounter := rfl
@[simp] theorem Device.bump64_nextUid (k n : Nat) : (d.bump64 k n).nextUid = d.nextUid := rfl
@[simp] theorem Device.bump64_supplies (k n : Nat) : (d.bump64 k n).supplies = d.supplies := rfl
@[simp] theorem Device.bump64_resetRun (k n : Nat) : (d.bump64 k n).resetRun = d.resetRun := rfl
@[simp] theorem Device.bump64_poison (k n : Nat) : (d.bump64 k n).poison = d.poison := rfl
@[simp] theorem Device.bump64_seqs (k n : Nat) : (d.bump64 k n).seqs = d.seqs := rfl
@[simp] theorem Device.bump64_images (k n : Nat) : (d.bump64 k n).images = d.images := rfl
@[simp] theorem Device.bump64_queues (k n : Nat) : (d.bump64 k n).queues = d.queues := rfl
@[simp] theorem Device.bump64_movers (k n : Nat) : (d.bump64 k n).movers = d.movers := rfl
@[simp] theorem Device.bump64_flight (k n : Nat) : (d.bump64 k n).flight = d.flight := rfl

@[simp] theorem Device.raise_mem (k i : Nat) : (d.raise k i).mem = d.mem := rfl
@[simp] theorem Device.raise_wlog (k i : Nat) : (d.raise k i).wlog = d.wlog := rfl
@[simp] theorem Device.raise_parts (k i : Nat) : (d.raise k i).parts = d.parts := rfl
@[simp] theorem Device.raise_jobs (k i : Nat) : (d.raise k i).jobs = d.jobs := rfl
@[simp] theorem Device.raise_staged (k i : Nat) : (d.raise k i).staged = d.staged := rfl
@[simp] theorem Device.raise_records (k i : Nat) : (d.raise k i).records = d.records := rfl
@[simp] theorem Device.raise_out (k i : Nat) : (d.raise k i).out = d.out := rfl
@[simp] theorem Device.raise_sessions (k i : Nat) : (d.raise k i).sessions = d.sessions := rfl
@[simp] theorem Device.raise_boot (k i : Nat) : (d.raise k i).boot = d.boot := rfl
@[simp] theorem Device.raise_freeCounter (k i : Nat) : (d.raise k i).freeCounter = d.freeCounter := rfl
@[simp] theorem Device.raise_nextUid (k i : Nat) : (d.raise k i).nextUid = d.nextUid := rfl
@[simp] theorem Device.raise_supplies (k i : Nat) : (d.raise k i).supplies = d.supplies := rfl
@[simp] theorem Device.raise_resetRun (k i : Nat) : (d.raise k i).resetRun = d.resetRun := rfl
@[simp] theorem Device.raise_poison (k i : Nat) : (d.raise k i).poison = d.poison := rfl
@[simp] theorem Device.raise_seqs (k i : Nat) : (d.raise k i).seqs = d.seqs := rfl
@[simp] theorem Device.raise_images (k i : Nat) : (d.raise k i).images = d.images := rfl
@[simp] theorem Device.raise_queues (k i : Nat) : (d.raise k i).queues = d.queues := rfl
@[simp] theorem Device.raise_movers (k i : Nat) : (d.raise k i).movers = d.movers := rfl
@[simp] theorem Device.raise_flight (k i : Nat) : (d.raise k i).flight = d.flight := rfl

@[simp] theorem Device.setPart_mem (p : Nat) (x : Partition) : (d.setPart p x).mem = d.mem := rfl
@[simp] theorem Device.setPart_wlog (p : Nat) (x : Partition) : (d.setPart p x).wlog = d.wlog := rfl
@[simp] theorem Device.setPart_regs (p : Nat) (x : Partition) : (d.setPart p x).regs = d.regs := rfl
@[simp] theorem Device.setPart_jobs (p : Nat) (x : Partition) : (d.setPart p x).jobs = d.jobs := rfl
@[simp] theorem Device.setPart_staged (p : Nat) (x : Partition) : (d.setPart p x).staged = d.staged := rfl
@[simp] theorem Device.setPart_records (p : Nat) (x : Partition) : (d.setPart p x).records = d.records := rfl
@[simp] theorem Device.setPart_out (p : Nat) (x : Partition) : (d.setPart p x).out = d.out := rfl
@[simp] theorem Device.setPart_sessions (p : Nat) (x : Partition) : (d.setPart p x).sessions = d.sessions := rfl
@[simp] theorem Device.setPart_boot (p : Nat) (x : Partition) : (d.setPart p x).boot = d.boot := rfl
@[simp] theorem Device.setPart_freeCounter (p : Nat) (x : Partition) : (d.setPart p x).freeCounter = d.freeCounter := rfl
@[simp] theorem Device.setPart_nextUid (p : Nat) (x : Partition) : (d.setPart p x).nextUid = d.nextUid := rfl
@[simp] theorem Device.setPart_supplies (p : Nat) (x : Partition) : (d.setPart p x).supplies = d.supplies := rfl
@[simp] theorem Device.setPart_resetRun (p : Nat) (x : Partition) : (d.setPart p x).resetRun = d.resetRun := rfl
@[simp] theorem Device.setPart_poison (p : Nat) (x : Partition) : (d.setPart p x).poison = d.poison := rfl
@[simp] theorem Device.setPart_seqs (p : Nat) (x : Partition) : (d.setPart p x).seqs = d.seqs := rfl
@[simp] theorem Device.setPart_images (p : Nat) (x : Partition) : (d.setPart p x).images = d.images := rfl
@[simp] theorem Device.setPart_queues (p : Nat) (x : Partition) : (d.setPart p x).queues = d.queues := rfl
@[simp] theorem Device.setPart_movers (p : Nat) (x : Partition) : (d.setPart p x).movers = d.movers := rfl
@[simp] theorem Device.setPart_flight (p : Nat) (x : Partition) : (d.setPart p x).flight = d.flight := rfl

@[simp] theorem Device.modPart_mem (p : Nat) (f : Partition → Partition) : (d.modPart p f).mem = d.mem := rfl
@[simp] theorem Device.modPart_wlog (p : Nat) (f : Partition → Partition) : (d.modPart p f).wlog = d.wlog := rfl
@[simp] theorem Device.modPart_regs (p : Nat) (f : Partition → Partition) : (d.modPart p f).regs = d.regs := rfl
@[simp] theorem Device.modPart_jobs (p : Nat) (f : Partition → Partition) : (d.modPart p f).jobs = d.jobs := rfl
@[simp] theorem Device.modPart_staged (p : Nat) (f : Partition → Partition) : (d.modPart p f).staged = d.staged := rfl
@[simp] theorem Device.modPart_records (p : Nat) (f : Partition → Partition) : (d.modPart p f).records = d.records := rfl
@[simp] theorem Device.modPart_out (p : Nat) (f : Partition → Partition) : (d.modPart p f).out = d.out := rfl
@[simp] theorem Device.modPart_sessions (p : Nat) (f : Partition → Partition) : (d.modPart p f).sessions = d.sessions := rfl
@[simp] theorem Device.modPart_boot (p : Nat) (f : Partition → Partition) : (d.modPart p f).boot = d.boot := rfl
@[simp] theorem Device.modPart_freeCounter (p : Nat) (f : Partition → Partition) : (d.modPart p f).freeCounter = d.freeCounter := rfl
@[simp] theorem Device.modPart_nextUid (p : Nat) (f : Partition → Partition) : (d.modPart p f).nextUid = d.nextUid := rfl
@[simp] theorem Device.modPart_supplies (p : Nat) (f : Partition → Partition) : (d.modPart p f).supplies = d.supplies := rfl
@[simp] theorem Device.modPart_resetRun (p : Nat) (f : Partition → Partition) : (d.modPart p f).resetRun = d.resetRun := rfl
@[simp] theorem Device.modPart_poison (p : Nat) (f : Partition → Partition) : (d.modPart p f).poison = d.poison := rfl
@[simp] theorem Device.modPart_seqs (p : Nat) (f : Partition → Partition) : (d.modPart p f).seqs = d.seqs := rfl
@[simp] theorem Device.modPart_images (p : Nat) (f : Partition → Partition) : (d.modPart p f).images = d.images := rfl
@[simp] theorem Device.modPart_queues (p : Nat) (f : Partition → Partition) : (d.modPart p f).queues = d.queues := rfl
@[simp] theorem Device.modPart_movers (p : Nat) (f : Partition → Partition) : (d.modPart p f).movers = d.movers := rfl
@[simp] theorem Device.modPart_flight (p : Nat) (f : Partition → Partition) : (d.modPart p f).flight = d.flight := rfl

@[simp] theorem Device.modFab_mem (p : Nat) (f : Fabric → Fabric) : (d.modFab p f).mem = d.mem := rfl
@[simp] theorem Device.modFab_wlog (p : Nat) (f : Fabric → Fabric) : (d.modFab p f).wlog = d.wlog := rfl
@[simp] theorem Device.modFab_regs (p : Nat) (f : Fabric → Fabric) : (d.modFab p f).regs = d.regs := rfl
@[simp] theorem Device.modFab_jobs (p : Nat) (f : Fabric → Fabric) : (d.modFab p f).jobs = d.jobs := rfl
@[simp] theorem Device.modFab_staged (p : Nat) (f : Fabric → Fabric) : (d.modFab p f).staged = d.staged := rfl
@[simp] theorem Device.modFab_records (p : Nat) (f : Fabric → Fabric) : (d.modFab p f).records = d.records := rfl
@[simp] theorem Device.modFab_out (p : Nat) (f : Fabric → Fabric) : (d.modFab p f).out = d.out := rfl
@[simp] theorem Device.modFab_sessions (p : Nat) (f : Fabric → Fabric) : (d.modFab p f).sessions = d.sessions := rfl
@[simp] theorem Device.modFab_boot (p : Nat) (f : Fabric → Fabric) : (d.modFab p f).boot = d.boot := rfl
@[simp] theorem Device.modFab_freeCounter (p : Nat) (f : Fabric → Fabric) : (d.modFab p f).freeCounter = d.freeCounter := rfl
@[simp] theorem Device.modFab_nextUid (p : Nat) (f : Fabric → Fabric) : (d.modFab p f).nextUid = d.nextUid := rfl
@[simp] theorem Device.modFab_supplies (p : Nat) (f : Fabric → Fabric) : (d.modFab p f).supplies = d.supplies := rfl
@[simp] theorem Device.modFab_resetRun (p : Nat) (f : Fabric → Fabric) : (d.modFab p f).resetRun = d.resetRun := rfl
@[simp] theorem Device.modFab_poison (p : Nat) (f : Fabric → Fabric) : (d.modFab p f).poison = d.poison := rfl
@[simp] theorem Device.modFab_seqs (p : Nat) (f : Fabric → Fabric) : (d.modFab p f).seqs = d.seqs := rfl
@[simp] theorem Device.modFab_images (p : Nat) (f : Fabric → Fabric) : (d.modFab p f).images = d.images := rfl
@[simp] theorem Device.modFab_queues (p : Nat) (f : Fabric → Fabric) : (d.modFab p f).queues = d.queues := rfl
@[simp] theorem Device.modFab_movers (p : Nat) (f : Fabric → Fabric) : (d.modFab p f).movers = d.movers := rfl
@[simp] theorem Device.modFab_flight (p : Nat) (f : Fabric → Fabric) : (d.modFab p f).flight = d.flight := rfl

@[simp] theorem Device.modCell_mem (p c : Nat) (f : Cell → Cell) : (d.modCell p c f).mem = d.mem := rfl
@[simp] theorem Device.modCell_wlog (p c : Nat) (f : Cell → Cell) : (d.modCell p c f).wlog = d.wlog := rfl
@[simp] theorem Device.modCell_regs (p c : Nat) (f : Cell → Cell) : (d.modCell p c f).regs = d.regs := rfl
@[simp] theorem Device.modCell_jobs (p c : Nat) (f : Cell → Cell) : (d.modCell p c f).jobs = d.jobs := rfl
@[simp] theorem Device.modCell_staged (p c : Nat) (f : Cell → Cell) : (d.modCell p c f).staged = d.staged := rfl
@[simp] theorem Device.modCell_records (p c : Nat) (f : Cell → Cell) : (d.modCell p c f).records = d.records := rfl
@[simp] theorem Device.modCell_out (p c : Nat) (f : Cell → Cell) : (d.modCell p c f).out = d.out := rfl
@[simp] theorem Device.modCell_sessions (p c : Nat) (f : Cell → Cell) : (d.modCell p c f).sessions = d.sessions := rfl
@[simp] theorem Device.modCell_boot (p c : Nat) (f : Cell → Cell) : (d.modCell p c f).boot = d.boot := rfl
@[simp] theorem Device.modCell_freeCounter (p c : Nat) (f : Cell → Cell) : (d.modCell p c f).freeCounter = d.freeCounter := rfl
@[simp] theorem Device.modCell_nextUid (p c : Nat) (f : Cell → Cell) : (d.modCell p c f).nextUid = d.nextUid := rfl
@[simp] theorem Device.modCell_supplies (p c : Nat) (f : Cell → Cell) : (d.modCell p c f).supplies = d.supplies := rfl
@[simp] theorem Device.modCell_resetRun (p c : Nat) (f : Cell → Cell) : (d.modCell p c f).resetRun = d.resetRun := rfl
@[simp] theorem Device.modCell_poison (p c : Nat) (f : Cell → Cell) : (d.modCell p c f).poison = d.poison := rfl
@[simp] theorem Device.modCell_seqs (p c : Nat) (f : Cell → Cell) : (d.modCell p c f).seqs = d.seqs := rfl
@[simp] theorem Device.modCell_images (p c : Nat) (f : Cell → Cell) : (d.modCell p c f).images = d.images := rfl
@[simp] theorem Device.modCell_queues (p c : Nat) (f : Cell → Cell) : (d.modCell p c f).queues = d.queues := rfl
@[simp] theorem Device.modCell_movers (p c : Nat) (f : Cell → Cell) : (d.modCell p c f).movers = d.movers := rfl
@[simp] theorem Device.modCell_flight (p c : Nat) (f : Cell → Cell) : (d.modCell p c f).flight = d.flight := rfl

@[simp] theorem Device.modValve_mem (p c : Nat) (f : Valve → Valve) : (d.modValve p c f).mem = d.mem := rfl
@[simp] theorem Device.modValve_wlog (p c : Nat) (f : Valve → Valve) : (d.modValve p c f).wlog = d.wlog := rfl
@[simp] theorem Device.modValve_regs (p c : Nat) (f : Valve → Valve) : (d.modValve p c f).regs = d.regs := rfl
@[simp] theorem Device.modValve_jobs (p c : Nat) (f : Valve → Valve) : (d.modValve p c f).jobs = d.jobs := rfl
@[simp] theorem Device.modValve_staged (p c : Nat) (f : Valve → Valve) : (d.modValve p c f).staged = d.staged := rfl
@[simp] theorem Device.modValve_records (p c : Nat) (f : Valve → Valve) : (d.modValve p c f).records = d.records := rfl
@[simp] theorem Device.modValve_out (p c : Nat) (f : Valve → Valve) : (d.modValve p c f).out = d.out := rfl
@[simp] theorem Device.modValve_sessions (p c : Nat) (f : Valve → Valve) : (d.modValve p c f).sessions = d.sessions := rfl
@[simp] theorem Device.modValve_boot (p c : Nat) (f : Valve → Valve) : (d.modValve p c f).boot = d.boot := rfl
@[simp] theorem Device.modValve_freeCounter (p c : Nat) (f : Valve → Valve) : (d.modValve p c f).freeCounter = d.freeCounter := rfl
@[simp] theorem Device.modValve_nextUid (p c : Nat) (f : Valve → Valve) : (d.modValve p c f).nextUid = d.nextUid := rfl
@[simp] theorem Device.modValve_supplies (p c : Nat) (f : Valve → Valve) : (d.modValve p c f).supplies = d.supplies := rfl
@[simp] theorem Device.modValve_resetRun (p c : Nat) (f : Valve → Valve) : (d.modValve p c f).resetRun = d.resetRun := rfl
@[simp] theorem Device.modValve_poison (p c : Nat) (f : Valve → Valve) : (d.modValve p c f).poison = d.poison := rfl
@[simp] theorem Device.modValve_seqs (p c : Nat) (f : Valve → Valve) : (d.modValve p c f).seqs = d.seqs := rfl
@[simp] theorem Device.modValve_images (p c : Nat) (f : Valve → Valve) : (d.modValve p c f).images = d.images := rfl
@[simp] theorem Device.modValve_queues (p c : Nat) (f : Valve → Valve) : (d.modValve p c f).queues = d.queues := rfl
@[simp] theorem Device.modValve_movers (p c : Nat) (f : Valve → Valve) : (d.modValve p c f).movers = d.movers := rfl
@[simp] theorem Device.modValve_flight (p c : Nat) (f : Valve → Valve) : (d.modValve p c f).flight = d.flight := rfl

@[simp] theorem Device.writeBytes_mem (a : Nat) (bs : List Byte) : (d.writeBytes a bs).mem = d.mem := rfl
@[simp] theorem Device.writeBytes_regs (a : Nat) (bs : List Byte) : (d.writeBytes a bs).regs = d.regs := rfl
@[simp] theorem Device.writeBytes_parts (a : Nat) (bs : List Byte) : (d.writeBytes a bs).parts = d.parts := rfl
@[simp] theorem Device.writeBytes_jobs (a : Nat) (bs : List Byte) : (d.writeBytes a bs).jobs = d.jobs := rfl
@[simp] theorem Device.writeBytes_staged (a : Nat) (bs : List Byte) : (d.writeBytes a bs).staged = d.staged := rfl
@[simp] theorem Device.writeBytes_records (a : Nat) (bs : List Byte) : (d.writeBytes a bs).records = d.records := rfl
@[simp] theorem Device.writeBytes_out (a : Nat) (bs : List Byte) : (d.writeBytes a bs).out = d.out := rfl
@[simp] theorem Device.writeBytes_sessions (a : Nat) (bs : List Byte) : (d.writeBytes a bs).sessions = d.sessions := rfl
@[simp] theorem Device.writeBytes_boot (a : Nat) (bs : List Byte) : (d.writeBytes a bs).boot = d.boot := rfl
@[simp] theorem Device.writeBytes_freeCounter (a : Nat) (bs : List Byte) : (d.writeBytes a bs).freeCounter = d.freeCounter := rfl
@[simp] theorem Device.writeBytes_nextUid (a : Nat) (bs : List Byte) : (d.writeBytes a bs).nextUid = d.nextUid := rfl
@[simp] theorem Device.writeBytes_supplies (a : Nat) (bs : List Byte) : (d.writeBytes a bs).supplies = d.supplies := rfl
@[simp] theorem Device.writeBytes_resetRun (a : Nat) (bs : List Byte) : (d.writeBytes a bs).resetRun = d.resetRun := rfl
@[simp] theorem Device.writeBytes_poison (a : Nat) (bs : List Byte) : (d.writeBytes a bs).poison = d.poison := rfl
@[simp] theorem Device.writeBytes_seqs (a : Nat) (bs : List Byte) : (d.writeBytes a bs).seqs = d.seqs := rfl
@[simp] theorem Device.writeBytes_images (a : Nat) (bs : List Byte) : (d.writeBytes a bs).images = d.images := rfl
@[simp] theorem Device.writeBytes_queues (a : Nat) (bs : List Byte) : (d.writeBytes a bs).queues = d.queues := rfl
@[simp] theorem Device.writeBytes_movers (a : Nat) (bs : List Byte) : (d.writeBytes a bs).movers = d.movers := rfl
@[simp] theorem Device.writeBytes_flight (a : Nat) (bs : List Byte) : (d.writeBytes a bs).flight = d.flight := rfl

@[simp] theorem Device.emit_mem (o : Out) : (d.emit o).mem = d.mem := rfl
@[simp] theorem Device.emit_wlog (o : Out) : (d.emit o).wlog = d.wlog := rfl
@[simp] theorem Device.emit_regs (o : Out) : (d.emit o).regs = d.regs := rfl
@[simp] theorem Device.emit_parts (o : Out) : (d.emit o).parts = d.parts := rfl
@[simp] theorem Device.emit_jobs (o : Out) : (d.emit o).jobs = d.jobs := rfl
@[simp] theorem Device.emit_staged (o : Out) : (d.emit o).staged = d.staged := rfl
@[simp] theorem Device.emit_records (o : Out) : (d.emit o).records = d.records := rfl
@[simp] theorem Device.emit_sessions (o : Out) : (d.emit o).sessions = d.sessions := rfl
@[simp] theorem Device.emit_boot (o : Out) : (d.emit o).boot = d.boot := rfl
@[simp] theorem Device.emit_freeCounter (o : Out) : (d.emit o).freeCounter = d.freeCounter := rfl
@[simp] theorem Device.emit_nextUid (o : Out) : (d.emit o).nextUid = d.nextUid := rfl
@[simp] theorem Device.emit_supplies (o : Out) : (d.emit o).supplies = d.supplies := rfl
@[simp] theorem Device.emit_resetRun (o : Out) : (d.emit o).resetRun = d.resetRun := rfl
@[simp] theorem Device.emit_poison (o : Out) : (d.emit o).poison = d.poison := rfl
@[simp] theorem Device.emit_seqs (o : Out) : (d.emit o).seqs = d.seqs := rfl
@[simp] theorem Device.emit_images (o : Out) : (d.emit o).images = d.images := rfl
@[simp] theorem Device.emit_queues (o : Out) : (d.emit o).queues = d.queues := rfl
@[simp] theorem Device.emit_movers (o : Out) : (d.emit o).movers = d.movers := rfl
@[simp] theorem Device.emit_flight (o : Out) : (d.emit o).flight = d.flight := rfl

@[simp] theorem Device.start_mem (e : Staged) : (d.start e).mem = d.mem := rfl
@[simp] theorem Device.start_wlog (e : Staged) : (d.start e).wlog = d.wlog := rfl
@[simp] theorem Device.start_regs (e : Staged) : (d.start e).regs = d.regs := rfl
@[simp] theorem Device.start_parts (e : Staged) : (d.start e).parts = d.parts := rfl
@[simp] theorem Device.start_jobs (e : Staged) : (d.start e).jobs = d.jobs := rfl
@[simp] theorem Device.start_records (e : Staged) : (d.start e).records = d.records := rfl
@[simp] theorem Device.start_out (e : Staged) : (d.start e).out = d.out := rfl
@[simp] theorem Device.start_sessions (e : Staged) : (d.start e).sessions = d.sessions := rfl
@[simp] theorem Device.start_boot (e : Staged) : (d.start e).boot = d.boot := rfl
@[simp] theorem Device.start_freeCounter (e : Staged) : (d.start e).freeCounter = d.freeCounter := rfl
@[simp] theorem Device.start_nextUid (e : Staged) : (d.start e).nextUid = d.nextUid := rfl
@[simp] theorem Device.start_supplies (e : Staged) : (d.start e).supplies = d.supplies := rfl
@[simp] theorem Device.start_resetRun (e : Staged) : (d.start e).resetRun = d.resetRun := rfl
@[simp] theorem Device.start_poison (e : Staged) : (d.start e).poison = d.poison := rfl
@[simp] theorem Device.start_seqs (e : Staged) : (d.start e).seqs = d.seqs := rfl
@[simp] theorem Device.start_images (e : Staged) : (d.start e).images = d.images := rfl
@[simp] theorem Device.start_queues (e : Staged) : (d.start e).queues = d.queues := rfl
@[simp] theorem Device.start_movers (e : Staged) : (d.start e).movers = d.movers := rfl
@[simp] theorem Device.start_flight (e : Staged) : (d.start e).flight = d.flight := rfl

@[simp] theorem Device.modJob_mem (j : Nat) (f : Job → Job) : (d.modJob j f).mem = d.mem := rfl
@[simp] theorem Device.modJob_wlog (j : Nat) (f : Job → Job) : (d.modJob j f).wlog = d.wlog := rfl
@[simp] theorem Device.modJob_regs (j : Nat) (f : Job → Job) : (d.modJob j f).regs = d.regs := rfl
@[simp] theorem Device.modJob_parts (j : Nat) (f : Job → Job) : (d.modJob j f).parts = d.parts := rfl
@[simp] theorem Device.modJob_staged (j : Nat) (f : Job → Job) : (d.modJob j f).staged = d.staged := rfl
@[simp] theorem Device.modJob_records (j : Nat) (f : Job → Job) : (d.modJob j f).records = d.records := rfl
@[simp] theorem Device.modJob_out (j : Nat) (f : Job → Job) : (d.modJob j f).out = d.out := rfl
@[simp] theorem Device.modJob_sessions (j : Nat) (f : Job → Job) : (d.modJob j f).sessions = d.sessions := rfl
@[simp] theorem Device.modJob_boot (j : Nat) (f : Job → Job) : (d.modJob j f).boot = d.boot := rfl
@[simp] theorem Device.modJob_freeCounter (j : Nat) (f : Job → Job) : (d.modJob j f).freeCounter = d.freeCounter := rfl
@[simp] theorem Device.modJob_nextUid (j : Nat) (f : Job → Job) : (d.modJob j f).nextUid = d.nextUid := rfl
@[simp] theorem Device.modJob_supplies (j : Nat) (f : Job → Job) : (d.modJob j f).supplies = d.supplies := rfl
@[simp] theorem Device.modJob_resetRun (j : Nat) (f : Job → Job) : (d.modJob j f).resetRun = d.resetRun := rfl
@[simp] theorem Device.modJob_poison (j : Nat) (f : Job → Job) : (d.modJob j f).poison = d.poison := rfl
@[simp] theorem Device.modJob_seqs (j : Nat) (f : Job → Job) : (d.modJob j f).seqs = d.seqs := rfl
@[simp] theorem Device.modJob_images (j : Nat) (f : Job → Job) : (d.modJob j f).images = d.images := rfl
@[simp] theorem Device.modJob_queues (j : Nat) (f : Job → Job) : (d.modJob j f).queues = d.queues := rfl
@[simp] theorem Device.modJob_movers (j : Nat) (f : Job → Job) : (d.modJob j f).movers = d.movers := rfl
@[simp] theorem Device.modJob_flight (j : Nat) (f : Job → Job) : (d.modJob j f).flight = d.flight := rfl

end Sys2Proof.Machine
end

