-- ==== Sys2Proof/Laws/Table.lean ====
section
/-!
SUPPORT. Sparse tables: reading after writing.
-/
namespace Sys2Proof.Machine

@[simp] theorem Table.find?_nil {α : Type} (k : Nat) : Table.find? ([] : Table α) k = none := rfl

/-- What was put at a key is found there. -/
@[simp] theorem Table.find?_put_same {α : Type} (t : Table α) (k : Nat) (a : α) :
    Table.find? (Table.put t k a) k = some a := by
  induction t with
  | nil => simp [Table.put, Table.find?]
  | cons e r ih =>
    obtain ⟨j, b⟩ := e
    unfold Table.put
    split
    · simp [Table.find?]
    · split
      · simp [Table.find?]
      · rename_i h
        simp [Table.find?, h, ih]

/-- Putting at a key leaves every other key as it was. -/
@[simp] theorem Table.find?_put_other {α : Type} (t : Table α) (k j : Nat) (a : α) (h : j ≠ k) :
    Table.find? (Table.put t k a) j = Table.find? t j := by
  induction t with
  | nil => simp [Table.put, Table.find?, Ne.symm h]
  | cons e r ih =>
    obtain ⟨i, b⟩ := e
    unfold Table.put
    split
    · simp [Table.find?, Ne.symm h]
    · split
      · rename_i hik
        simp [Table.find?, Ne.symm h, hik]
      · simp [Table.find?, ih]

@[simp] theorem Table.getD_put_same {α : Type} (t : Table α) (k : Nat) (a x : α) :
    Table.getD (Table.put t k a) k x = a := by simp [Table.getD]

@[simp] theorem Table.getD_put_other {α : Type} (t : Table α) (k j : Nat) (a x : α) (h : j ≠ k) :
    Table.getD (Table.put t k a) j x = Table.getD t j x := by simp [Table.getD, h]

@[simp] theorem Table.getD_modify_same {α : Type} (t : Table α) (k : Nat) (x : α) (f : α → α) :
    Table.getD (Table.modify t k x f) k x = f (Table.getD t k x) := by simp [Table.modify]

@[simp] theorem Table.getD_modify_other {α : Type} (t : Table α) (k j : Nat) (x y : α) (f : α → α) (h : j ≠ k) :
    Table.getD (Table.modify t k x f) j y = Table.getD t j y := by simp [Table.modify, h]

/-- A key that has been dropped is not found. -/
@[simp] theorem Table.find?_drop_same {α : Type} (t : Table α) (k : Nat) : Table.find? (Table.drop t k) k = none := by
  induction t with
  | nil => rfl
  | cons e r ih =>
    obtain ⟨j, b⟩ := e
    by_cases hj : j = k
    · simpa [Table.drop, hj] using ih
    · have : Table.drop ((j, b) :: r) k = (j, b) :: Table.drop r k := by simp [Table.drop, hj]
      rw [this]
      simpa [Table.find?, hj] using ih

/-- Dropping a key leaves every other key as it was. -/
@[simp] theorem Table.find?_drop_other {α : Type} (t : Table α) (k i : Nat) (h : i ≠ k) :
    Table.find? (Table.drop t k) i = Table.find? t i := by
  induction t with
  | nil => rfl
  | cons e r ih =>
    obtain ⟨j, b⟩ := e
    by_cases hj : j = k
    · have : Table.drop ((j, b) :: r) k = Table.drop r k := by simp [Table.drop, hj]
      rw [this, ih]
      simp [Table.find?, hj, Ne.symm h]
    · have : Table.drop ((j, b) :: r) k = (j, b) :: Table.drop r k := by simp [Table.drop, hj]
      rw [this]
      by_cases hi : j = i <;> simp [Table.find?, hi, ih]

end Sys2Proof.Machine
end

