-- ==== Sys2Proof/Laws/Ops.lean ====
section
/-!
SUPPORT. What the shared operations do: registers, partitions, jobs read back; a completion.
-/
namespace Sys2Proof.Machine

variable (d : Device)

/-- A register reads back what was stored, as 32 bits. -/
@[simp] theorem Device.reg_setReg_same (k v : Nat) : (d.setReg k v).reg k = v % 2 ^ 32 := by
  simp [Device.reg, Device.setReg]

@[simp] theorem Device.reg_setReg_other (k j v : Nat) (h : j ≠ k) : (d.setReg k v).reg j = d.reg j := by
  simp [Device.reg, Device.setReg, h]

@[simp] theorem Device.part_setPart_same (p : Nat) (x : Partition) : (d.setPart p x).part p = x := by
  simp [Device.part, Device.setPart]

@[simp] theorem Device.part_setPart_other (p q : Nat) (x : Partition) (h : q ≠ p) : (d.setPart p x).part q = d.part q := by
  simp [Device.part, Device.setPart, h]

@[simp] theorem Device.part_modPart_same (p : Nat) (f : Partition → Partition) : (d.modPart p f).part p = f (d.part p) := by
  simp [Device.modPart]

@[simp] theorem Device.part_modPart_other (p q : Nat) (f : Partition → Partition) (h : q ≠ p) :
    (d.modPart p f).part q = d.part q := by simp [Device.modPart, h]

@[simp] theorem Device.fab_modFab_same (p : Nat) (f : Fabric → Fabric) : (d.modFab p f).fab p = f (d.fab p) := by
  simp [Device.fab, Device.modFab]

@[simp] theorem Device.cell_modCell_same (p c : Nat) (f : Cell → Cell) : (d.modCell p c f).cell p c = f (d.cell p c) := by
  simp [Device.cell, Device.modCell]

@[simp] theorem Device.cell_modCell_other (p c e : Nat) (f : Cell → Cell) (h : e ≠ c) :
    (d.modCell p c f).cell p e = d.cell p e := by
  simp [Device.cell, Device.modCell, h]

@[simp] theorem Device.valve_modValve_same (p c : Nat) (f : Valve → Valve) :
    (d.modValve p c f).valve p c = f (d.valve p c) := by
  simp [Device.valve, Device.modValve]

@[simp] theorem Device.job_modJob_same (j : Nat) (f : Job → Job) : (d.modJob j f).job j = f (d.job j) := by
  simp [Device.job, Device.modJob]

@[simp] theorem Device.job_modJob_other (j i : Nat) (f : Job → Job) (h : i ≠ j) : (d.modJob j f).job i = d.job i := by
  simp [Device.job, Device.modJob, h]

@[simp] theorem Device.part_setReg (k v p : Nat) : (d.setReg k v).part p = d.part p := rfl
@[simp] theorem Device.job_setReg (k v j : Nat) : (d.setReg k v).job j = d.job j := rfl

/-! Posting a record changes the waiting records or the messages sent, a completion also the staged commands. -/

@[simp] theorem Device.post_mem (c : CmdRef) (r : Record) : (d.post c r).mem = d.mem := by
  unfold Device.post; split <;> (try split) <;> rfl
@[simp] theorem Device.post_wlog (c : CmdRef) (r : Record) : (d.post c r).wlog = d.wlog := by
  unfold Device.post; split <;> (try split) <;> rfl
@[simp] theorem Device.post_regs (c : CmdRef) (r : Record) : (d.post c r).regs = d.regs := by
  unfold Device.post; split <;> (try split) <;> rfl
@[simp] theorem Device.post_parts (c : CmdRef) (r : Record) : (d.post c r).parts = d.parts := by
  unfold Device.post; split <;> (try split) <;> rfl
@[simp] theorem Device.post_jobs (c : CmdRef) (r : Record) : (d.post c r).jobs = d.jobs := by
  unfold Device.post; split <;> (try split) <;> rfl
@[simp] theorem Device.post_sessions (c : CmdRef) (r : Record) : (d.post c r).sessions = d.sessions := by
  unfold Device.post; split <;> (try split) <;> rfl
@[simp] theorem Device.post_boot (c : CmdRef) (r : Record) : (d.post c r).boot = d.boot := by
  unfold Device.post; split <;> (try split) <;> rfl
@[simp] theorem Device.post_freeCounter (c : CmdRef) (r : Record) : (d.post c r).freeCounter = d.freeCounter := by
  unfold Device.post; split <;> (try split) <;> rfl
@[simp] theorem Device.post_nextUid (c : CmdRef) (r : Record) : (d.post c r).nextUid = d.nextUid := by
  unfold Device.post; split <;> (try split) <;> rfl
@[simp] theorem Device.post_supplies (c : CmdRef) (r : Record) : (d.post c r).supplies = d.supplies := by
  unfold Device.post; split <;> (try split) <;> rfl
@[simp] theorem Device.post_resetRun (c : CmdRef) (r : Record) : (d.post c r).resetRun = d.resetRun := by
  unfold Device.post; split <;> (try split) <;> rfl
@[simp] theorem Device.post_poison (c : CmdRef) (r : Record) : (d.post c r).poison = d.poison := by
  unfold Device.post; split <;> (try split) <;> rfl
@[simp] theorem Device.post_seqs (c : CmdRef) (r : Record) : (d.post c r).seqs = d.seqs := by
  unfold Device.post; split <;> (try split) <;> rfl
@[simp] theorem Device.post_images (c : CmdRef) (r : Record) : (d.post c r).images = d.images := by
  unfold Device.post; split <;> (try split) <;> rfl
@[simp] theorem Device.post_queues (c : CmdRef) (r : Record) : (d.post c r).queues = d.queues := by
  unfold Device.post; split <;> (try split) <;> rfl
@[simp] theorem Device.post_movers (c : CmdRef) (r : Record) : (d.post c r).movers = d.movers := by
  unfold Device.post; split <;> (try split) <;> rfl
@[simp] theorem Device.post_flight (c : CmdRef) (r : Record) : (d.post c r).flight = d.flight := by
  unfold Device.post; split <;> (try split) <;> rfl
@[simp] theorem Device.post_staged (c : CmdRef) (r : Record) : (d.post c r).staged = d.staged := by
  unfold Device.post; split <;> (try split) <;> rfl
@[simp] theorem Device.complete_mem (c : CmdRef) (st : Nat) (v : List Byte) : (d.complete c st v).mem = d.mem := by
  simp [Device.complete]
@[simp] theorem Device.complete_wlog (c : CmdRef) (st : Nat) (v : List Byte) : (d.complete c st v).wlog = d.wlog := by
  simp [Device.complete]
@[simp] theorem Device.complete_regs (c : CmdRef) (st : Nat) (v : List Byte) : (d.complete c st v).regs = d.regs := by
  simp [Device.complete]
@[simp] theorem Device.complete_parts (c : CmdRef) (st : Nat) (v : List Byte) : (d.complete c st v).parts = d.parts := by
  simp [Device.complete]
@[simp] theorem Device.complete_jobs (c : CmdRef) (st : Nat) (v : List Byte) : (d.complete c st v).jobs = d.jobs := by
  simp [Device.complete]
@[simp] theorem Device.complete_sessions (c : CmdRef) (st : Nat) (v : List Byte) : (d.complete c st v).sessions = d.sessions := by
  simp [Device.complete]
@[simp] theorem Device.complete_boot (c : CmdRef) (st : Nat) (v : List Byte) : (d.complete c st v).boot = d.boot := by
  simp [Device.complete]
@[simp] theorem Device.complete_freeCounter (c : CmdRef) (st : Nat) (v : List Byte) : (d.complete c st v).freeCounter = d.freeCounter := by
  simp [Device.complete]
@[simp] theorem Device.complete_nextUid (c : CmdRef) (st : Nat) (v : List Byte) : (d.complete c st v).nextUid = d.nextUid := by
  simp [Device.complete]
@[simp] theorem Device.complete_supplies (c : CmdRef) (st : Nat) (v : List Byte) : (d.complete c st v).supplies = d.supplies := by
  simp [Device.complete]
@[simp] theorem Device.complete_resetRun (c : CmdRef) (st : Nat) (v : List Byte) : (d.complete c st v).resetRun = d.resetRun := by
  simp [Device.complete]
@[simp] theorem Device.complete_poison (c : CmdRef) (st : Nat) (v : List Byte) : (d.complete c st v).poison = d.poison := by
  simp [Device.complete]
@[simp] theorem Device.complete_seqs (c : CmdRef) (st : Nat) (v : List Byte) : (d.complete c st v).seqs = d.seqs := by
  simp [Device.complete]
@[simp] theorem Device.complete_images (c : CmdRef) (st : Nat) (v : List Byte) : (d.complete c st v).images = d.images := by
  simp [Device.complete]
@[simp] theorem Device.complete_queues (c : CmdRef) (st : Nat) (v : List Byte) : (d.complete c st v).queues = d.queues := by
  simp [Device.complete]
@[simp] theorem Device.complete_movers (c : CmdRef) (st : Nat) (v : List Byte) : (d.complete c st v).movers = d.movers := by
  simp [Device.complete]
@[simp] theorem Device.complete_flight (c : CmdRef) (st : Nat) (v : List Byte) : (d.complete c st v).flight = d.flight := by
  simp [Device.complete]

/-- A completed command has no staging word any more. -/
@[simp] theorem Device.complete_staged (c : CmdRef) (st : Nat) (v : List Byte) :
    (d.complete c st v).staged = d.staged.filter (fun s => s.cmd.uid != c.uid) := by simp [Device.complete]

end Sys2Proof.Machine
end

