-- ==== Sys2Proof/Laws/Step.lean ====
section
/-!
SUPPORT. What one command can do to the state: where its gate is open the effect of its row, and the changes of memory land;
otherwise nothing.
-/
namespace Sys2Proof.Machine

theorem onDev_of_open {g : Gate} {s : State} (f : Device → Device) (h : g.isOpen s.dev = true) :
    onDev g f s = .next { s with dev := (f s.dev).land s.dev.mem } := by simp [onDev, h]

theorem onDev_of_closed {g : Gate} {s : State} (f : Device → Device) (h : g.isOpen s.dev = false) :
    onDev g f s = .next s := by simp [onDev, h]

/-- Everything a command can do: one state, the queue as it was, memory changed only by what the command logged. -/
theorem onDev_cases (g : Gate) (f : Device → Device) (s : State) :
    onDev g f s = .next s ∨ onDev g f s = .next { s with dev := (f s.dev).land s.dev.mem } := by
  cases h : g.isOpen s.dev
  · exact .inl (onDev_of_closed f h)
  · exact .inr (onDev_of_open f h)

@[simp] theorem Device.land_wlog (d : Device) (m : Memory) : (d.land m).wlog = [] := rfl
@[simp] theorem Device.land_mem (d : Device) (m : Memory) : (d.land m).mem = Memory.applyAll m d.wlog := rfl

/-- A command that logs no change of memory leaves it. -/
theorem Device.land_of_quiet {d : Device} {m : Memory} (hm : d.mem = m) (hw : d.wlog = []) : d.land m = d := by
  subst hm
  cases d
  simp_all [Device.land, Memory.applyAll]

theorem Running.runs {s : State} (h : Running s) : Gate.runs.isOpen s.dev = true := by simp [Gate.isOpen, h.1, h.2.1]
theorem Running.reset {s : State} (h : Running s) : Gate.reset.isOpen s.dev = true := by simp [Gate.isOpen, h.1]

/-- Every command is the effect of its row behind a gate. -/
theorem exec_is_onDev (c : Instr) (s : State) : ∃ g f, exec c s = onDev g f s := by
  cases c with
  | powerOnReset lost => exact ⟨.always, fxPowerOnReset lost, rfl⟩
  | brownOut vin => exact ⟨.always, fxBrownOut vin, rfl⟩
  | railFail rail => exact ⟨.always, fxRailFail rail, rfl⟩
  | _ => exact ⟨_, _, rfl⟩

/-- A command whose gate is open ends in the effect of its row. -/
theorem Ends.of_onDev {c : Instr} {s : State} {P : Device → Prop} (g : Gate) (f : Device → Device)
    (he : exec c s = onDev g f s) (hg : g.isOpen s.dev = true) (hP : P ((f s.dev).land s.dev.mem)) : Ends c s P :=
  ⟨_, he.trans (onDev_of_open f hg), rfl, hP⟩

/-- The same for a command that changes no memory. -/
theorem Ends.of_quiet {c : Instr} {s : State} {P : Device → Prop} (g : Gate) (f : Device → Device)
    (he : exec c s = onDev g f s) (hg : g.isOpen s.dev = true) (hm : (f s.dev).mem = s.dev.mem)
    (hw : (f s.dev).wlog = []) (hP : P (f s.dev)) : Ends c s P :=
  Ends.of_onDev g f he hg (by rwa [Device.land_of_quiet hm hw])

end Sys2Proof.Machine
end

