-- ==== Sys2Proof/WellFormed.lean ====
section
/-!
DEFINITION. Which commands are well-formed: every operand lies in the range that the spec gives what it names. The meanings
are total: an ill-formed command changes nothing, or takes the part of its operand that the field holds.
-/
namespace Sys2Proof

open Sys2Proof.Machine

/-- R694: the physical function is 0, the virtual functions 1 to 63. -/
def okFn (fn : Nat) : Bool := decide (fn ≤ 63)
/-- R713: the sessions of a device. -/
def okSession (s : Nat) : Bool := decide (s < 4096)
/-- A register's 32 bits. -/
def okWord (v : Nat) : Bool := decide (v < 2 ^ 32)
/-- R49: a domain address. -/
def okAddr (a : Nat) : Bool := decide (a < 2 ^ 64)
/-- R705: a virtual function's port is one of 63. -/
def okPort (p : Port) : Bool := match p with | .vf n => decide (1 ≤ n) && decide (n ≤ 63) | _ => true
def okOrigin (o : Origin) : Bool := match o with | .session s => okSession s | _ => true
/-- The partitions, and their Drones. -/
def okPartition (p : Nat) : Bool := decide (p < 12)
/-- R744: the Plovlink ports 0 to 15 and the twin port 16. -/
def okLink (p : Nat) : Bool := decide (p ≤ 16)
/-- The circuits of a link (16_plovlink_and_domain). -/
def okCircuit (c : Nat) : Bool := decide (c < 64)
/-- R103: the sites of a partition. -/
def okSite (s : Nat) : Bool := decide (s < 320)
/-- R106: the ports of a switch. -/
def okSide (n : Nat) : Bool := decide (n < 5)
/-- R107: the channels of a link. -/
def okChannel (n : Nat) : Bool := decide (n < 4)
/-- R147: the banks of a memory cell. -/
def okBank (n : Nat) : Bool := decide (n < 16)
/-- R148, R149: the generators of a memory cell, 0 to 3 reading, 4 to 7 writing. -/
def okReadGen (n : Nat) : Bool := decide (n < 4)
def okWriteGen (n : Nat) : Bool := decide (4 ≤ n) && decide (n < 8)
def okGen (n : Nat) : Bool := decide (n < 8)
/-- R310: the rings of a tile port: 0 and 1 inbound, 2 and 3 outbound. -/
def okRing (n : Nat) : Bool := decide (n < 2)
def okOutRing (n : Nat) : Bool := decide (2 ≤ n) && decide (n < 4)
/-- R104: the columns of tile ports. -/
def okColumn (n : Nat) : Bool := decide (n < 16)
/-- R371: the mover channels. -/
def okChan (n : Nat) : Bool := decide (n < 200)
/-- The 64 routes of the Gale engine (10_expert_routing), and their Barometer banks. -/
def okRoute (n : Nat) : Bool := decide (n < 64)
/-- R49: the devices of a domain. -/
def okDevice (n : Nat) : Bool := decide (n ≤ 71)

/-- The command's operands lie in their ranges. -/
def Instr.wellFormed (i : Instr) : Bool :=
  match i with
  | .sqTailDoorbell fn session v => okFn fn && okSession session && decide (v < 65536)
  | .entryFetch session data => okSession session && (match data with | some b => b.length == 64 | none => true)
  | .cqHeadDoorbell fn session v => okFn fn && okSession session && decide (v < 65536)
  | .completionRecordWrite session _ _ => okSession session
  | .msixHoldoffExpiry session => okSession session
  | .sessionEnable port session word => okPort port && okSession session && okWord word
  | .sessionDisable port session word => okPort port && okSession session && okWord word
  | .functionLevelReset fn => okFn fn
  | .pfFunctionLevelReset => true
  | .perstOrHotReset => true
  | .apertureRead fn _ n _ _ => okFn fn && decide (1 ≤ n)
  | .apertureWrite fn _ data => okFn fn && !data.isEmpty
  | .regLoRead port _ => okPort port
  | .regHiRead port _ => okPort port
  | .regLoWrite port _ word => okPort port && okWord word
  | .regHiWrite port _ word => okPort port && okWord word
  | .registerWrite port _ word => okPort port && okWord word
  | .unsupportedBarAccess fn bar _ bytes => okFn fn && decide (bar ≤ 5) && decide (1 ≤ bytes)
  | .nop o => okOrigin o
  | .fence o => okOrigin o
  | .landingFence o => okOrigin o
  | .waitEvent o => okOrigin o
  | .waitEventTimeout o => okOrigin o
  | .signal o => okOrigin o
  | .hubEvtCountWrite port v => okPort port && okWord v
  | .imageLoad o => okOrigin o
  | .imageUnload o => okOrigin o
  | .stopLoad o => okOrigin o
  | .stopSwitch o => okOrigin o
  | .boundSet o => okOrigin o
  | .prtStopLoadGo port p word => okPort port && okPartition p && okWord word
  | .prtStopSwitchGo port p word => okPort port && okPartition p && okWord word
  | .stopLoadStart p _ => okPartition p
  | .stopBlockReadComplete p _ => okPartition p
  | .stopLoadComplete p => okPartition p
  | .switchStart p => okPartition p
  | .drainEnd p _ => okPartition p
  | .switchComplete p => okPartition p
  | .stopDrainTimeout p => okPartition p
  | .tokenArrivalSwitch p site port _ ch => okPartition p && okSite site && okSide port && okChannel ch
  | .creditReturn p site port _ ch => okPartition p && okSite site && okSide port && okChannel ch
  | .linkParityError p site port _ ch => okPartition p && okSite site && okSide port && okChannel ch
  | .linkResend p site port _ => okPartition p && okSite site && okSide port
  | .tokenArrivalCell p site _ ch => okPartition p && okSite site && okChannel ch
  | .cellBeat p site => okPartition p && okSite site
  | .anchorPassComplete p site _ => okPartition p && okSite site
  | .tileCapture p site => okPartition p && okSite site
  | .vectorRowOutput p site => okPartition p && okSite site
  | .vecNop p site => okPartition p && okSite site
  | .vecAdd p site => okPartition p && okSite site
  | .vecMul p site => okPartition p && okSite site
  | .vecFma p site => okPartition p && okSite site
  | .vecMax p site => okPartition p && okSite site
  | .vecMin p site => okPartition p && okSite site
  | .vecRowmax p site => okPartition p && okSite site
  | .vecRowsum p site => okPartition p && okSite site
  | .vecExp p site => okPartition p && okSite site
  | .vecRecip p site => okPartition p && okSite site
  | .vecRsqrt p site => okPartition p && okSite site
  | .vecMaskapply p site => okPartition p && okSite site
  | .vecMove p site => okPartition p && okSite site
  | .generatorRunStart p site g => okPartition p && okSite site && okReadGen g
  | .bankAccess p site bank => okPartition p && okSite site && okBank bank
  | .t1WriteToken p site g => okPartition p && okSite site && okWriteGen g
  | .accumulateWrite p site g => okPartition p && okSite site && okWriteGen g
  | .t1ParityReissue p site g => okPartition p && okSite site && okGen g
  | .valveTokenArrival p site _ ch => okPartition p && okSite site && okChannel ch
  | .valveBeat p site _ => okPartition p && okSite site
  | .valvePairingTimeout p site _ _ => okPartition p && okSite site
  | .prtValveClearHw port p => okPort port && okPartition p
  | .prtValvePeakClear p => okPartition p
  | .ringFillIssue p col ch => okPartition p && okColumn col && okRing ch
  | .ringFillComplete p col ch => okPartition p && okColumn col && okRing ch
  | .ringInject p col ch => okPartition p && okColumn col && okRing ch
  | .outboundToken p col ch => okPartition p && okColumn col && okOutRing ch
  | .ringWriteOut p col ch => okPartition p && okColumn col && okOutRing ch
  | .pushTokenArrival p col => okPartition p && okColumn col
  | .queueWordWrite p => okPartition p
  | .packetVisible p q _ => okPartition p && decide (q < 256)
  | .popPortChoose p col _ _ => okPartition p && okColumn col
  | .stallMarkerTimeout p col => okPartition p && okColumn col
  | .popSkipToken p col => okPartition p && okColumn col
  | .queueCreate o => okOrigin o
  | .queueDestroy o => okOrigin o
  | .queuePush o _ _ => okOrigin o
  | .queuePop o _ _ => okOrigin o
  | .queuePopTimeout o => okOrigin o
  | .queueSkip o => okOrigin o
  | .breathStart _ => true
  | .breathInEdge _ => true
  | .traceTrigEdge => true
  | .breathHoldover _ => true
  | .brtPeriodWrite port word => okPort port && okWord word
  | .brtSrcWrite port word => okPort port && okWord word
  | .schArbBudgetWrite port c word => okPort port && decide (c < 4) && okWord word
  | .regulatorWrite port p k reg word => okPort port && okPartition p && decide (k < 3) && decide (reg < 3) && okWord word
  | .stepIssue p => okPartition p
  | .stepCommit p => okPartition p
  | .stepOverrun p => okPartition p
  | .ledgerParityFailure p unit site => okPartition p && decide (unit ≤ 2) && okSite site
  | .stepReplayReissue p _ => okPartition p
  | .droneStepIssue _ => true
  | .dMatmul drone => okPartition drone
  | .dAttn drone => okPartition drone
  | .dExchange drone => okPartition drone
  | .exchangeComplete _ _ => true
  | .dKvWrite drone => okPartition drone
  | .dVector drone => okPartition drone
  | .dEmbed drone => okPartition drone
  | .dSample drone => okPartition drone
  | .dPush drone => okPartition drone
  | .droneStepCommit drone => okPartition drone
  | .droneStepOverrun drone => okPartition drone
  | .droneParityFailure drone unit => okPartition drone && decide (unit ≤ 2)
  | .samplerRow _ => true
  | .passCommit _ _ => true
  | .maskPreparationComplete _ seq _ => decide (seq < 16384)
  | .saveStep _ => true
  | .checkpointCut p => okPartition p
  | .saveComplete _ => true
  | .restoreStep _ => true
  | .restoreComplete _ => true
  | .jobSuspend o => okOrigin o
  | .jobResume o => okOrigin o
  | .longOpStep _ _ _ _ => true
  | .frontLoadStart p => okPartition p
  | .tileMove o => okOrigin o
  | .pageMove o => okOrigin o
  | .movResume o => okOrigin o
  | .movDiscard o => okOrigin o
  | .movCtrlResume port => okPort port
  | .movCtrlDiscard port => okPort port
  | .descriptorStart chan _ _ => okChan chan
  | .descriptorComplete chan _ => okChan chan
  | .writeVisible _ => true
  | .landingFenceComplete _ => true
  | .busError chan _ _ _ addr cause _ _ => okChan chan && okAddr addr && decide (cause ≤ 7)
  | .cxlCompletionTimeout chan _ _ _ addr _ _ => okChan chan && okAddr addr
  | .granuleReread addr fails _ _ part _ _ => okAddr addr && decide (1 ≤ fails) && decide (part ≤ 15)
  | .t2Scrub stack _ _ => decide (stack < 12)
  | .checkRange o _ _ => okOrigin o
  | .digest o _ _ => okOrigin o
  | .digestComplete e => decide (e < 4)
  | .scorePacketRead r => okRoute r
  | .galeIssue r p => okRoute r && okPartition p
  | .galeDropReport r => okRoute r
  | .returnPacketRead r => okRoute r
  | .dispatchClose r _ => okRoute r
  | .returnClose r _ => okRoute r
  | .barometerCountExchange b _ => okRoute b
  | .galRouteWrite port _ v => okPort port && okWord v
  | .brmBiasWrite port _ v => okPort port && okWord v
  | .brmCtrlWrite port _ v => okPort port && okWord v
  | .generate o _ _ => okOrigin o
  | .cancel o => okOrigin o
  | .lull o => okOrigin o
  | .resume o => okOrigin o
  | .prefixBuild o _ => okOrigin o
  | .prefixRelease o => okOrigin o
  | .seqRelease o => okOrigin o
  | .muteValidate o => okOrigin o
  | .sampleRun o _ _ => okOrigin o
  | .libInit o => okOrigin o
  | .libVersionAdd o => okOrigin o
  | .libVersionRemove o => okOrigin o
  | .libVersionCheck o => okOrigin o
  | .libDeploy o => okOrigin o
  | .libVersionLoad o => okOrigin o
  | .libUndeploy o => okOrigin o
  | .shardDigestResult _ _ _ => true
  | .shardRescanDue _ => true
  | .twinShardRequest _ _ _ dg => (dg.length == 32)
  | .partAssign o => okOrigin o
  | .funcGrant o => okOrigin o
  | .cfgStoreRead o => okOrigin o
  | .cfgStoreWrite o => okOrigin o
  | .cfgStoreRollback o => okOrigin o
  | .cfgStoreActivateFw o => okOrigin o
  | .resetRequest o => okOrigin o
  | .softwareReset => true
  | .powerCap o => okOrigin o
  | .mgtHostbootGo port word => okPort port && okWord word
  | .mgtJobRestart port => okPort port
  | .fringBaseWrite port _ => okPort port
  | .portDetectStart p => okLink p
  | .moduleReady p type => okLink p && decide (type ≤ 2)
  | .mediaTimeout p => okLink p
  | .equaliseComplete p => okLink p
  | .equaliseTimeout p => okLink p
  | .laneLockComplete p => okLink p
  | .peerIdentity p domainId index port role =>
    okLink p && okWord domainId && okDevice index && okLink port && decide (role ≤ 1)
  | .delayCalibration p _ => okLink p
  | .portRetryTimer p => okLink p
  | .portLossTimeout p => okLink p
  | .moduleRemoved p => okLink p
  | .portTestSelect port word => okPort port && okWord word
  | .blockReceive p lane wire => okLink p && decide (lane < 8) && (wire.length == 896)
  | .blockNak p lane seq => okLink p && decide (lane < 8) && decide (seq < 2 ^ 32)
  | .slotSend p _ => okLink p
  | .transitForward p c _ _ => okLink p && okCircuit c
  | .plvWritePacket p c _ _ addr data _ =>
    okLink p && okCircuit c && okAddr addr && (!data.isEmpty && decide (data.length ≤ 2048))
  | .plvQueuePacket p c _ _ src addr producer level seq words _ =>
    okLink p && okCircuit c && okDevice src && okAddr addr &&
      decide (producer < 65536) && decide (level < 256) && decide (seq < 2 ^ 32) && words.all (fun w => w.length == 64)
  | .plvReadReq p c _ _ addr n _ _ _ => okLink p && okCircuit c && okAddr addr && (decide (1 ≤ n) && decide (n ≤ 2048))
  | .plvResponse p c _ status data => okLink p && okCircuit c && decide (status ≤ 2) && decide (data.length ≤ 2048)
  | .reportNotice p c _ => okLink p && okCircuit c
  | .teardownNotice p c => okLink p && okCircuit c
  | .domainTick p breath period next _ =>
    okLink p && decide (breath < 2 ^ 48) && decide (period < 65536) && decide (next < 65536)
  | .periodNak p => okLink p
  | .liveFlood p _ => okLink p
  | .mediaMonitor p _ _ _ _ => okLink p
  | .cmisRead port word _ => okPort port && okWord word
  | .cmisWrite port word _ => okPort port && okWord word
  | .circuitSetup port => okPort port
  | .circuitTeardown port => okPort port
  | .domainConfigWrite port _ word => okPort port && okWord word
  | .twinHeartbeatReceive _ => true
  | .mirrorUpdate _ => true
  | .mirrorAck _ => true
  | .twinTakeover _ => true
  | .jobFaultMessage _ origin _ => okDevice origin
  | .restartHoldExpiry _ => true
  | .partitionWarmResetComplete p => okPartition p
  | .restartBreathAnnounce _ _ => true
  | .powerOnReset _ => true
  | .brownOut _ => true
  | .railFail rail => decide (rail ≤ 2)
  | .rstNPulse _ => true
  | .watchdogExpiry => true
  | .debugResetRequest => true
  | .clockFailure => true
  | .lockUp => true
  | .resetRelease => true
  | .bootStageComplete alive present dimms cxl =>
    decide (alive < 4096) && decide (present < 256) && decide (dimms.length ≤ 8) && decide (cxl.length ≤ 2)
  | .bootSourceTimeout => true
  | .uartXmodemBlock _ => true
  | .twinFirmwareImage _ => true
  | .vinDroop => true
  | .droopLapse => true
  | .tjSample _ => true
  | .thermtrip => true
  | .powerAverage _ => true
  | .alertAssert _ => true
  | .alertReleaseExpiry _ => true
  | .rmTimeout => true
  | .mctpControlMessage _ => true
  | .renaihelRequest entry _ => (entry.length == 64)
  | .pldmBaseDiscovery _ => true
  | .pldmSensorRead _ _ => true
  | .pldmFirmwareUpdate _ _ _ _ => true
  | .sensorUpdate tj tm _ _ vr => decide (tj.length ≤ 5) && decide (tm.length ≤ 12) && decide (vr.length ≤ 25)
  | .jtagExtest _ _ => true
  | .jtagSamplePreload _ _ => true
  | .jtagBypass code _ _ => (decide (2 ≤ code) && decide (code ≤ 255))
  | .checkRangeComplete u => decide (u < 16)
  | .configurationRequest fn _ _ => okFn fn
  | .twinFirmwareRequest => true
  | .laneLockTimeout p => okLink p
  | .restartResetReport _ dev => okDevice dev
  | .versionAvailableReport _ _ _ device => okDevice device
  | .currencyBreathAnnounce _ _ _ _ => true
  | .alertDeassert _ => true
  | .i3cDynamicAddressAssignment addr => (decide (8 ≤ addr) && decide (addr ≤ 0x7D))
  | .jtagDebugAccess _ => true
  | .jtagTapReset => true

end Sys2Proof
end

