-- ==== Sys2Proof/Tests/Slice0.lean ====
section
/-!
SUPPORT. The model's own tests: worked examples of the spec, what the commands do on small states, and for each statement a
state and operands that meet its hypotheses.
-/
namespace Sys2Proof.Tests

set_option maxRecDepth 20000
set_option Elab.async false

open Sys2Proof Sys2Proof.Machine

/-- The device that a command leaves, where it answers a next state that meets `p`. -/
def after (c : Instr) (d : Device) (p : Device → Bool) : Bool :=
  match exec c { dev := d } with
  | .next t => p t.dev
  | _ => false

/-- A small device that has booted. -/
def up : Device := { boot := { stage := 10, done := true } }

/-- A staged command of the management port, from the bytes of its entry. -/
def staged (uid : Nat) (bytes : List Byte) (started : Bool := false) : Staged :=
  { cmd := { origin := .mgmt, port := .mgmt, uid := uid, opcode := leAt bytes 0 1, flags := leAt bytes 1 1,
             tag := BitVec.ofNat 32 (leAt bytes 4 4), inst := 0 }, entry := padTo 64 bytes, started := started }

/-- `up` with one command of the management port staged. -/
def withEntry (d : Device) (bytes : List Byte) : Device := { d with staged := [staged 1 bytes], nextUid := 2 }

/-- The message that answers a command of the management port with a status. -/
def answered (d : Device) (status : Nat) : Bool :=
  d.out.any (fun o => match o with | .mctp 0x7E b => leAt b 5 2 == status && leAt b 0 1 == 0x81 | _ => false)

/-! ### Host port -/

/-- A device with session 3 of function 0 running; ring sizes 64. -/
def ses : Device := { up with sessions := [(3, { state := .running, enable := true, tail := 5, sqHead := 4, irq := true, cqBase := 0x1000 })] }

/-- Session 3 with a waiting record. -/
def rec1 : Device := { ses with records := [(3, [{ uid := 1, tag := 7, status := 0, opcode := 0, inst := 0, value := padTo 8 [] }])] }

theorem witness_SessionsAndDoorbells :
    Running { dev := ses } ∧ (ses.session 3).state = .running ∧ (ses.session 3).fn = 0 ∧
    after (.sqTailDoorbell 0 3 63) ses (fun d => (d.session 3).tail == 63) ∧
    after (.sqTailDoorbell 0 3 64) ses (fun d => (d.session 3).state == .halted && (d.session 3).err == 1) ∧
    after (.cqHeadDoorbell 0 3 63) ses (fun d => (d.session 3).head == 63) ∧
    after (.cqHeadDoorbell 0 3 64) ses (fun d => (d.session 3).err == 4) := by decide +kernel

theorem witness_SessionsAndDoorbells_enable :
    Running { dev := up } ∧ up.maySession .pf 3 = true ∧ (up.session 3).state = .off ∧ up.boot.done = true ∧
    after (.sessionEnable .pf 3 0) up (fun d => (d.session 3).state == .running) ∧
    (∀ t ∈ ses.staged, t.cmd.origin = .session 3 → t.started = true) ∧ Table.getD ses.records 3 [] = [] ∧
    after (.sessionDisable .pf 3 0) ses (fun d => (d.session 3).state == .off) ∧
    (let d := { ses with staged := [{ staged 1 [3] true with cmd := { (staged 1 [3]).cmd with origin := .session 3 } }] }
     d.staged.any (fun t => t.cmd.origin == .session 3) = true ∧
     after (.sessionDisable .pf 3 0) d (fun d => (d.session 3).state == .draining)) := by decide +kernel

theorem witness_FetchStagesOrRefuses :
    (ses.session 3).sqHead ≠ (ses.session 3).tail ∧ ses.mirroring = false ∧
    ses.validateEntry .pf (padTo 64 []) = 0 ∧ ses.stagingRoom (.session 3) (ses.homeOf .pf (padTo 64 [])) = true ∧
    after (.entryFetch 3 (some (padTo 64 []))) ses (fun d => d.staged.length == 1 && (d.session 3).sqHead == 5) ∧
    ses.validateEntry .pf (padTo 64 [0x05]) = 0x0101 ∧
    after (.entryFetch 3 (some (padTo 64 [0x05]))) ses (fun d =>
      (Table.getD d.records 3 []).map (·.status) == [0x0101] && (d.session 3).sqHead == 5) := by decide +kernel

theorem witness_RecordsAndMessagesLeave :
    (rec1.session 3).cqFull = false ∧ rec1.mirroring = false ∧
    after (.completionRecordWrite 3 1 false) rec1 (fun d =>
      d.out == [.hostWrite 0 0x1000 ([7, 0, 0, 0, 0, 0, 0, 0x80] ++ List.replicate 8 0), .msix 0 0] &&
      (d.session 3).cqTail == 1) ∧
    (let d := ses.modSession 3 (fun x => { x with quiet := true, owed := true, holdoff := 5 })
     after (.msixHoldoffExpiry 3) d (fun d => d.out == [.msix 0 0] && (d.session 3).quiet)) := by decide +kernel

theorem witness_FunctionResetsDisableSessions :
    (let d := { ses with pcie := { vfEnable := true }, sessions := [(3, { fn := 5, state := .running, enable := true })] }
     Running { dev := d } ∧ d.seqs = [] ∧ (d.session 3).fn = 5 ∧
     after (.functionLevelReset 5) d (fun d => (d.session 3).state == .off) ∧
     after .pfFunctionLevelReset d (fun d => !d.pcie.vfEnable && (d.session 3).state == .off)) := by decide +kernel

/-! ### Control commands, assignment, grants -/

theorem witness_ControlCommandsComplete :
    (let d := withEntry up [0x00]
     d.startable .mgmt 0x00 = some (staged 1 [0x00]) ∧ after (.nop .mgmt) d (fun d => answered d 0 && d.staged.isEmpty)) ∧
    (let d := withEntry up [0x01]
     d.startable .mgmt 0x01 = some (staged 1 [0x01]) ∧ d.earlierDone (staged 1 [0x01]).cmd = true ∧
     after (.fence .mgmt) d (fun d => answered d 0)) ∧
    (let e := staged 1 [0x03, 0, 9, 0, 0, 0, 0, 0, 1, 0, 0, 0, 5]
     let d : Device := { up with staged := [e] }
     d.startable .mgmt 0x03 = some e ∧ (∀ t ∈ d.staged, t.cmd.opcode = 0x03 → t.started = false ∧ (t.cmd.uid = e.cmd.uid → t = e)) ∧
     d.eventReached e = false ∧ (d.setReg (regKey HUB_EVT_COUNT 9) 1).eventReached e = true ∧
     after (.waitEvent .mgmt) d (fun d => d.staged.any (·.started)) ∧
     after (.waitEvent .mgmt) (d.setReg (regKey HUB_EVT_COUNT 9) 1) (fun d => d.staged.isEmpty && answered d 0)) ∧
    (let e := staged 1 [0x03, 0, 9, 0, 0, 0, 0, 0, 1, 0, 0, 0, 5] true
     let d : Device := { up with staged := [e] }
     d.startedOp .mgmt 0x03 = some e ∧ e.op 12 4 ≠ 0 ∧ after (.waitEventTimeout .mgmt) d (fun d => answered d 0x0105)) ∧
    (let e := staged 1 [0x04, 0, 9, 0, 0, 0, 0, 0, 3]
     let d : Device := (({ up with staged := [e] } : Device).setReg (regKey HUB_EVT_COUNT 9) 0xFFFFFFFE)
     d.startable .mgmt 0x04 = some e ∧ d.earlierDone e.cmd = true ∧ after (.signal .mgmt) d (fun d => d.eventCount 9 == 1)) ∧
    (up.mayEvent .pf 0 = true ∧ after (.hubEvtCountWrite .pf 7) up (fun d => d.eventCount 0 == 7)) := by decide +kernel

def assignBytes : List Byte := [0x77, 0, 0, 0, 0, 0, 0, 0, 3, 5, 0, 0, 8]
def windowBytes : List Byte := [0x78, 0, 0, 0, 0, 0, 0, 0, 3, 5, 1, 3] ++ List.replicate 4 0 ++ leBytes 8 (2 ^ 53) ++ leBytes 8 4096
def eventBytes : List Byte := [0x78, 0, 0, 0, 0, 0, 0, 0, 1, 5, 0, 0, 7, 0, 0, 0, 2]

theorem witness_AssignmentAndGrants :
    (let e := staged 1 assignBytes
     let d := withEntry up assignBytes
     d.startable .mgmt 0x77 = some e ∧ e.op 1 1 = 0 ∧ e.aux = 0 ∧ e.op 10 2 = 0 ∧ allZero (sliceOf e.entry 20 44) = true ∧
     e.op 8 1 = 3 ∧ e.op 9 1 = 5 ∧ e.op 12 4 = 8 ∧ e.op 16 4 = 0 ∧ (d.part 3).job = 0 ∧ d.imagesOn 3 = [] ∧
     after (.partAssign .mgmt) d (fun d => (d.part 3).owner == 5 && (d.part 3).staging == 8 && answered d 0)) ∧
    (let e := staged 1 windowBytes
     let d := withEntry up windowBytes
     d.startable .mgmt 0x78 = some e ∧ allZero (sliceOf e.entry 12 4) = true ∧ allZero (sliceOf e.entry 32 32) = true ∧
     e.op 8 1 = 3 ∧ d.windowBad (e.op 11 1) (e.op 16 8) (e.op 24 8) = false ∧
     after (.funcGrant .mgmt) d (fun d => Table.find? d.grants 81 == some ⟨2 ^ 53, 4096, true⟩ && answered d 0)) ∧
    (let e := staged 1 eventBytes
     let d := withEntry up eventBytes
     d.startable .mgmt 0x78 = some e ∧ e.op 8 1 = 1 ∧ e.op 12 4 + e.op 16 4 ≤ 2048 ∧
     (∀ t ∈ d.staged, (t.cmd.opcode = 0x03 → t.started = false) ∧ (t.cmd.uid = e.cmd.uid → t = e)) ∧
     after (.funcGrant .mgmt) d (fun d => d.eventOwner 7 == 5 && d.eventOwner 8 == 5 && d.eventOwner 9 == 0)) := by decide +kernel

theorem witness_RenaihelRequestIsStaged :
    up.rmHeard.validateEntry .mgmt (padTo 64 [0]) = 0 ∧ up.mirroring = false ∧
    up.rmHeard.stagingRoom .mgmt (up.rmHeard.homeOf .mgmt (padTo 64 [0])) = true ∧
    after (.renaihelRequest (padTo 64 [0]) false) up (fun d => d.staged.length == 1 && d.out == []) ∧
    after (.renaihelRequest (padTo 64 [0]) true) up (fun d => d.staged.length == 1 && d.out.length == 1) ∧
    (let d : Device := { up with staged := (List.range 16).map (fun i => staged i [0]) }
     after (.renaihelRequest (padTo 64 [0]) false) d (fun d => d.staged.length == 16 && d.out.length == 1)) := by decide +kernel

/-! ### Registers and apertures -/

/-- The physical function's aperture 0 opens on T3-DDR at offset 0. -/
def aper : Device :=
  let d : Device := { up with ddr := 2 ^ 36, boot := { up.boot with stage := 10 } }
  (d.setReg (portKey HUB_APERTa_LO .pf) 1).setReg (portKey HUB_APERTa_HI .pf) (2 ^ 54 / 2 ^ 32)

theorem witness_RegisterPairs_RegisterWriteKeepsPortsApart :
    up.portAnswers .pf = true ∧ pairHalf HUB_APERTa_LO = 1 ∧ pairHalf HUB_APERTa_HI = 2 ∧
    up.maySession .pf 3 = true ∧
    after (.regLoRead .pf HUB_APERTa_LO) aper (fun d => d.out == [.value .pf [1, 0, 0, 0]] && d.snaps.length == 1) ∧
    after (.regLoWrite .pf (sessionBase + 0x40 * 3 + 4) 0x1000) up (fun d => d.holds.length == 1) ∧
    (let d : Device := { up with holds := [(portKey (sessionBase + 0x40 * 3 + 4) .pf, 0x1000)], snaps := [(portKey HUB_APERTa_HI .pf, 9)] }
     after (.regHiWrite .pf (sessionBase + 0x40 * 3 + 8) 2) d (fun d => (d.session 3).sqBase == 0x200001000 && d.holds.isEmpty) ∧
     after (.regHiRead .pf HUB_APERTa_HI) d (fun d => d.out == [.value .pf [9, 0, 0, 0]] && d.snaps.isEmpty)) ∧
    after (.regHiRead .pf HUB_APERTa_HI) aper (fun d => d.out == [.value .pf [0, 0, 0x40, 0]]) ∧
    after (.regHiWrite .pf (sessionBase + 0x40 * 3 + 8) 2) { up with sessions := [(3, { sqBase := 0x700001000 })] }
      (fun d => (d.session 3).sqBase == 0x200001000) ∧
    after (.registerWrite .pf HUB_EVT_SEL 0xFFF) up (fun d => d.portReg .pf HUB_EVT_SEL == 0x7FF) ∧
    after (.registerWrite .pf HUB_SIZE_COUNT 5) up (fun d => d.reg HUB_SIZE_COUNT == up.reg HUB_SIZE_COUNT) := by decide +kernel

theorem witness_HostAccessesReachMemory :
    aper.fnAnswers 0 = true ∧ aper.bootWindow 0 0 4 = false ∧ aper.apertureAddr 0 0 = some (2 ^ 54) ∧ 
    aper.hostError 0 (2 ^ 54) 4 false = none ∧ aper.hostError 0 (2 ^ 54) 4 true = none ∧
    aper.isSelf (addrDevice (2 ^ 54)) = true ∧ addrSpace (2 ^ 54) = 2 ∧ aper.poisonIn (localKey (2 ^ 54)) 4 = none ∧
    up.apertureAddr 0 0 = none ∧ bitOf (up.portReg (fnPort 0) HUB_HOST_ERR) 31 = false ∧
    after (.unsupportedBarAccess 0 0 2 4) up (fun d => d.out == [.pcie 1 []]) ∧
    after (.apertureWrite 0 0 [1, 2, 3, 4]) aper (fun d => d.readBytes (2 ^ 54) 4 == [1, 2, 3, 4]) ∧
    after (.apertureRead 0 0 4 0 none) { aper with mem := [(2 ^ 54, 7)] } (fun d => d.out == [.pcie 0 [7, 0, 0, 0]]) ∧
    after (.apertureRead 0 0 4 0 none) up (fun d => d.out == [.pcie 0 [0, 0, 0, 0]] &&
      bitsOf (d.portReg (fnPort 0) HUB_HOST_ERR) 31 28 == 11) := by decide +kernel

/-! ### Movers, check units, digests -/

/-- A TILE_MOVE on channel 0 of 64 bytes from T2 at 64 to T1 at 0. -/
def moveBytes : List Byte :=
  [0x20, 0, 0, 0, 9, 0, 0, 0] ++ leBytes 8 (selfAddr 1 64) ++ leBytes 8 (selfAddr 0 0) ++ [64, 0, 0, 0, 0, 4, 255, 0] ++
    List.replicate 32 0

def moveWork : Work := { uid := 1, owner := .command (staged 1 moveBytes).cmd, port := some .mgmt, mv := Move.ofEntry moveBytes }

/-- Channel 0 with that descriptor waiting; running. -/
def moving (m : Mover) : Device :=
  { withEntry up moveBytes with staged := [staged 1 moveBytes true], mem := [(memKey 1 64, 5), (memKey 1 127, 6)], movers := [(0, { m with queue := [moveWork] })] }

theorem witness_MovesJoinTheirChannel :
    (withEntry up moveBytes).startable .mgmt 0x20 = some (staged 1 moveBytes) ∧
    (withEntry up moveBytes).acceptor (padTo 64 moveBytes) = some 0 ∧
    after (.tileMove .mgmt) (withEntry up moveBytes) (fun d => (d.mover 0).queue == [moveWork]) ∧
    (let b := [0x21, 0, 0xFF, 0xFF] ++ moveBytes.drop 4
     (withEntry up b).startable .mgmt 0x21 = some (staged 1 b) ∧ (withEntry up b).acceptor (padTo 64 b) = some 192 ∧
     after (.pageMove .mgmt) (withEntry up b) (fun d => (d.mover 192).queue.length == 1)) := by decide +kernel

theorem witness_DescriptorsRunAndComplete :
    (moving {}).moveOpen 0 moveWork.mv = true ∧ (moving {}).checkMove 0 moveWork.port moveWork.mv = 0 ∧
    (moving {}).isSelf (addrDevice moveWork.mv.src) = true ∧ addrSpace moveWork.mv.src = 1 ∧
    after (.descriptorStart 0 0 none) (moving {}) (fun d => (d.mover 0).running) ∧
    (let w : Work := { moveWork with mv := { moveWork.mv with len := 0x40000001 } }
     let d : Device := { moving {} with movers := [(0, { queue := [w] })] }
     d.checkMove 0 w.port w.mv = 0x0503 ∧ d.moveOpen 0 w.mv = true ∧
     after (.descriptorStart 0 0 none) d (fun d => (d.mover 0).queue.isEmpty && answered d 0x0503)) ∧
    (let d := moving { running := true }
     d.moved moveWork = (.bytes (d.readBytes (memKey 1 64) 64), d) ∧
     after (.descriptorComplete 0 0) d (fun d => (d.mover 0).queue.isEmpty && answered d 0 && d.flight.length == 1)) := by
  decide +kernel

theorem witness_WritesLandAndFencesWait :
    (let d : Device := { up with flight := [{ uid := 1, chan := 0, addr := selfAddr 0 0, bytes := [5, 6] }] }
     (d.flight.filter (fun f => !f.remote))[0]? = some { uid := 1, chan := 0, addr := selfAddr 0 0, bytes := [5, 6] } ∧
     d.poison = [] ∧ after (.writeVisible 0) d (fun d => d.readBytes 0 2 == [5, 6] && d.flight.isEmpty)) ∧
    (let d := withEntry up [0x02, 0, 7, 0]
     d.startable .mgmt 0x02 = some (staged 1 [0x02, 0, 7, 0]) ∧
     (d.start (staged 1 [0x02, 0, 7, 0])).coverOf 7 (some { (staged 1 [0x02, 0, 7, 0]).cmd with inst := 7 }) = [] ∧
     (d.mover 7).halted = false ∧ after (.landingFence .mgmt) d (fun d => answered d 0)) ∧
    (let d : Device := { withEntry up [0x02, 0, 7, 0] with movers := [(7, { halted := true })] }
     d.startable .mgmt 0x02 = some (staged 1 [0x02, 0, 7, 0]) ∧
     (d.mover 7).halted = true ∧ after (.landingFence .mgmt) d (fun d => d.fences.map (·.bad) == [0x0512])) ∧
    (let d := { moving {} with staged := [staged 5 [0x02, 0, 0, 0]] }
     d.startable .mgmt 0x02 = some (staged 5 [0x02, 0, 0, 0]) ∧
     (d.start (staged 5 [0x02, 0, 0, 0])).coverOf 0 (some { (staged 5 [0x02, 0, 0, 0]).cmd with inst := 0 }) = [1] ∧
     after (.landingFence .mgmt) d (fun d => d.fences.map (·.covers) == [[1]])) ∧
    (let c := (staged 5 [0x02] true).cmd
     let d : Device := { up with fences := [{ id := 9, owner := .command c, chan := 0, covers := [1] }] }
     d.fenceStatus { id := 9, owner := .command c, chan := 0, covers := [1] } = some 0 ∧
     after (.landingFenceComplete 9) d (fun d => d.fences.isEmpty && answered d 0)) := by decide +kernel

theorem witness_HaltResumeDiscard :
    (let d : Device := { moving { running := true } with poison := [] }
     let w : Work := { moveWork with mv := { moveWork.mv with src := selfAddr 1 64 + 2 ^ 57 * 5 } }
     let e : Device := { d with movers := [(0, { running := true, queue := [w] })] }
     let e := (e.setRegField HUB_DEVICE_INDEX 31 31 1)
     e.moved w = (.waiting, e) ∧
     after (.busError 0 none 1 false 0x123 6 0 0) e (fun d => (d.mover 0).halted && d.reg MOV_ERR_ADDR_LO == 0x123 &&
       d.regField MOV_ERR_STATUS 3 0 == 6) ∧
     after (.cxlCompletionTimeout 0 none 1 false 0x123 0 0) e (fun d => (d.mover 0).halted && d.regField MOV_ERR_STATUS 3 0 == 2)) ∧
    (let d := withEntry { moving { halted := true } with movers := [(0, { halted := true })] } [0x22]
     d.startable .mgmt 0x22 = some (staged 1 [0x22]) ∧ (staged 1 [0x22]).aux = 0 ∧
     after (.movResume .mgmt) d (fun d => !(d.mover 0).halted && answered d 0)) ∧
    (let d := withEntry { moving { halted := true } with movers := [(0, { halted := true })] } [0x23]
     d.startable .mgmt 0x23 = some (staged 1 [0x23]) ∧
     after (.movDiscard .mgmt) d (fun d => !(d.mover 0).halted && answered d 0)) ∧
    (let d := moving { halted := true }
     d.movSel .mgmt = 0 ∧ d.mayMove .mgmt 0 = true ∧
     after (.movCtrlResume .mgmt) d (fun d => !(d.mover 0).halted && (d.mover 0).queue.length == 1) ∧
     after (.movCtrlDiscard .mgmt) d (fun d => !(d.mover 0).halted && (d.mover 0).queue.isEmpty && answered d 0x0511)) := by
  decide +kernel

theorem witness_ParityIsCounted :
    addrSpace (selfAddr 1 64) = 1 ∧ up.mapped (selfAddr 1 64) 1 = true ∧ up.isSelf (addrDevice (selfAddr 1 64)) = true ∧
    after (.granuleReread (selfAddr 1 64) 2 0 0 0 0 false) up (fun d => d.reg (regKey MEM_T2_REREAD_COUNT 0) == 2) ∧
    after (.granuleReread (selfAddr 1 64) 3 0 0 0 0 true) up (fun d => d.poison == [localKey (selfAddr 1 64) / 64]) ∧
    after (.t2Scrub 3 0 1) up (fun d => d.reg (regKey MEM_T2_CE_COUNT_LO 3) == 1) ∧
    after (.t2Scrub 3 5 2) up (fun d => d.poison.length == 1) := by decide +kernel

/-- A CHECK_RANGE of CRC-32C over nine bytes of T2. -/
def checkBytes : List Byte :=
  [0x60, 1, 0, 0, 9, 0, 0, 0] ++ leBytes 8 (selfAddr 1 0) ++ leBytes 8 0 ++ [9, 0, 0, 0, 0, 4, 3, 0] ++ List.replicate 32 0

theorem witness_ChecksAndDigests :
    (let d := withEntry up checkBytes
     let e := staged 1 checkBytes
     d.startable .mgmt 0x60 = some e ∧ (Move.ofEntry e.entry).len = 9 ∧
     d.checkRangeSource (some .mgmt) (Move.ofEntry e.entry) = 0 ∧ addrSpace (Move.ofEntry e.entry).src = 1 ∧
     d.takeUnit (Move.ofEntry e.entry).unit = some 3 ∧
     after (.checkRange .mgmt 0 none) d (fun d => (Table.getD d.checks 3 {}).serves == some 255)) ∧
    (let r : CheckRun := { cmd := (staged 1 checkBytes).cmd, mv := Move.ofEntry (padTo 64 checkBytes) }
     let d : Device := { up with checks := [(3, { serves := some 255, run := some r })] }
     d.readAny 1 0 r.mv.src r.mv.len = .bytes (List.replicate 9 0) ∧ r.mv.expect = none ∧
     after (.checkRangeComplete 3) d (fun d => answered d 0) ∧
     (let r := { r with mv := { r.mv with expect := some 1 } }
      let d : Device := { up with checks := [(3, { serves := some 255, run := some r })] }
      1 % 2 ^ (CrcKind.ofCode r.mv.poly).width ≠ d.checkResult r.mv r.mv.src (List.replicate 9 0) ∧
      after (.checkRangeComplete 3) d (fun d => answered d 0x0601 && d.regField CHK_IRQ_STATUS 3 3 == 1))) := by
  decide +kernel

/-- A DIGEST of mode ONE over three bytes of T2, its result to T2. -/
def digestBytes : List Byte :=
  [0x68, 0, 0, 0, 9, 0, 0, 0] ++ leBytes 8 (selfAddr 1 0) ++ [3, 0, 0, 0, 0, 2, 0, 0] ++ leBytes 8 0 ++
    leBytes 8 (selfAddr 1 64) ++ List.replicate 24 0

theorem witness_ChecksAndDigests_digest :
    (let d := withEntry up digestBytes
     let e := staged 1 digestBytes
     d.startable .mgmt 0x68 = some e ∧ digestMalformed e.entry = false ∧ leAt e.entry 21 1 = 2 ∧
     d.digestAddresses (some .mgmt) (DigestRun.ofEntry e.cmd e.entry) = 0 ∧
     after (.digest .mgmt 0 none) d (fun d => (Table.find? d.digests 2).isSome)) ∧
    (let r := { DigestRun.ofEntry (staged 1 digestBytes).cmd digestBytes with cmd := (staged 1 digestBytes).cmd }
     let d : Device := { up with digests := [(2, r)], mem := [(memKey 1 0, 0x61), (memKey 1 1, 0x62), (memKey 1 2, 0x63)] }
     d.readAny 1 0 r.src r.len = .bytes [0x61, 0x62, 0x63] ∧ r.len = 3 ∧ r.mode = 0 ∧ r.expect = 0 ∧
     after (.digestComplete 2) d (fun d => answered d 0 &&
       d.readBytes (memKey 1 64) 4 == [0xba, 0x78, 0x16, 0xbf])) := by decide +kernel

/-! ### Stops and images -/

/-- Partition 3 of job 1, on which image 1 with stop 9 (position 2 of the stop store) runs; slot 1 holds stop 9. -/
def stopImage : Image :=
  { job := 1, fn := 0, ready := true, parts := [3], addr := selfAddr 1 0, len := 0, secStops := 0, t1 := [], qkib := [], queues := [],
    stops := [{ id := 9, block := 0, part := 0, home := 0, pos := some 2 }] }

def stopDev (x : Partition) : Device :=
  { up with images := [(1, stopImage)], jobs := [(1, { state := .running })], parts := [(3, { x with job := 1 })] }

def entry12 : List Byte := [0x12, 0, 0, 0, 7, 0, 0, 0, 1, 0, 0, 0, 9, 0, 0, 0, 1]
def entry13 : List Byte := [0x13, 0, 0, 0, 7, 0, 0, 0, 1, 0, 0, 0, 9, 0, 0, 0, 1]
def entry14 : List Byte := [0x14, 0, 0, 0, 7, 0, 0, 0, 1, 0, 0, 0, 0, 5, 0, 0, 77]

def readySlots : Table Slot := [(0, { state := .active, stopId := 8, image := 1 }), (1, { state := .ready, stopId := 9, image := 1 })]

theorem witness_StopRequestsAreAccepted :
    (let d := withEntry (stopDev {}) entry12
     let e := staged 1 entry12
     d.startable .mgmt 0x12 = some e ∧ (d.findStop .mgmt 1 9).map (·.2) = some 3 ∧ e.op 16 1 = 1 ∧ d.loadRefusal 3 1 = 0 ∧
     after (.stopLoad .mgmt) d (fun d => (d.part 3).loads.length == 1)) ∧
    (let d := withEntry (stopDev { slots := readySlots, active := some 0 }) entry13
     d.startable .mgmt 0x13 = some (staged 1 entry13) ∧ d.slotOf 3 1 9 = some 1 ∧ d.switchRefusal 3 1 = 0 ∧
     after (.stopSwitch .mgmt) d (fun d => (d.part 3).switch.map (·.target) == some 1)) ∧
    (let d := stopDev { slots := readySlots, active := some 0 }
     d.covers (some .pf) 3 = true ∧ bitOf (2 ^ 31 + 2 ^ 10 * 5 + 2) 31 = true ∧ bitOf (2 ^ 31 + 2 ^ 10 * 5 + 2) 9 = false ∧
     d.storeOwner 3 5 = none ∧ d.loadRefusal 3 2 = 0 ∧
     after (.prtStopLoadGo .pf 3 (2 ^ 31 + 2 ^ 10 * 5 + 2)) d (fun d => (d.part 3).loads == [{ slot := 2, src := .store 5 }]) ∧
     after (.prtStopSwitchGo .pf 3 (2 ^ 31 + 1)) d (fun d => (d.part 3).switch == some { target := 1 })) ∧
    (let d := stopDev { loads := [{ slot := 0, src := .store 1 }], switch := some { target := 1 } }
     after (.prtStopLoadGo .pf 3 (2 ^ 31)) d (fun d => d.regField (prtOff 3 PRT_STOP_STATUS) 29 29 == 1) ∧
     after (.prtStopSwitchGo .pf 3 (2 ^ 31)) d (fun d => d.regField (prtOff 3 PRT_STOP_STATUS) 29 29 == 1)) ∧
    (let d := withEntry (stopDev {}) entry14
     d.startable .mgmt 0x14 = some (staged 1 entry14) ∧ stopImage.parts.getD ((staged 1 entry14).op 12 1) 12 = 3 ∧
     after (.boundSet .mgmt) d (fun d => d.reg (prtOff 3 (PRT_BOUND + 20)) == 77 && answered d 0)) := by decide +kernel

theorem witness_StopLoadFillsASlot :
    (let l : Load := { slot := 1, src := .store 2 }
     after (.stopLoadStart 3 false) (stopDev { loads := [l] }) (fun d =>
       (d.part 3).loads == [{ l with started := true }] && ((d.part 3).slot 1).state == .loading)) ∧
    (let l : Load := { slot := 1, src := .store 2, started := true, block := some { stopId := 9 }, cmd := some (staged 1 [0x12]).cmd }
     after (.stopLoadComplete 3) (stopDev { loads := [l] }) (fun d =>
       ((d.part 3).slot 1).state == .ready && ((d.part 3).slot 1).stopId == 9 && answered d 0)) ∧
    (stopDev {}).poisonIn (localKey (BitVec.ofNat 64 (selfAddr 1 0)).toNat) 65536 = none := by decide +kernel

theorem witness_SwitchDrainsThenCommits :
    (let d := stopDev { slots := readySlots, active := some 0, switch := some { target := 1 } }
     (d.fab 3).halted = false ∧ after (.switchStart 3) d (fun d => (d.part 3).closed && (d.part 3).draining)) ∧
    (let d := stopDev { slots := readySlots, active := some 0, switch := some { target := 1, phase := .draining }, epoch := 3 }
     d.occupancy 3 = 0 ∧ ((d.part 3).slot 0).cfg.bindings = [] ∧
     after (.drainEnd 3 500) d (fun d => (d.part 3).epoch == 0 && (d.part 3).active == some 1 &&
       d.reg (prtOff 3 PRT_DRAIN_LAST) == 500)) ∧
    (let d := stopDev { slots := readySlots, active := some 1
                        switch := some { target := 1, phase := .committing, cmd := some (staged 1 [0x13]).cmd } }
     after (.switchComplete 3) d (fun d => (d.part 3).switch.isNone && answered d 0)) ∧
    (let d : Device := { up with parts := [(3, { active := some 0, switch := some { target := 1, phase := .draining }
                                                 fabric := { wires := [(0, [{ payload := 0 }])] } })] }
     d.occupancy 3 ≠ 0 ∧ (d.job (d.part 3).job).state = .none ∧ d.regField (prtOff 3 PRT_FABRIC_FAULT) 31 31 = 0 ∧
     after (.stopDrainTimeout 3) d (fun d => (d.fab 3).halted && d.regField (prtOff 3 PRT_FABRIC_FAULT) 7 0 == 0x25)) := by
  decide +kernel

/-- An IMAGE_LOAD of 64 bytes of T2 for job 1 on partition 3, and an IMAGE_UNLOAD of image 1. -/
def entry10 : List Byte :=
  [0x10, 0, 0, 0, 7, 0, 0, 0] ++ leBytes 8 (selfAddr 1 0) ++ [64, 0, 0, 0, 1, 0, 0, 0, 0xF3, 0xFF, 0xFF, 0xFF, 0xFF, 0xFF]
def entry11 : List Byte := [0x11, 0, 0, 0, 7, 0, 0, 0, 1]

theorem witness_ImageLoadAndUnload :
    (let d := withEntry up entry10
     let e := staged 1 entry10
     d.startable .mgmt 0x10 = some e ∧ (d.job (e.op 20 4)).state.settled = true ∧ e.op 20 4 = 1 ∧
     allZero (sliceOf e.entry 30 34) = true ∧ mapBad (e.op 24 6) = false ∧ addrSpace (e.op 8 8) = 1 ∧
     d.mapped (e.op 8 8) 64 = true ∧ d.inWindow (some .mgmt) (e.op 8 8) 64 false = true ∧
     after (.imageLoad .mgmt) d (fun d => d.longOps.map (fun l => (l.kind, l.cmd)) == [(.imageDigest, some e.cmd)])) ∧
    (let e := staged 1 entry10 true
     let l : LongOp := { id := 4, kind := .imageDigest, cls := 4, cmd := some e.cmd }
     let d : Device := { up with staged := [e], longOps := [l], planned := [4] }
     d.staged.find? (fun s => l.cmd == some s.cmd) = some e ∧ 1 ≤ 250 * (d.period - 4) ∧
     after (.longOpStep 4 0 false none) d (fun d => d.longOps == [l] && d.planned.isEmpty) ∧
     (let y : Device := { d with planned := [], longOps := [{ l with step := 1 }] }
      y.loadBefore 1 = false ∧ (y.job 1).state.settled = true ∧ y.readAny 1 0 (e.op 8 8) 64 = .bytes (List.replicate 64 0)) ∧
     after (.longOpStep 4 1 false none) d (fun d => d.longOps.isEmpty && answered d 0x1047)) ∧
    (let d := withEntry (stopDev {}) entry11
     d.startable .mgmt 0x11 = some (staged 1 entry11) ∧ d.imageInUse 1 = false ∧
     (d.job 1).state.settled = true ∧ after (.imageUnload .mgmt) d (fun d => d.images.isEmpty && answered d 0)) := by
  decide +kernel

/-! ### The fabric -/

/-- Partition 3 of `up` with a stop of the given words on slot 0, and a fabric. -/
def fabDev (words : Table Nat) (f : Fabric) : Device :=
  { up with parts := [(3, { active := some 0, slots := [(0, { state := .active, stopId := 8, image := 1
                                                              cfg := { words := words } })], fabric := f })] }

/-- A route entry in word 0 of a site's vector routes: output `n` takes input port `i`, channel 0 (R109, R110). -/
def routeWord (site n i : Nat) : Table Nat :=
  let base := 0x500 + 32 * site
  let all := 2 ^ 100 - 1 - 7 * 2 ^ (5 * n) - 24 * 2 ^ (5 * n) + i * 2 ^ (5 * n)
  [(base, all % 2 ^ 32), (base + 4, all / 2 ^ 32 % 2 ^ 32), (base + 8, all / 2 ^ 64 % 2 ^ 32), (base + 12, all / 2 ^ 96)]

def north17 : Chan := ⟨17, 0, false, 0⟩
def tokA : Token := { payload := 5, tag := 3, fin := true }

theorem witness_SwitchesForwardUnderCredit :
    (let d := fabDev (routeWord 17 4 0) { wires := [(north17.key, [tokA])], spent := [(north17.key, 1)] }
     let c : Chan := ⟨17, 4, false, 0⟩
     d.live 3 = true ∧ (d.part 3).stop.routed north17 = [(1, 0)] ∧
     outputChan 17 1 false 0 = some ⟨18, 3, false, 0⟩ ∧ (⟨18, 3, false, 0⟩ : Chan).key ≠ north17.key ∧
     (d.fab 3).credit ⟨18, 3, false, 0⟩ = true ∧ c.port = 4 ∧
     after (.tokenArrivalSwitch 3 17 0 false 0) d (fun d =>
       (d.fab 3).wire ⟨18, 3, false, 0⟩ == [tokA] && ((d.fab 3).wire north17).isEmpty)) ∧
    (let d := fabDev (routeWord 17 4 0) { wires := [(north17.key, [tokA])], spent := [((⟨18, 3, false, 0⟩ : Chan).key, 4)] }
     (d.fab 3).credit ⟨18, 3, false, 0⟩ = false ∧
     after (.tokenArrivalSwitch 3 17 0 false 0) d (fun d =>
       (d.fab 3).buf north17 == [tokA] && ((d.fab 3).wire north17).isEmpty)) ∧
    (let c : Chan := ⟨17, 4, false, 0⟩
     let d := fabDev [] { due := [(c.key, 1)], spent := [(c.key, 3)] }
     after (.creditReturn 3 17 4 false 0) d (fun d => Table.getD (d.fab 3).spent c.key 0 == 2)) := by decide +kernel

theorem witness_LinksReplay :
    (let x : Sent := { ch := 0, tok := tokA, sends := 1 }
     let d := fabDev [] { wires := [(north17.key, [tokA])], replay := [(north17.link, [x])], resend := [north17.link] }
     after (.linkParityError 3 17 0 false 0) d (fun d =>
       ((d.fab 3).wire north17).isEmpty && (d.fab 3).resend == [north17.link]) ∧
     after (.linkResend 3 17 0 false) d (fun d =>
       Table.getD (d.fab 3).replay north17.link [] == [{ x with sends := 2 }] &&
       d.reg64 (prtOff 3 PRT_LINK_REPLAY_COUNT_LO) == 1)) ∧
    (let x : Sent := { ch := 0, tok := tokA, sends := 3 }
     let d := fabDev [] { wires := [(north17.key, [tokA])], replay := [(north17.link, [x])] }
     (d.job (d.part 3).job).state = .none ∧
     after (.linkParityError 3 17 0 false 0) d (fun d =>
       (d.fab 3).halted && d.regField (prtOff 3 PRT_FABRIC_FAULT) 7 0 == 0x20)) := by decide +kernel

/-- A BF16 compute cell at site 17 that takes A and B, K of 32, and a vector program of one instruction. -/
def cellWords (code : Nat) : Table Nat :=
  [(0x2D00, 8 + 16 * 0x666 + 2 ^ 27 + 2 ^ 28), (0x2D04, 32), (0x2D08, 2 ^ 20), (0x2D20, code + 32 * 1 + 2 ^ 8 * 0 + 2 ^ 11 * 2)]

theorem witness_CellsTakeTokens :
    (let c : Chan := ⟨17, 5, false, 0⟩
     let d := fabDev (cellWords 1) { wires := [(c.key, [tokA])] }
     siteKind 17 = .compute ∧ (d.part 3).stop.enabled 17 = true ∧
     ((d.part 3).stop.compute 17).declares (computeInput false 0) = true ∧
     (d.cell 3 17).ctxs.length < ((d.part 3).stop.compute 17).contexts ∧
     after (.tokenArrivalCell 3 17 false 0) d (fun d =>
       (d.cell 3 17).ctxs == [{ tag := 3, opened := 0, waiting := [(0, tokA)] }])) ∧
    (let c : Chan := ⟨17, 5, false, 0⟩
     let d := fabDev (cellWords 1) { wires := [(c.key, [{ tokA with epoch := 2 }])] }
     after (.tokenArrivalCell 3 17 false 0) d (fun d =>
       d.reg (prtOff 3 PRT_STRAY_COUNT) == 1 && (d.fab 3).halted &&
       d.regField (prtOff 3 PRT_FABRIC_FAULT) 7 0 == 0x22)) := by decide +kernel

theorem witness_ComputeCellsReduceTiles :
    (let x : Ctx := { tag := 3, opened := 0, waiting := [(0, tokA), (1, { tokA with payload := 9 })] }
     let d := fabDev (cellWords 1) { cells := [(17, { ctxs := [x] })] }
     let k := (d.part 3).stop.compute 17
     (minByKey Ctx.opened ((d.cell 3 17).ctxs.filter (ctxReady k (d.part 3).bounds (d.cell 3 17)))).isSome = true ∧
     k.kSrc = 0 ∧ k.usesA = true ∧ x.hasEnded 0 = false ∧ x.next 0 = some tokA ∧
     after (.cellBeat 3 17) d (fun d => ((d.cell 3 17).ctx 3).any (fun y => y.tokens 0 == [tokA]) && (d.cell 3 17).fires == 1)) ∧
    (let x : Ctx := { tag := 3, opened := 0, taken := [(0, [tokA, tokA]), (1, [tokA, tokA])] }
     let d := fabDev [(0x2D00, 8 + 2 ^ 27 + 2 ^ 28), (0x2D04, 32)] { cells := [(17, { ctxs := [x] })] }
     let k := (d.part 3).stop.compute 17
     k.family = .mx ∧ ctxK k (d.part 3).bounds x = some 32 ∧ k.scaleTokens 32 ≤ (x.tokens 0).length ∧
     k.scaleTokens 32 ≤ (x.tokens 1).length ∧ k.recA = false ∧ k.recB = false ∧ k.anchorMode ≠ 2 ∧
     after (.anchorPassComplete 3 17 3) d (fun d => ((d.cell 3 17).ctx 3).any (fun y => y.anchor.isSome))) ∧
    (let x : Ctx := { tag := 3, opened := 0, ended := [0, 1] }
     let d := fabDev (cellWords 1) { cells := [(17, { ctxs := [x], ledgerTag := some 3 })] }
     let k := (d.part 3).stop.compute 17
     k.usesB = true ∧ k.combine = false ∧ k.family = .float ∧
     after (.tileCapture 3 17) d (fun d => (d.cell 3 17).conv.isSome && (d.cell 3 17).tilesDone == 1)) ∧
    (let r : VecRow := { tag := 3, row := 0, pc := 1, regs := [zeroRow], last := false }
     let c : Chan := ⟨17, 4, false, 0⟩
     let d := fabDev (cellWords 1) { cells := [(17, { vec := some r })], spent := [(c.key, 4)] }
     let k := (d.part 3).stop.compute 17
     k.fmtOut ≠ Fmt.raw ∧ k.vlen ≤ r.pc ∧ d.outFree 3 17 false 0 = true ∧ (d.fab 3).credit c = false ∧
     after (.vectorRowOutput 3 17) d (fun d =>
       (d.cell 3 17).vec.isNone && (Table.getD (d.fab 3).outs c.key []).length == 2)) := by decide +kernel

/-- A row of 64 ones of FP32 in v0, of twos in v1. -/
def rowOf (code : Nat) : Device :=
  fabDev (cellWords code)
    { cells := [(17, { vec := some { tag := 3, row := 0, regs := [List.replicate 64 0x3F800000#32, List.replicate 64 0x40000000#32,
                                                                   zeroRow], last := true } })] }

/-- Lane 0 of register v1 after the instruction, and that the row moved on. -/
def lane0 (v : Word) (d : Device) : Bool :=
  (d.cell 3 17).vec.any (fun r => r.pc == 1 && (r.regs.getD 1 []).getD 0 0 == v)

theorem witness_VectorInstructionsExecute :
    (rowOf 1).live 3 = true ∧ 0 < (((rowOf 1).part 3).stop.compute 17).vlen ∧
    (List.range 13).all (fun c => (vInstr (((rowOf c).part 3).stop.cellWord 17 8)).code == c) = true ∧
    after (.vecNop 3 17) (rowOf 0) (lane0 0x40000000#32) ∧ after (.vecAdd 3 17) (rowOf 1) (lane0 0x3F800000#32) ∧
    after (.vecMul 3 17) (rowOf 2) (lane0 0#32) ∧ after (.vecFma 3 17) (rowOf 3) (lane0 0x3F800000#32) ∧
    after (.vecMax 3 17) (rowOf 4) (lane0 0x3F800000#32) ∧ after (.vecMin 3 17) (rowOf 5) (lane0 0#32) ∧
    after (.vecRowmax 3 17) (rowOf 6) (lane0 0x3F800000#32) ∧ after (.vecRowsum 3 17) (rowOf 7) (lane0 0x42800000#32) := by
  decide +kernel

theorem witness_VectorUnaryInstructions :
    after (.vecExp 3 17) (rowOf 8) (fun d => (d.cell 3 17).vec.any (fun r => r.pc == 1)) ∧
    after (.vecRecip 3 17) (rowOf 9) (fun d => (d.cell 3 17).vec.any (fun r => r.pc == 1)) ∧
    after (.vecRsqrt 3 17) (rowOf 10) (fun d => (d.cell 3 17).vec.any (fun r => r.pc == 1)) ∧
    after (.vecMaskapply 3 17) (rowOf 11) (lane0 0xFF800000#32) ∧
    after (.vecMove 3 17) (rowOf 12) (lane0 0x3F800000#32) := by decide +kernel

theorem witness_VectorResults :
    (let regs : List (List Word) := [[1#32], [2#32], [3#32]]
     (vInstr 3).op = 3 ∧ (vInstr 11).op = 11 ∧ (regs.getD 0 zeroRow)[0]? = some 1#32 ∧
     (regs.getD 0 zeroRow).length = (regs.getD 1 zeroRow).length) := by decide +kernel

/-- The memory cell at site 16: read generator 0 affine, write generators 4 affine and 5 accumulating. -/
def memWords : Table Nat :=
  [(0x6D00, 1 + 8), (0x6D04, 1 + 8 * 7), (0x6D08, 64), (0x6D04 + 24 * 4, 1), (0x6D08 + 24 * 4, 10), (0x6D04 + 24 * 5, 3),
   (0x6D08 + 24 * 5, 12)]

theorem witness_MemoryCellsReadAndWriteT1 :
    (let d := fabDev memWords { cells := [(16, { armed := [0] })] }
     let gc := (d.part 3).stop.gen (d.part 3).bounds 16 0
     siteKind 16 = .memory ∧ (d.part 3).stop.enabled 16 = true ∧ gc.mode = 1 ∧ gc.trigger = 0 ∧ 0 < gc.total ∧
     after (.generatorRunStart 3 16 0) d (fun d =>
       (d.cell 3 16).accs == [{ path := 3, gen := 0, addr := 64 }] && (d.cell 3 16).armed.isEmpty)) ∧
    (let a : Access := { path := 2, gen := 4, addr := 16, tok := tokA }
     let d := fabDev memWords { cells := [(16, { accs := [a] })] }
     nextAccess 0 (d.cell 3 16).accs = some a ∧
     after (.bankAccess 3 16 0) d (fun d => (d.cell 3 16).accs.isEmpty && d.readNat (t1Key 3 16 16) 64 == 5)) ∧
    (let c (n : Nat) : Chan := ⟨16, 5, false, n⟩
     let d := fabDev memWords { bufs := [((c 0).key, [tokA]), ((c 1).key, [tokA])]
                                cells := [(16, { gens := [(4, { tag := 0 }), (5, { tag := 0 })] })] }
     ((d.part 3).stop.gen [] 16 4).mode = 1 ∧ ((d.part 3).stop.gen [] 16 5).mode = 3 ∧
     after (.t1WriteToken 3 16 4) d (fun d => d.readNat (t1Key 3 16 10) 64 == 5 && (Table.find? (d.cell 3 16).gens 4).isNone) ∧
     after (.accumulateWrite 3 16 5) d (fun d => d.readNat (t1Key 3 16 12) 64 == 5)) ∧
    (let a (n : Nat) : Access := { path := 3, gen := 0, addr := 64, reissues := n }
     after (.t1ParityReissue 3 16 0) (fabDev memWords { cells := [(16, { accs := [a 1] })] }) (fun d =>
       (d.cell 3 16).accs == [a 2] && d.reg64 (prtOff 3 PRT_T1_REISSUE_COUNT_LO) == 1) ∧
     after (.t1ParityReissue 3 16 0) (fabDev memWords { cells := [(16, { accs := [a 2] })] }) (fun d =>
       (d.fab 3).halted && d.regField (prtOff 3 PRT_FABRIC_FAULT) 7 0 == 0x21)) := by decide +kernel

/-! ### Valves -/

/-- A SELECT valve at site 80 on vector data channels 0 to 3, outputs 0 to 3, 4 entries, PAIR_LIMIT 9. -/
def valveWords : Table Nat := [(0xCF00, 2 + 8 + 2 ^ 8 * 15 + 2 ^ 12 * 15), (0xCF04, 4 + 2 ^ 16 * 9)]

def parkedTok : VTok := { input := 0, pkt := 0, tok := tokA, stored := true }

theorem witness_ValvesPairAndFire :
    (let c : Chan := ⟨80, 5, false, 0⟩
     let d := fabDev valveWords { wires := [(c.key, [tokA])] }
     let k := (d.part 3).stop.valve 80
     d.valveLive 3 80 = true ∧ (d.part 3).stop.enabled 80 = true ∧ k.input false 0 = some 0 ∧ k.kind = .select ∧ 0 < k.bound ∧
     after (.valveTokenArrival 3 80 false 0) d (fun d =>
       (d.valve 3 80).toks == [parkedTok] && (d.valve 3 80).openTags == [3] && (d.valve 3 80).highWater == 1)) ∧
    (let v : Valve := { toks := [parkedTok], pkts := [{ id := 0, input := 0, tag := 3, ended := true, pair := some 2 }] }
     let d := fabDev valveWords { cells := [(80, { valve := v })], spent := [((⟨80, 4, false, 2⟩ : Chan).key, 4)] }
     let k := (d.part 3).stop.valve 80
     (k.pick (d.valve 3 80)).map (fun q => (q.started, q.pair)) = some (false, some 2) ∧ bitOf k.outMask (2 % 4) = true ∧
     k.pick v = some { id := 0, input := 0, tag := 3, ended := true, pair := some 2 } ∧
     Valve.nextTok k v { id := 0, input := 0, tag := 3, ended := true, pair := some 2 } = some parkedTok ∧
     d.outFree 3 80 k.dataScalar 2 = true ∧ (d.fab 3).credit ⟨80, 4, k.dataScalar, 2⟩ = false ∧
     after (.valveBeat 3 80 true) d (fun d => Table.getD (d.fab 3).outs (Chan.key ⟨80, 4, false, 2⟩) [] == [tokA]) ∧
     after (.valveBeat 3 80 false) d (fun d => (d.fab 3).halted && d.regField (prtOff 3 PRT_FABRIC_FAULT) 7 0 == 0x24)) ∧
    (let v : Valve := { toks := [parkedTok], pkts := [{ id := 0, input := 0, tag := 3, ended := true }] }
     let d := fabDev valveWords { cells := [(80, { valve := v })] }
     ((d.valve 3 80).aging ((d.part 3).stop.valve 80))[0]? = some parkedTok ∧
     after (.valvePairingTimeout 3 80 0 false) d (fun d =>
       d.regField (prtOff 3 PRT_VALVE_TIMEOUT) 11 0 == 3 && d.regField (prtOff 3 PRT_FABRIC_FAULT) 7 0 == 0x23)) ∧
    (let d := (fabDev valveWords {}).setReg (portKey (prtOff 3 PRT_CELL_SEL) .pf) 80
     d.selSite .pf 3 = 80 ∧
     after (.prtValveClearHw .pf 3) (d.modValve 3 80 (fun v => { v with highWater := 4 })) (fun d => (d.valve 3 80).highWater == 0) ∧
     after (.prtValvePeakClear 3) (d.setReg (prtOff 3 PRT_VALVE_PEAK) 7) (fun d => d.reg (prtOff 3 PRT_VALVE_PEAK) == 0)) := by
  decide +kernel

/-! ### Rings -/

/-- Tile port 2 with rings in0 and out0 of 2 slots of one token, at homes 1 and 2. -/
def ringWords : Table Nat :=
  [(0xD540, 8 + 3), (0xD544, 1 + 2 + 32), (0xD54C, 1 + 2 + 64), (0xD554, 1), (0xD558, 1), (0xD55C, 5)]

def ringStep (mode base : Nat) : StepRec :=
  { id := 1, stopId := 8, part := 0, cls := 0, engine := 0, wc := 0, cross := 0, circuits := 0, t1 := 0, queueBytes := 0
    queues := 0, checkpoints := 0
    rings := [{ port := 2, ch := 0, fills := 3, mode := mode, slot := 255, base := base, list := 64, bytes := 64 }] }

def oneStep : StepInst := { uid := 4, job := 1, image := 1, stepId := 1, stopId := 8, cls := 0, chain := 0, order := 0 }

/-- `fabDev` with job 1's step running, and rings. -/
def ringDev (mode base : Nat) (rings : Table Ring) : Device :=
  let d := fabDev ringWords { spent := [((⟨2, 4, false, 0⟩ : Chan).key, 4)], bufs := [((⟨2, 5, false, 0⟩ : Chan).key, [tokA])] }
  { d.modPart 3 (fun x => { x with job := 1, running := some oneStep, rings := rings }) with
    nextUid := 50, images := [(1, { job := 1, fn := 0, ready := true, parts := [3], addr := 0, len := 0, secStops := 0, t1 := []
                                    qkib := [], queues := [], steps := [ringStep mode base] })] }

theorem witness_RingsFillInjectAndDrain :
    (let d := ringDev 3 0 []
     ((d.part 3).stop.ring 2 0).map (fun c => (c.slots, c.tokens, c.home, c.tagBase)) = some (2, 1, 1, 5) ∧
     ((d.part 3).stop.ring 2 2).isSome = true ∧ (d.nextFill 3 2 0).map (fun x => (x.1.uid, x.2.2)) = some (4, 0) ∧
     after (.ringFillIssue 3 2 0) d (fun d =>
       (d.portRing 3 2 0).fills == [{ index := 0, uid := 50, step := 4, bytes := 64, src := none }])) ∧
    (let d := ringDev 0 (selfAddr 1 128) []
     let a := unsignedOf 64 (((selfAddr 1 128 : Nat) : Int) + 0 * signedOf 64 64)
     d.ringRefusal 3 a 64 false = 0 ∧ d.isSelf (addrDevice a) = true ∧
     after (.ringFillIssue 3 2 0) d (fun d => (d.mover 50).ringWork == [50])) ∧
    (let d := ringDev 0 (2 ^ 57 * 3) []
     d.ringRefusal 3 (2 ^ 57 * 3) 64 false = 0x0110 ∧
     after (.ringFillIssue 3 2 0) d (fun d =>
       (d.portRing 3 2 0).stopped && d.reg (regKey (prtOff 3 PRT_RING_STATUS) (ringKey 2 0)) == 2 ^ 31 + 0x0110)) ∧
    (let f : Fill := { index := 0, uid := 50, step := 4, bytes := 64, src := some (selfAddr 1 128) }
     let d := { ringDev 3 0 [(8, { nextFill := 1, fills := [f] })] with mem := [(memKey 1 128, 7)] }
     d.readAny 50 0 (selfAddr 1 128) 64 = .bytes (7 :: List.replicate 63 0) ∧
     after (.ringFillComplete 3 2 0) d (fun d =>
       (d.portRing 3 2 0).tail == 1 && d.readNat (3 * 0x4000000 + 0x80000) 64 == 7)) ∧
    (let f : Fill := { index := 0, uid := 50, step := 4, bytes := 64, src := none, done := true }
     let d := ringDev 3 0 [(8, { nextFill := 1, tail := 1, fills := [f] })]
     d.cutDue 3 oneStep = false ∧ (d.fab 3).credit ⟨2, 4, false, 0⟩ = false ∧
     after (.ringInject 3 2 0) d (fun d =>
       (d.portRing 3 2 0).head == 1 &&
       Table.getD (d.fab 3).outs (Chan.key ⟨2, 4, false, 0⟩) [] == [{ payload := 0, tag := 5, fin := true }])) ∧
    (let d := ringDev 3 0 []
     ((d.portRing 3 2 2).openSlot ⟨2, 2, 0, 1, 0⟩ oneStep (d.ringEntry oneStep 2 2)).map (·.tokens) = some 0 ∧
     after (.outboundToken 3 2 2) d (fun d =>
       (d.portRing 3 2 2).outs.map (·.closed) == [true] && d.readNat (3 * 0x4000000 + 2 * 0x80000) 64 == 5)) ∧
    (let o : OutSlot := { index := 0, step := 4, nth := 0, tokens := 1, closed := true, committed := true, mode := 0
                          base := selfAddr 1 256, uid := 60 }
     let d := ringDev 3 0 [(10, { tail := 1, commit := 1, outs := [o] })]
     d.ringRefusal 3 (unsignedOf 64 ((selfAddr 1 256 : Nat) : Int)) 64 true = 0 ∧
     after (.ringWriteOut 3 2 2) d (fun d =>
       (d.portRing 3 2 2).keep == 1 && d.flight.map (·.addr) == [selfAddr 1 256])) := by decide +kernel

/-! ### The queue unit -/

/-- Partition 3 with tile port 2 pushing to and popping from queue 9, a job, and a queue unit. -/
def queueDev (u : QueuePart) (f : Fabric := {}) : Device :=
  let d := fabDev [(0xD540, 8 + 3 + 2 ^ 6 + 2 ^ 7 + 2 ^ 20 * 2)] f
  { d.modPart 3 (fun x => { x with
      job := 1, running := some oneStep
      slots := Table.mapVals x.slots (fun _ y => { y with cfg := { y.cfg with bindings := [⟨9, false, true, true, 8, 4⟩] } }) }) with
    queues := [(3, u)] }

def q9 : Queue := { base := 0, capacity := 8, maxPacket := 4 }
def word1 : List Byte := 7 :: List.replicate 63 0
def pkt1 : Packet := { producer := 5, seq := 1, level := 2, words := [word1], order := 1, visible := true }

theorem witness_QueuePortsMoveWords :
    (let d := queueDev { queues := [(9, q9)] } { bufs := [((⟨2, 5, false, 2⟩ : Chan).key, [tokA])] }
     bitOf ((d.part 3).tileWord 2) 6 = true ∧
     ((d.part 3).bindingQueue (bitsOf ((d.part 3).tileWord 2) 13 8)).map (·.queue) = some 9 ∧
     after (.pushTokenArrival 3 2) d (fun d =>
       (d.qpart 3).incoming == [{ queue := 9, producer := 50, level := 2, bytes := tokA.bytes, fin := true }])) ∧
    (let d (x : Queue) := queueDev { queues := [(9, x)], incoming := [{ queue := 9, producer := 50, level := 2, bytes := word1, fin := true }] }
     (q9.verdict 50 none).1 = .accepted 1 ∧ q9.packetWords + 1 ≤ q9.capacity - 1 ∧
     after (.queueWordWrite 3) (d q9) (fun d =>
       (d.queue? 3 9).any (fun x => x.packets == [{ producer := 50, seq := 1, level := 2, words := [word1] }])) ∧
     after (.queueWordWrite 3) (d { q9 with capacity := 1 }) (fun d =>
       (d.queue? 3 9).any (fun x => x.packets.isEmpty && x.marker.isSome) && d.reg (regKey QUE_DROP_COUNT (queInst 3 9)) == 1)) ∧
    (let x : Queue := { q9 with packets := [{ pkt1 with visible := false, order := 0 }] }
     indexWhere (fun y : Packet => !y.visible) 0 x.packets = some 0 ∧
     after (.packetVisible 3 9 false) (queueDev { queues := [(9, x)] }) (fun d =>
       (d.queue? 3 9).any (fun x => x.packets == [pkt1] && x.nextOrder == 2)) ∧
     after (.packetVisible 3 9 false) (queueDev { queues := [(9, { x with notify := 1, notifyArg := 6 })] }) (fun d =>
       d.eventCount 6 == 1)) ∧
    (let r : PopRun := { col := 2, queue := 9, reads := 2, tagStep := true }
     let d (x : Queue) := queueDev { queues := [(9, x)], pops := [r] } { spent := [((⟨2, 4, false, 2⟩ : Chan).key, 4)] }
     ({ q9 with packets := [pkt1] } : Queue).nextItem = some (.packet 0 pkt1) ∧ (d q9).outFree 3 2 false 2 = true ∧
     ((d q9).fab 3).credit ⟨2, 4, false, 2⟩ = false ∧
     after (.popPortChoose 3 2 0 none) (d { q9 with packets := [pkt1] }) (fun d =>
       Table.getD (d.fab 3).outs (Chan.key ⟨2, 4, false, 2⟩) [] == [{ payload := 7, fin := true }] &&
       (d.qpart 3).pops.map (·.done) == [1] && (d.queue? 3 9).any (fun x => x.held == [pkt1])) ∧
     after (.stallMarkerTimeout 3 2) (d { q9 with stallLimit := 3 }) (fun d =>
       (d.qpart 3).pops.map (·.done) == [1] && d.reg (regKey QUE_STALL_COUNT (queInst 3 9)) == 1)) ∧
    (let r : PopRun := { col := 2, queue := 9, reads := 2, tagStep := true }
     let d (r : PopRun) := queueDev { queues := [(9, q9)], pops := [r] } { bufs := [((⟨2, 5, false, 3⟩ : Chan).key, [tokA])] }
     after (.popSkipToken 3 2) (d { r with current := some { pkt1 with words := [word1, word1] } }) (fun d =>
       (d.qpart 3).pops.map (·.skip) == [true] && d.reg (regKey QUE_SKIP_COUNT (queInst 3 9)) == 1) ∧
     after (.popSkipToken 3 2) (d r) (fun d => d.reg (regKey QUE_SKIP_IGNORED (queInst 3 9)) == 1)) := by decide +kernel

def entry30 : List Byte := [0x30, 0, 0, 0, 7, 0, 0, 0, 3, 9, 0, 0, 8, 0, 0, 0, 4]
def entry31 : List Byte := [0x31, 0, 0, 0, 7, 0, 0, 0, 3, 9]
def entry32 : List Byte := [0x32, 0, 0, 0, 7, 0, 0, 0, 3, 9, 2, 0, 1, 0, 0, 0] ++ leBytes 8 (selfAddr 1 128) ++ [1]
def entry33 : List Byte := [0x33, 0, 0, 0, 7, 0, 0, 0, 3, 9, 0, 0, 2, 0, 0, 0] ++ leBytes 8 (selfAddr 1 128)
def entry34 : List Byte := [0x34, 0, 0, 0, 7, 0, 0, 0, 3, 9]

theorem witness_QueueCommandsComplete :
    (let d := withEntry (queueDev { carved := true, region := 100 }) entry30
     let e := staged 1 entry30
     d.startable .mgmt 0x30 = some e ∧ e.op 8 1 = 3 ∧ e.op 9 1 = 9 ∧ e.op 16 4 = 4 ∧ (d.qpart 3).firstFit (e.op 12 4) = some 0 ∧
     after (.queueCreate .mgmt) d (fun d => d.queue? 3 9 == some q9 && answered d 0)) ∧
    (let d (x : Queue) := withEntry (queueDev { queues := [(9, x)] }) entry31
     (d q9).startable .mgmt 0x31 = some (staged 1 entry31) ∧
     after (.queueDestroy .mgmt) (d q9) (fun d => (d.queue? 3 9).isNone && answered d 0) ∧
     after (.queueDestroy .mgmt) (d { q9 with image := 1 }) (fun d => answered d 0x0405)) ∧
    (let d := { withEntry (queueDev { queues := [(9, q9)] }) entry32 with mem := [(memKey 1 128, 7)] }
     let e := staged 1 entry32
     d.startable .mgmt 0x32 = some e ∧ e.op 24 4 = 1 ∧ d.isSelf (addrDevice (e.op 16 8)) = true ∧ addrSpace (e.op 16 8) = 1 ∧
     d.poisonIn (localKey (e.op 16 8)) 64 = none ∧ (q9.verdict (Origin.producer .mgmt) (some (e.op 12 4))).1 = .accepted 1 ∧
     after (.queuePush .mgmt 0 none) d (fun d => answered d 0 &&
       (d.queue? 3 9).any (fun x => x.packets == [{ producer := 0x7001, seq := 1, level := 2, words := [word1] }]))) ∧
    (let d (x : Queue) := withEntry { queueDev { queues := [(9, x)] } with jobs := [(1, { state := .running })] } entry33
     let e := staged 1 entry33
     (d q9).startable .mgmt 0x33 = some e ∧ (d q9).waitingPop .mgmt = none ∧ (d q9).popFault 3 = none ∧
     (d q9).isReadOnly (e.op 16 8) 128 = false ∧ e.op 12 4 = 2 ∧ q9.nextItem = none ∧
     after (.queuePop .mgmt 0 none) (d { q9 with packets := [pkt1] }) (fun d =>
       d.readNat (memKey 1 128) 64 == 7 && answered d 0) ∧
     after (.queuePop .mgmt 0 none) (d q9) (fun d => answered d 0x0403) ∧
     after (.queuePop .mgmt 0 none) (d { q9 with stallLimit := 4 }) (fun d =>
       (d.queue? 3 9).any (fun x => x.waiting.length == 1))) ∧
    (let c := (staged 1 entry33).cmd
     let d := queueDev { queues := [(9, { q9 with waiting := [(c, 2, selfAddr 1 128)] })] }
     d.waitingPop .mgmt = some (3, 9, c, 2, selfAddr 1 128) ∧
     after (.queuePopTimeout .mgmt) d (fun d => answered d 0x0403 && (d.queue? 3 9) == some q9)) ∧
    (let d (x : Queue) := withEntry (queueDev { queues := [(9, x)] }) entry34
     (d q9).startable .mgmt 0x34 = some (staged 1 entry34) ∧
     after (.queueSkip .mgmt) (d { q9 with current := some (Origin.key .mgmt, pkt1) }) (fun d =>
       answered d 0 && d.queue? 3 9 == some q9 && d.reg (regKey QUE_SKIP_COUNT (queInst 3 9)) == 1) ∧
     after (.queueSkip .mgmt) (d q9) (fun d => answered d 0 && d.reg (regKey QUE_SKIP_IGNORED (queInst 3 9)) == 1)) := by
  decide +kernel

/-! ### The breath -/

def breathDev (source : Nat) (t : Timer) : Device :=
  ({ up with timer := { t with on := true, begun := true }, breath := 41 } : Device).setReg (regKey BRT_SRC 1) source

/-- Sets bit `i` of a register and field values, for test devices. -/
def withRegs (d : Device) (l : List (Nat × Nat)) : Device := l.foldl (fun d e => d.setReg e.1 e.2) d

theorem witness_BreathsAndTheirRegisters :
    (let d := breathDev 0 { heldPeriod := some 200 }
     d.source = 0 ∧ d.timer.begun = true ∧
     after (.breathStart []) { d with buckets := [(0, { on := true, refill := 2, cap := 10, bal := -5 })] } (fun d =>
       d.breath == 42 && d.period == 200 && (d.bucket 0 0).bal == 8187)) ∧
    (let d := breathDev 1 {}
     d.source = 1 ∧ d.period = 100 ∧
     after (.breathHoldover []) d (fun d => d.breath == 42 && d.regField BRT_STATUS 31 31 == 1 && d.reg BRT_IN_MISS == 1) ∧
     after (.breathInEdge 100) d (fun d => d.timer.edge) ∧
     after (.breathInEdge 100) { d with timer := { d.timer with edge := true } } (fun d => d.reg BRT_IN_EARLY == 1)) ∧
    (let d := (breathDev 0 {}).setReg BRT_PIN 1
     d.source ≠ 1 ∧ d.regField BRT_PIN 0 0 = 1 ∧ after .traceTrigEdge d (fun d => d.timer.traceTriggers == 1)) ∧
    (let d := withRegs (breathDev 2 { announced := true }) [(regKey PLV_PORT_STATUS 3, 6 * 2 ^ 29), (PLV_TICK_PORTS, 8)]
     d.source = 2 ∧ d.portUp 3 = true ∧ bitOf (d.reg PLV_TICK_PORTS) 3 = true ∧
     after (.domainTick 3 50 100 0 7) d (fun d => d.timer.tick == some ⟨50, 100, 0⟩ && d.reg PLV_TICK_SKEW == 7) ∧
     after (.periodNak 3) d (fun d => (d.link 3).nakPeriod && d.timer.nak)) := by decide +kernel

theorem witness_BreathsAndTheirRegisters_registers :
    (let d := breathDev 0 {}
     Port.operates .pf = true ∧ d.couldRun 200 = true ∧ d.couldRun 30 = false ∧ d.sourceComing = 0 ∧ d.isMaster = false ∧
     after (.brtPeriodWrite .pf 200) d (fun d => d.timer.heldPeriod == some 200 && d.period == 100) ∧
     after (.brtPeriodWrite .pf 30) d (fun d => d.regField BRT_STATUS 30 30 == 1) ∧
     after (.brtSrcWrite .pf 1) d (fun d => d.timer.heldSource == some 1)) ∧
    (let d := (breathDev 0 {}).setReg (portKey SCH_ARB_SEL .pf) 4
     d.budgetLimit = 96000 ∧
     after (.schArbBudgetWrite .pf 3 300) d (fun d => d.reg (regKey (SCH_ARB_BUDGET + 12) 4) == 300) ∧
     after (.schArbBudgetWrite .pf 3 99000) d (fun d => d.regField (portKey SCH_ARB_SEL .pf) 31 31 == 1)) ∧
    (after (.regulatorWrite .pf 3 1 0 (2 ^ 31 + 5)) (breathDev 0 {}) (fun d =>
      (d.bucket 3 1).held && d.reg (prtOff 3 (PRT_REG_CTRL + 0x20)) == 2 ^ 31)) ∧
    (after (.domainConfigWrite .mgmt 8 6) (withRegs (breathDev 0 {}) [(PLV_DOMAIN_CFG, 2 ^ 31 + 1)]) (fun d =>
      d.reg PLV_MEMBERS == 6 && d.reg HUB_DEVICE_INDEX == 2 ^ 31 + 1)) ∧
    (after (.domainConfigWrite .mgmt 8 6) { breathDev 0 {} with circuits := [(0, { ends := false })] } (fun d =>
      d.regField PLV_DOMAIN_CFG 30 30 == 1)) := by decide +kernel

/-! ### Fabric steps -/

/-- Partition 3 with image 1's stop 8 active, one step admitted, and a step record with the given bounds. -/
def stepDev (bounds : List BoundRec) (f : Partition → Partition) : Device :=
  let d := ringDev 3 0 []
  { d.modPart 3 (fun x => f { x with running := none, fabric := {}, admitted := [oneStep] }) with
    images := Table.mapVals d.images (fun _ x =>
      { x with steps := x.steps.map (fun r => { r with bounds := bounds, rings := [] }), stops := [⟨8, 0, 0, 0, some 2, none, {}⟩] }) }

def bound5 : BoundRec := { source := 0, op := 0, div := 1, add := 1, min := 0, max := 10, arg := 4 }

theorem witness_FabricStepsRun :
    (let d := stepDev [bound5] id
     d.nextStep 3 = some oneStep ∧ (d.part 3).runs oneStep = true ∧ (d.stepRec oneStep).map (·.bounds.length) = some 1 ∧
     d.readBounds 3 0 [bound5] = .ok [5] ∧
     after (.stepIssue 3) d (fun d =>
       (d.part 3).running == some { oneStep with bounds := [5], bound := true } && (d.part 3).admitted.isEmpty)) ∧
    (let b := { bound5 with max := 3 }
     let d := stepDev [b] id
     d.readBounds 3 0 [b] = .out 0 1 5 ∧ d.chain? 0 = none ∧
     after (.stepIssue 3) d (fun d =>
       d.regField (prtOff 3 PRT_BOUND_STATUS) 9 8 == 1 && d.reg (prtOff 3 PRT_BOUND_VALUE) == 5 && (d.part 3).running.isNone)) ∧
    (let d := stepDev [] (fun x => { x with active := some 1, slots := [(0, { state := .ready, stopId := 8, image := 1 }),
                                                                         (1, { state := .active, stopId := 9, image := 1 })] })
     (d.part 3).runs oneStep = false ∧ d.slotOf 3 1 8 = some 0 ∧ d.switchRefusal 3 0 = 0 ∧ d.nextStep 3 = some oneStep ∧
     after (.stepIssue 3) d (fun d => (d.part 3).switch == some { target := 0 })) ∧
    (let d := stepDev [] (fun x => { x with running := some oneStep, admitted := [], rings := [(8, { tail := 1 })] })
     d.stepDone 3 oneStep = true ∧ d.validRoutes = [] ∧ after (.stepCommit 3) d (fun d => (d.part 3).running.isNone)) := by
  decide +kernel

theorem witness_FabricStepsRun_replay :
    (let d := stepDev [] (fun x => { x with running := some oneStep, job := 0 })
     (d.job (d.part 3).job).state = .none ∧ siteKind 17 = .compute ∧ (d.part 3).stop.accumulates = false ∧
     after (.stepOverrun 3) d (fun d => (d.fab 3).halted && d.regField (prtOff 3 PRT_FABRIC_FAULT) 7 0 == 0x27) ∧
     after (.ledgerParityFailure 3 1 17) d (fun d =>
       (d.part 3).replay == some { oneStep with attempt := 1 } && d.reg (prtOff 3 PRT_STEP_REPLAY_COUNT) == 1 &&
       d.regField (prtOff 3 PRT_REPLAY_STATUS) 30 28 == 1)) ∧
    (let d := stepDev [] (fun x => { x with running := some { oneStep with attempt := 2 }, job := 0 })
     after (.ledgerParityFailure 3 1 17) d (fun d => d.regField (prtOff 3 PRT_FABRIC_FAULT) 7 0 == 0x26)) ∧
    (let d := stepDev [] (fun x => { x with replay := some oneStep })
     after (.stepReplayReissue 3 true) d (fun d => (d.part 3).running == some oneStep) ∧
     after (.stepReplayReissue 3 false) d (fun d => (d.part 3).parked)) := by decide +kernel

/-! ### Drone engines -/

/-- A Drone step record of partition 3 with one operation. -/
def droneRec (op : List Byte) : StepRec :=
  { id := 5, stopId := 0, part := 3, cls := 0, engine := 1, wc := 0, cross := 0, circuits := 0, t1 := 0, queueBytes := 0, queues := 0
    checkpoints := 0, ops := [op] }

def batch1 : BatchEntry :=
  { seq := 2, committed := 0, specK := 0, firstRow := 0, nextToken := 1, guesses := [], pages := [], scales := [], prefixPages := 0 }

/-- Drone 3 at the one operation of image 1's pass, on a batch of one row; one BF16 item of K 2 in T2. -/
def droneDev (op : List Byte) (st : DroneStep → DroneStep := id) : Device :=
  { up with
    images := [(1, { job := 1, fn := 0, ready := true, parts := [3], addr := 0, len := 0, secStops := 0, t1 := [], qkib := []
                     queues := [], steps := [droneRec op, droneRec []]
                     tiles := [{ id := 7, hint := 1, fmt := 6, sparse := false, panels := 1, k := 2, addr := 0, panelBytes := 8192
                                 scales := 0 }] })]
    groups := [(1, { job := 1, members := [3], batch := [batch1], admitted := 2, running := true })]
    drones := [(3, { step := some (st { uid := 1, job := 1, image := 1, stepId := 5, index := 0, rows := 1, longest := 1 }) })] }

def opOf (d : Device) : Nat := match (d.drone 3).step with | some y => y.op | none => 99

theorem witness_DroneOperationsExecute :
    (let op : List Byte := [0x48, 0, 0, 0, 0, 0, 0, 0, 7, 0, 0, 0, 0, 0, 1, 0, 0, 0, 0, 0, 2, 0, 0, 0, 0, 1, 0, 0, 0, 8]
     let d := droneDev op
     let d := { d with images := Table.mapVals d.images (fun _ x => { x with tiles := x.tiles.map (fun t => { t with fmt := 0 }) }) }
     d.droneHalted 3 = false ∧ ((d.drone 3).step.bind (d.droneOpAt 3)) = some op ∧ (MatOp.ofBytes op).item = 7 ∧
     after (.dMatmul 3) d (fun d => opOf d == 1)) ∧
    (after (.dAttn 3) (droneDev [0x49]) (fun d => (d.drone 3).step.any (fun y => y.exchange == some (3, 0, 0, 0)))) ∧
    (after (.dExchange 3) (droneDev [0x4A, 0, 0, 0, 0, 0, 0, 0, 2, 0, 0, 0, 64]) (fun d =>
      (d.drone 3).step.any (fun y => y.exchange == some (2, 64, 0, 0)))) ∧
    (after (.dKvWrite 3) (droneDev [0x4B]) (fun d => opOf d == 1 && d.mem.isEmpty)) ∧
    (after (.dVector 3) (droneDev [0x4C]) (fun d => opOf d == 1)) ∧
    (after (.dEmbed 3) { droneDev [0x4D, 0, 0, 0, 0, 0, 0, 0, 7] with mem := [(memKey 1 (3 * 0x1000000000 + 2), 9)] } (fun d =>
      opOf d == 1 && d.readNat (drnKey 3 0) 2 == 9)) ∧
    (after (.dSample 3) (droneDev [0x4E]) (fun d => opOf d == 1 && d.rows.length == 1)) ∧
    (after (.dPush 3) (droneDev [0x4F, 0, 0, 0, 0, 0, 0, 0, 3, 9, 0, 0, 0, 0, 0, 0, 1]) (fun d =>
      opOf d == 1 && (d.drone 3).pushSeq == [(777, 2)])) := by decide +kernel

theorem witness_DroneStepsRun :
    (let d := { droneDev [] with drones := [] }
     (d.group? 1).any (fun g => g.nextStep < g.admitted && g.members == [3]) ∧
     d.readBounds 3 0 (passBounds (droneRec []) 1 1) = .ok [] ∧
     after (.droneStepIssue 1) d (fun d => (d.drone 3).step.any (fun y => y.stepId == 5 && y.rows == 1))) ∧
    (after (.exchangeComplete 1 40) (droneDev [0x4A] (fun y => { y with exchange := some (0, 0, 64, 128) })) (fun d =>
      opOf d == 1 && (d.drone 3).step.any (fun y => y.exchange.isNone) && d.reg (drnOff 3 DRN_EXCH_MAX) == 40)) ∧
    (let d := droneDev [] (fun y => { y with op := 1 })
     ((d.drone 3).step.any (fun y => (d.group? 1).any (d.droneDone 3 y))) ∧
     after (.droneStepCommit 3) d (fun d => (d.drone 3).step.isNone && (d.group? 1).any (fun g => g.nextStep == 1))) ∧
    (let d := { droneDev [] (fun y => { y with op := 1 }) with groups := [(1, { job := 1, members := [3, 4], batch := [batch1] })] }
     let d := { d with drones := d.drones ++ [(4, d.drone 3)] }
     after (.droneStepCommit 3) d (fun d => (d.drone 3).step.isNone && (d.drone 4).step.isSome)) ∧
    (after (.droneStepOverrun 3) (droneDev []) (fun d => d.droneHalted 3)) ∧
    (after (.droneParityFailure 3 1) (droneDev [] (fun y => { y with op := 1 })) (fun d =>
      opOf d == 0 && d.reg (drnOff 3 DRN_REPLAY_COUNT) == 1)) := by decide +kernel

/-! ### Suspension, long operations, the Front schedule -/

def entry7A : List Byte := [0x7A, 0, 0, 0, 7, 0, 0, 0, 1]
def entry7B : List Byte := [0x7B, 0, 0, 0, 7, 0, 0, 0, 1]
def cmd7A : CmdRef := (staged 1 entry7A).cmd

/-- Image 1 of job 1 with a step of partition 3 that has checkpoints. -/
def cutImage : Image :=
  { stopImage with
    steps := [{ id := 5, stopId := 9, part := 0, cls := 0, engine := 0, wc := 0, cross := 0, circuits := 0, t1 := 0, queueBytes := 0
                queues := 0, checkpoints := 1
                rings := [{ port := 0, ch := 0, fills := 2, mode := 0, slot := 64, base := 0, list := 0, bytes := 0 }] }] }

theorem witness_JobsSuspendAndResume :
    (let d := withEntry (stopDev {}) entry7A
     d.startable .mgmt 0x7A = some (staged 1 entry7A) ∧ (staged 1 entry7A).op 8 4 = 1 ∧
     after (.jobSuspend .mgmt) d (fun d => (d.job 1).suspend == .suspending)) ∧
    (let d : Device := { up with jobs := [(1, { state := .running, suspend := .suspending, cmd := some cmd7A })] }
     d.jobQuiet 1 = true ∧ after (.saveStep 1) d (fun d => (d.job 1).suspend == .saving)) ∧
    (let d : Device := { stopDev { slots := readySlots, active := some 0 } with
       jobs := [(1, { state := .running, suspend := .saving, cmd := some cmd7A })] }
     d.jobParts 1 = [3] ∧
     after (.saveComplete 1) d (fun d => (d.part 3).slots.isEmpty && (d.part 3).job == 0 && answered d 0)) ∧
    (let d := withEntry { stopDev {} with jobs := [(1, { state := .running, suspend := .saved })]
                                          parts := [(3, {})] } entry7B
     d.startable .mgmt 0x7B = some (staged 1 entry7B) ∧ d.imageParts 1 = [3] ∧ (d.part 3).job = 0 ∧
     after (.jobResume .mgmt) d (fun d => (d.job 1).suspend == .resuming && (d.part 3).job == 1)) ∧
    (let d : Device := { stopDev {} with
       jobs := [(1, { state := .running, suspend := .resuming })]
       areas := [{ stack := 3, base := 0, bytes := 65536, use := .save 1 }]
       saves := [(saveInst 1 3, { fabric := {}, rings := [(4, {})], slots := [], active := none, epoch := 0, replay := none })] }
     d.jobParts 1 = [3] ∧ (d.saveKey 1 3).isSome ∧
     after (.restoreStep 1) d (fun d => (d.job 1).suspend == .restoring && (d.part 3).rings.length == 1)) ∧
    (let d : Device := { up with jobs := [(1, { state := .running, suspend := .restoring, cmd := some cmd7A })] }
     d.jobParts 1 = [] ∧ after (.restoreComplete 1) d (fun d => (d.job 1).suspend == .no && answered d 0)) ∧
    (let x : StepInst := { uid := 4, image := 1, job := 1, stepId := 5, stopId := 9, cls := 0, chain := 0, order := 0, carried := true }
     let d : Device := { stopDev { running := some x } with
       images := [(1, cutImage)], jobs := [(1, { state := .running, suspend := .suspending })] }
     d.checkpointOf 3 x = some 1 ∧ d.cutDue 3 x = true ∧ (d.fab 3).onlyLedgers = true ∧ d.taken 3 = 0 ∧
     after (.checkpointCut 3) d (fun d => (d.part 3).running.isNone && (d.part 3).replay.any (fun y => y.cut == 1))) := by
  decide +kernel

/-- Image 1 with one Front entry that is claimed: a TILE_LOAD of one panel on channel 2, or a STOP_LOAD of slot 1. -/
def frontImage (f : FrontRec) : Image :=
  { stopImage with
    front := [f]
    tiles := [{ id := 7, hint := 1, fmt := 6, sparse := false, panels := 1, k := 2, addr := 0, panelBytes := 8192, scales := 0 }] }

def frontDev (f : FrontRec) : Device :=
  { stopDev { front := [{ image := 1, index := 0, claimed := true }] } with images := [(1, frontImage f)] }

def tileLoad : FrontRec := { stepId := 5, lead := 1, kind := 0, part := 0, arg0 := 7, arg1 := 65536, arg2 := 0, arg3 := 2 }
def stopLoadRec : FrontRec := { stepId := 5, lead := 1, kind := 2, part := 0, arg0 := 9, arg1 := 1, arg2 := 0, arg3 := 0 }

theorem witness_FrontAndLongOperationsStep :
    (let d := frontDev tileLoad
     (d.frontOn 3).find? (fun e =>
        let y := d.frontEntry 3 e.1 e.2.2.1
        y.claimed && !y.started && !d.frontOccupied 3 e) = some (1, frontImage tileLoad, 0, tileLoad) ∧
     (d.mover (16 * 3 + 2)).queue.length +
       (match (frontImage tileLoad).tiles with | t :: _ => ((frontImage tileLoad).tileMoves 3 tileLoad t).length | [] => 99) = 1 ∧
     after (.frontLoadStart 3) d (fun d => (d.frontEntry 3 1 0).started && (d.mover 50).queue.length == 1)) ∧
    (let d := frontDev stopLoadRec
     d.loadRefusal 3 1 = 0 ∧
     after (.frontLoadStart 3) d (fun d => (d.frontEntry 3 1 0).started && (d.part 3).loads.length == 1)) ∧
    (let d : Device := { up with longOps := [{ id := 4, kind := .scrubT3, cls := 4 }], planned := [4], ddr := 4096000 }
     after (.longOpStep 4 100 false none) d (fun d => d.longOps.any (fun l => l.step == 100) && d.planned.isEmpty) ∧
     after (.longOpStep 4 100 false none) { d with planned := [] } (fun d => d.longOps.any (fun l => l.step == 0))) := by
  decide +kernel

/-! ### Serving and sampling -/

/-- A Drone step record of partition 3: a bound of 64 rows and 256 positions; D_SAMPLE of 4 tokens. -/
def serveRec : StepRec :=
  { droneRec [0x4E, 0, 0, 0, 0, 0, 0, 0, 0, 0, 0, 0, 0, 0, 0, 0, 4] with
    bounds := [{ source := 0, op := 0, div := 1, add := 0, min := 0, max := 64, arg := 0 }, { source := 0, op := 0, div := 1, add := 0, min := 0, max := 256, arg := 0 }] }

def serveImage : Image := { stopImage with steps := [serveRec] }

def serveDev : Device :=
  ({ stopDev {} with images := [(1, serveImage)], groups := [(1, { job := 1, members := [3] })] } : Device).setReg
    (drnOff 3 DRN_KV_FRAMES) 64

/-- GENERATE on image 1: a new sequence, a prompt of 2 tokens and 4 tokens to come; PREFIX_BUILD of 32 tokens. -/
def entry40 : List Byte :=
  [0x40, 0, 0, 0, 7, 0, 0, 0, 0, 0, 0, 0, 0, 0, 0, 0] ++ leBytes 8 (selfAddr 1 0) ++ [2, 0, 0, 0, 4, 0, 0, 0] ++
    leBytes 8 (selfAddr 1 1024) ++ leBytes 8 (selfAddr 1 2048) ++ [1]
def entry44 : List Byte := [0x44, 0, 0, 0, 7, 0, 0, 0] ++ leBytes 8 (selfAddr 1 0) ++ [32, 0, 0, 0, 1]
def entry45 : List Byte := [0x45, 0, 0, 0, 7, 0, 0, 0, 6]
def seqEntry (op : Byte) : List Byte := [op, 0, 0, 0, 7, 0, 0, 0, 5]

/-- A sampling block: temperature 0, top-p 1, nothing else. -/
def greedy : List Byte := padTo 64 ([0, 0, 0, 0] ++ leBytes 4 0x3F800000)

def poke (d : Device) (key : Nat) (l : List Byte) : Device := (d.writeBytes key l).land d.mem

def withSeq (q : Seq) : Device := { serveDev with seqs := [(seqKey 1 5, q)] }

theorem witness_RequestsAreAdmittedAndReleased :
    (let d := withEntry (poke serveDev (memKey 1 2048) greedy) entry40
     let e := staged 1 entry40
     d.startable .mgmt 0x40 = some e ∧ d.awaitingOp .mgmt 0x40 = none ∧ d.mirrorFull = false ∧
     d.resolveImage .mgmt (e.op 48 4) = .image 1 none ∧
     (match d.generateFrom e 1 none with | .ok r => decide (r = (1, { perPage := 1 }, 1, serveImage)) | .error _ => false) = true ∧ e.op 53 1 = 0 ∧ 2 ≤ serveImage.contextBound ∧
     (d.readOp e.cmd promptOff (e.op 16 8) (4 * e.op 24 4) none = .ok (List.replicate 8 0)) ∧
     d.readOp e.cmd 0 (e.op 40 8) 64 none = .ok greedy ∧ d.blockMalformed .mgmt greedy serveImage.vocab = false ∧
     d.opRange .mgmt (e.op 32 8) (4 * e.op 28 4) true = 0 ∧ d.isReadOnly (e.op 32 8) (4 * e.op 28 4) = false ∧
     (d.reservePages { perPage := 1 } serveImage.group 6).isSome ∧
     after (.generate .mgmt none none) d (fun d => (d.seq 1 1).state == .prefill && d.chains.length == 1)) ∧
    (let d := withEntry serveDev entry44
     let e := staged 1 entry44
     d.startable .mgmt 0x44 = some e ∧ d.awaitingOp .mgmt 0x44 = none ∧ d.resolveImage .mgmt (e.op 20 4) = .image 1 none ∧
     e.op 16 4 = 32 ∧ d.freeSeqId 1 = some 1 ∧ (d.reservePages { perPage := 1 } serveImage.group 32).isSome ∧
     d.readOp e.cmd 0 (e.op 8 8) (4 * e.op 16 4) none = .ok (List.replicate 128 0) ∧
     after (.prefixBuild .mgmt none) d (fun d => (d.seq 1 1).building && d.chains.length == 1)) ∧
    (let d := withEntry { serveDev with prefixes := [(6, { job := 1, image := 1, length := 32, pages := [], scales := [] })] } entry45
     d.startable .mgmt 0x45 = some (staged 1 entry45) ∧ (staged 1 entry45).op 8 4 = 6 ∧ serveImage.seen .mgmt = true ∧
     after (.prefixRelease .mgmt) d (fun d => d.prefixes.isEmpty && answered d 0)) := by decide +kernel

theorem witness_RequestsAreAdmittedAndReleased_states :
    (let d := withEntry (withSeq { state := .decode, image := 1 }) (seqEntry 0x41)
     d.startable .mgmt 0x41 = some (staged 1 (seqEntry 0x41)) ∧
     d.findSeq .mgmt 5 = some (1, { state := .decode, image := 1 }) ∧ (d.job 1).state = .running ∧
     after (.cancel .mgmt) d (fun d => (d.seq 1 5).cancelled && answered d 0)) ∧
    (after (.cancel .mgmt) (withEntry (withSeq { state := .idle, image := 1 }) (seqEntry 0x41)) (fun d => answered d 0)) ∧
    (after (.cancel .mgmt) (withEntry (withSeq { state := .lulling, image := 1 }) (seqEntry 0x41)) (fun d => answered d 0x1103)) ∧
    (after (.seqRelease .mgmt) (withEntry (withSeq { state := .idle, image := 1 }) (seqEntry 0x46)) (fun d =>
      d.seqs.isEmpty && answered d 0)) ∧
    (after (.seqRelease .mgmt) (withEntry (withSeq { state := .decode, image := 1 }) (seqEntry 0x46)) (fun d => answered d 0x1103)) ∧
    (let l := seqEntry 0x42 ++ [0, 0, 0, 0, 0, 0, 0] ++ leBytes 8 (selfAddr 2 0)
     let q : Seq := { state := .idle, image := 1, perPage := 1, committed := 40, pages := [0, 0] }
     let d := { withEntry (withSeq q) l with ddr := 2 ^ 30, parts := [(3, { job := 1, lull := 4096 })] }
     let a := (staged 1 l).op 16 8
     d.startable .mgmt 0x42 = some (staged 1 l) ∧ d.mapped a (q.shape.pages * 65536) = true ∧ d.reaches 0 (addrDevice a) = true ∧
     d.inWindow (some .mgmt) a (q.shape.pages * 65536) true = true ∧ d.isReadOnly a (q.shape.pages * 65536) = false ∧
     d.jobParts 1 = [3] ∧ after (.lull .mgmt) d (fun d => (d.seq 1 5).state == .lulling && d.longOps.length == 1)) ∧
    (after (.resume .mgmt) (withEntry (withSeq { state := .lulled, image := 1 }) (seqEntry 0x43)) (fun d =>
      (d.seq 1 5).state == .resuming && d.longOps.length == 1)) ∧
    (let d := fun op : Byte => withEntry serveDev (seqEntry op)
     (d 0x41).findSeq .mgmt 5 = none ∧
     after (.cancel .mgmt) (d 0x41) (fun d => answered d 0x1102) ∧ after (.seqRelease .mgmt) (d 0x46) (fun d => answered d 0x1102) ∧
     after (.lull .mgmt) (d 0x42) (fun d => answered d 0x1102) ∧ after (.resume .mgmt) (d 0x43) (fun d => answered d 0x1102)) := by
  decide +kernel

/-- An automaton with one state, vocabulary 4 and no edges, at the start of T2; MUTE_VALIDATE and SAMPLE_RUN on 4 logits. -/
def automaton1 : List Byte :=
  padTo 64 (leBytes 4 0x4554554D ++ [1, 0, 0, 0] ++ leBytes 4 4 ++ leBytes 4 1 ++ leBytes 4 0 ++ leBytes 4 1 ++ leBytes 4 64 ++
    leBytes 4 128 ++ leBytes 4 192)
def entry50 : List Byte := [0x50, 0, 0, 0, 7, 0, 0, 0] ++ leBytes 8 (selfAddr 1 0) ++ [4]
def entry51 : List Byte :=
  [0x51, 0, 0, 0, 7, 0, 0, 0] ++ leBytes 8 (selfAddr 1 0) ++ [4, 0, 0, 0] ++ leBytes 8 (selfAddr 1 2048) ++ [9]

def logits4 : List Word := [0x3F800000, 0xBF800000, 0x40000000, 0]
def row4 : SamplerRow := { job := 1, seq := 5, row := 0, pos := 7, image := 1, cols := [(0, logits4)] }

theorem witness_RowsAreSampledAndCommitted :
    (let d := withEntry (poke serveDev (memKey 1 0) automaton1) entry50
     d.startable .mgmt 0x50 = some (staged 1 entry50) ∧ d.automatonOk .mgmt (selfAddr 1 0) 4 = true ∧
     after (.muteValidate .mgmt) d (fun d => answered d 0) ∧
     after (.muteValidate .mgmt) (withEntry serveDev entry50) (fun d => answered d 0x0704)) ∧
    (let d := withEntry (poke (poke serveDev (memKey 1 2048) greedy) (memKey 1 0) (logits4.flatMap (fun w => leBytes 4 w.toNat))) entry51
     let e := staged 1 entry51
     d.startable .mgmt 0x51 = some e ∧ d.startedOp .mgmt 0x51 = none ∧ e.op 16 4 = 4 ∧ e.op 20 8 = selfAddr 1 2048 ∧
     d.readOp e.cmd 16 (e.op 20 8) 64 none = .ok greedy ∧ d.blockMalformed .mgmt greedy 4 = false ∧
     (SampleBlock.ofBytes greedy).maskKind = 0 ∧ after (.sampleRun .mgmt none none) d (fun d => answered d 0)) ∧
    (let d := withSeq { state := .decode, image := 1, block := { maskKind := 1 } }
     after (.maskPreparationComplete 1 5 900) d (fun d => (d.seq 1 5).prepared && d.reg MUT_PREP_MAX == 900)) ∧
    (let d := { withSeq { state := .decode, image := 1 } with rows := [{ row4 with pass := true }] }
     row4.logits serveImage.vocab = some logits4 ∧
     sampleRow logits4 (fun _ => true) {} (drawOf 0 8) = some 2 ∧
     after (.samplerRow false) d (fun d => d.rows.any (fun y => y.token == some 2) && d.reg MUT_ROWS_LO == 1)) ∧
    (let q : Seq := { state := .handoff, image := 1, maxTokens := 4, reservedPos := 32, committed := 2, cmd := some (staged 1 entry40).cmd
                      out := selfAddr 1 1024 }
     let d := { withSeq q with rows := [row4] }
     after (.samplerRow false) d (fun d => (d.seq 1 5).state == .decode && (d.seq 1 5).tokens == [2] &&
       (d.group? 1).any (fun g => g.tickets == [5]))) := by decide +kernel

theorem witness_RowsAreSampledAndCommitted_commit :
    (let q : Seq := { state := .decode, image := 1, maxTokens := 4, reservedPos := 32, committed := 2, cmd := some (staged 1 entry40).cmd
                      out := selfAddr 1 1024, delivered := 1, tokens := [2] }
     let y : DroneStep := { uid := 1, job := 1, image := 1, stepId := 5, index := 0, rows := 1, longest := 1, sampled := true }
     let d := { withSeq q with
       rows := [{ row4 with pass := true, done := true, token := some 3 }]
       groups := [(1, { job := 1, members := [3], batch := [{ batch1 with seq := 5, committed := 2 }], running := true })]
       drones := [(3, { step := some y })] }
     d.droneHalted 3 = false ∧ d.seq 1 5 = q ∧ d.isSelf (addrDevice (q.out + 4 * q.delivered)) = true ∧
     3 + 1 ≤ serveImage.contextBound ∧
     after (.passCommit 1 []) d (fun d => (d.seq 1 5).tokens == [2, 3] && (d.seq 1 5).committed == 3 && d.rows.isEmpty &&
       d.readNat (memKey 1 1028) 4 == 3)) := by decide +kernel

/-! ### Gale routes and the Barometer -/

def entryQueue (p q : Nat) (y : List Packet) : Table QueuePart :=
  [(p, { queues := [(q, { base := 0, capacity := 64, maxPacket := 8, packets := y })] })]

/-- Route 2: 4 experts, the best 2, rows of one token; score queue 3/1, return queue 3/2; lists of 1 at the start of T2. -/
def galeDev (scatter : Bool) (x : Route) (q : Nat) (y : List Packet) : Device :=
  ((((({ up with routes := [(2, x)], queues := entryQueue 3 q y } : Device).setReg (regKey GAL_ROUTE_CFG 2)
    (2 ^ 31 + (if scatter then 2 ^ 30 else 0) + 2 ^ 24 + 2 ^ 15 * 3 + 2 ^ 7)).setReg (regKey GAL_ROUTE_CAP 2) 1).setReg
    (regKey GAL_ROUTE_INTAKE 2) (3 + 16 + 2 ^ 12 * 3 + 2 ^ 16 * 2)).setReg (regKey GAL_ROUTE_SCALE 2) 0x3F800000)

def packetOf (words : List (List Byte)) : Packet := { producer := 1, seq := 1, level := 0, words := words, visible := true }

/-- A score packet of route 2: token 7, hidden row at T2 offset 4096; expert 3 scores highest, then expert 1. -/
def scorePacket : Packet :=
  packetOf [[2, 0, 0, 0, 7, 0, 0, 0] ++ leBytes 8 (selfAddr 1 4096),
    [0x3F800000, 0x40000000, 0, 0x40400000].flatMap (leBytes 4)]

def assign1 : Assign :=
  { part := 3, level := 0, token := 7, rank := 0, expert := 3, weight := 0x3F800000, hidden := selfAddr 1 4096, uid := 1 }

/-- A map of two sources and one returner; every expert is queue 5 of partition 4 of this device. -/
def map1 : List Byte := [0, 0, 2, 0, 1, 0, 0, 0] ++ leBytes 8 (selfAddr 1 8192) ++ (List.replicate 4 (leBytes 4 (127 + 2 ^ 8 * 4 + 2 ^ 16 * 5))).flatten

theorem witness_GaleRoutesAssignIssueAndClose :
    (let d := galeDev false { isOpen := true } 1 [scorePacket]
     (d.routeCfg 2).valid = true ∧ (d.takeItem (d.scoreQueue 2).1 (d.scoreQueue 2).2).isSome ∧ scorePacket.words.length =
       ((d.routeCfg 2).experts + 15) / 16 + 1 ∧ (d.openRound 2).assignments + (d.routeCfg 2).k ≤ 65536 ∧
     after (.scorePacketRead 2) d (fun d => (d.route 2).assigns.map (fun a => (a.expert, a.rank, a.token)) == [(3, 0, 7), (1, 1, 7)] &&
       (d.queue? 3 1).any (fun q => q.packets.isEmpty))) ∧
    (let d := galeDev false {} 1 [packetOf [[9]]]
     d.regField GAL_ERROR 31 31 = 0 ∧ after (.scorePacketRead 2) d (fun d => (d.route 2).stopped && d.reg GAL_ERROR == 2 ^ 31 + 513)) ∧
    (let d := galeDev false { assigns := [assign1] } 1 []
     d.occupancy 3 = 0 ∧ (d.fab 3).halted = false ∧
     after (.galeIssue 2 3) d (fun d => (d.route 2).assigns.isEmpty && Table.getD (d.route 2).counts 3 0 == 1) ∧
     after (.galeIssue 2 3) (galeDev false { assigns := [assign1], counts := [(3, 1)] } 1 []) (fun d => d.reg GAL_DROP_COUNT == 1)) ∧
    (let d := galeDev true { assigns := [assign1], map := map1 } 1 []
     (d.routeCfg 2).scatter = true ∧ d.hiddenRow (d.routeCfg 2) assign1 = .bytes (List.replicate 64 0) ∧
     ({ map := map1 } : Route).dest 3 = (127, 4, 5) ∧
     after (.galeIssue 2 3) d (fun d => (d.route 2).assigns.isEmpty && (d.route 2).seqs.length == 1 && d.reg GAL_DROP_COUNT == 1)) ∧
    (after (.galeDropReport 2) (galeDev true {} 1 []) (fun d => d.reg GAL_DROP_COUNT == 1)) := by decide +kernel

theorem witness_GaleRoutesAssignIssueAndClose_returns :
    (let y := packetOf [List.replicate 16 0 ++ leBytes 8 (selfAddr 1 64) ++ leBytes 8 (selfAddr 1 4096), [9]]
     let d := galeDev true { returnClosed := false } 2 [y]
     (d.takeItem (d.returnQueue 2).1 (d.returnQueue 2).2).isSome ∧ d.isSelf (addrDevice (leAt (y.words.headD []) 16 8)) = true ∧
     d.isSelf (addrDevice (leAt (y.words.headD []) 24 8)) = true ∧
     after (.returnPacketRead 2) d (fun d => d.readNat (memKey 1 4096) 8 == selfAddr 1 64 && (d.route 2).under.length == 1)) ∧
    (let x : Route := { map := map1, returnClosed := false, isOpen := true }
     leAt x.map 2 2 = 2 ∧ leAt x.map 4 2 = 1 ∧
     after (.dispatchClose 2 4) (galeDev true x 1 []) (fun d => (d.route 2).dispatchFrom == [4] && !(d.route 2).dispatchClosed) ∧
     after (.dispatchClose 2 5) (galeDev true { x with dispatchFrom := [4] } 1 []) (fun d => (d.route 2).dispatchClosed) ∧
     after (.returnClose 2 4) (galeDev true x 1 []) (fun d => (d.route 2).returnClosed && !(d.route 2).isOpen)) := by
  decide +kernel

theorem witness_RouteAndBarometerRegisters :
    (let d := (galeDev false {} 1 []).setReg (portKey GAL_ROUTE_SEL .pf) 2
     d.portReg .pf GAL_ROUTE_SEL % 64 = 2 ∧ d.mayRoute .pf 2 = true ∧ (descAt (0x700000 + 8)).isSome ∧
     after (.galRouteWrite .pf 8 5) d (fun d => d.galReg 2 GAL_ROUTE_SCALE == 5) ∧
     after (.galRouteWrite .pf 8 5) (d.modRoute 2 (fun x => { x with isOpen := true })) (fun d =>
       d.galReg 2 GAL_ROUTE_SCALE == 0x3F800000) ∧
     after (.brmCtrlWrite .pf false (2 ^ 31 + 9)) d (fun d => d.brmOn 2 && d.brmWindow 2 == 9) ∧
     halfSpecial 0x3C00 = false ∧ after (.brmCtrlWrite .pf true 0x3C001400) d (fun d => d.reg (regKey BRM_ETA 2) == 0x3C001400) ∧
     after (.brmBiasWrite .pf 0x804 77) d (fun d => (d.bank 2).held == [(BRM_BIAS + 0x804, 77)])) ∧
    (let d := { (galeDev false {} 1 []).setReg (regKey BRM_CTRL 2) (2 ^ 31) with banks := [(2, { last := [(1, 4)], due := some 9 })] }
     d.brmOn 2 = true ∧ after (.barometerCountExchange 2 [1, 2, 3, 4]) d (fun d =>
       Table.getD (d.bank 2).last 1 0 == 6 && d.reg (BRM_COUNT + 0x1004) == 6)) := by decide +kernel

/-! ### The model library -/

def libBase : Nat := selfAddr 2 0

/-- The library at the start of local DDR. -/
def libDev (d : Device) : Device := { (d.setLibrary libBase 0x20010000) with ddr := 2 ^ 40 }

/-- A version record of model 5, version 6, with one own shard, as a descriptor or as the catalogue holds it. -/
def versionRec (state : Byte) : List Byte :=
  padTo 256 (leBytes 4 5 ++ leBytes 4 6 ++ [state, 0, 0, 0, 0, 0, 0, 0] ++ leBytes 4 1 ++ [0, 0, 0, 0, 0, 0, 1])
def shardRec (state : Byte) : List Byte :=
  padTo 128 (leBytes 4 0 ++ leBytes 4 5 ++ leBytes 4 6 ++ [127, state, 0, 1] ++ leBytes 8 (selfAddr 2 0x20000000) ++ leBytes 8 64)

/-- The library with that version in record 0 and its shard in record 0. -/
def libWith (state : Byte) (d : Device) : Device :=
  { libDev d with
    mem := [(18014398509613056, 5), (18014398509613060, 6), (18014398509613064, 2), (18014398509613072, 1), (18014398509613082, 1), (18014398510661636, 5), (18014398510661640, 6), (18014398510661644, 127)] ++
      (if state = 0 then [] else [(18014398510661645, state)]) ++ [(18014398510661647, 1), (18014398510661651, 32), (18014398510661654, 64), (18014398510661655, 254), (18014398510661656, 64)] }

def entry70 : List Byte := [0x70, 0, 0, 0, 7, 0, 0, 0] ++ leBytes 8 libBase ++ leBytes 8 0x20010000
def entry71 : List Byte := [0x71, 0, 0, 0, 7, 0, 0, 0] ++ leBytes 8 (selfAddr 1 0) ++ leBytes 4 384
def verEntry (op : Byte) : List Byte := [op, 0, 0, 0, 7, 0, 0, 0] ++ leBytes 4 5 ++ leBytes 4 6

theorem witness_CatalogueHoldsVersions :
    (let e := staged 1 entry70
     let d := { withEntry up entry70 with ddr := 2 ^ 40 }
     d.startable .mgmt 0x70 = some e ∧ e.op 1 1 = 0 ∧ e.aux = 0 ∧ e.op 24 1 = 0 ∧ allZero (sliceOf e.entry 25 39) = true ∧
     e.op 8 8 % 65536 = 0 ∧ isT3 (addrSpace (e.op 8 8)) = true ∧ d.isSelf (addrDevice (e.op 8 8)) = true ∧ e.op 16 8 = 0x20010000 ∧
     d.inSpace (addrSpace (e.op 8 8)) (addrOffset (e.op 8 8)) (e.op 16 8) = true ∧ d.deploys = [] ∧
     after (.libInit .mgmt) { d with deploys := [(0, { model := 5, job := 1, fn := 0, map := [3] })] } (fun d => answered d 0x0B0A)) ∧
    (let e := staged 1 (verEntry 0x73)
     let d := withEntry (libWith 2 up) (verEntry 0x73)
     d.libOn = true ∧ d.startable .mgmt 0x73 = some e ∧ d.findVersion (e.op 8 4) (e.op 12 4) = some 0 ∧ d.checking 0 = false ∧
     d.ownShards 0 = [0] ∧ (d.shard 0).state = 2 ∧ ((withEntry (libWith 3 up) (verEntry 0x73)).shard 0).state = 3 ∧
     d.versionDeployed 5 6 = false ∧ after (.libVersionCheck .mgmt) d (fun d => answered d 0)) ∧
    (let d := { withEntry (libWith 2 up) (verEntry 0x72) with
       deploys := [(0, { model := 5, job := 1, fn := 0, map := [3], current := 6 })] }
     d.startable .mgmt 0x72 = some (staged 1 (verEntry 0x72)) ∧ d.versionDeployed 5 6 = true ∧
     after (.libVersionRemove .mgmt) d (fun d => answered d 0x0B0A)) ∧
    (let d := (libWith 2 up).setReg LIB_RESCAN (2 ^ 31)
     d.regField LIB_RESCAN 31 31 = 1 ∧ d.shardVersion 0 = some 0 ∧ d.own (d.shard 0) = true) ∧
    (let d := { libWith 0 up with longOps := [{ id := 3, kind := .shardFetch 0, cls := 4, step := 1 }] }
     (d.shard 0).bytes = 64 ∧ d.poisonIn (localKey (d.shard 0).addr) 64 = none) ∧
    (let d := (libWith 2 up).setReg (regKey PLV_PORT_STATUS 16) (2 ^ 29 * 6)
     d.twinUp = true ∧ (d.versionShards 0).find? (fun i => (d.shard i).index == 0 && (d.shard i).state == 2 &&
       (d.shard i).digest == List.replicate 32 0) = some 0 ∧
     after (.twinShardRequest 5 6 0 (List.replicate 32 0)) d (fun d => d.out.length == 1)) := by
  decide +kernel

theorem witness_CatalogueHoldsVersions_add :
    (let e := staged 1 entry71
     let b := versionRec 0 ++ shardRec 0
     let d := withEntry (poke (libDev up) (memKey 1 0) b) entry71
     d.startable .mgmt 0x71 = some e ∧ d.startedOp .mgmt 0x71 = none ∧ d.readOp e.cmd 0 (e.op 8 8) (e.op 16 4) none = .ok b ∧
     d.libOn = true ∧ addrSpace (e.op 8 8) = 1) ∧
    (let d := withEntry (libDev up) entry71
     after (.libVersionAdd .mgmt) d (fun d => answered d 0x0B01)) := by decide +kernel

theorem readNat_no_memory (d : Device) (h : d.mem = []) (g : d.wlog = []) (a n : Nat) : d.readNat a n = 0 := by
  have z : ∀ n a, leNat (d.readBytes a n) = 0 := by
    intro n
    induction n with
    | zero => intro a; rfl
    | succ n ih => intro a; simp [Device.readBytes, leNat, ih, Device.readByte, h, g, Memory.get, lastWrite, memDefault]
  exact z n a

/-- An empty catalogue holds no version. -/
theorem witness_CatalogueHoldsVersions_none : ((libDev up).setReg (regKey PLV_PORT_STATUS 16) (2 ^ 29 * 6)).findVersion 5 7 = none := by
  have r := readNat_no_memory ((libDev up).setReg (regKey PLV_PORT_STATUS 16) (2 ^ 29 * 6)) rfl rfl
  simp only [Device.findVersion, r]
  simp

def entry74 : List Byte := [0x74, 0, 0, 0, 7, 0, 0, 0] ++ leBytes 4 5 ++ leBytes 4 6 ++ leBytes 4 1 ++ [0xF3, 0xFF, 0xFF, 0xFF, 0xFF, 0xFF]
def depEntry (op : Byte) : List Byte := [op, 0, 0, 0, 7, 0, 0, 0] ++ leBytes 4 (2 ^ 31) ++ (if op = 0x75 then leBytes 4 6 else [])
def dep5 : Deploy := { model := 5, job := 1, fn := 0, map := [3] }

theorem witness_DeploymentsLoadVersions :
    (let e := staged 1 entry74
     let d := withEntry (libWith 2 up) entry74
     d.startable .mgmt 0x74 = some e ∧ e.op 16 4 = 1 ∧ mapBad (e.op 20 6) = false ∧ e.op 26 1 = 0 ∧
     allZero (sliceOf e.entry 27 37) = true ∧ d.findVersion (e.op 8 4) (e.op 12 4) = some 0 ∧
     (List.range 256).find? (fun n => (d.deploy? n).isNone) = some 0 ∧
     after (.libDeploy .mgmt) d (fun d => (d.deploy? 0).any (fun y => y.load.any (fun l => l.phase == .placing)))) ∧
    (let e := staged 1 (depEntry 0x75)
     let d (y : Deploy) := { withEntry (libWith 2 up) (depEntry 0x75) with deploys := [(0, y)] }
     (d dep5).startable .mgmt 0x75 = some e ∧ e.op 8 4 = 2 ^ 31 ∧ e.op 16 1 = 0 ∧ allZero (sliceOf e.entry 17 47) = true ∧
     (d dep5).findVersion 5 (e.op 12 4) = some 0 ∧
     after (.libVersionLoad .mgmt) (d dep5) (fun d => (d.deploy? 0).any (fun y => y.load.any (fun l => l.version == 6))) ∧
     after (.libVersionLoad .mgmt) (d { dep5 with current := 6 }) (fun d => answered d 0) ∧
     after (.libVersionLoad .mgmt) (d { dep5 with load := some { version := 7 } }) (fun d => answered d 0x0B09)) ∧
    (let e := staged 1 (depEntry 0x76)
     let d (y : Deploy) := { withEntry (libDev up) (depEntry 0x76) with deploys := [(0, y)] }
     (d dep5).startable .mgmt 0x76 = some e ∧ allZero (sliceOf e.entry 12 52) = true ∧
     after (.libUndeploy .mgmt) (d dep5) (fun d => d.deploys.isEmpty && answered d 0) ∧
     after (.libUndeploy .mgmt) (d { dep5 with load := some { version := 7 } }) (fun d => answered d 0x0B0A)) ∧
    (let d := { up with deploys := [(0, { dep5 with load := some { version := 7 } })] }
     d.lowestDevice 1 = d.index ∧
     after (.versionAvailableReport 1 5 7 4) d (fun d => (d.deploy? 0).any (fun y => y.load.any (fun l => l.reports == [4]))) ∧
     after (.currencyBreathAnnounce 1 5 7 90) d (fun d => (d.deploy? 0).any (fun y => y.load.any (fun l => l.breath == some 90)))) ∧
    (let d := { (up.setReg HUB_DEVICE_INDEX 4) with circuits := [(5, { ends := true, far := 3, job := 1 })] }
     d.lowestDevice 1 = 3 ∧ d.index = 4) := by decide +kernel

/-! ### Configuration and management commands -/

/-- A configuration of 64 bytes, version `v`, with no record and its CRC. -/
def cfg64 (v : Nat) : List Byte :=
  let b := padTo 64 (leBytes 4 0x47464343 ++ [1, 0, 0, 0] ++ leBytes 4 v ++ leBytes 4 64)
  patchBytes b 20 (leBytes 4 (crc32c (patchBytes (patchBytes b 16 [0, 0]) 20 [0, 0, 0, 0])))

def cfgEntryOf (op : Byte) : List Byte :=
  [0x7C, 0, 0, 0, 7, 0, 0, 0, op] ++ (if op.toNat < 2 then List.replicate 7 0 ++ leBytes 8 (selfAddr 1 0) ++ leBytes 4 64 else [])

def cfgDev (a b : CfgSlot) (op : Byte) : Device :=
  { withEntry up (cfgEntryOf op) with boot := { stage := 10, done := true, cfgA := a, cfgB := b } }

def entry7D (l : List Byte) : List Byte := [0x7D, 0, 0, 0, 7, 0, 0, 0] ++ l
def entry7E (w : Nat) : List Byte := [0x7E, 0, 0, 0, 7, 0, 0, 0] ++ leBytes 2 w

theorem witness_ConfigurationAndManagementCommands :
    (let d := cfgDev { bytes := cfg64 3 } {} 0
     let e := staged 1 (cfgEntryOf 0)
     d.cfgCommand .mgmt 0 = some e ∧ d.cfgEntry e (e.op 24 4) = 0 ∧ d.standing = cfg64 3 ∧ cfgLength (cfg64 3) = 64 ∧ e.op 24 4 = 64 ∧
     d.isReadOnly (e.op 16 8) 64 = false ∧ d.isSelf (addrDevice (e.op 16 8)) = true ∧
     after (.cfgStoreRead .mgmt) d (fun d => d.readBytes (memKey 1 0) 64 == cfg64 3 && answered d 0) ∧
     after (.cfgStoreRead .mgmt) (cfgDev {} {} 0) (fun d => answered d 0x0202)) ∧
    (let d := cfgDev {} {} 1
     let e := staged 1 (cfgEntryOf 1)
     d.cfgCommand .mgmt 1 = some e ∧ d.cfgEntry e (e.op 24 4) = 0 ∧
     after (.cfgStoreWrite .mgmt) d (fun d => d.longOps.length == 1)) ∧
    (let d := cfgDev { bytes := cfg64 3 } { bytes := cfg64 4 } 2
     d.cfgCommand .mgmt 2 = some (staged 1 (cfgEntryOf 2)) ∧ d.cfgEntry (staged 1 (cfgEntryOf 2)) 0 = 0 ∧ d.boot.cfgA.valid = true ∧
     d.boot.cfgB.valid = true ∧ after (.cfgStoreRollback .mgmt) d (fun d => d.longOps.length == 1) ∧
     after (.cfgStoreRollback .mgmt) (cfgDev {} {} 2) (fun d => answered d 0x0202)) ∧
    (let d := cfgDev {} {} 3
     d.cfgCommand .mgmt 3 = some (staged 1 (cfgEntryOf 3)) ∧ d.cfgEntry (staged 1 (cfgEntryOf 3)) 0 = 0 ∧
     after (.cfgStoreActivateFw .mgmt) d (fun d => answered d 0 && d.boot.activate)) := by decide +kernel

theorem witness_ConfigurationAndManagementCommands_resets :
    (let d := withEntry up (entry7D [])
     d.startable .mgmt 0x7D = some (staged 1 (entry7D [])) ∧
     after (.resetRequest .mgmt) d (fun d => d.boot.requested == some 0 && answered d 0)) ∧
    (let l := entry7D [1, 0, 2, 5]
     let d := withEntry up l
     d.startable .mgmt 0x7D = some (staged 1 l) ∧ d.notIdle 2 5 = 0 ∧ (staged 1 l).op 11 1 < blockCount 2 ∧
     after (.resetRequest .mgmt) d (fun d => d.reg RCU_LAST_BLOCK == 2 ^ 31 + 512 + 5 && answered d 0) ∧
     after (.resetRequest .mgmt) { d with checks := [(5, { serves := some 3 })] } (fun d => answered d 0x0201)) ∧
    (let l := entry7D [1, 0, 0, 3]
     let d := withEntry { up with parts := [(3, { slots := readySlots })] } l
     d.startable .mgmt 0x7D = some (staged 1 l) ∧ d.notIdle 0 3 = 0 ∧
     after (.resetRequest .mgmt) d (fun d => (d.part 3).slots.isEmpty && d.blockResets.length == 1)) ∧
    (let d := withEntry up (entry7E 1000)
     d.startable .mgmt 0x7E = some (staged 1 (entry7E 1000)) ∧
     after (.powerCap .mgmt) d (fun d => d.power.nextCap == some 1000 && answered d 0) ∧
     after (.powerCap .mgmt) (withEntry up (entry7E 700)) (fun d => answered d 0x0203)) ∧
    (let d : Device := ({ boot := { stage := 6 } } : Device).setReg MGT_STRAPS 2
     d.awaits 2 = true ∧ after (.mgtHostbootGo .pf 100) d (fun d => d.reg MGT_HOSTBOOT == 100)) ∧
    (let d := ({ stopDev { slots := readySlots } with jobs := [(1, { state := .stopped })] } : Device).setReg (portKey MGT_JOB_SEL .pf) 1
     Port.steward .mgmt = true ∧ d.portReg .pf MGT_JOB_SEL = 1 ∧ Port.steward .pf = false ∧
     after (.mgtJobRestart .pf) d (fun d => (d.job 1).state == .stopped)) ∧
    (let d := ({ stopDev { slots := readySlots } with jobs := [(1, { state := .stopped })] } : Device).setReg (portKey MGT_JOB_SEL .mgmt) 1
     d.jobParts 1 = [3] ∧ after (.mgtJobRestart .mgmt) d (fun d => (d.job 1).state == .resetting && (d.part 3).slots.isEmpty &&
       d.reg MGT_RESTART_COUNT == 1)) ∧
    (let d : Device := { up with ddr := 2 ^ 30, ring := { page := [(1, [7])] } }
     after (.fringBaseWrite .mgmt (selfAddr 2 65536)) d (fun d => d.ring.on && d.ring.page.isEmpty &&
       d.reg64 MGT_FRING_BASE_LO == selfAddr 2 65536)) := by decide +kernel

/-! ### Ports -/

/-- Port 3 in state `st`, enabled, with a module. -/
def portDev (st : Nat) (x : LinkPort := { present := true }) : Device :=
  (({ up with ports := [(3, x)] } : Device).setReg (regKey PLV_PORT_STATUS 3) (2 ^ 29 * st)).setReg (regKey PLV_PORT_CTRL 3) (2 ^ 31)

theorem witness_PortsComeUpAndGoDown :
    ((portDev 0).portsRun = true ∧ (portDev 0).portState 3 = 0 ∧ (portDev 0).portEnabled 3 = true ∧ ((portDev 0).link 3).present = true ∧
     after (.portDetectStart 3) (portDev 0 {}) (fun d => d.portState 3 == 1 && (d.link 3).present) ∧
     after (.moduleReady 3 2) (portDev 1) (fun d => d.portState 3 == 2 && (d.link 3).media) ∧
     after (.moduleReady 3 0) (portDev 1) (fun d => d.portState 3 == 0 && d.regField (regKey PLV_PORT_STATUS 3) 3 0 == 7) ∧
     after (.mediaTimeout 3) (portDev 1) (fun d => d.portState 3 == 0 && d.reg (regKey PLV_DOWN_COUNT 3) == 1) ∧
     after (.equaliseComplete 3) (portDev 2) (fun d => d.portState 3 == 3) ∧
     after (.equaliseTimeout 3) (portDev 2) (fun d => d.freeCounter == 1 && (d.link 3).lanes.isEmpty) ∧
     after (.laneLockComplete 3) (portDev 3) (fun d => d.portState 3 == 4 && d.regField (regKey PLV_PORT_STATUS 3) 28 21 == 15) ∧
     after (.laneLockTimeout 3) (portDev 3) (fun d => d.portState 3 == 1)) ∧
    (let d := ((portDev 4).setReg PLV_MEMBERS 0x30).setReg HUB_DEVICE_INDEX 4
     d.reg PLV_DOMAIN_ID = 0 ∧ bitOf d.memberMask 5 = true ∧ d.index = 4 ∧
     after (.peerIdentity 3 0 5 2 0) d (fun d => d.portState 3 == 5 && d.reg (regKey PLV_PORT_PEER 3) == 5 * 256 + 2) ∧
     after (.peerIdentity 3 0 4 2 0) d (fun d => d.portState 3 == 0 && d.regField (regKey PLV_PORT_STATUS 3) 3 0 == 5)) ∧
    (let d := up.setReg (regKey PLV_PORT_STATUS 16) (2 ^ 29 * 4)
     d.portState 16 = 4 ∧ d.regField PLV_TWIN_CFG 30 30 = 0 ∧
     after (.peerIdentity 16 0 9 0 1) d (fun d => d.portState 16 == 5 && d.regField PLV_TWIN_STATUS 6 0 == 9) ∧
     after (.peerIdentity 16 0 9 0 0) d (fun d => d.portState 16 == 0)) := by decide +kernel

theorem witness_PortsComeUpAndGoDown_more :
    (leastOf [190, 170, 180] = some 170 ∧
     after (.delayCalibration 3 [190, 170, 180]) (portDev 5) (fun d => d.portState 3 == 6 && d.reg (regKey PLV_PORT_DELAY 3) == 85) ∧
     after (.delayCalibration 3 [190]) (portDev 5) (fun d => d.portState 3 == 0 && d.regField (regKey PLV_PORT_STATUS 3) 3 0 == 4) ∧
     after (.portRetryTimer 3) (portDev 0) (fun d => d.portState 3 == 1) ∧
     after (.portLossTimeout 3) (portDev 6) (fun d => d.portState 3 == 0 && d.regField (regKey PLV_PORT_STATUS 3) 3 0 == 1) ∧
     after (.moduleRemoved 3) (portDev 0) (fun d => d.portState 3 == 0 && !(d.link 3).present) ∧
     after (.moduleRemoved 3) (portDev 6) (fun d => d.portState 3 == 0 && d.regField (regKey PLV_PORT_STATUS 3) 3 0 == 3)) ∧
    (let d (st : Nat) := ((portDev st).setReg (portKey PLV_PORT_SEL .pf) 3).setReg (portKey PLV_PORT_SEL .mgmt) 3
     bitsOf ((d 6).portReg .pf PLV_PORT_SEL) 4 0 = 3 ∧
     after (.portTestSelect .pf (2 ^ 31 + 3)) (d 6) (fun d => d.portState 3 == 7 && d.portTest 3 == 3) ∧
     after (.portTestSelect .pf (2 ^ 31 + 3)) { d 6 with circuits := [(circKey 3 5, { ends := true })] } (fun d => d.portState 3 == 6) ∧
     after (.portTestSelect .pf 0) (d 6) (fun d => d.portState 3 == 6 && !d.portEnabled 3) ∧
     after (.portTestSelect .pf (2 ^ 31)) (d 7) (fun d => d.portState 3 == 0) ∧
     after (.mediaMonitor 3 41 [1, 2, 3, 4] [100, 100, 100, 100] [50, 60, 70, 65536]) ((d 6).setReg (regKey PLV_MEDIA_STATUS 3) (2 ^ 30))
       (fun d => (d.link 3).txPower == [1, 2, 3, 4] && d.regField (regKey PLV_MEDIA_STATUS 3) 7 0 == 41 &&
         d.regField (regKey PLV_MEDIA_LANE 3) 15 0 == 50) ∧
     after (.cmisRead .mgmt 0x112200 (some 0x77)) (d 6) (fun d => d.regField (regKey PLV_CMIS 3) 23 0 == 0x112277) ∧
     after (.cmisRead .mgmt 0x112200 none) (d 6) (fun d => d.regField (regKey PLV_CMIS 3) 28 28 == 1) ∧
     after (.cmisWrite .mgmt 0x112233 true) (d 6) (fun d => d.out.length == 1) ∧
     after (.cmisWrite .mgmt 0x112233 false) (d 6) (fun d => d.regField (regKey PLV_CMIS 3) 28 28 == 1) ∧
     after (.cmisWrite .mgmt 0x002233 true) (d 6) (fun d => d.out.isEmpty)) := by decide +kernel

/-! ### Blocks, slots, packets, circuits -/

/-- Port 3 UP with link `x` and circuit records `cs`. -/
def linkDev (x : LinkPort := { present := true }) (cs : Table Circuit := []) : Device := { portDev 6 x with circuits := cs }

/-- An end of circuit 5 of port 3; a circuit that goes on from it by circuit 7 of port 4. -/
def endRec : Circuit := { ends := true, far := 2, job := 1 }
def passRec : Circuit := { ends := false, job := 1, outPort := 4, outCircuit := 7 }

/-- Port 4 is UP too. -/
def twoPorts (x : LinkPort := {}) : Device :=
  ({ linkDev {} [(circKey 3 5, passRec)] with ports := [(4, x)] } : Device).setReg (regKey PLV_PORT_STATUS 4) (2 ^ 29 * 6)

theorem witness_BlocksAndSlots :
    (laneCount 3 = 4 ∧ (linkDev).portState 3 = 6 ∧ unwireBlock [] = none ∧
     after (.blockReceive 3 1 []) (linkDev) (fun d => ((d.link 3).lanes.map (fun e => (e.1, e.2.fails, e.2.nak))) == [(1, 1, true)]) ∧
     after (.blockReceive 3 1 []) (linkDev { lanes := [(1, { fails := 2 })] }) (fun d =>
       d.portState 3 == 0 && d.regField (regKey PLV_PORT_STATUS 3) 3 0 == 2) ∧
     after (.blockReceive 3 1 []) (portDev 7) (fun d => d == portDev 7)) ∧
    (let d (n : Nat) := linkDev { lanes := [(1, { next := 10, sent := [{ seq := 7, data := [] }, { seq := 8, data := [], resends := n },
        { seq := 9, data := [] }] })] }
     after (.blockNak 3 1 8) (d 1) (fun d => d.out.length == 2 && d.reg (regKey PLV_REPLAY_COUNT 3) == 2 && d.portState 3 == 6) ∧
     after (.blockNak 3 1 8) (d 2) (fun d => d.portState 3 == 0)) ∧
    (Table.find? ((linkDev { transit := [(12, (4, 9, []))] }).link 3).transit 12 = some (4, 9, []) ∧
     after (.slotSend 3 12) (linkDev { transit := [(12, (4, 9, []))], tick := true }) (fun d =>
       d.out.length == 4 && (d.link 3).transit.isEmpty && !(d.link 3).tick && (d.link 3).lanes.all (fun e => e.2.next == 1)) ∧
     (linkDev).slotCircuit 3 12 = none ∧
     after (.slotSend 3 12) (linkDev) (fun d => d.out.length == 4 && (d.link 3).lanes.length == 4)) ∧
    (let d := ({ linkDev {} [(circKey 3 5, endRec)] with txq := [{ uid := 5, kind := 0, dest := 2, job := 1, body := List.replicate 64 1 }] } :
        Device).setReg (regKey (PLV_SLOT_TBL + 12) 6) (133)
     d.slotCircuit 3 12 = some (circKey 3 5) ∧ d.itemRoute (d.txq.headD { uid := 0, kind := 0, dest := 0 }) = some (circKey 3 5) ∧
     after (.slotSend 3 12) d (fun d => d.txq.isEmpty && d.flight.length == 1 && d.out.length == 4)) ∧
    (passRec.ends = false ∧ (twoPorts).circuit? (circKey 3 5) = some passRec ∧ (twoPorts).portState 4 = 6 ∧
     after (.transitForward 3 5 20 [1]) (twoPorts) (fun d => Table.find? (d.link 4).transit 23 == some (3, 7, [1])) ∧
     after (.transitForward 3 5 20 [1]) (twoPorts { transit := [(23, (5, 1, []))] }) (fun d =>
       Table.find? (d.link 4).transit 23 == some (3, 7, [1]) && d.reg (regKey PLV_SLOT_CONFLICT 4) == 1) ∧
     after (.transitForward 3 5 20 [1]) (twoPorts { transit := [(23, (2, 1, []))] }) (fun d =>
       Table.find? (d.link 4).transit 23 == some (2, 1, []) && (d.link 4).transit.length == 2)) ∧
    after (.liveFlood 3 0x30) ((twoPorts { live := 0x500 }).setReg HUB_DEVICE_INDEX (2 ^ 31 + 1)) (fun d => d.liveSet == 0x532) := by
  decide +kernel

/-- Port 3 UP, circuit 5 of it ending here. -/
def landDev : Device := linkDev { present := true } [(circKey 3 5, endRec)]

theorem witness_PacketsAndCircuits :
    (landDev.arrives 3 5 = true ∧ (∃ d1, landDev.targetAnswer (selfAddr 0 0x100) 2 true false = (0, d1)) ∧
     after (.plvWritePacket 3 5 9 1 (selfAddr 0 0x100) [7, 8] false) landDev (fun d =>
       d.readBytes (memKey 0 0x100) 3 == [7, 8, 0] && Table.getD (d.link 3).reports 5 0 == 1) ∧
     (landDev.targetAnswer (selfAddr 9 0x100) 2 true false).1 = 2 ∧
     after (.plvWritePacket 3 5 9 1 (selfAddr 9 0x100) [7, 8] false) landDev (fun d => d.txq.length == 1) ∧
     (landDev.targetAnswer (selfAddr 4 9) 64 true false).1 = 0 ∧ landDev.queue? 0 9 = none ∧
     after (.plvQueuePacket 3 5 9 1 2 (selfAddr 4 9) 3 1 1 [List.replicate 64 1] false) landDev (fun d =>
       d.txq.map (fun t => t.status) == [2]) ∧
     after (.plvQueuePacket 3 5 9 1 2 (selfAddr 4 9) 3 1 1 [List.replicate 64 1] false)
       { landDev with queues := [(0, { queues := [(9, q9)] })] } (fun d =>
       (d.queue? 0 9).map (fun q => q.packets.length) == some 1 && Table.getD (d.link 3).reports 5 0 == 1) ∧
     landDev.poisonIn (localKey (selfAddr 0 0x100)) 4 = none ∧
     after (.plvReadReq 3 5 9 1 (selfAddr 0 0x100) 4 0 none false) landDev (fun d =>
       d.txq.map (fun t => (t.kind, t.arg, t.len, t.status)) == [(2, 9, 4, 0)] && d.nextUid == 2)) ∧
    (let d := { landDev with requests := [(9, ({ uid := 6, kind := 1, dest := 2, arg := 64 } : TxItem))] }
     (∀ r ∈ d.hostReads, r.uid ≠ 6) ∧ landDev.flight = [] ∧
     after (.plvResponse 3 5 9 0 [1, 2]) d (fun d => d.requests.isEmpty && d.arrived == [(6, 64, [1, 2])]) ∧
     after (.plvResponse 3 5 9 1 []) landDev (fun d => d == landDev)) := by
  refine ⟨⟨by decide +kernel, ⟨_, rfl⟩, ?_⟩, ?_⟩ <;> decide +kernel

theorem witness_PacketsAndCircuits_more :
    (let fl (rt : Nat) : Device := { landDev with flight := [{ uid := 4, chan := 200, addr := 0, bytes := [], remote := true, route := rt }] }
     endRec.ends = true ∧ after (.reportNotice 3 5 1) (fl (circKey 3 5)) (fun d => d.flight.isEmpty) ∧
     after (.reportNotice 3 5 4) (twoPorts) (fun d => (d.link 4).reports == [(7, 4)]) ∧
     after (.reportNotice 16 0 1) ((fl twinRoute).setReg (regKey PLV_PORT_STATUS 16) (2 ^ 29 * 6)) (fun d => d.flight.isEmpty) ∧
     (twoPorts).circuit? (circKey 4 7) = none ∧
     after (.teardownNotice 3 5) (twoPorts) (fun d => d.circuits.isEmpty && (d.link 4).teardowns == [7]) ∧
     landDev.txq = [] ∧ landDev.requests = [] ∧ landDev.flight = [] ∧ (landDev.job endRec.job).state = .none ∧
     after (.teardownNotice 3 5) landDev (fun d => d.circuits.isEmpty)) ∧
    (let sel (d : Device) (role far : Nat) : Device := ((((d.setReg (portKey PLV_CIRC_SEL .pf) (3 + 256 * 6)).setReg
        (regKey PLV_CIRC_CFG (circKey 3 6)) (2 ^ 30 * role + 256 * far + 2 ^ 25 * 4 + 65536 * 8)).setReg
        (regKey PLV_CIRC_JOB (circKey 3 6)) 1).setReg PLV_MEMBERS 6).setReg HUB_DEVICE_INDEX (2 ^ 31 + 1)
     Port.circuits .pf = true ∧ (sel landDev 1 2).circSel .pf = circKey 3 6 ∧
     (sel landDev 1 2).circSetupResult .pf (circKey 3 6) = 0 ∧
     after (.circuitSetup .pf) (sel landDev 1 2) (fun d => d.circuit? (circKey 3 6) == some { ends := true, far := 2, job := 1 }) ∧
     after (.circuitSetup .pf) (sel landDev 1 9) (fun d => d.regField (regKey PLV_CIRC_CMD (circKey 3 6)) 7 0 == 4) ∧
     after (.circuitSetup .pf) (sel (twoPorts) 2 0) (fun d =>
       d.circuit? (circKey 4 8) == some { ends := false, job := 1, outPort := 3, outCircuit := 6 })) ∧
    (let d := landDev.setReg (portKey PLV_CIRC_SEL .pf) (3 + 256 * 5)
     d.circTeardownResult .pf (d.circSel .pf) = 0 ∧
     after (.circuitTeardown .pf) d (fun d => d.circuits.isEmpty) ∧
     landDev.circTeardownResult .pf (landDev.circSel .pf) = 2 ∧
     after (.circuitTeardown .pf) landDev (fun d => d.regField (regKey PLV_CIRC_CMD 0) 7 0 == 2)) := by decide +kernel

/-! ### Twins and restarts -/

/-- A device with a twin, in state `st` of the pair with `misses` missed heartbeats; the mirror in 16 MiB of T3-DDR. -/
def twinDev (st misses : Nat) (x : Twin := {}) (held : List Out := []) : Device :=
  ((({ up with twin := x, held := held, ddr := 0x1000000 } : Device).setReg PLV_TWIN_CFG (2 ^ 31)).setReg PLV_TWIN_STATUS
    (2 ^ 30 * st + 256 * misses + 9)).setReg (regKey PLV_PORT_STATUS 16) (2 ^ 29 * 6)

def tokens4 : Out := .hostWrite 0 0x1000 [1, 2, 3, 4]

/-- Job 1 on partition 3. -/
def jobDev (x : Job) (b : Device := up) : Device := { b.modPart 3 (fun q => { q with job := 1, front := [{ image := 1, index := 0 }] }) with jobs := [(1, x)] }

theorem witness_TwinsAndRestarts :
    (up.twinOn = false ∧ (twinDev 2 3).twinOn = true ∧
     after (.twinHeartbeatReceive 77) (twinDev 2 3) (fun d => d.twinState == 1 && d.reg PLV_TWIN_HB == 77 && d.twin.heard) ∧
     after (.twinHeartbeatReceive 77) (twinDev 2 3 {} [tokens4]) (fun d => d.twin.waiting && d.twin.carried == 1 && d.out.length == 1)) ∧
    (up.mirrorKey = none ∧
     (let d := (twinDev 1 0).setReg PLV_TWIN_MIRROR_HI (selfAddr 2 0 / 2 ^ 32)
      d.mirrorKey = some (memKey 2 0) ∧
      after (.mirrorUpdate (leBytes 8 5 ++ mirrorPart 0x100 [7, 8])) d (fun d =>
        d.readBytes (memKey 2 0x100) 2 == [7, 8] && d.twin.received == 5 && d.out.length == 1))) ∧
    (let d := twinDev 1 0 { waiting := true, position := 4, upTo := 3, carried := 1 } [tokens4]
     after (.mirrorAck 4) d (fun d => d.out == [tokens4] && d.held.isEmpty && d.mirrorFrom == 3 && !d.twin.waiting) ∧
     after (.mirrorAck 5) d (fun d => d.held.length == 1 && d.twin.waiting)) ∧
    ((twinDev 2 8).missLimit = 8 ∧ (twinDev 2 7).missLimit = 8 ∧ (∀ e ∈ (twinDev 2 8).jobs, ((twinDev 2 8).farDevices e.1).contains 9 = false) ∧
     after (.twinTakeover []) (twinDev 2 8 {} [tokens4]) (fun d =>
       d.twinState == 3 && d.out == [.land 68 false, .land 68 true, tokens4] && d.reg PLV_TAKEOVER_COUNT == 1) ∧
     after (.twinTakeover []) (twinDev 2 7) (fun d => d.twinState == 2 && d.out.isEmpty)) ∧
    (after .twinFirmwareRequest (twinDev 1 0) (fun d => d.out == [.link 16 15 9 []]) ∧
     after .twinFirmwareRequest up (fun d => d.out.isEmpty) ∧
     (let d := { (twinDev 1 0).setReg MGT_STRAPS 1 with boot := { stage := 3 } }
      d.awaits 1 = true ∧ d.twinUp = true ∧ up.awaits 1 = false ∧
      after (.twinFirmwareImage []) d (fun d => d.boot.recovery && d.regField MGT_BOOT_STATUS 30 30 == 1))) := by decide +kernel

theorem witness_TwinsAndRestarts_more :
    ((up.job 1).state = .none ∧ after (.jobFaultMessage 1 5 9) up (fun d => d.ring.serial == 0) ∧
     after (.jobFaultMessage 1 5 9) (jobDev { state := .halted, seen := [(5, 9)] }) (fun d => d.ring.serial == 0) ∧
     after (.jobFaultMessage 1 5 9) (jobDev { state := .halted }) (fun d => d.ring.serial == 1 && (d.job 1).seen == [(5, 9)]) ∧
     ((jobDev {}).stormNow 1).length + 1 < (jobDev {}).regField MGT_FAULT_CFG 15 8 ∧ (jobDev {}).jobParts 1 = [3] ∧
     after (.jobFaultMessage 1 5 9) (jobDev { storm := [0, 0, 0, 0, 0, 0, 0] }) (fun d => (d.job 1).state == .stopped && d.ring.serial == 2) ∧
     after (.jobFaultMessage 1 5 9) (jobDev {}) (fun d =>
       (d.job 1).state == .halted && (d.part 3).fabric.halted && (d.part 3).front.isEmpty && d.ring.serial == 1)) ∧
    ((jobDev {}).regField MGT_FAULT_CFG 7 0 = 0 ∧
     after (.restartHoldExpiry 1) (jobDev { state := .halted, held := 0 }) (fun d => (d.job 1).state == .halted) ∧
     after (.restartHoldExpiry 1) (jobDev { state := .halted, held := 1 } { up with mem := [(memKey 0 (3 * 0x4000000 + 5), 7)] }) (fun d =>
       (d.job 1).state == .resetting && Memory.get d.mem (memKey 0 (3 * 0x4000000 + 5)) == 0) ∧
     after (.restartBreathAnnounce 1 40) (jobDev { state := .reloading }) (fun d => (d.job 1).restartBreath == some 40) ∧
     after (.restartBreathAnnounce 1 40) (jobDev {}) (fun d => (d.job 1).restartBreath == none)) ∧
    (let d := { jobDev { state := .reloading, reports := [0] } with breath := 10, circuits := [(circKey 3 5, { ends := true, far := 2, job := 1 })] }
     d.lowestDevice 1 = d.index ∧ d.jobDevices 1 = [0, 2] ∧
     after (.restartResetReport 1 2) d (fun d => (d.job 1).restartBreath == some 12 && d.txq.length == 1) ∧
     (let e := { d with circuits := [(circKey 3 5, { ends := true, far := 2, job := 1 })] }.setReg HUB_DEVICE_INDEX (2 ^ 31 + 4)
      e.lowestDevice 1 ≠ e.index ∧ after (.restartResetReport 1 2) e (fun d => (d.job 1).reports == [0, 2] && d.txq.isEmpty)) ∧
     after (.restartResetReport 1 2) up (fun d => d.jobs.isEmpty)) ∧
    ((jobDev { state := .resetting }).jobParts 1 = [3] ∧
     after (.partitionWarmResetComplete 3) (jobDev { state := .resetting }) (fun d => (d.job 1).state == .reloading && (d.job 1).landed == [3]) ∧
     after (.partitionWarmResetComplete 3) ((jobDev { state := .resetting }).modPart 4 (fun q => { q with job := 1 })) (fun d =>
       (d.job 1).state == .resetting && (d.job 1).landed == [3]) ∧
     after (.partitionWarmResetComplete 3) up (fun d => d.out.isEmpty) ∧
     (let c := (staged 1 [0x7D]).cmd
      after (.partitionWarmResetComplete 3) { (up.modPart 3 (fun q => { q with fabric := { halted := true } })) with blockResets := [(0, 3, c)] }
        (fun d => d.blockResets.isEmpty && !(d.part 3).fabric.halted && answered d 0))) := by decide +kernel

/-! ### Resets and the boot -/

/-- A device held in the reset of a source with a reach. -/
def heldDev (reach src : Nat) (b : Device := up) : Device := { b with resetRun := some { reach := reach, sources := [src] } }

/-- The device is held in a reset of `reach` by `src`. -/
def heldBy (reach src : Nat) (d : Device) : Bool :=
  d.resetRun == some { reach := reach, sources := [src] } && d.regField RCU_CAUSE src src == 1 && d.reg RCU_COUNT_TOTAL == 1 &&
    d.jobs.isEmpty && !d.boot.done

theorem witness_ResetsAndBoot :
    (up.wlog = [] ∧ up.supplies.tripped = false ∧ up.compat = false ∧
     after (.rstNPulse 400) up (fun d => d.boot.done) ∧
     after (.rstNPulse 401) up (fun d => heldBy 3 2 d && !d.supplies.rstHigh) ∧
     after .watchdogExpiry up (heldBy 3 3) ∧ after .clockFailure up (heldBy 3 6) ∧ after .lockUp up (heldBy 3 7) ∧
     after .softwareReset up (fun d => d.boot.done) ∧
     after .softwareReset { up with boot := { up.boot with requested := some 1 } } (heldBy 3 4) ∧
     after .softwareReset ({ up with boot := { up.boot with requested := some 1 } }.setReg RCU_CTRL 65536) (heldBy 4 4) ∧
     after .debugResetRequest { up with sample := true } (heldBy 3 5) ∧ after .debugResetRequest up (fun d => d.boot.done) ∧
     after (.brownOut true) up (fun d => heldBy 1 1 d && !d.supplies.vin && d.standby) ∧
     after (.railFail 2) up (fun d => heldBy 1 1 d && !d.supplies.vstby) ∧ after (.railFail 3) up (fun d => d.boot.done) ∧
     after .watchdogExpiry (heldDev 3 2) (fun d => d.resetRun == some { reach := 3, sources := [2, 3] } && d.reg RCU_COUNT_TOTAL == 0)) ∧
    (after .resetRelease up (fun d => d.boot.done) ∧
     after .resetRelease (heldDev 3 2) (fun d => d.resetRun == none && d.regField RCU_BOOT 3 0 == 1 && !d.boot.recovery) ∧
     after .resetRelease ((heldDev 3 2).setReg RCU_BOOT 6) (fun d => d.boot.recovery)) ∧
    (after (.brownOut true) { up with supplies := { tripped := true } } (fun d => d.resetRun == none && !d.supplies.vin) ∧
     after (.powerOnReset true) up (fun d => heldBy 1 0 d && d.regField RCU_VBAK 31 31 == 1) ∧
     after (.powerOnReset false) (up.setReg RCU_COUNT_TOTAL 7) (fun d => d.reg RCU_COUNT_TOTAL == 8)) := by decide +kernel

/-- A device in a stage of its boot. -/
def bootDev (x : Boot) : Device := { boot := x }

theorem witness_ResetsAndBoot_more :
    (after (.bootStageComplete 0xFFF 0 [] []) up (fun d => d.boot.stage == 10) ∧
     after (.bootStageComplete 0 0 [] []) (bootDev {}) (fun d => d.boot.stage == 1) ∧
     after (.bootStageComplete 0 0 [] []) (bootDev { stage := 2, warm := true, keptGood := true }) (fun d => d.boot.stage == 3 && d.boot.fwReady) ∧
     (bootDev {}).bootFrom = 0 ∧ ({} : Boot).fwChoice = some false ∧
     after (.bootStageComplete 0 0 [] []) (bootDev { stage := 2 }) (fun d => d.boot.fwReady && !d.boot.useB) ∧
     ({ fwA := {} } : Boot).fwChoice = none ∧
     after (.bootStageComplete 0 0 [] []) (bootDev { stage := 2, fwA := {} }) (fun d => d.boot.recovery) ∧
     (let x : Boot := { stage := 2, failsAt := 3, fwA := { version := 1, good := true, proven := false } }
      x.fwChoice = some false ∧ (x.fw true).valid = false ∧
      after (.bootStageComplete 0 0 [] []) (bootDev x) (fun d => d.boot.recovery && d.boot.fwA.revoked) ∧
      after (.bootStageComplete 0 0 [] []) (bootDev { x with fwB := { version := 1, good := true, proven := true } }) (fun d =>
        d.boot.useB || d.boot.fwReady)) ∧
     ({ stage := 3 } : Boot).cfgChoice = none ∧
     after (.bootStageComplete 0 0 [] []) (bootDev { stage := 3 }) (fun d => d.boot.cfgDefault && d.regField MGT_BOOT_STATUS 29 29 == 1) ∧
     ({ cfgA := { bytes := cfg64 3 } } : Boot).cfgChoice = some false ∧
     after (.bootStageComplete 0 0 [] []) (bootDev { stage := 3, cfgA := { bytes := cfg64 3 } }) (fun d =>
       !d.boot.cfgDefault && !d.boot.cfgUseB && d.reg MGT_CFG_VERSION == 3) ∧
     after (.bootStageComplete 0x801 0x3 [0x100, 0x100] [5, 0]) (bootDev { stage := 4 }) (fun d =>
       d.ddr == 0x200 && d.cxl == [5, 0] && (d.part 0).inService && (d.part 11).inService && !(d.part 1).inService) ∧
     after (.bootStageComplete 0 0 [] []) (bootDev { stage := 6 }) (fun d => d.boot.stage == 6) ∧
     after (.bootStageComplete 0 0 [] []) (bootDev { stage := 7, fwReady := true }) (fun d =>
       d.boot.done && d.timer.on && d.reg HUB_SIZE_COUNT == 2 ^ 31 + 83)) ∧
    (let d (src st : Nat) := (bootDev { stage := st }).setReg MGT_STRAPS src
     (d 3 4).awaits 3 = true ∧ (bootDev {}).awaits 3 = false ∧
     after .bootSourceTimeout (d 1 4) (fun d => d.boot.recovery) ∧ after .bootSourceTimeout (d 2 4) (fun d => !d.boot.recovery) ∧
     after (.uartXmodemBlock []) (d 3 4) (fun d => d.out == [.uart 0x15]) ∧
     after (.uartXmodemBlock [0x04]) (d 3 4) (fun d => d.out == [.uart 0x06] && d.boot.recovery) ∧
     after (.uartXmodemBlock [0x04]) (d 0 4) (fun d => d.out.isEmpty) ∧
     (let f (n : Nat) := leBytes 1 2 ++ leBytes 1 n ++ leBytes 1 (255 - n) ++ List.replicate 1024 0 ++ leBytes 1 0 ++ leBytes 1 0
      crc16 (List.replicate 1024 0) = 0 ∧
      after (.uartXmodemBlock (f 1)) (d 3 4) (fun d => d.boot.uart.length == 1024 && d.boot.uartBlock == 2 && d.out == [.uart 0x06]) ∧
      after (.uartXmodemBlock (f 0)) (d 3 4) (fun d => d.boot.uart.isEmpty && d.out == [.uart 0x06]) ∧
      after (.uartXmodemBlock (f 9)) (d 3 4) (fun d => d.out == [.uart 0x15]))) := by decide +kernel

/-! ### Power and the management port -/

theorem witness_PowerDemands :
    (let d := up.setReg PMU_IRQ (2 ^ 31 + 5)
     let low := fun d : Device => d.regField PMU_STATUS 19 16 == 12 && d.reg PMU_FCLK_KHZ == 760000 && d.out == [.msix 0 5]
     after .vinDroop d (fun d => low d && d.power.droop && d.reg PMU_DROOP_COUNT == 1) ∧
     after .vinDroop (d.setReg PMU_EVENTS 1) (fun d => d.regField PMU_STATUS 19 16 == 12 && d.out.isEmpty) ∧
     after .droopLapse { d with power := { droop := true } } (fun d => d.power.droopEnds) ∧
     after (.powerAverage 949) (d.setReg PMU_CAP 1000) (fun d => d.power.capBelow == 1 && d.power.watts == 949) ∧
     after (.powerAverage 950) { d.setReg PMU_CAP 1000 with power := { capBelow := 4 } } (fun d => d.power.capBelow == 0) ∧
     after .rmTimeout d (fun d => d.regField PMU_STATUS 27 27 == 1 && d.regField PMU_EVENTS 4 4 == 1 && d.out == [.msix 0 5]) ∧
     after (.tjSample 105) d (fun d => low d && d.power.emergency && d.regField PMU_STATUS 7 0 == 105) ∧
     after (.tjSample 99) { d with power := { emergency := true } } (fun d => !d.power.emergency) ∧
     after (.tjSample 100) { d with power := { emergency := true } } (fun d => d.power.emergency && d.regField PMU_STATUS 7 0 == 100) ∧
     after .thermtrip d (fun d => d.supplies.tripped && d.regField PMU_STATUS 31 30 == 2) ∧
     after (.alertAssert false) d (fun d => low d && d.power.shelf && d.power.shelfLow) ∧
     after (.alertAssert true) d (fun d => low d && d.power.cool) ∧
     after (.alertDeassert false) { d with power := { shelf := true, shelfLow := true } } (fun d => d.power.shelf && !d.power.shelfLow) ∧
     after (.alertDeassert true) { d with power := { cool := true, coolLow := true } } (fun d => d.power.cool && !d.power.coolLow) ∧
     after (.alertReleaseExpiry false) { d with power := { shelf := true } } (fun d => !d.power.shelf) ∧
     after (.alertReleaseExpiry true) { d with power := { cool := true, coolLow := true } } (fun d => d.power.cool)) ∧
    ((up.setReg PMU_STATUS (2 ^ 30)).standby = false ∧
     after (.sensorUpdate [40, 41] [50] 12000 900 [7]) ((up.setReg PMU_STATUS (2 ^ 30)).setReg PMU_CAP 1000) (fun d =>
       [1, 2, 0x10, 0x20, 0x21, 0x22].map (fun n => Table.getD d.sensors n 0) == [40, 41, 50, 12000, 900, 1000] &&
         d.reg (regKey PMU_VR_STATUS 0) == 7) ∧
     after (.sensorUpdate [40, 41] [50] 12000 900 [7]) (up.setReg PMU_STATUS 0) (fun d => Table.getD d.sensors 0x20 0 == 0)) := by
  decide +kernel

theorem witness_ManagementMessages :
    (up.supplies.vstby = true ∧ up.supplies.vio = true ∧ up.resetRun = none ∧
     after (.mctpControlMessage [0x01, 0x01, 0x00, 0x09]) up (fun d => d.out.isEmpty) ∧
     after (.mctpControlMessage [0x83, 0x01, 0x00, 0x09]) up (fun d => d.out == [.mctp 0 [3, 1, 0, 0, 9, 0]] && d.mgmt.eid == 9) ∧
     after (.mctpControlMessage [0x83, 0x01, 0x00, 0x07]) up (fun d => d.out == [.mctp 0 [3, 1, 2]] && d.mgmt.eid == 0) ∧
     after (.mctpControlMessage [0x83, 0x02]) { up with mgmt := { eid := 9 } } (fun d => d.out == [.mctp 0 [3, 2, 0, 9, 0, 0]]) ∧
     after (.mctpControlMessage [0x83, 0x04, 0xFF]) up (fun d => d.out.length == 1) ∧
     after (.mctpControlMessage [0x83, 0x05]) up (fun d => d.out == [.mctp 0 [3, 5, 0, 2, 1, 0x7E]]) ∧
     after (.mctpControlMessage [0x83, 0x09]) up (fun d => d.out == [.mctp 0 [3, 9, 5]])) ∧
    (after (.pldmBaseDiscovery [0x83, 0, 1, 5]) up (fun d => d.out == [.mctp 1 [3, 0, 1, 0]] && d.mgmt.tid == 5) ∧
     after (.pldmBaseDiscovery [0x83, 0, 2]) up (fun d => d.out == [.mctp 1 [3, 0, 2, 0, 0]]) ∧
     after (.pldmBaseDiscovery [0x83, 0, 4]) up (fun d => d.out == [.mctp 1 [3, 0, 4, 0, 0x25, 0, 0, 0, 0, 0, 0, 0]]) ∧
     after (.pldmBaseDiscovery [0x83, 0, 5, 2]) up (fun d => d.out.length == 1) ∧
     after (.pldmBaseDiscovery [0x83, 0, 9]) up (fun d => d.out == [.mctp 1 [3, 0, 9, 5]])) ∧
    (pldmSensor 6 = false ∧ pldmSensor 0x20 = true ∧ pldmSensor 1 = true ∧
     after (.pldmSensorRead 0x83 6) up (fun d => d.out == [.mctp 1 [3, 2, 0x11, 0x80]]) ∧
     after (.pldmSensorRead 0x83 1) { up with sensors := [(1, 40)] } (fun d =>
       d.out == [.mctp 1 [3, 2, 0x11, 0, 4, 0, 0, 1, 1, 1, 40, 0, 0, 0]]) ∧
     after (.pldmSensorRead 0x83 0x20) (up.setReg PMU_STATUS 0) (fun d =>
       d.out == [.mctp 1 [3, 2, 0x11, 0, 4, 2, 0, 1, 1, 1, 0, 0, 0, 0]])) ∧
    (after (.pldmFirmwareUpdate 0x83 2 [] true) up (fun d => d.out == [.mctp 1 [3, 5, 0x14, 2]]) ∧
     (FwSlot.ofImage [1, 2]).good = false ∧
     after (.pldmFirmwareUpdate 0x83 1 [1, 2] true) up (fun d => d.out == [.mctp 1 [0x83, 5, 0x17, 1]] && d.boot.fwB.image == [1, 2]) ∧
     after (.i3cDynamicAddressAssignment 8) up (fun d => d.mgmt.i3c == 8) ∧
     after (.i3cDynamicAddressAssignment 0x7E) up (fun d => d.mgmt.i3c == 0)) := by decide +kernel

/-! ### The JTAG port and configuration requests -/

theorem witness_JtagAndConfiguration :
    (after (.jtagExtest 6 5) { heldDev 3 2 with supplies := { rstHigh := false } } (fun d => d.jtag.update == 5 && d.jtag.ir == 0) ∧
     after (.jtagExtest 6 5) up (fun d => d.jtag.update == 0 && d.out.length == 2) ∧
     after (.jtagSamplePreload 6 5) up (fun d => d.jtag.boundary == 5 && d.jtag.ir == 1) ∧
     after (.jtagBypass 0xFF 8 0x81) up (fun d => d.out == [.jtag [1], .jtag [2]] && d.jtag.bypass) ∧
     after (.jtagBypass 0xFF 0 0) up (fun d => d.out == [.jtag [1]]) ∧ after (.jtagBypass 1 8 0) up (fun d => d.out.isEmpty) ∧
     after .jtagTapReset { up with jtag := { ir := 1 } } (fun d => d.jtag.ir == 0xFF)) ∧
    (let d := { up with sample := true }
     after (.jtagDebugAccess (.readControl 0 1)) up (fun d => d.out.isEmpty) ∧
     (∃ d1, d.takeEntry .jtag .jtag [0] false = some d1) ∧
     after (.jtagDebugAccess (.command [0])) d (fun d => d.out.length + d.staged.length == 1) ∧
     d.mapped (selfAddr 0 8) 2 = true ∧ d.mapped (selfAddr 2 8) 2 = false ∧
     after (.jtagDebugAccess (.write (selfAddr 0 8) [7, 9])) d (fun d => d.readBytes (memKey 0 8) 2 == [7, 9]) ∧
     after (.jtagDebugAccess (.write (selfAddr 2 8) [7, 9])) d (fun d => d.mem.isEmpty) ∧
     after (.jtagDebugAccess (.read (selfAddr 0 8) 2)) { d with mem := [(memKey 0 9, 3)] } (fun d => d.out == [.jtag [0, 3]]) ∧
     after (.jtagDebugAccess (.read (selfAddr 2 8) 2)) d (fun d => d.out == [.jtag []]) ∧
     after (.jtagDebugAccess (.writeReg HUB_FN_IRQ 0x80000005)) d (fun d => d.portReg .jtag HUB_FN_IRQ == 0x80000005) ∧
     after (.jtagDebugAccess (.readReg HUB_FN_IRQ)) d (fun d => d.out == [.jtag [0, 0, 0, 0]]) ∧
     after (.jtagDebugAccess (.writeControl 16777215 [7])) d (fun d => d.readBytes (bootKey 16777215) 1 == [7]) ∧
     after (.jtagDebugAccess (.writeControl 16777216 [7])) d (fun d => d.mem.isEmpty) ∧
     after (.jtagDebugAccess (.readControl 16777216 1)) d (fun d => d.out.length == 1 && d.freeCounter == 1)) ∧
    (let at_ (n : Nat) : Device := { up with boot := { stage := n } }
     let vf : Device := { up with pcie := { vfEnable := true } }
     after (.configurationRequest 0 .ident none) (at_ 1) (fun d => d.out.isEmpty) ∧
     after (.configurationRequest 0 .ident none) (at_ 5) (fun d => d.out == [.pcie 2 []]) ∧
     after (.configurationRequest 5 .ident none) (at_ 6) (fun d => d.out == [.pcie 1 []]) ∧
     after (.configurationRequest 5 .ident none) vf (fun d => d.out == [.pcie 0 [0x3C, 0x1F, 0x13, 0x0C]]) ∧
     after (.configurationRequest 0 .vfEnable (some 1)) up (fun d => d.pcie.vfEnable) ∧
     after (.configurationRequest 0 .vfEnable (some 0)) { up with pcie := { d3hot := [0, 4] } } (fun d => !d.pcie.vfEnable && d.pcie.d3hot == [0]) ∧
     after (.configurationRequest 5 .bar4Size (some 28)) vf (fun d => d.bar4Log 5 == 28) ∧
     after (.configurationRequest 0 .bar4Size (some 29)) up (fun d => d.pcie.bar4.isEmpty) ∧
     after (.configurationRequest 5 .power (some 3)) vf (fun d => d.pcie.d3hot == [5]) ∧
     after (.configurationRequest 5 .power (some 0)) { up with pcie := { vfEnable := true, d3hot := [5] } } (fun d => d.pcie.d3hot.isEmpty) ∧
     after (.configurationRequest 5 .power (some 1)) vf (fun d => d.pcie.d3hot.isEmpty) ∧
     after (.configurationRequest 0 .other none) up (fun d => d.out.length == 1 && d.freeCounter == 1)) := by
  refine ⟨by decide +kernel, ⟨by decide +kernel, ⟨_, rfl⟩, ?_⟩, by decide +kernel⟩
  decide +kernel

/-! ### Well-formed commands: for each check, a term that it refuses and one that it passes -/

theorem test_wellFormed_refuses :
    (Instr.functionLevelReset 64).wellFormed = false ∧ (Instr.msixHoldoffExpiry 4096).wellFormed = false ∧
    (Instr.regLoWrite .pf 0 (2 ^ 32)).wellFormed = false ∧ (Instr.circuitSetup (.vf 0)).wellFormed = false ∧
    (Instr.circuitSetup (.vf 64)).wellFormed = false ∧ (Instr.nop (.session 4096)).wellFormed = false ∧
    (Instr.stepIssue 12).wellFormed = false ∧ (Instr.portRetryTimer 17).wellFormed = false ∧
    (Instr.teardownNotice 3 64).wellFormed = false ∧ (Instr.cellBeat 3 320).wellFormed = false ∧
    (Instr.linkResend 3 5 5 true).wellFormed = false ∧ (Instr.tokenArrivalCell 3 5 true 4).wellFormed = false ∧
    (Instr.bankAccess 3 16 16).wellFormed = false ∧ (Instr.generatorRunStart 3 16 4).wellFormed = false ∧
    (Instr.t1WriteToken 3 16 3).wellFormed = false ∧ (Instr.t1ParityReissue 3 16 8).wellFormed = false ∧
    (Instr.ringInject 3 5 2).wellFormed = false ∧ (Instr.outboundToken 3 5 1).wellFormed = false ∧
    (Instr.pushTokenArrival 3 16).wellFormed = false ∧ (Instr.descriptorStart 200 0 none).wellFormed = false ∧
    (Instr.galeDropReport 64).wellFormed = false ∧ (Instr.restartResetReport 1 72).wellFormed = false ∧
    (Instr.plvReadReq 3 5 0 0 (2 ^ 64) 4 0 none false).wellFormed = false ∧
    (Instr.plvReadReq 3 5 0 0 0 2049 0 none false).wellFormed = false ∧ (Instr.blockReceive 3 0 []).wellFormed = false := by
  decide +kernel

theorem test_wellFormed_passes :
    (Instr.functionLevelReset 63).wellFormed = true ∧ (Instr.msixHoldoffExpiry 4095).wellFormed = true ∧
    (Instr.circuitSetup (.vf 63)).wellFormed = true ∧ (Instr.stepIssue 11).wellFormed = true ∧ (Instr.portRetryTimer 16).wellFormed = true ∧
    (Instr.cellBeat 3 319).wellFormed = true ∧ (Instr.outboundToken 3 15 3).wellFormed = true ∧
    (Instr.plvReadReq 16 0 0 0 (2 ^ 64 - 1) 2048 0 none false).wellFormed = true := by decide +kernel

end Sys2Proof.Tests
end

section
/-!
SUPPORT. Register pairs: which half of a pair an offset holds, what a read or a write of a half does to the device, and where the
session records lie in BAR0 (R15 to R19, R713).
-/
namespace Sys2Proof.Machine

/-! ### The session records and the register map -/

/-- An offset that a register's description covers lies between its first and its last word. -/
theorem RegDesc.bounds_of_covers {r : RegDesc} {b : RegBlock} {rel : Nat} (h : r.covers b rel = true) :
    r.block = b ∧ r.off ≤ rel ∧ rel ≤ r.off + r.stride * (r.count - 1) := by
  simp only [RegDesc.covers, Bool.and_eq_true, beq_iff_eq, decide_eq_true_eq] at h
  obtain ⟨⟨hb, hlo⟩, hin⟩ := h
  refine ⟨hb, hlo, ?_⟩
  split at hin
  · have : rel = r.off := by simpa using hin
    omega
  · simp only [Bool.and_eq_true, beq_iff_eq, decide_eq_true_eq] at hin
    obtain ⟨haligned, hindex⟩ := hin
    have hwhole := Nat.div_add_mod (rel - r.off) r.stride
    have hlast := Nat.mul_le_mul_left r.stride (Nat.le_sub_one_of_lt hindex)
    omega

/-- R43, R713: the map has no register in the range of the session records. -/
theorem regTable_skips_sessionRecords : ∀ r ∈ regTable, r.block = .dev →
    r.off + r.stride * (r.count - 1) < sessionBase ∨ sessionBase + 0x40000 ≤ r.off := by
  decide +kernel

theorem descAt_sessionRecord {off : Nat} (hlo : sessionBase ≤ off) (hhi : off < sessionBase + 0x40000) :
    descAt off = none := by
  have hblock : blockOf off = (.dev, 0, off) := by
    simp only [sessionBase] at hhi
    rw [blockOf, if_neg (by simp; omega), if_neg (by simp; omega)]
  simp only [descAt, hblock, List.find?_eq_none]
  intro r hr hcovers
  obtain ⟨hdev, hfirst, hlast⟩ := RegDesc.bounds_of_covers hcovers
  have := regTable_skips_sessionRecords r hr hdev
  omega

theorem sessionWord_aligned {o : Nat} (n : Nat) (ho : o % 4 = 0) : (sessionBase + 0x40 * n + o) % 4 = 0 := by
  simp only [sessionBase]
  omega

section SessionWord
variable {n o : Nat} (hn : n < 4096) (ho : o < 0x40)
include hn ho

theorem sessionWord_lt_msixBase : sessionBase + 0x40 * n + o < msixBase := by
  simp only [sessionBase, msixBase]
  omega

/-- The test by which the model tells that an offset lies in the session records. -/
theorem sessionWord_in_records : (decide (sessionBase ≤ sessionBase + 0x40 * n + o) &&
    decide (sessionBase + 0x40 * n + o < sessionBase + 0x40000)) = true := by
  simp only [Bool.and_eq_true, decide_eq_true_eq]
  omega

theorem descAt_sessionWord : descAt (sessionBase + 0x40 * n + o) = none :=
  descAt_sessionRecord (by omega) (by omega)

/-- R15: a word of a session record is the half that the layout of the record says. -/
theorem pairHalf_sessionWord : pairHalf (sessionBase + 0x40 * n + o) = sessionPair (sessionBase + o) := by
  have hfirst := sessionWord_in_records (n := 0) (by decide) ho
  rw [Nat.mul_zero, Nat.add_zero] at hfirst
  have hword : (sessionBase + 0x40 * n + o - sessionBase) % 0x40 = (sessionBase + o - sessionBase) % 0x40 := by omega
  rw [pairHalf, descAt_sessionWord hn ho]
  simp only [sessionPair, sessionWord_in_records hn ho, hfirst, hword]

/-- R708: a port writes a word of a session record exactly where it reaches the session. -/
theorem Device.mayWrite_sessionWord (d : Device) (port : Port) :
    d.mayWrite port (sessionBase + 0x40 * n + o) = d.maySession port n := by
  have hrecord : (sessionBase + 0x40 * n + o - sessionBase) / 0x40 = n := by omega
  rw [Device.mayWrite, if_pos (sessionWord_in_records hn ho), hrecord]

end SessionWord

/-! ### What a session is after a write -/

@[simp] theorem Device.session_setSession_same (d : Device) (n : Nat) (x : Session) : (d.setSession n x).session n = x := by
  simp [Device.session, Device.setSession]

@[simp] theorem Device.session_setSession_other (d : Device) (n k : Nat) (x : Session) (h : k ≠ n) :
    (d.setSession n x).session k = d.session k := by
  simp [Device.session, Device.setSession, h]

/-- R713: while a session is off and not enabled, its submission ring's base takes both halves. -/
theorem Device.sesBaseWrite_sqBase_of_off {d : Device} {n : Nat} (lo hi : Nat) (henable : (d.session n).enable = false)
    (hoff : (d.session n).state = .off) :
    d.sesBaseWrite n 0x04 lo hi =
      d.setSession n { d.session n with sqBase := lo % 2 ^ 32 + 2 ^ 32 * (hi % 2 ^ 32) } := by
  simp [Device.sesBaseWrite, henable, hoff]

/-! ### Reading a half (R16, R17) -/

theorem fxRegLoRead_eq {port : Port} {off : Nat} {d : Device} (hport : d.portAnswers port = true) (hlow : pairHalf off = 1) :
    fxRegLoRead port off d =
      { d with out := d.out ++ [.value port (leBytes 4 (d.peekReg port off))]
               snaps := Table.put d.snaps (portKey (off + 4) port) (d.peekReg port (off + 4)) } := by
  simp [fxRegLoRead, Device.readReg, Device.emit, hport, hlow]

theorem fxRegHiRead_of_snapshot {port : Port} {off v : Nat} {d : Device} (hport : d.portAnswers port = true)
    (hhigh : pairHalf off = 2) (hsnap : Table.find? d.snaps (portKey off port) = some v) :
    fxRegHiRead port off d =
      { d with out := d.out ++ [.value port (leBytes 4 v)], snaps := Table.drop d.snaps (portKey off port) } := by
  simp [fxRegHiRead, Device.readReg, Device.emit, hport, hhigh, hsnap]

theorem fxRegHiRead_of_no_snapshot {port : Port} {off : Nat} {d : Device} (hport : d.portAnswers port = true)
    (hhigh : pairHalf off = 2) (hsnap : Table.find? d.snaps (portKey off port) = none) :
    fxRegHiRead port off d = { d with out := d.out ++ [.value port (leBytes 4 (d.peekReg port off))] } := by
  simp [fxRegHiRead, Device.readReg, Device.emit, hport, hhigh, hsnap]

/-! ### Writing a half of a session's ring base (R18, R19, R713) -/

theorem Device.writeReg_lowHalf {d : Device} {port : Port} {off v : Nat} (halign : off % 4 = 0) (hmap : off < msixBase)
    (hreach : d.mayWrite port off = true) (hlow : pairHalf off = 1) : d.writeReg port off v = d.holdLow port off v := by
  simp [Device.writeReg, halign, Nat.not_le.mpr hmap, hreach, hlow]

theorem Device.writeReg_highHalf {d : Device} {port : Port} {off v : Nat} (halign : off % 4 = 0) (hmap : off < msixBase)
    (hreach : d.mayWrite port off = true) (hhigh : pairHalf off = 2) : d.writeReg port off v = d.commitPair port off v := by
  simp [Device.writeReg, halign, Nat.not_le.mpr hmap, hreach, hhigh]

theorem fxRegLoWrite_sqBase {port : Port} {n : Nat} {d : Device} (lo : Nat) (hport : d.portAnswers port = true) (hn : n < 4096)
    (hreach : d.maySession port n = true) :
    fxRegLoWrite port (sessionBase + 0x40 * n + 0x04) lo d = d.holdLow port (sessionBase + 0x40 * n + 0x04) lo := by
  have hword : 0x04 < 0x40 := by decide
  have hlow : pairHalf (sessionBase + 0x40 * n + 0x04) = 1 := pairHalf_sessionWord hn hword
  have hmay := (d.mayWrite_sessionWord hn hword port).trans hreach
  simp [fxRegLoWrite, hport, hlow,
    Device.writeReg_lowHalf (sessionWord_aligned n rfl) (sessionWord_lt_msixBase hn hword) hmay hlow]

/-- R18, R19: the high half of a submission ring's base commits the low half that the port holds, or else the current one. -/
theorem Device.commitPair_sqBase (d : Device) (port : Port) {n : Nat} (hi : Nat) (hn : n < 4096) :
    d.commitPair port (sessionBase + 0x40 * n + 0x08) hi =
      ({ d with holds := Table.drop d.holds (portKey (sessionBase + 0x40 * n + 0x04) port) } : Device).sesBaseWrite n 0x04
        ((Table.find? d.holds (portKey (sessionBase + 0x40 * n + 0x04) port)).getD ((d.session n).sqBase % 2 ^ 32)) hi := by
  have hword : (sessionBase + 0x40 * n + 0x08 - sessionBase) % 0x40 - 4 = 0x04 := by omega
  have hrecord : (sessionBase + 0x40 * n + 0x08 - sessionBase) / 0x40 = n := by omega
  have hlow : sessionBase + 0x40 * n + 0x08 - 4 = sessionBase + 0x40 * n + 0x04 := by omega
  simp only [Device.commitPair, descAt_sessionWord hn (by decide : 0x08 < 0x40), hword, hrecord, hlow]
  rfl

/-- R18, R19, R713: the high half of an off session's submission ring base empties the port's holding register and stores both
halves. -/
theorem fxRegHiWrite_sqBase_of_off {port : Port} {n : Nat} {d : Device} (hi : Nat) (hport : d.portAnswers port = true)
    (hn : n < 4096) (hreach : d.maySession port n = true) (henable : (d.session n).enable = false)
    (hoff : (d.session n).state = .off) :
    fxRegHiWrite port (sessionBase + 0x40 * n + 0x08) hi d =
      ({ d with holds := Table.drop d.holds (portKey (sessionBase + 0x40 * n + 0x04) port) } : Device).setSession n
        { d.session n with sqBase :=
            (Table.find? d.holds (portKey (sessionBase + 0x40 * n + 0x04) port)).getD ((d.session n).sqBase % 2 ^ 32) % 2 ^ 32 +
              2 ^ 32 * (hi % 2 ^ 32) } := by
  have hword : 0x08 < 0x40 := by decide
  have hhigh : pairHalf (sessionBase + 0x40 * n + 0x08) = 2 := pairHalf_sessionWord hn hword
  have hmay := (d.mayWrite_sessionWord hn hword port).trans hreach
  calc fxRegHiWrite port (sessionBase + 0x40 * n + 0x08) hi d
      = d.commitPair port (sessionBase + 0x40 * n + 0x08) hi := by
        simp [fxRegHiWrite, hport, hhigh,
          Device.writeReg_highHalf (sessionWord_aligned n rfl) (sessionWord_lt_msixBase hn hword) hmay hhigh]
    _ = _ := by
        rw [Device.commitPair_sqBase d port hi hn]
        exact Device.sesBaseWrite_sqBase_of_off _ _ henable hoff

/-! ### The obligation -/

/-- A command of the running device whose effect is known, and which changes no memory, ends in that effect. -/
theorem Ends.of_effect {c : Instr} {s : State} {P : Device → Prop} {f : Device → Device} {d : Device} (hrun : Running s)
    (he : exec c s = onDev .runs f s) (hf : f s.dev = d) (hm : d.mem = s.dev.mem) (hw : d.wlog = s.dev.wlog) (hP : P d) :
    Ends c s P := by
  have ⟨_, _, hquiet⟩ := hrun
  subst hf
  exact Ends.of_quiet .runs f he hrun.runs hm (hw.trans hquiet) hP

/-- Settles O16 (R15 to R19, R713; one snapshot and one holding register for every port and pair is log entry 75): each command's
effect is the device of its equation above, and what the statement says of it is read off the table that the equation writes. -/
theorem registerPairs : Obligations.RegisterPairs := by
  refine ⟨fun s port off hrun hport => ⟨fun hlow => ?loRead, fun v hhigh hsnap => ?hiReadSnapshot, fun hhigh hsnap => ?hiReadLive⟩,
    fun s port n lo hi hrun hport hn hreach =>
      ⟨?loWrite, fun henable hoff hheld => ?hiWriteHeld, fun henable hoff hheld => ?hiWriteCurrent⟩⟩
  case loRead =>
    refine Ends.of_effect hrun rfl (fxRegLoRead_eq hport hlow) rfl rfl ⟨rfl, ?_, ?_, rfl⟩
    · exact Table.find?_put_same _ _ _
    · exact fun k hk => Table.find?_put_other _ _ _ _ hk
  case hiReadSnapshot =>
    refine Ends.of_effect hrun rfl (fxRegHiRead_of_snapshot hport hhigh hsnap) rfl rfl ⟨rfl, ?_, ?_, rfl⟩
    · exact Table.find?_drop_same _ _
    · exact fun k hk => Table.find?_drop_other _ _ _ hk
  case hiReadLive =>
    exact Ends.of_effect hrun rfl (fxRegHiRead_of_no_snapshot hport hhigh hsnap) rfl rfl rfl
  case loWrite =>
    exact Ends.of_effect hrun rfl (fxRegLoWrite_sqBase lo hport hn hreach) rfl rfl ⟨Table.find?_put_same _ _ _, rfl⟩
  case hiWriteHeld =>
    refine Ends.of_effect hrun rfl (fxRegHiWrite_sqBase_of_off hi hport hn hreach henable hoff) rfl rfl ⟨?_, ?_, ?_, rfl⟩
    · simp [hheld]
    · exact Table.find?_drop_same _ _
    · exact fun k hk => Device.session_setSession_other _ _ _ _ hk
  case hiWriteCurrent =>
    refine Ends.of_effect hrun rfl (fxRegHiWrite_sqBase_of_off hi hport hn hreach henable hoff) rfl rfl ⟨?_, rfl⟩
    simp [hheld]

end Sys2Proof.Machine
end

section
/-!
SUPPORT. Host accesses: an access of an unsupported width, a read and a write through an aperture that opens on memory, a read
through an aperture that is off, and what the latch of a refused access holds (R47, R701 to R703).
-/
namespace Sys2Proof.Machine

/-! ### What SECDED and poison leave alone -/

/-- SECDED guards the queue store alone: no other space counts an error of it. -/
theorem Device.secded_of_not_queueStore (d : Device) {a : Nat} (ce : Nat) (ue : Option Nat) (hspace : addrSpace a ≠ 4) :
    d.secded a ce ue = d := by
  simp [Device.secded, hspace]

theorem Device.ueIn_of_not_queueStore (d : Device) {a : Nat} (n : Nat) (ue : Option Nat) (hspace : addrSpace a ≠ 4) :
    d.ueIn a n ue = false := by
  simp [Device.ueIn, hspace]

/-- R902: where no granule is poisoned a store is the write of its bytes. -/
theorem Device.store_of_no_poison {d : Device} (key : Nat) (bs : List Byte) (hclean : d.poison = []) :
    d.store key bs = d.writeBytes key bs := by
  simp [Device.store, Device.writeBytes, hclean]

theorem Device.writeAny_of_isSelf {d : Device} (uid chan job cls srcPart : Nat) {a : Nat} (bs : List Byte)
    (hself : d.isSelf (addrDevice a) = true) :
    d.writeAny uid chan job cls srcPart a bs = d.store (localKey a) bs := by
  simp [Device.writeAny, hself]

/-! ### The latch of a refused access (R702) -/

section HostErr
variable (d : Device) (fn aperture addr reason : Nat) (write : Bool)

/-- Latching a refused access writes registers and nothing else. -/
theorem Device.latchHostErr_frame :
    d.latchHostErr fn aperture addr reason write = { d with regs := (d.latchHostErr fn aperture addr reason write).regs } := by
  simp only [Device.latchHostErr]
  split <;> rfl

@[simp] theorem Device.latchHostErr_mem : (d.latchHostErr fn aperture addr reason write).mem = d.mem := by
  rw [Device.latchHostErr_frame]

@[simp] theorem Device.latchHostErr_wlog : (d.latchHostErr fn aperture addr reason write).wlog = d.wlog := by
  rw [Device.latchHostErr_frame]

@[simp] theorem Device.latchHostErr_out : (d.latchHostErr fn aperture addr reason write).out = d.out := by
  rw [Device.latchHostErr_frame]

/-- R702: a latch that is free takes VALID, WRITE, REASON and the aperture. -/
theorem Device.portReg_latchHostErr_of_free (hfree : bitOf (d.portReg (fnPort fn) HUB_HOST_ERR) 31 = false) :
    (d.latchHostErr fn aperture addr reason write).portReg (fnPort fn) HUB_HOST_ERR =
      (2 ^ 31 + 2 ^ 30 * bit write + 2 ^ 28 * reason + aperture % 16) % 2 ^ 32 := by
  have hlo : portKey HUB_HOST_ERR (fnPort fn) ≠ portKey HUB_HOST_ERR_ADDR_LO (fnPort fn) := by simp [portKey, regKey]
  have hhi : portKey HUB_HOST_ERR (fnPort fn) ≠ portKey HUB_HOST_ERR_ADDR_HI (fnPort fn) := by simp [portKey, regKey]
  simp only [Device.latchHostErr, hfree, Bool.false_eq_true, if_false]
  rw [Device.portReg, Device.reg_setReg_other _ _ _ _ hhi, Device.reg_setReg_other _ _ _ _ hlo, Device.reg_setReg_same]

/-- R702: the top four bits of a free latch that a refusal has filled: VALID, WRITE and the two bits of REASON. -/
theorem Device.hostErr_topBits_of_free (hfree : bitOf (d.portReg (fnPort fn) HUB_HOST_ERR) 31 = false) (hreason : reason < 4) :
    bitsOf ((d.latchHostErr fn aperture addr reason write).portReg (fnPort fn) HUB_HOST_ERR) 31 28 =
      8 + 4 * bit write + reason := by
  have hbit : bit write ≤ 1 := by cases write <;> decide
  rw [Device.portReg_latchHostErr_of_free d fn aperture addr reason write hfree, bitsOf]
  omega

end HostErr

@[simp] theorem Device.emit_out (d : Device) (o : Out) : (d.emit o).out = d.out ++ [o] := rfl
@[simp] theorem Device.portReg_emit (d : Device) (o : Out) (port : Port) (off : Nat) :
    (d.emit o).portReg port off = d.portReg port off := rfl

/-! ### The effects of the accesses -/

section Access
variable {d : Device} {fn off : Nat} (hanswers : d.fnAnswers fn = true)
include hanswers

/-- R47: Unsupported Request, and no effect. -/
theorem fxUnsupportedBarAccess_eq {bar bytes : Nat} (hbar : bar = 0 ∨ bar = 2)
    (hwidth : ((bytes == 4 && off % 4 == 0) || (bar == 0 && bytes == 8 && off % 8 == 0)) = false) :
    fxUnsupportedBarAccess fn bar off bytes d = d.emit (.pcie 1 []) := by
  simp only [fxUnsupportedBarAccess, hanswers, hwidth]
  obtain rfl | rfl := hbar <;> rfl

/-- R701, R702: a read that passes its checks and meets no poison answers the bytes of the domain address. -/
theorem fxApertureRead_of_memory {n a : Nat} (hn : 0 < n) (hboot : d.bootWindow fn off n = false)
    (haddr : d.apertureAddr fn off = some a) (hpass : d.hostError fn a n false = none)
    (hself : d.isSelf (addrDevice a) = true) (hregs : addrSpace a ≠ 6) (hqueue : addrSpace a ≠ 4)
    (hclean : d.poisonIn (localKey a) n = none) (ce : Nat) (ue : Option Nat) :
    fxApertureRead fn off n ce ue d = d.emit (.pcie 0 (d.readBytes (localKey a) n)) := by
  simp [fxApertureRead, hanswers, Nat.pos_iff_ne_zero.mp hn, hboot, haddr, hpass, hself, hregs, hclean,
    Device.secded_of_not_queueStore d ce ue hqueue, Device.ueIn_of_not_queueStore d n ue hqueue]

/-- R701, R702: a read through an aperture that is off answers zeros and is latched with REASON 3. -/
theorem fxApertureRead_of_off {n : Nat} (hn : 0 < n) (hboot : d.bootWindow fn off n = false)
    (hoff : d.apertureAddr fn off = none) (ce : Nat) (ue : Option Nat) :
    fxApertureRead fn off n ce ue d =
      (d.latchHostErr fn (off / 2 ^ (d.bar4Log fn - 4)) 0 3 false).emit (.pcie 0 (List.replicate n 0)) := by
  simp [fxApertureRead, hanswers, Nat.pos_iff_ne_zero.mp hn, hboot, hoff]

/-- R703: a write that passes its checks logs the write of its bytes at the domain address, under a request number of its own. -/
theorem fxApertureWrite_of_memory {data : List Byte} {a : Nat} (hdata : data ≠ [])
    (hboot : d.bootWindow fn off data.length = false) (haddr : d.apertureAddr fn off = some a)
    (hpass : d.hostError fn a data.length true = none) (hself : d.isSelf (addrDevice a) = true) (hregs : addrSpace a ≠ 6)
    (hclean : d.poison = []) :
    fxApertureWrite fn off data d = ({ d with nextUid := d.nextUid + 1 } : Device).writeBytes (localKey a) data := by
  calc fxApertureWrite fn off data d
      = ({ d with nextUid := d.nextUid + 1 } : Device).writeAny d.nextUid hubChan 0 4 15 a data := by
        simp [fxApertureWrite, hanswers, hdata, hboot, haddr, hpass, hregs, Device.uid]
    _ = ({ d with nextUid := d.nextUid + 1 } : Device).store (localKey a) data := Device.writeAny_of_isSelf _ _ _ _ _ _ hself
    _ = _ := Device.store_of_no_poison _ _ hclean

end Access

/-- Bytes written by a command that had logged no write land on the memory of before. -/
theorem Device.land_writeBytes {d : Device} (m : Memory) (key : Nat) (bs : List Byte) (hquiet : d.wlog = []) :
    (d.writeBytes key bs).land m = { d with mem := Memory.applyAll m (cellsOf key bs) } := by
  simp [Device.land, Device.writeBytes, hquiet]

/-- A command of the running device whose effect is known, once its writes have landed, ends in that effect. -/
theorem Ends.of_landed {c : Instr} {s : State} {P : Device → Prop} {f : Device → Device} {d : Device} (hrun : Running s)
    (he : exec c s = onDev .runs f s) (hf : (f s.dev).land s.dev.mem = d) (hP : P d) : Ends c s P :=
  Ends.of_onDev .runs f he hrun.runs (hf ▸ hP)

/-! ### The obligation -/

/-- Settles O18 (R47, R701 to R703): each access's effect is the device of its equation above; the read through an aperture that
is off finds REASON 3 in the latch, and the write's bytes land when the command ends. -/
theorem hostAccessesReachMemory : Obligations.HostAccessesReachMemory := by
  refine fun s fn off hrun hanswers => ⟨fun bar bytes hbar hwidth => ?unsupported,
    fun n a hn hboot haddr hpass hself hspace hclean => ?readMemory, fun n hn hboot hoff hfree => ?readOff,
    fun data a hdata hboot haddr hpass hself hspace hclean => ?writeMemory⟩
  case unsupported =>
    exact Ends.of_effect hrun rfl (fxUnsupportedBarAccess_eq hanswers hbar hwidth) rfl rfl rfl
  case readMemory =>
    have heffect := fxApertureRead_of_memory hanswers hn hboot haddr hpass hself (by simp [hspace]) (by simp [hspace]) hclean 0 none
    exact Ends.of_effect hrun rfl heffect rfl rfl ⟨rfl, rfl⟩
  case readOff =>
    refine Ends.of_effect hrun rfl (fxApertureRead_of_off hanswers hn hboot hoff 0 none) (by simp) (by simp) ⟨by simp, by simp, ?_⟩
    rw [Device.portReg_emit]
    exact Device.hostErr_topBits_of_free s.dev fn _ 0 3 false hfree (by decide)
  case writeMemory =>
    have ⟨_, _, hquiet⟩ := hrun
    have hlanded : (fxApertureWrite fn off data s.dev).land s.dev.mem =
        { s.dev with mem := Memory.applyAll s.dev.mem (cellsOf (localKey a) data), nextUid := s.dev.nextUid + 1 } := by
      rw [fxApertureWrite_of_memory hanswers hdata hboot haddr hpass hself (by simp [hspace]) hclean]
      exact Device.land_writeBytes _ _ _ hquiet
    exact Ends.of_landed hrun rfl hlanded ⟨rfl, rfl⟩

end Sys2Proof.Machine
end

section
/-!
SUPPORT. The bits of a token (R117 to R119): bit fields of a sum of fields, ones counted over a field, and what stands in each
field of a vector and of a scalar token.
-/
namespace Sys2Proof.Machine

/-! ### Bit fields -/

theorem testBit_bitsOf (n hi lo i : Nat) : (bitsOf n hi lo).testBit i = (decide (i < hi + 1 - lo) && n.testBit (lo + i)) := by
  rw [bitsOf, Nat.testBit_mod_two_pow, Nat.testBit_div_two_pow, Nat.add_comm i lo]

/-- Bit `i` of a number is its field [i:i]. -/
theorem testBit_bitsOf_single (n i : Nat) : (bitsOf n i i).testBit 0 = n.testBit i := by
  rw [testBit_bitsOf, decide_eq_true (by omega), Bool.true_and, Nat.add_zero]

/-- The field from bit 0 that holds all of a number. -/
theorem bitsOf_of_lt {n hi k : Nat} (h : n < 2 ^ k) (hk : hi + 1 = k) : bitsOf n hi 0 = n := by
  simpa [bitsOf, hk] using Nat.mod_eq_of_lt h

/-- A field below bit `k` does not see what is added from bit `k` up. -/
theorem bitsOf_add_of_lt {k hi : Nat} (a b lo : Nat) (hhi : hi < k) : bitsOf (a + 2 ^ k * b) hi lo = bitsOf a hi lo := by
  obtain hempty | hlo := Nat.lt_or_ge (hi + 1) lo
  · simp [bitsOf, Nat.sub_eq_zero_of_le hempty.le, Nat.mod_one]
  · obtain ⟨above, rfl⟩ := Nat.exists_eq_add_of_le hhi
    have hsplit : 2 ^ (hi + 1 + above) * b = 2 ^ lo * (2 ^ (hi + 1 - lo) * (2 ^ above * b)) := by
      rw [← Nat.mul_assoc, ← Nat.mul_assoc, ← Nat.pow_add, ← Nat.pow_add, Nat.add_sub_of_le hlo]
    rw [bitsOf, hsplit, Nat.add_mul_div_left _ _ (Nat.two_pow_pos lo), Nat.add_mul_mod_self_left, bitsOf]

/-- A field from bit `k` up sees only what is added there. -/
theorem bitsOf_add_of_le {a k hi lo : Nat} (b : Nat) (ha : a < 2 ^ k) (hlo : k ≤ lo) (hhi : k ≤ hi) :
    bitsOf (a + 2 ^ k * b) hi lo = bitsOf b (hi - k) (lo - k) := by
  have hwidth : hi - k + 1 - (lo - k) = hi + 1 - lo := by omega
  have hshift : (a + 2 ^ k * b) / 2 ^ k = b := by
    rw [Nat.add_mul_div_left _ _ (Nat.two_pow_pos k), Nat.div_eq_of_lt ha, Nat.zero_add]
  calc bitsOf (a + 2 ^ k * b) hi lo
      = (a + 2 ^ k * b) / (2 ^ k * 2 ^ (lo - k)) % 2 ^ (hi + 1 - lo) := by rw [← Nat.pow_add, Nat.add_sub_of_le hlo, bitsOf]
    _ = bitsOf b (hi - k) (lo - k) := by rw [← Nat.div_div_eq_div_mul, hshift, bitsOf, hwidth]

/-- Byte `i` of the `k` little-endian bytes of `n` is its field [8 i + 7 : 8 i] (R10). -/
theorem leBytes_getD_toNat {k i : Nat} (n : Nat) (hi : i < k) :
    ((leBytes k n).getD i 0).toNat = bitsOf n (8 * i + 7) (8 * i) := by
  induction k generalizing n i with
  | zero => omega
  | succ k ih =>
    cases i with
    | zero => simp [leBytes, bitsOf]
    | succ i =>
      have hwidth (j : Nat) : 8 * j + 7 + 1 - 8 * j = 8 := by omega
      calc ((leBytes (k + 1) n).getD (i + 1) 0).toNat
          = bitsOf (n / 2 ^ 8) (8 * i + 7) (8 * i) := by
            simpa [leBytes] using ih (n / 256) (Nat.lt_of_succ_lt_succ hi)
        _ = bitsOf n (8 * (i + 1) + 7) (8 * (i + 1)) := by
            rw [bitsOf, bitsOf, hwidth, hwidth, Nat.div_div_eq_div_mul, ← Nat.pow_add, Nat.add_comm 8, ← Nat.mul_succ]

/-! ### Ones and their parity -/

theorem bit_lt_two (b : Bool) : bit b < 2 := by cases b <;> decide

/-- The ones among the `k` bits of `n` from bit `lo`. -/
def onesIn (n lo k : Nat) : Nat := ((List.range k).filter (fun i => n.testBit (lo + i))).length

theorem onesIn_succ (n lo k : Nat) : onesIn n lo (k + 1) = onesIn n lo k + bit (n.testBit (lo + k)) := by
  cases h : n.testBit (lo + k) <;> simp [onesIn, List.range_succ, List.filter_append, h, bit]

theorem bit_add_bit_mod_two (a b : Bool) : (bit a + bit b) % 2 = bit (b != a) := by cases a <;> cases b <;> rfl

/-- `oddOnes` is the parity of the ones that stand in a field. -/
theorem onesIn_mod_two {lo k m n : Nat} (hbits : ∀ i < k, m.testBit i = n.testBit (lo + i)) :
    onesIn n lo k % 2 = bit (oddOnes m k) := by
  induction k with
  | zero => rfl
  | succ k ih =>
    rw [onesIn_succ, ← Nat.mod_add_mod, ih fun i hi => hbits i (Nat.lt_succ_of_lt hi), ← hbits k (Nat.lt_succ_self k),
      bit_add_bit_mod_two, oddOnes]

theorem onesIn_field {n lo hi k : Nat} (hwidth : hi + 1 = lo + k) : onesIn n lo k % 2 = bit (oddOnes (bitsOf n hi lo) k) :=
  onesIn_mod_two fun i hi => by simp [testBit_bitsOf, hwidth, hi]

/-- A parity bit that is the parity of what it covers makes the count of ones even. -/
theorem even_of_parity {n : Nat} {p : Bool} (h : n % 2 = bit p) : (n + bit p) % 2 = 0 := by
  rw [← Nat.mod_add_mod, h, bit_add_bit_mod_two, bne_self_eq_false]
  rfl

theorem onesIn_one (n lo : Nat) : onesIn n lo 1 = bit (n.testBit lo) := onesIn_succ n lo 0 |>.trans (Nat.zero_add _)

/-! ### The sum of the parity bits -/

/-- The number whose bit `w` is `f w`, for `w` below `n`. -/
def packBits (f : Nat → Bool) (n : Nat) : Nat := (List.range n).foldl (fun a w => a + 2 ^ w * bit (f w)) 0

theorem packBits_succ (f : Nat → Bool) (n : Nat) : packBits f (n + 1) = packBits f n + 2 ^ n * bit (f n) := by
  simp [packBits, List.range_succ]

theorem packBits_lt (f : Nat → Bool) (n : Nat) : packBits f n < 2 ^ n := by
  induction n with
  | zero => exact Nat.one_pos
  | succ n ih =>
    have hbit : 2 ^ n * bit (f n) ≤ 2 ^ n * 1 := Nat.mul_le_mul_left _ (Nat.le_of_lt_succ (bit_lt_two _))
    rw [packBits_succ, Nat.pow_succ]
    omega

theorem testBit_packBits (f : Nat → Bool) {n w : Nat} (hw : w < n) : (packBits f n).testBit w = f w := by
  induction n with
  | zero => omega
  | succ n ih =>
    rw [packBits_succ, ← testBit_bitsOf_single]
    obtain hlt | rfl := Nat.lt_succ_iff_lt_or_eq.mp hw
    · rw [bitsOf_add_of_lt _ _ _ hlt, testBit_bitsOf_single, ih hlt]
    · rw [bitsOf_add_of_le _ (packBits_lt f w) le_rfl le_rfl, testBit_bitsOf_single, Nat.sub_self]
      cases f w <;> rfl

/-! ### The fields of a token -/

theorem TokKind.code_lt (k : TokKind) : k.code < 4 := by cases k <;> decide

section Header
variable (t : Token)

theorem Token.header_lt : t.header < 2 ^ 17 := by
  have hkind := TokKind.code_lt t.kind
  have hfin := bit_lt_two t.fin
  simp only [Token.header]
  omega

theorem Token.header_tag : bitsOf t.header 11 0 = t.tag % 4096 := by
  simp only [Token.header, bitsOf]
  omega

theorem Token.header_epoch : bitsOf t.header 13 12 = t.epoch % 4 := by
  simp only [Token.header, bitsOf]
  omega

theorem Token.header_fin : t.header.testBit 14 = t.fin := by
  have hfin : bitsOf t.header 14 14 = bit t.fin := by
    have := bit_lt_two t.fin
    simp only [Token.header, bitsOf]
    omega
  rw [← testBit_bitsOf_single, hfin]
  cases t.fin <;> rfl

theorem Token.header_kind : bitsOf t.header 16 15 = t.kind.code := by
  have hkind := TokKind.code_lt t.kind
  have hfin := bit_lt_two t.fin
  simp only [Token.header, bitsOf]
  omega

end Header

/-! ### A vector token (R117, R118) -/

section Vector
variable (t : Token)

/-- Bits [544:529] of a vector token. -/
def Token.parityWord : Nat := packBits t.vectorParity 16

theorem Token.payload_lt : t.payload.toNat < 2 ^ 512 := by
  simpa only using t.payload.isLt

/-- R117: the payload, above it the header, above it the parity bits. -/
theorem Token.vectorBits_toNat : t.vectorBits.toNat = t.payload.toNat + 2 ^ 512 * (t.header + 2 ^ 17 * t.parityWord) := by
  have hpayload := t.payload_lt
  have hheader := t.header_lt
  have hparity : t.parityWord < 2 ^ 16 := packBits_lt _ _
  rw [Token.vectorBits, BitVec.toNat_ofNat]
  change (_ + 2 ^ 529 * t.parityWord) % _ = _
  omega

theorem Token.vectorBits_payload {hi : Nat} (lo : Nat) (hhi : hi < 512) :
    bitsOf t.vectorBits.toNat hi lo = bitsOf t.payload.toNat hi lo := by
  rw [t.vectorBits_toNat, bitsOf_add_of_lt _ _ _ hhi]

theorem Token.vectorBits_header {hi lo : Nat} (h : 512 ≤ lo ∧ lo ≤ hi ∧ hi < 529) :
    bitsOf t.vectorBits.toNat hi lo = bitsOf t.header (hi - 512) (lo - 512) := by
  obtain ⟨hlo, hle, hhi⟩ := h
  rw [t.vectorBits_toNat, bitsOf_add_of_le _ t.payload_lt hlo (hlo.trans hle), bitsOf_add_of_lt _ _ _ (by omega)]

theorem Token.vectorBits_parity {w : Nat} (hw : w < 16) : t.vectorBits.toNat.testBit (529 + w) = t.vectorParity w := by
  have hshift : 529 + w - 512 - 17 = w := by omega
  rw [← testBit_bitsOf_single, t.vectorBits_toNat, bitsOf_add_of_le _ t.payload_lt (by omega) (by omega),
    bitsOf_add_of_le _ t.header_lt (by omega) (by omega), testBit_bitsOf_single, hshift, Token.parityWord,
    testBit_packBits _ hw]

theorem Token.vectorBits_bytes {i : Nat} (hi : i < 64) :
    (t.bytes.getD i 0).toNat = bitsOf t.vectorBits.toNat (8 * i + 7) (8 * i) := by
  rw [t.vectorBits_payload _ (by omega)]
  exact leBytes_getD_toNat _ hi

theorem Token.vectorBits_fin : t.vectorBits.toNat.testBit 526 = t.fin := by
  rw [← testBit_bitsOf_single, t.vectorBits_header (by decide), testBit_bitsOf_single, t.header_fin]

/-- The ones of payload word `w`. -/
theorem Token.vectorBits_onesIn_word {w : Nat} (hw : w < 16) :
    onesIn t.vectorBits.toNat (32 * w) 32 % 2 = bit (oddOnes (bitsOf t.payload.toNat (32 * w + 31) (32 * w)) 32) := by
  rw [onesIn_field (k := 32) rfl, t.vectorBits_payload _ (by omega)]

/-- The ones of the header. -/
theorem Token.vectorBits_onesIn_header : onesIn t.vectorBits.toNat 512 17 % 2 = bit (oddOnes t.header 17) := by
  rw [onesIn_field (hi := 528) (k := 17) rfl, t.vectorBits_header (by decide), bitsOf_of_lt t.header_lt rfl]

/-- R118: a word above the first and its parity bit hold an even count of ones. -/
theorem Token.vectorBits_even_word {w : Nat} (hw : w < 16) (hfirst : 0 < w) :
    (onesIn t.vectorBits.toNat (32 * w) 32 + onesIn t.vectorBits.toNat (529 + w) 1) % 2 = 0 := by
  rw [onesIn_one, t.vectorBits_parity hw]
  apply even_of_parity
  rw [t.vectorBits_onesIn_word hw, Token.vectorParity, if_neg hfirst.ne']

/-- R118: the first word, the header and parity bit 0 hold an even count of ones. -/
theorem Token.vectorBits_even_first :
    (onesIn t.vectorBits.toNat 0 32 + onesIn t.vectorBits.toNat 512 17 + onesIn t.vectorBits.toNat 529 1) % 2 = 0 := by
  rw [onesIn_one, t.vectorBits_parity (w := 0) (by decide)]
  apply even_of_parity
  rw [Nat.add_mod, t.vectorBits_onesIn_word (w := 0) (by decide), t.vectorBits_onesIn_header, Nat.add_comm,
    bit_add_bit_mod_two, Token.vectorParity, if_pos rfl]

end Vector

/-! ### A scalar token (R119) -/

section Scalar
variable (t : Token)

/-- Bits [48:0] of a scalar token. -/
def Token.scalarLow : Nat := t.payload.toNat % 2 ^ 32 + 2 ^ 32 * t.header

theorem Token.scalarLow_lt : t.scalarLow < 2 ^ 49 := by
  have hheader := t.header_lt
  have hpayload : t.payload.toNat % 2 ^ 32 < 2 ^ 32 := Nat.mod_lt _ (by decide)
  simp only [Token.scalarLow]
  omega

theorem Token.scalarBits_toNat : t.scalarBits.toNat = t.scalarLow + 2 ^ 49 * bit (oddOnes t.scalarLow 49) := by
  have hlow := t.scalarLow_lt
  have hparity := bit_lt_two (oddOnes t.scalarLow 49)
  rw [Token.scalarBits, BitVec.toNat_ofNat]
  change (t.scalarLow + 2 ^ 49 * bit (oddOnes t.scalarLow 49)) % _ = _
  omega

theorem Token.scalarBits_payload : bitsOf t.scalarBits.toNat 31 0 = t.payload.toNat % 2 ^ 32 := by
  rw [t.scalarBits_toNat, bitsOf_add_of_lt _ _ _ (by decide), Token.scalarLow, bitsOf_add_of_lt _ _ _ (by decide),
    bitsOf_of_lt (k := 32) (Nat.mod_lt _ (by decide)) rfl]

theorem Token.scalarBits_header {hi lo : Nat} (h : 32 ≤ lo ∧ lo ≤ hi ∧ hi < 49) :
    bitsOf t.scalarBits.toNat hi lo = bitsOf t.header (hi - 32) (lo - 32) := by
  obtain ⟨hlo, hle, hhi⟩ := h
  rw [t.scalarBits_toNat, bitsOf_add_of_lt _ _ _ hhi, Token.scalarLow,
    bitsOf_add_of_le _ (Nat.mod_lt _ (by decide)) hlo (hlo.trans hle)]

theorem Token.scalarBits_fin : t.scalarBits.toNat.testBit 46 = t.fin := by
  rw [← testBit_bitsOf_single, t.scalarBits_header (by decide), testBit_bitsOf_single, t.header_fin]

theorem Token.scalarBits_parity : t.scalarBits.toNat.testBit 49 = oddOnes t.scalarLow 49 := by
  rw [← testBit_bitsOf_single, t.scalarBits_toNat, bitsOf_add_of_le _ t.scalarLow_lt le_rfl le_rfl]
  cases oddOnes t.scalarLow 49 <;> rfl

/-- R119: a scalar token holds an even count of ones. -/
theorem Token.scalarBits_even : onesIn t.scalarBits.toNat 0 50 % 2 = 0 := by
  rw [onesIn_succ, Nat.zero_add, t.scalarBits_parity]
  apply even_of_parity
  rw [onesIn_field (hi := 48) (k := 49) rfl, t.scalarBits_toNat, bitsOf_add_of_lt _ _ _ (by decide),
    bitsOf_of_lt t.scalarLow_lt rfl]

end Scalar

/-! ### The obligation -/

/-- Settles O5 (R117 to R119): each field of either token is its field of the payload or of the header, and each parity bit
stands for the parity of the ones it covers. -/
theorem tokenBits : Obligations.TokenBits := by
  intro t v c ones kind
  refine ⟨fun i hi => t.vectorBits_bytes hi, ?payload, ?tag, ?epoch, t.vectorBits_fin, ?kind,
    fun w hfirst hw => t.vectorBits_even_word hw hfirst, t.vectorBits_even_first, t.scalarBits_payload, ?scalarTag, ?scalarEpoch,
    t.scalarBits_fin, ?scalarKind, t.scalarBits_even⟩
  case payload => exact (t.vectorBits_payload 0 (by decide)).trans (bitsOf_of_lt t.payload_lt rfl)
  case tag => exact (t.vectorBits_header (by decide)).trans t.header_tag
  case epoch => exact (t.vectorBits_header (by decide)).trans t.header_epoch
  case kind => exact (t.vectorBits_header (by decide)).trans t.header_kind
  case scalarTag => exact (t.scalarBits_header (by decide)).trans t.header_tag
  case scalarEpoch => exact (t.scalarBits_header (by decide)).trans t.header_epoch
  case scalarKind => exact (t.scalarBits_header (by decide)).trans t.header_kind

end Sys2Proof.Machine
end

section
/-!
SUPPORT. What a vector instruction writes, by its operation, and a single lane of FMA and of MASKAPPLY (R142).
-/
namespace Sys2Proof.Machine

/-- A result depends on the operation code alone and on the operands: with the code a literal, the result computes to that row of
R142's table. -/
theorem vecResult_of_op {i : VInstr} (k : Nat → Word) (regs : List (List Word)) {n : Nat} (hop : i.op = n) :
    vecResult i k regs = vecResult { i with op := n } k regs := by
  subst hop
  rfl

/-- R142: NOP and the reserved operations write nothing. -/
theorem vecResult_of_nop {i : VInstr} (k : Nat → Word) (regs : List (List Word)) (hop : i.op = 0 ∨ 13 ≤ i.op) :
    vecResult i k regs = none := by
  have hcode : i.code = 0 := by
    rw [VInstr.code]
    split <;> omega
  simp only [vecResult, hcode]

/-- R142: lane `n` of FMA. -/
theorem fma_getElem? {a b c : List Word} {n : Nat} {x y z : Word} (hx : a[n]? = some x) (hy : b[n]? = some y)
    (hz : (c)[n]? = some z) :
    (List.zipWith (fun ab z => f32Fma ab.1 ab.2 z) (a.zip b) c)[n]? = some (f32Fma x y z) := by
  have hpair : (a.zip b)[n]? = some (x, y) := List.getElem?_zip_eq_some.mpr ⟨hx, hy⟩
  simp [List.getElem?_zipWith, hpair, hz]

/-- R142: lane `n` of MASKAPPLY stays where bit `n` of the mask is 1, and is minus infinity where it is 0. -/
theorem maskApply_getElem? {a : List Word} (b : List Word) {n : Nat} {x : Word} (hx : a[n]? = some x) :
    (maskApply a b)[n]? =
      some (if ((b.getD 0 0).toNat + 2 ^ 32 * (b.getD 1 0).toNat).testBit n then x else 0xFF800000#32) := by
  rw [maskApply, List.getElem?_map, List.getElem?_zipIdx, hx, Option.map_some, Option.map_some, Nat.zero_add]

/-- Settles O34 (R142): the fields are those of `vInstr`, NOP and the reserved operations write nothing, and every other operation
writes the row of its line of the table, FMA and MASKAPPLY lane by lane. -/
theorem vectorResults : Obligations.VectorResults := by
  intro w k regs i a b c
  have hrow {n : Nat} (hop : i.op = n) := vecResult_of_op k regs hop
  refine ⟨rfl, rfl, rfl, rfl, rfl, rfl, vecResult_of_nop k regs, ?add, ?mul, ?fma, ?max, ?min, ?rowmax, ?rowsum, ?exp, ?recip,
    ?rsqrt, ?maskapply, ?move⟩
  case fma => exact fun hop _ _ n x y z hx hy hz => ⟨_, hrow hop, fma_getElem? hx hy hz⟩
  case maskapply => exact fun hop n x hx => ⟨_, hrow hop, maskApply_getElem? b hx⟩
  all_goals exact hrow

end Sys2Proof.Machine
end

section
/-!
SUPPORT. A software reset of a device that is held in reset (R819, R823): its gate is shut, so a request that still stands is left
standing, where a reset that asserts clears it.
-/
namespace Sys2Proof.Machine

/-- SOFTWARE_RESET acts on a running device only: one that is held in reset stays as it is. -/
theorem exec_softwareReset_of_held {s : State} {run : ResetRun} (hheld : s.dev.resetRun = some run) :
    exec .softwareReset s = .next s :=
  onDev_of_closed (g := .runs) fxSoftwareReset (by simp [Gate.isOpen, hheld])

/-- No reach leaves a request of a device reset standing. -/
theorem Boot.atReset_requested (x : Boot) (reach : Nat) : (x.atReset reach).requested = none := rfl

/-- So SOFTWARE_RESET does not bring a held device with a standing request to the boot's state of any reset. -/
theorem not_ends_softwareReset_atReset_of_held {s : State} {run : ResetRun} {request reach : Nat}
    (hheld : s.dev.resetRun = some run) (hrequest : s.dev.boot.requested = some request) :
    ¬ Ends .softwareReset s (fun d => d.boot = s.dev.boot.atReset reach) := by
  rintro ⟨t, hexec, -, hboot⟩
  obtain rfl : s = t := Host.Outcome.next.inj ((exec_softwareReset_of_held hheld).symm.trans hexec)
  have hcleared : s.dev.boot.requested = none := (congrArg Boot.requested hboot).trans (Boot.atReset_requested _ _)
  exact absurd (hrequest.symm.trans hcleared) (Option.some_ne_none request)

/-- A device that RST_N holds in a warm reset, while a RESET_REQUEST of the device still stands. -/
def requestWhileHeld : State :=
  { dev := { resetRun := some { reach := 3, sources := [2] }, boot := { requested := some 0 } } }

/-- Refutes O57: its clause of SOFTWARE_RESET does not ask that the device runs. On `requestWhileHeld` the command leaves the state,
so the boot keeps the request that the claimed reset (R819: the reach under way, 3) would clear. The model itself clears a request
as it enters a reset; the clause lacks `resetRun = none`, which this state fails. -/
theorem not_resetsAndBoot : ¬ Obligations.ResetsAndBoot := by
  intro h
  obtain ⟨hsources, -⟩ := h requestWhileHeld rfl
  obtain ⟨-, -, -, -, -, hsoftware, -⟩ := hsources rfl
  obtain ⟨t, hexec, hpending, ⟨-, -, -, -, -, hboot, -⟩, -⟩ := hsoftware 0 rfl
  exact not_ends_softwareReset_atReset_of_held (reach := 3) rfl rfl ⟨t, hexec, hpending, hboot⟩

end Sys2Proof.Machine
end

section
/-!
SUPPORT. What holds of every command: it ends in a next state, a tripped device lets none but the supplies' own act, memory keeps its
canonical form, and a byte reads as the command's last change of it left it; the state after reset.
-/
namespace Sys2Proof.Machine

/-- Settles O1 (log entry 1): each branch of the step is one of the two clauses. -/
theorem stepRunsFrontCommand : Obligations.StepRunsFrontCommand :=
  ⟨fun _ _ _ => rfl, fun _ => rfl⟩

/-- Settles O2 (log entry 2): every command is an effect behind a gate, and a gate answers a next state whether open or shut. -/
theorem everyCommandAnswersNext : Obligations.EveryCommandAnswersNext := by
  intro c s
  obtain ⟨g, f, he⟩ := exec_is_onDev c s
  obtain hstay | hland := onDev_cases g f s
  · exact ⟨_, he.trans hstay, rfl, trivial⟩
  · exact ⟨_, he.trans hland, rfl, trivial⟩

/-- R830: THERMTRIP_N driven low shuts every gate but the supplies' own. -/
theorem Gate.isOpen_of_tripped {g : Gate} {d : Device} (hg : g ≠ .always) (htripped : d.supplies.tripped = true) :
    g.isOpen d = false := by
  cases g <;> simp_all [Gate.isOpen]

/-- Settles O3 (what a tripped device stops is the model's choice, log entry 72): the three commands of the supplies are the only
ones whose gate stands open whatever the supplies are. -/
theorem trippedDeviceStandsStill : Obligations.TrippedDeviceStandsStill := by
  intro c s htripped hpower hbrown hrail
  have hshut {g : Gate} (f : Device → Device) (hg : g ≠ .always) : onDev g f s = .next s :=
    onDev_of_closed f (Gate.isOpen_of_tripped hg htripped)
  cases c with
  | powerOnReset lost => exact absurd rfl (hpower lost)
  | brownOut vin => exact absurd rfl (hbrown vin)
  | railFail rail => exact absurd rfl (hrail rail)
  | _ => exact hshut _ (by decide)

/-- What one effect behind a gate leaves is settled. -/
theorem Settled.of_onDev {g : Gate} {f : Device → Device} {s t : State} (hs : Settled s) (ht : onDev g f s = .next t) :
    Settled t := by
  obtain hstay | hland := onDev_cases g f s
  · obtain rfl := Host.Outcome.next.inj (hstay.symm.trans ht)
    exact hs
  · obtain rfl := Host.Outcome.next.inj (hland.symm.trans ht)
    exact ⟨Memory.wf_applyAll hs.1 _, rfl⟩

/-- Every command leaves a settled state settled. -/
theorem Settled.of_exec {c : Instr} {s t : State} (hs : Settled s) (ht : exec c s = .next t) : Settled t := by
  obtain ⟨g, f, he⟩ := exec_is_onDev c s
  exact hs.of_onDev (he.symm.trans ht)

/-- Settles O4: an idle step changes nothing, and another is a command on the rest of the queue, whose changes of memory land in
canonical form. -/
theorem stepKeepsMemoryCanonical : Obligations.StepKeepsMemoryCanonical := by
  intro s t hs hstep
  obtain ⟨d, queue⟩ := s
  cases queue with
  | nil =>
    obtain rfl := Host.Outcome.next.inj hstep
    exact hs
  | cons c rest =>
    have hrest : Settled { dev := d, pending := rest } := hs
    exact hrest.of_exec hstep

/-! ### A byte after a list of changes -/

/-- What one change of memory makes of the byte at `a`. -/
theorem Memory.get_apply {m : Memory} (h : Memory.wf m = true) (o : MemOp) (a : Nat) :
    Memory.get (Memory.apply m o) a = (o.at a).getD (Memory.get m a) := by
  cases o with
  | byte k b =>
    rw [Memory.apply, Memory.get_put h, MemOp.at]
    split <;> rfl
  | zero k n =>
    rw [Memory.apply, Memory.get_filter h (fun x => !(decide (k ≤ x) && decide (x < k + n))), MemOp.at]
    by_cases hin : k ≤ a ∧ a < k + n <;> simp [hin]
  | reset r =>
    rw [Memory.apply, Memory.get_filter h (keptCell r), MemOp.at]
    split <;> rfl

/-- A list of changes leaves in a byte what the last change of it made of it. -/
theorem Memory.get_applyAll {m : Memory} (h : Memory.wf m = true) (l : List MemOp) (a : Nat) :
    Memory.get (Memory.applyAll m l) a = (lastWrite a l).getD (Memory.get m a) := by
  induction l generalizing m with
  | nil => rfl
  | cons o r ih =>
    rw [Memory.applyAll, ih (Memory.wf_apply h o), Memory.get_apply h, lastWrite]
    cases lastWrite a r <;> rfl

/-- Between commands a byte reads as memory holds it. -/
theorem Device.readByte_of_quiet {d : Device} (hquiet : d.wlog = []) (a : Nat) : d.readByte a = Memory.get d.mem a := by
  rw [Device.readByte, hquiet]
  rfl

/-- Settles O7: the changes land in order on a memory in canonical form, and none is left over. -/
theorem memoryAfterCommand : Obligations.MemoryAfterCommand := by
  intro g f s t a hs hopen ht
  obtain rfl := Host.Outcome.next.inj ((onDev_of_open f hopen).symm.trans ht)
  exact ⟨Memory.get_applyAll hs.1 _ _, Device.readByte_of_quiet rfl a⟩

/-- What is claimed of a command's end holds of its effect: a command ends in one state only. -/
theorem Ends.of_exec {c : Instr} {s : State} {P : Device → Prop} {g : Gate} {f : Device → Device} (h : Ends c s P)
    (he : exec c s = onDev g f s) (hopen : g.isOpen s.dev = true) : P ((f s.dev).land s.dev.mem) := by
  obtain ⟨t, hexec, -, hP⟩ := h
  obtain rfl := Host.Outcome.next.inj ((onDev_of_open f hopen).symm.trans (he.symm.trans hexec))
  exact hP

/-! ### The state after reset -/

/-- The device as the first power-on's reset holds it. -/
def poweredOn : Device := (fxPowerOnReset true {}).land []

/-- R798, R822, R882: the release of that reset, its backup domain lost, leaves the device of `State.reset`. -/
theorem release_poweredOn : (fxResetRelease poweredOn).land poweredOn.mem = State.reset.dev := by
  decide +kernel

/-- R744: every port is enabled and down. -/
theorem portState_reset : ∀ p, p ≤ 16 → State.reset.dev.portState p = 0 ∧ State.reset.dev.portEnabled p = true := by
  decide +kernel

theorem State.reset_running : Running State.reset := ⟨rfl, rfl, rfl⟩

/-- Settles O6 (the instant is the model's choice, log entries 2 and 73): what stands in the state is read off its definition, and the
release of a first power-on's reset leads there. -/
theorem resetIsSettled : Obligations.ResetIsSettled := by
  have hrelease : exec .resetRelease { dev := poweredOn } = .next State.reset := by
    have hland : ({ dev := (fxResetRelease poweredOn).land poweredOn.mem } : State) = State.reset :=
      congrArg (State.mk · []) release_poweredOn
    exact (onDev_of_open (g := .reset) (s := { dev := poweredOn }) fxResetRelease rfl).trans (congrArg Host.Outcome.next hland)
  exact ⟨⟨rfl, rfl⟩, rfl, rfl, State.reset_running, rfl, rfl, rfl, rfl, rfl, rfl, rfl, ⟨_, rfl, hrelease⟩, rfl, rfl, rfl, rfl, rfl, rfl,
    portState_reset⟩

end Sys2Proof.Machine
end

section
/-!
SUPPORT. A field of a register after a write of a field (R10 to R13).
-/
namespace Sys2Proof.Machine

/-- A number with a field replaced: what stands below the field, the new field, what stands above it. -/
theorem putBits_eq (n hi lo v : Nat) :
    putBits n hi lo v =
      n % 2 ^ lo + 2 ^ lo * (v % 2 ^ (hi + 1 - lo) + 2 ^ (hi + 1 - lo) * (n / 2 ^ lo / 2 ^ (hi + 1 - lo))) := by
  have hlow := Nat.mod_add_div n (2 ^ lo)
  have hfield := Nat.mod_add_div (n / 2 ^ lo) (2 ^ (hi + 1 - lo))
  have hsplit : 2 ^ lo * (n / 2 ^ lo) = bitsOf n hi lo * 2 ^ lo +
      2 ^ lo * (2 ^ (hi + 1 - lo) * (n / 2 ^ lo / 2 ^ (hi + 1 - lo))) := by
    rw [bitsOf, Nat.mul_comm _ (2 ^ lo), ← Nat.mul_add, hfield]
  simp only [putBits]
  rw [Nat.mul_add, Nat.mul_comm (v % _)]
  omega

theorem bitsOf_putBits_same (n hi lo v : Nat) : bitsOf (putBits n hi lo v) hi lo = v % 2 ^ (hi + 1 - lo) := by
  rw [bitsOf, putBits_eq, Nat.add_mul_div_left _ _ (Nat.two_pow_pos lo), Nat.div_eq_of_lt (Nat.mod_lt _ (Nat.two_pow_pos lo)),
    Nat.zero_add, Nat.add_mul_mod_self_left, Nat.mod_mod]

/-- A field below the one replaced stays. -/
theorem bitsOf_putBits_below {n hi lo v hi' lo' : Nat} (h : hi' < lo) : bitsOf (putBits n hi lo v) hi' lo' = bitsOf n hi' lo' := by
  calc bitsOf (putBits n hi lo v) hi' lo' = bitsOf (n % 2 ^ lo) hi' lo' := by rw [putBits_eq, bitsOf_add_of_lt _ _ _ h]
    _ = bitsOf (n % 2 ^ lo + 2 ^ lo * (n / 2 ^ lo)) hi' lo' := (bitsOf_add_of_lt _ _ _ h).symm
    _ = bitsOf n hi' lo' := by rw [Nat.mod_add_div]

/-- A field above the one replaced stays. -/
theorem bitsOf_putBits_above {n hi lo v hi' lo' : Nat} (hwidth : lo ≤ hi + 1) (h : hi < lo') :
    bitsOf (putBits n hi lo v) hi' lo' = bitsOf n hi' lo' := by
  obtain ⟨above, rfl⟩ := Nat.exists_eq_add_of_le h
  have htop : 2 ^ (hi + 1) = 2 ^ lo * 2 ^ (hi + 1 - lo) := by rw [← Nat.pow_add, Nat.add_sub_of_le hwidth]
  have hkept : putBits n hi lo v / 2 ^ (hi + 1) = n / 2 ^ (hi + 1) := by
    rw [htop, ← Nat.div_div_eq_div_mul, ← Nat.div_div_eq_div_mul, putBits_eq, Nat.add_mul_div_left _ _ (Nat.two_pow_pos lo),
      Nat.div_eq_of_lt (Nat.mod_lt _ (Nat.two_pow_pos lo)), Nat.zero_add, Nat.add_mul_div_left _ _ (Nat.two_pow_pos _),
      Nat.div_eq_of_lt (Nat.mod_lt _ (Nat.two_pow_pos _)), Nat.zero_add]
  rw [bitsOf, bitsOf, Nat.pow_add, ← Nat.div_div_eq_div_mul, ← Nat.div_div_eq_div_mul, hkept]

/-- A field below bit `k` of a number cut to `k` bits. -/
theorem bitsOf_mod_two_pow {n k hi lo : Nat} (h : hi < k) : bitsOf (n % 2 ^ k) hi lo = bitsOf n hi lo := by
  conv_rhs => rw [← Nat.mod_add_div n (2 ^ k)]
  exact (bitsOf_add_of_lt _ _ _ h).symm

section Registers
variable (d : Device)

theorem Device.reg_setRegField_same (k hi lo v : Nat) :
    (d.setRegField k hi lo v).reg k = putBits (d.reg k) hi lo v % 2 ^ 32 := by
  rw [Device.setRegField, Device.modReg, Device.reg_setReg_same]

@[simp] theorem Device.reg_setRegField_other {j k : Nat} (hi lo v : Nat) (h : j ≠ k) :
    (d.setRegField k hi lo v).reg j = d.reg j := by
  rw [Device.setRegField, Device.modReg, Device.reg_setReg_other _ _ _ _ h]

@[simp] theorem Device.regField_setRegField_other {j k : Nat} (hi lo v hi' lo' : Nat) (h : j ≠ k) :
    (d.setRegField k hi lo v).regField j hi' lo' = d.regField j hi' lo' := by
  rw [Device.regField, Device.reg_setRegField_other _ _ _ _ h, Device.regField]

theorem Device.regField_setRegField_same {k hi lo : Nat} (v : Nat) (hhi : hi < 32) :
    (d.setRegField k hi lo v).regField k hi lo = v % 2 ^ (hi + 1 - lo) := by
  rw [Device.regField, Device.reg_setRegField_same, bitsOf_mod_two_pow hhi, bitsOf_putBits_same]

theorem Device.regField_setRegField_below {k hi lo hi' lo' : Nat} (v : Nat) (hhi : hi' < 32) (h : hi' < lo) :
    (d.setRegField k hi lo v).regField k hi' lo' = d.regField k hi' lo' := by
  rw [Device.regField, Device.reg_setRegField_same, bitsOf_mod_two_pow hhi, bitsOf_putBits_below h, Device.regField]

theorem Device.regField_setRegField_above {k hi lo hi' lo' : Nat} (v : Nat) (hhi : hi' < 32) (hwidth : lo ≤ hi + 1) (h : hi < lo') :
    (d.setRegField k hi lo v).regField k hi' lo' = d.regField k hi' lo' := by
  rw [Device.regField, Device.reg_setRegField_same, bitsOf_mod_two_pow hhi, bitsOf_putBits_above hwidth h, Device.regField]

@[simp] theorem Device.reg_bump_same (k n : Nat) : (d.bump k n).reg k = satAdd 32 (d.reg k) n := by
  rw [Device.bump, Device.modReg, Device.reg_setReg_same]
  exact Nat.mod_eq_of_lt (by rw [satAdd]; omega)

@[simp] theorem Device.reg_bump_other {j k : Nat} (n : Nat) (h : j ≠ k) : (d.bump k n).reg j = d.reg j := by
  rw [Device.bump, Device.modReg, Device.reg_setReg_other _ _ _ _ h]

end Registers

end Sys2Proof.Machine
end

section
/-!
SUPPORT. The host port: what a completion posts, sessions and their doorbells, fetched entries, records and messages, requests of the
management port, and a register that a write leaves changed (R704, R713 to R735, R741).
-/
namespace Sys2Proof.Machine

/-! ### Completions (R720 to R723, R741) -/

/-- The final record of a command. -/
def CmdRef.finalRecord (c : CmdRef) (status : Nat) (value : List Byte) : Record :=
  { uid := c.uid, tag := c.tag, status := BitVec.ofNat 16 status, opcode := c.opcode, inst := c.inst, value := padTo 8 value }

section Completion
variable (d : Device) (c : CmdRef) (st : Nat) (v : List Byte)

/-- A completion changes the staged commands, the waiting records and what has been sent, and nothing else. -/
theorem Device.complete_frame :
    d.complete c st v = { d with staged := (d.complete c st v).staged, records := (d.complete c st v).records
                                 out := (d.complete c st v).out } := by
  rw [Device.complete, Device.post]
  split
  · rfl
  · split <;> rfl
  · rfl
  · rfl

/-- R722, R723: a session's command leaves its final record behind the others, in place of its progress record. -/
theorem Device.complete_of_session {n : Nat} (ho : c.origin = .session n) :
    d.complete c st v =
      { d with staged := d.staged.filter (fun t => t.cmd.uid != c.uid)
               records := Table.put d.records n
                 ((Table.getD d.records n []).filter (fun q => !(q.uid == c.uid && q.progress)) ++ [c.finalRecord st v]) } := by
  simp only [Device.complete, Device.post, ho]
  rfl

/-- Only a session's command has a waiting record. -/
theorem Device.complete_records_of_no_session (ho : ∀ n, c.origin ≠ .session n) : (d.complete c st v).records = d.records := by
  rw [Device.complete, Device.post]
  split
  · exact absurd ‹_› (ho _)
  · split <;> rfl
  · rfl
  · rfl

/-- R741: a management request is answered by one message. -/
theorem Device.complete_out_of_mgmt (ho : c.origin = .mgmt) :
    (d.complete c st v).out =
      d.out ++ [.mctp 0x7E (BitVec.ofNat 8 (if c.late then 0x82 else 0x81) :: (c.finalRecord st v).bytes 0)] := by
  simp only [Device.complete, Device.post, ho]
  rfl

end Completion

/-- Settles O8: the frame of a completion and its two kinds of answer. -/
theorem completionPostsOneRecord : Obligations.CompletionPostsOneRecord := by
  refine fun d c st v => ⟨d.complete_staged c st v, d.complete_frame c st v, fun n ho => ?session,
    d.complete_records_of_no_session c st v, fun ho => ⟨_, d.complete_out_of_mgmt c st v ho⟩⟩
  rw [d.complete_of_session c st v ho]
  exact ⟨rfl, Table.getD_put_same _ _ _ _, fun k hk => Table.getD_put_other _ _ _ _ _ hk⟩

/-- Of two values put at one key the second stands. -/
theorem Table.put_put {α : Type} (t : Table α) (k : Nat) (a b : α) : Table.put (Table.put t k a) k b = Table.put t k b := by
  induction t with
  | nil => simp [Table.put]
  | cons e r ih =>
    obtain ⟨j, c⟩ := e
    obtain hlt | rfl | hgt := Nat.lt_trichotomy k j
    · simp [Table.put, hlt]
    · simp [Table.put]
    · simp [Table.put, Nat.not_lt.mpr hgt.le, Nat.ne_of_lt hgt, ih]

/-! ### Sessions and doorbells (R714 to R719) -/

section Sessions
variable {d : Device} {n : Nat}

@[simp] theorem Device.setSession_staged (d : Device) (n : Nat) (x : Session) : (d.setSession n x).staged = d.staged := rfl

theorem Device.session_modSession_same (d : Device) (n : Nat) (f : Session → Session) :
    (d.modSession n f).session n = f (d.session n) := Device.session_setSession_same _ _ _

/-- R717: a running session halts with the error. -/
theorem Device.sesHalt_of_running {err : Nat} (hrun : (d.session n).state = .running) (herr : err ≠ 3) :
    d.sesHalt n err = d.setSession n { d.session n with state := .halted, err := err } := by
  have hheard : (err == 3) = false := by simpa using herr
  simp [Device.sesHalt, Device.modSession, hrun, hheard]

/-- R714, R719: a tail doorbell of a running session's function. -/
theorem fxSqTailDoorbell_of_running (hn : n < 4096) (hrun : (d.session n).state = .running) (v : Nat) :
    fxSqTailDoorbell (d.session n).fn n v d =
      if 2 ^ (d.session n).sqLog ≤ v % 65536 then d.setSession n { d.session n with state := .halted, err := 1 }
      else d.setSession n { d.session n with tail := v % 65536 } := by
  simp [fxSqTailDoorbell, hrun, Nat.not_le.mpr hn, Device.sesHalt_of_running]

/-- R714, R723: a head doorbell of a running session's function. -/
theorem fxCqHeadDoorbell_of_running (hn : n < 4096) (hrun : (d.session n).state = .running) (v : Nat) :
    fxCqHeadDoorbell (d.session n).fn n v d =
      if 2 ^ (d.session n).cqLog ≤ v % 65536 then d.setSession n { d.session n with state := .halted, err := 4 }
      else d.setSession n { d.session n with head := v % 65536 } := by
  simp [fxCqHeadDoorbell, hrun, Nat.not_le.mpr hn, Device.sesHalt_of_running]

/-- ENABLE is bit 31 of HUB_SES_CTRL. -/
theorem bitOf_enable (word : Nat) :
    bitOf (word % 2 ^ 31 + 2 ^ 31) 31 = true ∧ bitOf (word % 2 ^ 31) 31 = false := by
  have hlow := Nat.mod_lt word (Nat.two_pow_pos 31)
  constructor
  · rw [bitOf, Nat.add_comm, Nat.testBit_two_pow_add_eq, Nat.testBit_lt_two_pow hlow]
    rfl
  · exact Nat.testBit_lt_two_pow hlow

/-- R713: what the size fields of HUB_SES_CTRL make of an unlocked session. -/
def Session.sized (x : Session) (word : Nat) : Session :=
  { x with sqLog := keepField x.sqLog (bitsOf word 4 0) 6 16, cqLog := keepField x.cqLog (bitsOf word 9 5) 6 16 }

@[simp] theorem Session.sized_fn (x : Session) (word : Nat) : (x.sized word).fn = x.fn := rfl
@[simp] theorem Session.sized_state (x : Session) (word : Nat) : (x.sized word).state = x.state := rfl

/-- R715: a session as ENABLE leaves it. -/
def Session.enabled (x : Session) : Session :=
  { x with enable := true, state := .running, err := 0, sqHead := 0, cqTail := 0, tail := 0, head := 0, phase := true,
           silent := false, quiet := false, owed := false }

/-- R715: ENABLE of an OFF session of a booted device. -/
theorem Device.sesEnable_of_off (hoff : (d.session n).state = .off) (hdone : d.boot.done = true) :
    d.sesEnable n = ({ d with records := Table.drop d.records n } : Device).setSession n (d.session n).enabled := by
  rw [Device.sesEnable, if_neg (by simp [hdone, hoff])]
  rfl

/-- Of two writes of a session the second stands. -/
theorem Device.setSession_setSession (d : Device) (n : Nat) (x y : Session) :
    (d.setSession n x).setSession n y = d.setSession n y := by
  simp only [Device.setSession, Table.put_put]

/-- R713: the size fields of a write of HUB_SES_CTRL, locked while ENABLE is 1 or the session is not OFF. -/
def Device.sizeSession (d : Device) (n word : Nat) : Device :=
  if (d.session n).enable || (d.session n).state ≠ .off then d else d.setSession n ((d.session n).sized word)

theorem Device.sesCtrlWrite_of_reach {port : Port} (word : Nat) (hreach : d.maySession port n = true) :
    d.sesCtrlWrite port n word =
      if bitOf word 31 then (d.sizeSession n word).sesEnable n else (d.sizeSession n word).sesDisable n := by
  rw [Device.sesCtrlWrite, if_neg (by simp [hreach])]
  rfl

/-- R713, R715: a write of HUB_SES_CTRL with ENABLE set to an OFF session: its size fields stay where ENABLE stood already. -/
theorem fxSessionEnable_of_off {port : Port} (word : Nat) (hreach : d.maySession port n = true)
    (hoff : (d.session n).state = .off) (hdone : d.boot.done = true) :
    ∃ x : Session, x.fn = (d.session n).fn ∧
      fxSessionEnable port n word d = ({ d with records := Table.drop d.records n } : Device).setSession n x.enabled := by
  rw [fxSessionEnable, Device.sesCtrlWrite_of_reach _ hreach, if_pos (bitOf_enable word).1, Device.sizeSession]
  split
  · exact ⟨d.session n, rfl, Device.sesEnable_of_off hoff hdone⟩
  · have hsized := d.session_setSession_same n ((d.session n).sized (word % 2 ^ 31 + 2 ^ 31))
    refine ⟨(d.session n).sized (word % 2 ^ 31 + 2 ^ 31), Session.sized_fn _ _, ?_⟩
    have hstill : ((d.setSession n ((d.session n).sized (word % 2 ^ 31 + 2 ^ 31))).session n).state = .off := by
      rw [hsized, Session.sized_state, hoff]
    rw [Device.sesEnable_of_off hstill hdone, hsized]
    exact Device.setSession_setSession { d with records := Table.drop d.records n } n _ _

/-- R716: a write of HUB_SES_CTRL with ENABLE clear to a RUNNING session whose staged commands have all started. -/
theorem fxSessionDisable_of_started {port : Port} (word : Nat) (hreach : d.maySession port n = true)
    (hrun : (d.session n).state = .running) (hstarted : ∀ t ∈ d.staged, t.cmd.origin = .session n → t.started = true) :
    fxSessionDisable port n word d =
      (d.setSession n { d.session n with enable := false, state := .draining }).sesSettle n := by
  have hnone : d.staged.filter (fun t => t.cmd.origin == .session n && !t.started) = [] := by
    simpa [List.filter_eq_nil_iff] using hstarted
  have hlocked : d.sizeSession n (word % 2 ^ 31) = d := if_pos (by simp [hrun])
  rw [fxSessionDisable, Device.sesCtrlWrite_of_reach _ hreach, (bitOf_enable word).2, hlocked, if_neg Bool.false_ne_true,
    Device.sesDisable]
  simp only [hrun, Device.modSession, Device.session_setSession_same, Device.setSession_setSession]
  rw [if_neg (by simp), Device.setSession_staged, hnone, List.foldl_nil]

/-- R716: a DRAINING session with a command staged stays so. -/
theorem Device.sesSettle_of_staged (hstaged : d.staged.any (fun t => t.cmd.origin == .session n) = true) : d.sesSettle n = d := by
  rw [Device.sesSettle, hstaged, if_neg (by simp)]

/-- R716: a DRAINING session with no command and no record left is OFF. -/
theorem Device.sesSettle_of_empty (hdrain : (d.session n).state = .draining)
    (hstaged : d.staged.any (fun t => t.cmd.origin == .session n) = false) (hrecords : Table.getD d.records n [] = []) :
    d.sesSettle n = d.setSession n { d.session n with state := .off, silent := false } := by
  rw [Device.sesSettle, hstaged, hdrain, hrecords, if_pos (by simp), Device.modSession]

end Sessions

/-- Settles O9 (ERR is cleared at ENABLE by log entry 63): a doorbell and a write of HUB_SES_CTRL each leave one session changed, as
their equations above give it. -/
theorem sessionsAndDoorbells : Obligations.SessionsAndDoorbells := by
  refine ⟨fun s n v hrun hn hses => ⟨fun hin => ?tail, fun hout => ?tailOut, fun hin => ?head, fun hout => ?headOut⟩,
    fun s port n word hrun hreach => ⟨fun hoff hdone => ?enable, fun hses hstarted =>
      ⟨fun hstaged => ?drain, fun hstaged hrecords => ?disable⟩⟩⟩
  case tail =>
    exact Ends.of_effect hrun rfl ((fxSqTailDoorbell_of_running hn hses v).trans (if_neg (Nat.not_le.mpr hin))) rfl rfl rfl
  case tailOut =>
    exact Ends.of_effect hrun rfl ((fxSqTailDoorbell_of_running hn hses v).trans (if_pos hout)) rfl rfl rfl
  case head =>
    exact Ends.of_effect hrun rfl ((fxCqHeadDoorbell_of_running hn hses v).trans (if_neg (Nat.not_le.mpr hin))) rfl rfl rfl
  case headOut =>
    exact Ends.of_effect hrun rfl ((fxCqHeadDoorbell_of_running hn hses v).trans (if_pos hout)) rfl rfl rfl
  case enable =>
    obtain ⟨x, hfn, heffect⟩ := fxSessionEnable_of_off word hreach hoff hdone
    refine Ends.of_effect hrun rfl heffect rfl rfl ?_
    have hafter := Device.session_setSession_same { s.dev with records := Table.drop s.dev.records n } n x.enabled
    rw [hafter]
    exact ⟨rfl, rfl, rfl, rfl, rfl, rfl, rfl, rfl, hfn, Table.find?_drop_same _ _,
      fun k hk => ⟨Device.session_setSession_other _ _ _ _ hk, Table.find?_drop_other _ _ _ hk⟩, rfl⟩
  case drain =>
    have heffect := (fxSessionDisable_of_started word hreach hses hstarted).trans (Device.sesSettle_of_staged hstaged)
    refine Ends.of_effect hrun rfl heffect rfl rfl ?_
    rw [Device.session_setSession_same]
    exact ⟨rfl, rfl, rfl⟩
  case disable =>
    have hdrain := Device.session_setSession_same s.dev n { s.dev.session n with enable := false, state := .draining }
    have heffect := (fxSessionDisable_of_started word hreach hses hstarted).trans
      (Device.sesSettle_of_empty (congrArg Session.state hdrain) hstaged hrecords)
    refine Ends.of_effect hrun rfl heffect rfl rfl ?_
    rw [Device.session_setSession_same, hdrain]
    exact ⟨rfl, rfl, rfl⟩

end Sys2Proof.Machine
end

section
/-!
SUPPORT. What comes in and goes out of the host port: fetched entries and requests of the management port, completion records and
messages; and a register that a write leaves changed (R704, R719 to R726, R741, R742).
-/
namespace Sys2Proof.Machine

/-! ### Entries (R719 to R721, R730) -/

/-- The command that an entry becomes. -/
def Device.entryCmd (d : Device) (o : Origin) (port : Port) (e : List Byte) (late : Bool) : CmdRef :=
  { origin := o, port := port, uid := d.nextUid, opcode := leAt e 0 1, flags := leAt e 1 1, tag := BitVec.ofNat 32 (leAt e 4 4)
    inst := d.instanceOf port e, late := late }

theorem padTo_of_length {n : Nat} {l : List Byte} (h : l.length = n) : padTo n l = l := by
  subst h
  simp [padTo]

section Entries
variable {d : Device} {o : Origin} {port : Port} {e : List Byte} {n : Nat}

/-- R719: an entry that passes its checks is staged behind the others, where no twin has to be waited for. -/
theorem Device.takeEntry_of_valid (late : Bool) (hvalid : d.validateEntry port e = 0)
    (hroom : d.stagingRoom o (d.homeOf port e) = true) (hmirror : d.mirroring = false) :
    d.takeEntry o port e late =
      some { d with nextUid := d.nextUid + 1
                    staged := d.staged ++ [{ cmd := d.entryCmd o port e late, entry := padTo 64 e, home := d.homeOf port e }] } := by
  simp only [Device.takeEntry, hvalid, hroom, Device.mirrorFull, hmirror]
  rw [if_neg (by simp), if_neg (by simp)]
  rfl

/-- R730: an entry that fails a check is answered with its status. -/
theorem Device.takeEntry_of_invalid (late : Bool) (hbad : d.validateEntry port e ≠ 0) :
    d.takeEntry o port e late =
      some (({ d with nextUid := d.nextUid + 1 } : Device).complete (d.entryCmd o port e late) (d.validateEntry port e) []) := by
  simp only [Device.takeEntry]
  rw [if_pos hbad]
  rfl

/-- R788: without a twin nothing is mirrored. -/
theorem Device.mirrorSend_of_not_mirroring (hmirror : d.mirroring = false) : d.mirrorSend = d := by
  rw [Device.mirrorSend, hmirror, if_pos (by simp)]

/-- R719: one entry of a running session is taken, and SQ_HEAD advances around the ring. -/
theorem fxEntryFetch_of_one {d' : Device} (hrun : (d.session n).state = .running)
    (hpublished : (d.session n).sqHead ≠ (d.session n).tail) (hdone : d.boot.done = true) (hlen : e.length = 64)
    (htake : d.takeEntry (.session n) (d.session n).port e false = some d') :
    fxEntryFetch n (some e) d =
      (d'.modSession n (fun x => { x with sqHead := (x.sqHead + 1) % 2 ^ x.sqLog })).mirrorSend := by
  have hone : chunksOf 64 (min 64 (e.length / 64)) e = [e] := by
    have hsome : e ≠ [] := by
      rintro rfl
      cases hlen
    simp [hlen, chunksOf, hsome, List.take_of_length_le]
  simp only [fxEntryFetch, hone]
  rw [if_neg (by simp [hrun, hpublished, hdone])]
  simp only [Device.takeEntries]
  rw [if_neg (by simp [hrun, hpublished]), htake]

end Entries

/-- Settles O10: the entry is taken or refused by `takeEntry`, and the head of the ring moves past it. -/
theorem fetchStagesOrRefuses : Obligations.FetchStagesOrRefuses := by
  refine fun s n b hrun hses hpublished hdone hmirror hlen => ⟨fun hvalid hroom => ?staged, fun hbad => ?refused⟩
  case staged =>
    have heffect := (fxEntryFetch_of_one hses hpublished hdone hlen
      (Device.takeEntry_of_valid false hvalid hroom hmirror)).trans (Device.mirrorSend_of_not_mirroring hmirror)
    refine Ends.of_effect hrun rfl heffect rfl rfl ⟨⟨_, rfl, rfl, rfl, rfl, rfl, padTo_of_length hlen, rfl⟩, ?_, rfl, rfl⟩
    exact Device.session_modSession_same _ _ _
  case refused =>
    have hrefused := Device.takeEntry_of_invalid (o := .session n) false hbad
    rw [Device.complete_of_session _ _ _ _ rfl] at hrefused
    have heffect := (fxEntryFetch_of_one hses hpublished hdone hlen hrefused).trans (Device.mirrorSend_of_not_mirroring hmirror)
    refine Ends.of_effect hrun rfl heffect rfl rfl ⟨⟨(s.dev.entryCmd (.session n) (s.dev.session n).port b false).finalRecord _ [],
      ?_, rfl, rfl, rfl⟩, Device.session_modSession_same _ _ _, rfl, rfl⟩
    exact (Table.getD_put_same _ _ _ _).symm ▸ List.mem_append_right _ (List.mem_singleton.mpr rfl)

/-! ### Records and messages (R722 to R726) -/

section Records
variable {d : Device} {n : Nat}

/-- R722: a session after one more record: CQ_TAIL advances around the ring, and the phase turns where it comes to its start. -/
def Session.recorded (x : Session) : Session :=
  { x with cqTail := (x.cqTail + 1) % 2 ^ x.cqLog, phase := if (x.cqTail + 1) % 2 ^ x.cqLog = 0 then !x.phase else x.phase }

/-- R722: the oldest waiting record of a session is written at CQ_TAIL. -/
theorem Device.writeRecords_one {r : Record} {l : List Record} (hspeaks : (d.session n).silent = false)
    (hroom : (d.session n).cqFull = false) (hwaits : Table.getD d.records n [] = r :: l) (hmirror : d.mirroring = false) :
    d.writeRecords n 1 =
      (({ d with records := Table.put d.records n l
                 out := d.out ++ [.hostWrite (d.session n).fn
                   (BitVec.ofNat 64 ((d.session n).cqBase + 16 * (d.session n).cqTail)) (r.bytes (bit (d.session n).phase))] } :
          Device).setSession n
        (d.session n).recorded, 1) := by
  simp only [Device.writeRecords, hwaits]
  rw [if_neg (by simp [hspeaks]), if_neg (by simp [hroom]), Device.hostOut, if_neg]
  · rfl
  · exact (Bool.eq_false_iff.mp hmirror :)

/-- R726: a session after the message of a group of records: within the holdoff one is owed, else the holdoff begins. -/
def Session.messaged (x : Session) : Session :=
  if x.irq then
    if x.quiet then { x with owed := true } else { x with quiet := decide (0 < x.holdoff), owed := false }
  else x

/-- R726: one message after a group of records, or none within the holdoff. -/
theorem Device.sesMessage_frame (d : Device) (n : Nat) :
    d.sesMessage n = { d with sessions := (d.sesMessage n).sessions
                              out := d.out ++ if (d.session n).irq && !(d.session n).quiet then
                                [.msix (d.session n).fn (d.session n).vector] else [] } := by
  cases hirq : (d.session n).irq <;> cases hquiet : (d.session n).quiet <;>
    simp [Device.sesMessage, hirq, hquiet, Device.msix, Device.emit, Device.setSession]

theorem Device.session_sesMessage (d : Device) (n : Nat) : (d.sesMessage n).session n = (d.session n).messaged := by
  rw [Device.sesMessage, Session.messaged]
  cases (d.session n).irq
  · rfl
  · cases (d.session n).quiet
    · exact Device.session_setSession_same _ _ _
    · exact Device.session_setSession_same _ _ _

@[simp] theorem Session.messaged_state (x : Session) : x.messaged.state = x.state := by
  rw [Session.messaged]
  split
  · split <;> rfl
  · rfl

@[simp] theorem Session.messaged_cqTail (x : Session) : x.messaged.cqTail = x.cqTail := by
  rw [Session.messaged]
  split
  · split <;> rfl
  · rfl

@[simp] theorem Session.messaged_phase (x : Session) : x.messaged.phase = x.phase := by
  rw [Session.messaged]
  split
  · split <;> rfl
  · rfl

theorem Session.messaged_owed {x : Session} (hirq : x.irq = true) (hquiet : x.quiet = true) : x.messaged.owed = true := by
  rw [Session.messaged, if_pos hirq, if_pos hquiet]

/-- R716: a session that does not drain has nothing to settle. -/
theorem Device.sesSettle_of_not_draining (hstate : (d.session n).state ≠ .draining) : d.sesSettle n = d := by
  rw [Device.sesSettle, if_neg (by simp [hstate])]

/-- R722: writing one record of a running session: the record, then its message. -/
theorem fxCompletionRecordWrite_of_one {d' : Device} (hrun : (d.session n).state = .running)
    (hrun' : (d'.session n).state = .running) (hwrite : d.writeRecords n 1 = (d', 1)) :
    fxCompletionRecordWrite n 1 false d = d'.sesMessage n := by
  have hstill : ((d'.sesMessage n).session n).state ≠ .draining := by simp [Device.session_sesMessage, hrun']
  rw [fxCompletionRecordWrite, if_neg (by simp [hrun]), if_neg (by simp), hwrite]
  exact Device.sesSettle_of_not_draining hstill

/-- R726: the end of a holdoff sends the message that is owed. -/
theorem fxMsixHoldoffExpiry_of_quiet (hquiet : (d.session n).quiet = true) :
    fxMsixHoldoffExpiry n d =
      ({ d with out := d.out ++ if (d.session n).owed then [.msix (d.session n).fn (d.session n).vector] else [] } :
        Device).setSession n
        (if (d.session n).owed then { d.session n with quiet := decide (0 < (d.session n).holdoff), owed := false }
         else { d.session n with quiet := false }) := by
  cases howed : (d.session n).owed <;>
    simp [fxMsixHoldoffExpiry, hquiet, howed, Device.msix, Device.emit, Device.setSession]

end Records

/-- Settles O11: the record is written by `writeRecords`, the message after it is `sesMessage`'s. -/
theorem recordsAndMessagesLeave : Obligations.RecordsAndMessagesLeave := by
  refine fun s n hrun => ⟨fun r l hses hspeaks hroom hwaits hmirror => ?record, fun hquiet => ?holdoff⟩
  case record =>
    have hwrite := Device.writeRecords_one hspeaks hroom hwaits hmirror
    obtain ⟨d', hd⟩ : ∃ d', d' = (s.dev.writeRecords n 1).1 := ⟨_, rfl⟩
    rw [hwrite] at hd
    have hses' : d'.session n = (s.dev.session n).recorded := hd ▸ Device.session_setSession_same _ n _
    have hafter : (d'.sesMessage n).session n = (s.dev.session n).recorded.messaged := hses' ▸ Device.session_sesMessage d' n
    have heffect : fxCompletionRecordWrite n 1 false s.dev = d'.sesMessage n :=
      fxCompletionRecordWrite_of_one hses (by rw [hses']; exact hses) (hd ▸ hwrite)
    have hframe := Device.sesMessage_frame d' n
    rw [hses'] at hframe
    refine Ends.of_effect hrun rfl heffect (by rw [hframe, hd]; rfl) (by rw [hframe, hd]; rfl) ?_
    rw [hafter, Session.messaged_cqTail, Session.messaged_phase]
    refine ⟨?_, ?_, rfl, rfl, fun hirq hquiet => Session.messaged_owed hirq hquiet, ?_⟩
    · rw [hframe, hd]
      rfl
    · rw [hframe, hd]
      exact Table.getD_put_same _ _ _ _
    · rw [hframe, hd]
      rfl
  case holdoff =>
    refine Ends.of_effect hrun rfl (fxMsixHoldoffExpiry_of_quiet hquiet) rfl rfl ⟨rfl, ?_, ?_, rfl⟩
    · rw [Device.session_setSession_same]
      cases howed : (s.dev.session n).owed <;> rfl
    · rw [Device.session_setSession_same]
      intro howed
      rw [if_pos howed]

/-! ### Requests of the management port (R741, R742, R833) -/

theorem Device.rmHeard_reg_other (d : Device) {k : Nat} (h : k ≠ PMU_STATUS) : d.rmHeard.reg k = d.reg k :=
  d.reg_setRegField_other 27 27 0 h

theorem Device.rmHeard_mirroring (d : Device) : d.rmHeard.mirroring = d.mirroring := by
  simp only [Device.mirroring, Device.rmHeard, d.regField_setRegField_other 27 27 0 31 30 (by decide : PLV_TWIN_STATUS ≠ PMU_STATUS)]

/-- The status of an answer stands in bytes 5 and 6 of its message. -/
theorem Record.status_of_bytes (r : Record) (b : Byte) (phase : Nat) : leAt (b :: r.bytes phase) 5 2 = r.status.toNat := by
  have hstatus := r.status.isLt
  simp [leAt, sliceOf, Record.bytes, leBytes, leNat]
  omega

/-- R742: the seventeenth outstanding request is answered at once. -/
theorem fxRenaihelRequest_of_full {d : Device} (entry : List Byte) (slow : Bool)
    (hfull : 16 ≤ (d.staged.filter (fun t => t.cmd.origin == .mgmt)).length) :
    fxRenaihelRequest entry slow d = d.rmHeard.answer entry 0x0108 false :=
  if_pos hfull

/-- R741: a request that passes its checks is staged; where it will take longer an acceptance record answers it. -/
theorem fxRenaihelRequest_of_valid {d d' : Device} {entry : List Byte} {slow : Bool}
    (hroom : (d.staged.filter (fun t => t.cmd.origin == .mgmt)).length < 16) (hvalid : d.rmHeard.validateEntry .mgmt entry = 0)
    (htake : d.rmHeard.takeEntry .mgmt .mgmt entry slow = some d') :
    fxRenaihelRequest entry slow d = if slow then d'.answer entry 0 true else d' := by
  have hslow : (slow && !(d.rmHeard.validateEntry .mgmt entry != 0)) = slow := by simp [hvalid]
  simp only [fxRenaihelRequest, hslow, htake]
  exact if_neg (Nat.not_le.mpr hroom)

/-- Settles O15 (what takes longer is an operand of the command, log entry 63): the request is taken by `takeEntry` on the device that
has heard the bus owner. -/
theorem renaihelRequestIsStaged : Obligations.RenaihelRequestIsStaged := by
  refine fun s entry slow hrun _ _ hmirror hlen => ⟨fun hroom hvalid hstage => ?staged, fun hfull => ?full⟩
  case staged =>
    have heffect := fxRenaihelRequest_of_valid hroom hvalid
      (Device.takeEntry_of_valid slow hvalid hstage (s.dev.rmHeard_mirroring.trans hmirror))
    have hclear : s.dev.rmHeard.regField PMU_STATUS 27 27 = 0 := s.dev.regField_setRegField_same 0 (by decide)
    have hkept {k : Nat} (hk : k ≠ PMU_STATUS) := s.dev.rmHeard_reg_other hk
    cases slow
    · exact Ends.of_effect hrun rfl heffect rfl rfl ⟨⟨_, rfl, rfl, rfl, rfl, rfl, padTo_of_length hlen⟩,
        ⟨[], (List.append_nil _).symm⟩, fun k hk => hkept hk, hclear, rfl⟩
    · exact Ends.of_effect hrun rfl heffect rfl rfl ⟨⟨_, rfl, rfl, rfl, rfl, rfl, padTo_of_length hlen⟩,
        ⟨_, rfl⟩, fun k hk => hkept hk, hclear, rfl⟩
  case full =>
    exact Ends.of_effect hrun rfl (fxRenaihelRequest_of_full entry slow hfull) rfl rfl
      ⟨⟨_, rfl, Record.status_of_bytes _ _ _⟩, rfl, rfl⟩

/-! ### A read-only register (R13) -/

/-- A device whose register file holds more than 32 bits under HUB_SIZE_COUNT, as `Device.regs` lets it. -/
def wideSizeCount : State := { dev := { regs := [(HUB_SIZE_COUNT, 2 ^ 32)] } }

/-- The management port's write of HUB_SIZE_COUNT stores the old bits again, cut to a register's 32 bits. -/
theorem fxRegisterWrite_wideSizeCount :
    (fxRegisterWrite .mgmt HUB_SIZE_COUNT 0 wideSizeCount.dev).reg HUB_SIZE_COUNT = 0 := by
  decide +kernel

/-- Refutes O17: a register of the state may stand at 2^32 or above, where no write has put it, and a write of a read-only register
stores its own bits again as 32 bits. On `wideSizeCount` the management port's write of HUB_SIZE_COUNT turns 2^32 into 0; the
statement lacks the hypothesis that registers hold 32 bits. -/
theorem not_registerWriteKeepsPortsApart : ¬ Obligations.RegisterWriteKeepsPortsApart := by
  intro h
  have ⟨_, hsize⟩ := h wideSizeCount .mgmt 0 ⟨rfl, rfl, rfl⟩ rfl (.inr rfl)
  have ⟨hkept, _⟩ := hsize.of_exec (g := .runs) (f := fxRegisterWrite .mgmt HUB_SIZE_COUNT 0) rfl rfl
  have hbefore : wideSizeCount.dev.reg HUB_SIZE_COUNT = 2 ^ 32 := rfl
  exact absurd ((fxRegisterWrite_wideSizeCount.symm.trans (hkept HUB_SIZE_COUNT)).trans hbefore) (by decide)

end Sys2Proof.Machine
end

section
/-!
SUPPORT. The next command of an origin; moves that join their channel, writes that become visible, landing fences (R372, R373, R397
to R401).
-/
namespace Sys2Proof.Machine

/-- R30, R733: the next command of an origin runs, marked as started. -/
theorem Device.run_of_startable {d : Device} {o : Origin} {opcode : Nat} {e : Staged} (f : Staged → Device → Device)
    (hnext : d.startable o opcode = some e) : d.run o opcode f = f e (d.start e) := by
  rw [Device.run, hnext]

@[simp] theorem Device.mover_modMover_same (d : Device) (c : Nat) (f : Mover → Mover) :
    (d.modMover c f).mover c = f (d.mover c) := by
  simp [Device.modMover, Device.setMover, Device.mover]

@[simp] theorem Device.mover_modMover_other (d : Device) {c k : Nat} (f : Mover → Mover) (hk : k ≠ c) :
    (d.modMover c f).mover k = d.mover k := by
  simp [Device.modMover, Device.setMover, Device.mover, hk]

/-- The work that an accepted command is on its channel. -/
def Staged.work (e : Staged) (o : Origin) : Work :=
  ⟨e.cmd.uid, .command e.cmd, match o with | .firmware => none | _ => some e.cmd.port, Move.ofEntry e.entry⟩

/-- R372, R373, R378: the next move of an origin joins the end of the queue of the channel that has room for it. -/
theorem Device.acceptMove_of_acceptor {d : Device} {o : Origin} {opcode c : Nat} {e : Staged}
    (hnext : d.startable o opcode = some e) (hroom : d.acceptor e.entry = some c) :
    d.acceptMove o opcode = (d.start e).modMover c (fun m => { m with queue := m.queue ++ [e.work o] }) := by
  simp only [Device.acceptMove, hnext, hroom]
  cases o <;> rfl

/-- Settles O19: both commands are `acceptMove`. -/
theorem movesJoinTheirChannel : Obligations.MovesJoinTheirChannel := by
  intro s o e c hrun hroom
  have hjoined {opcode : Nat} {i : Instr} (he : exec i s = onDev .runs (fun d => d.acceptMove o opcode) s)
      (hnext : s.dev.startable o opcode = some e) : Ends i s (fun d =>
        (d.mover c).queue = (s.dev.mover c).queue ++ [e.work o] ∧ (∀ k, k ≠ c → d.mover k = s.dev.mover k) ∧
        d = { s.dev.start e with movers := d.movers }) := by
    refine Ends.of_effect hrun he (Device.acceptMove_of_acceptor hnext hroom) rfl rfl ⟨?_, fun k hk => ?_, rfl⟩
    · rw [Device.mover_modMover_same]
      rfl
    · exact Device.mover_modMover_other _ _ hk
  cases o <;> exact ⟨hjoined rfl, hjoined rfl⟩

/-! ### Writes and fences (R397 to R401) -/

/-- R394, R398: a write that becomes visible stores its bytes and leaves the writes on their way. -/
theorem fxWriteVisible_of_memory {d : Device} {i : Nat} {f : Flight} (hflight : (d.flight.filter (fun f => !f.remote))[i]? = some f)
    (hspace : addrSpace f.addr ≠ 6) (hclean : d.poison = []) :
    fxWriteVisible i d = ({ d with flight := d.flight.erase f } : Device).writeBytes (localKey f.addr) f.bytes := by
  simp only [fxWriteVisible, hflight, if_neg hspace]
  exact Device.store_of_no_poison _ _ hclean

/-- R398: a fence that covers nothing completes at once, another waits. -/
theorem fxLandingFence_of_next {d : Device} {o : Origin} {e : Staged} (hnext : d.startable o 0x02 = some e) :
    fxLandingFence o d =
      if ((d.start e).coverOf e.aux (some { e.cmd with inst := e.aux % 256 })).isEmpty && !(d.mover e.aux).halted then
        (d.start e).complete { e.cmd with inst := e.aux % 256 } 0 []
      else (d.start e).addFence (.command { e.cmd with inst := e.aux % 256 }) e.aux
        ((d.start e).coverOf e.aux (some { e.cmd with inst := e.aux % 256 })) :=
  Device.run_of_startable _ hnext

/-- R398, R401: a command's fence whose status is known completes with it. -/
theorem fxLandingFenceComplete_of_status {d : Device} {id st : Nat} {f : Fence} {c : CmdRef}
    (hfind : d.fences.find? (fun f => f.id == id) = some f) (howner : f.owner = .command c) (hstatus : d.fenceStatus f = some st) :
    fxLandingFenceComplete id d =
      ({ d with fences := d.fences.filter (fun g => g.id != id) } : Device).complete c st [] := by
  simp only [fxLandingFenceComplete, hfind, hstatus, Device.fenceDone, howner]

/-- Settles O21: the write lands as the command ends, and a fence waits exactly where it covers something or its channel is halted
(R401). -/
theorem writesLandAndFencesWait : Obligations.WritesLandAndFencesWait := by
  refine fun s hrun => ⟨fun i f hflight hspace hclean => ?visible, fun o e hnext => ⟨fun hnone hgoes => ?atOnce, fun hcause => ?waits⟩,
    fun id f c st hfind howner hstatus => ?done⟩
  case visible =>
    have ⟨_, _, hquiet⟩ := hrun
    have hlanded : (fxWriteVisible i s.dev).land s.dev.mem =
        { s.dev with flight := s.dev.flight.erase f, mem := Memory.applyAll s.dev.mem (cellsOf (localKey f.addr) f.bytes) } := by
      rw [fxWriteVisible_of_memory hflight hspace hclean]
      exact Device.land_writeBytes _ _ _ hquiet
    exact Ends.of_landed hrun rfl hlanded ⟨rfl, rfl, rfl⟩
  case atOnce =>
    exact Ends.of_effect hrun rfl ((fxLandingFence_of_next hnext).trans (if_pos (by simp [hnone, hgoes]))) (by simp [Device.start])
      (by simp [Device.start]) rfl
  case waits =>
    have hwaits : ¬ (((s.dev.start e).coverOf e.aux (some { e.cmd with inst := e.aux % 256 })).isEmpty &&
        !(s.dev.mover e.aux).halted) = true := by
      obtain hcovers | hhalted := hcause <;> simp [*]
    exact Ends.of_effect hrun rfl ((fxLandingFence_of_next hnext).trans (if_neg hwaits)) rfl rfl ⟨rfl, rfl⟩
  case done =>
    exact Ends.of_effect hrun rfl (fxLandingFenceComplete_of_status hfind howner hstatus) (by simp) (by simp) rfl

end Sys2Proof.Machine
end

section
/-!
SUPPORT. Stops: requests for loads and switches, the stages of a load, a switch that drains and commits (R229 to R247, R262 to R275,
R295).
-/
namespace Sys2Proof.Machine

/-! ### Completing a command that there may be none of -/

section CompleteOpt
variable (d : Device) (c : Option CmdRef) (st : Nat) (v : List Byte)

@[simp] theorem Device.completeOpt_none : d.completeOpt none st v = d := rfl
@[simp] theorem Device.completeOpt_some (c : CmdRef) : d.completeOpt (some c) st v = d.complete c st v := rfl

/-- It changes what a completion changes. -/
theorem Device.completeOpt_frame :
    d.completeOpt c st v = { d with staged := (d.completeOpt c st v).staged, records := (d.completeOpt c st v).records
                                    out := (d.completeOpt c st v).out } := by
  cases c with
  | none => rfl
  | some c => exact d.complete_frame c st v

@[simp] theorem Device.completeOpt_mem : (d.completeOpt c st v).mem = d.mem := by rw [Device.completeOpt_frame]
@[simp] theorem Device.completeOpt_wlog : (d.completeOpt c st v).wlog = d.wlog := by rw [Device.completeOpt_frame]
@[simp] theorem Device.completeOpt_regs : (d.completeOpt c st v).regs = d.regs := by rw [Device.completeOpt_frame]
@[simp] theorem Device.completeOpt_parts : (d.completeOpt c st v).parts = d.parts := by rw [Device.completeOpt_frame]
@[simp] theorem Device.completeOpt_jobs : (d.completeOpt c st v).jobs = d.jobs := by rw [Device.completeOpt_frame]

end CompleteOpt

/-- What is read of registers and partitions alone is the same on devices that share them. -/
theorem Device.reg_congr {d d' : Device} (h : d'.regs = d.regs) (k : Nat) : d'.reg k = d.reg k := by
  rw [Device.reg, Device.reg, h]
theorem Device.regField_congr {d d' : Device} (h : d'.regs = d.regs) (k hi lo : Nat) : d'.regField k hi lo = d.regField k hi lo := by
  rw [Device.regField, Device.regField, Device.reg_congr h]
theorem Device.part_congr {d d' : Device} (h : d'.parts = d.parts) (p : Nat) : d'.part p = d.part p := by
  rw [Device.part, Device.part, h]

/-! ### Asking for a load or a switch -/

section Requests
variable {d : Device} {p : Nat}

/-- R232, R247: a load that nothing refuses waits behind the partition's others. -/
theorem Device.addLoad_of_free {l : Load} (hfree : d.loadRefusal p l.slot = 0) :
    d.addLoad p l = d.modPart p (fun x => { x with loads := x.loads ++ [l] }) := by
  simp only [Device.addLoad, hfree]
  exact if_neg (by simp)

/-- R244, R247: a switch that nothing refuses is asked for. -/
theorem Device.addSwitch_of_free {target : Nat} (cmd : Option CmdRef) (hfree : d.switchRefusal p target = 0) :
    d.addSwitch p target cmd = d.modPart p (fun x => { x with switch := some { target := target, cmd := cmd } }) := by
  simp only [Device.addSwitch, hfree]
  exact if_neg (by simp)

/-- R262, R266: STOP_LOAD of a stop that is found. -/
theorem fxStopLoad_of_found {o : Origin} {e : Staged} {r : StopRec} (hnext : d.startable o 0x12 = some e)
    (hfind : d.findStop e.cmd.port (e.op 8 4) (e.op 12 4) = some (r, p)) (hslot : e.op 16 1 ≤ 3)
    (hfree : d.loadRefusal p (e.op 16 1) = 0) :
    fxStopLoad o d = (d.start e).modPart p (fun x => { x with loads := x.loads ++
      [{ slot := e.op 16 1, src := r.source, image := e.op 8 4, stopId := r.id, cmd := some e.cmd }] }) := by
  have hfind' : (d.start e).findStop e.cmd.port (e.op 8 4) (e.op 12 4) = some (r, p) := hfind
  rw [fxStopLoad, Device.run_of_startable _ hnext]
  simp only [hfind', if_neg (Nat.not_lt.mpr hslot)]
  exact Device.addLoad_of_free (d := d.start e) hfree

/-- R262, R265: STOP_SWITCH to the slot of a stop. -/
theorem fxStopSwitch_of_found {o : Origin} {e : Staged} {r : StopRec} {i : Nat} (hnext : d.startable o 0x13 = some e)
    (hfind : d.findStop e.cmd.port (e.op 8 4) (e.op 12 4) = some (r, p)) (hslot : d.slotOf p (e.op 8 4) r.id = some i)
    (hfree : d.switchRefusal p i = 0) :
    fxStopSwitch o d = (d.start e).modPart p (fun x => { x with switch := some { target := i, cmd := some e.cmd } }) := by
  have hfind' : (d.start e).findStop e.cmd.port (e.op 8 4) (e.op 12 4) = some (r, p) := hfind
  have hslot' : (d.start e).slotOf p (e.op 8 4) r.id = some i := hslot
  rw [fxStopSwitch, Device.run_of_startable _ hnext]
  simp only [hfind', hslot']
  exact Device.addSwitch_of_free (d := d.start e) _ hfree

/-- R271: what PRT_STOP_LOAD stores of a written word. -/
def stopLoadWord (word : Nat) : Nat := word % 2 ^ 18 - word / 4 % 128 * 4

section Go
variable {port : Port} {word : Nat} (hp : p < 12) (hcovers : d.covers (some port) p = true) (hgo : bitOf word 31 = true)
include hp hcovers hgo

/-- R271: a GO for a block of the stop store that no image holds. -/
theorem fxPrtStopLoadGo_of_store (hidle : (d.part p).loads = []) (hstore : bitOf word 9 = false)
    (howner : d.storeOwner p (bitsOf word 17 10) = none) (hfree : d.loadRefusal p (word % 4) = 0) :
    fxPrtStopLoadGo port p word d = (d.setReg (prtOff p PRT_STOP_LOAD) (stopLoadWord word)).modPart p
      (fun x => { x with loads := x.loads ++ [{ slot := word % 4, src := .store (bitsOf word 17 10) }] }) := by
  have howner' : (d.setReg (prtOff p PRT_STOP_LOAD) (stopLoadWord word)).storeOwner p (bitsOf word 17 10) = none := howner
  rw [fxPrtStopLoadGo, if_neg (by simp [hp, hcovers])]
  simp only [Device.part_setReg, hidle, hgo, hstore]
  rw [stopLoadWord] at howner'
  simp only [howner']
  exact Device.addLoad_of_free (d := d.setReg _ _) hfree

/-- R274: a GO while a load is busy is lost, and shown. -/
theorem fxPrtStopLoadGo_of_busy (hbusy : (d.part p).loads ≠ []) :
    fxPrtStopLoadGo port p word d =
      (d.setReg (prtOff p PRT_STOP_LOAD) (stopLoadWord word)).raise (prtOff p PRT_STOP_STATUS) 29 := by
  rw [fxPrtStopLoadGo, if_neg (by simp [hp, hcovers])]
  simp only [Device.part_setReg, hgo]
  exact (if_neg (by simp)).trans (if_pos (by simpa using hbusy))

/-- R273: a GO for a switch that nothing refuses. -/
theorem fxPrtStopSwitchGo_of_idle (hidle : (d.part p).switch = none) (hfree : d.switchRefusal p (word % 4) = 0) :
    fxPrtStopSwitchGo port p word d = (d.setReg (prtOff p PRT_STOP_SWITCH) (word % 4)).modPart p
      (fun x => { x with switch := some { target := word % 4, cmd := none } }) := by
  rw [fxPrtStopSwitchGo, if_neg (by simp [hp, hcovers])]
  simp only [Device.part_setReg, hgo, hidle]
  exact Device.addSwitch_of_free (d := d.setReg _ _) _ hfree

/-- R274: a GO while a switch is busy is lost, and shown. -/
theorem fxPrtStopSwitchGo_of_busy (hbusy : (d.part p).switch ≠ none) :
    fxPrtStopSwitchGo port p word d =
      (d.setReg (prtOff p PRT_STOP_SWITCH) (word % 4)).raise (prtOff p PRT_STOP_STATUS) 29 := by
  rw [fxPrtStopSwitchGo, if_neg (by simp [hp, hcovers])]
  simp only [Device.part_setReg, hgo]
  exact (if_neg (by simp)).trans (if_pos (by simpa [Option.isSome_iff_ne_none] using hbusy))

end Go

/-- R295: BOUND_SET writes its register and completes. -/
theorem fxBoundSet_of_ready {o : Origin} {e : Staged} {x : Image} (hp : p < 12) (hnext : d.startable o 0x14 = some e)
    (himage : d.image? (e.op 8 4) = some x) (hpart : x.parts.getD (e.op 12 1) 12 = p) (hready : x.ready = true)
    (hseen : x.seen e.cmd.port = true) (hjob : (d.part p).job = x.job) (hbound : e.op 13 1 ≤ 15) :
    fxBoundSet o d = ((d.start e).setReg (prtOff p (PRT_BOUND + 4 * e.op 13 1)) (e.op 16 4)).complete
      { e.cmd with inst := p } 0 [] := by
  have himage' : (d.start e).image? (e.op 8 4) = some x := himage
  have hjob' : ((d.start e).part p).job = x.job := hjob
  rw [fxBoundSet, Device.run_of_startable _ hnext]
  simp only [himage', hpart]
  exact if_neg (by simp [hready, hseen, hp, hjob', hbound])

end Requests

/-- Settles O25: every request leaves one partition, or one register, changed, as its equation above gives it. -/
theorem stopRequestsAreAccepted : Obligations.StopRequestsAreAccepted := by
  refine fun s p hrun hp => ⟨fun o e r hnext hfind hslot hfree => ?load, fun o e r i hnext hfind hslot hfree => ?switch,
    fun port word hcovers hgo => ⟨fun hidle hstore howner hfree => ?loadGo, fun hbusy => ?loadLost,
      fun hidle hfree => ?switchGo, fun hbusy => ?switchLost⟩,
    fun o e x hnext himage hpart hready hseen hjob hbound => ?bound⟩
  case load =>
    refine Ends.of_effect hrun rfl (fxStopLoad_of_found hnext hfind hslot hfree) rfl rfl ⟨?_, fun q hq => ?_, rfl⟩
    · exact congrArg Partition.loads (Device.part_modPart_same _ _ _)
    · exact Device.part_modPart_other _ _ _ _ hq
  case switch =>
    refine Ends.of_effect hrun rfl (fxStopSwitch_of_found hnext hfind hslot hfree) rfl rfl ⟨?_, fun q hq => ?_, rfl⟩
    · exact congrArg Partition.switch (Device.part_modPart_same _ _ _)
    · exact Device.part_modPart_other _ _ _ _ hq
  case loadGo =>
    refine Ends.of_effect hrun rfl (fxPrtStopLoadGo_of_store hp hcovers hgo hidle hstore howner hfree) rfl rfl
      ⟨?_, fun q hq => ?_, rfl⟩
    · rw [Device.part_modPart_same, Device.part_setReg, hidle]
      rfl
    · exact Device.part_modPart_other _ _ _ _ hq
  case loadLost =>
    refine Ends.of_effect hrun rfl (fxPrtStopLoadGo_of_busy hp hcovers hgo hbusy) rfl rfl ⟨?_, rfl⟩
    exact Device.regField_setRegField_same _ 1 (by decide)
  case switchGo =>
    refine Ends.of_effect hrun rfl (fxPrtStopSwitchGo_of_idle hp hcovers hgo hidle hfree) rfl rfl ⟨?_, fun q hq => ?_, rfl⟩
    · exact congrArg Partition.switch (Device.part_modPart_same _ _ _)
    · exact Device.part_modPart_other _ _ _ _ hq
  case switchLost =>
    refine Ends.of_effect hrun rfl (fxPrtStopSwitchGo_of_busy hp hcovers hgo hbusy) rfl rfl ⟨?_, rfl⟩
    exact Device.regField_setRegField_same _ 1 (by decide)
  case bound =>
    refine Ends.of_effect hrun rfl (fxBoundSet_of_ready hp hnext himage hpart hready hseen hjob hbound) (by simp [Device.start])
      (by simp [Device.start]) ⟨?_, fun k hk => ?_, ?_⟩
    · rw [Device.reg_congr (Device.complete_regs _ _ _ _), Device.reg_setReg_same]
    · rw [Device.reg_congr (Device.complete_regs _ _ _ _), Device.reg_setReg_other _ _ _ _ hk]
      rfl
    · rw [Device.complete_regs]
      rfl

end Sys2Proof.Machine
end

section
/-!
SUPPORT. The stages of a stop load, and a switch from its start to its end or its drain's timeout (R229 to R247).
-/
namespace Sys2Proof.Machine

/-! ### Loads (R229 to R235) -/

@[simp] theorem Device.part_setSlot_same (d : Device) (p i : Nat) (x : Slot) :
    (d.setSlot p i x).part p = { d.part p with slots := Table.put (d.part p).slots i x } :=
  Device.part_modPart_same _ _ _

@[simp] theorem Device.part_setSlot_other (d : Device) {p q : Nat} (i : Nat) (x : Slot) (hq : q ≠ p) :
    (d.setSlot p i x).part q = d.part q :=
  Device.part_modPart_other _ _ _ _ hq

theorem Device.setSlot_regs (d : Device) (p i : Nat) (x : Slot) : (d.setSlot p i x).regs = d.regs := rfl

theorem Device.part_completeOpt (d : Device) (c : Option CmdRef) (st : Nat) (v : List Byte) (p : Nat) :
    (d.completeOpt c st v).part p = d.part p := Device.part_congr (Device.completeOpt_parts _ _ _ _) p

theorem Device.part_endStop (d : Device) (p st : Nat) (c : Option CmdRef) (v : List Byte) (q : Nat) :
    (d.endStop p st c v).part q = d.part q := Device.part_completeOpt _ _ _ _ _

/-- R274: what ends a load or a switch shows its status. -/
theorem Device.regField_stopStatus_endStop (d : Device) (p st : Nat) (c : Option CmdRef) (v : List Byte) :
    (d.endStop p st c v).regField (prtOff p PRT_STOP_STATUS) 15 0 = st % 2 ^ 16 := by
  rw [Device.endStop, Device.regField_congr (Device.completeOpt_regs _ _ _ _)]
  exact Device.regField_setRegField_same _ st (by decide)

@[simp] theorem Device.endStop_mem (d : Device) (p st : Nat) (c : Option CmdRef) (v : List Byte) :
    (d.endStop p st c v).mem = d.mem := Device.completeOpt_mem _ _ _ _

@[simp] theorem Device.endStop_wlog (d : Device) (p st : Nat) (c : Option CmdRef) (v : List Byte) :
    (d.endStop p st c v).wlog = d.wlog := Device.completeOpt_wlog _ _ _ _

theorem Device.stopStatus_mem (d : Device) (p st : Nat) : (d.stopStatus p st).mem = d.mem := rfl
theorem Device.stopStatus_wlog (d : Device) (p st : Nat) : (d.stopStatus p st).wlog = d.wlog := rfl
theorem Device.part_stopStatus (d : Device) (p st q : Nat) : (d.stopStatus p st).part q = d.part q := rfl

/-- R233: the slot that a load leaves READY. -/
def Load.readySlot (l : Load) (cfg : StopCfg) : Slot := { state := .ready, stopId := cfg.stopId, image := l.image, cfg := cfg }

section Load
variable {d : Device} {p : Nat} {l : Load}

/-- R247: where no switch is asked for, none waits for the load. -/
theorem Device.targetLoaded_of_no_switch (hswitch : (d.part p).switch = none) : d.targetLoaded p = d := by
  rw [Device.targetLoaded, hswitch]

/-- R229, R232: the partition's only load, from the stop store, starts and takes its slot to LOADING. -/
theorem Device.startLoad_of_store {pos : Nat} (hsrc : l.src = .store pos) (hfront : l.front = none)
    (hloads : (d.part p).loads = [l]) (hidle : l.started = false) (hslot : ((d.part p).slot l.slot).state ≠ .active) :
    d.startLoad p false =
      (d.modPart p (fun x => { x with loads := { l with started := true } :: x.loads.erase l })).setSlot p l.slot
        { state := .loading } := by
  simp [Device.startLoad, hloads, hidle, hfront, hslot, hsrc]

/-- Where the block of a load stands. -/
def Load.blockKey (l : Load) (p : Nat) : Nat := match l.src with | .store pos => storeKey p pos | .t2 a => localKey a.toNat

/-- R233: a block that is read, and is not poisoned where it comes from T2. -/
theorem Device.blockRead_of_one (hloads : (d.part p).loads = [l]) (hstarted : l.started = true) (hblock : l.block = none)
    (hsrc : (∃ pos, l.src = .store pos) ∨ ∃ a, l.src = .t2 a ∧ d.poisonIn (localKey a.toNat) 65536 = none) :
    d.blockRead p false =
      if blockCrcOk (d.readBytes (l.blockKey p) 65536) then
        d.modLoad p (fun m => { m with block := some (StopCfg.ofBlock (d.readBytes (l.blockKey p) 65536)) })
      else d.loadCrc p l := by
  have hfind : (d.part p).loads.find? (fun l => l.started && l.block.isNone) = some l := by simp [hloads, hstarted, hblock]
  obtain ⟨pos, hsrc⟩ | ⟨a, hsrc, hclean⟩ := hsrc
  · simp only [Device.blockRead, hfind, Load.blockKey, hsrc]
    cases blockCrcOk _ <;> rfl
  · simp only [Device.blockRead, hfind, Load.blockKey, hsrc, hclean]
    cases blockCrcOk _ <;> rfl

/-- The running load of a partition after a change of it. -/
theorem Device.part_modLoad_of_one (f : Load → Load) (hloads : (d.part p).loads = [l]) (hstarted : l.started = true) :
    (d.modLoad p f).part p = { d.part p with loads := [f l] } := by
  rw [Device.modLoad, Device.part_modPart_same]
  simp [hloads, hstarted]

/-- R234: a block from T2 that fails its CRC ends its load with STOP_CRC. -/
theorem Device.loadCrc_of_t2 {a : DWord} (hsrc : l.src = .t2 a) (hfront : l.front = none) :
    d.loadCrc p l =
      ((d.setSlot p l.slot { state := .failed }).modPart p (fun x => { x with loads := x.loads.filter (fun m => !m.started) })).endStop
        p 0x1053 l.cmd [] := by
  simp only [Device.loadCrc, hsrc, Device.endLoad, hfront]
  rfl

/-- R233: the last word of a load's block is written. -/
theorem Device.stopLoaded_of_one {cfg : StopCfg} {c : CmdRef} (hswitch : (d.part p).switch = none) (hfront : l.front = none)
    (hloads : (d.part p).loads = [l]) (hstarted : l.started = true) (hblock : l.block = some cfg) (hcmd : l.cmd = some c) :
    d.stopLoaded p =
      (((d.setSlot p l.slot (l.readySlot cfg)).modPart p
        (fun x => { x with loads := x.loads.filter (fun m => !m.started) })).stopStatus p 0).complete { c with inst := p } 0
        (leBytes 4 cfg.stopId) := by
  have hfind : (d.part p).loads.find? (fun l => l.started && l.block.isSome) = some l := by simp [hloads, hstarted, hblock]
  simp only [Device.stopLoaded, hfind, hblock, Device.endLoad, hfront, hcmd, Device.endStop]
  refine Device.targetLoaded_of_no_switch ?_
  rw [Device.part_completeOpt, Device.part_stopStatus, Device.part_modPart_same, Device.part_setSlot_same]
  exact hswitch

end Load

/-- Settles O26: the stages of a load one by one. -/
theorem stopLoadFillsASlot : Obligations.StopLoadFillsASlot := by
  refine fun s p l hrun hswitch hfront => ⟨fun pos hsrc hloads hidle hslot => ?start, fun pos hsrc hloads hstarted hblock => ?store,
    fun a hsrc hloads hstarted hblock hclean => ?t2, fun cfg c hloads hstarted hblock hcmd => ?complete⟩
  case start =>
    have hstart := Device.startLoad_of_store hsrc hfront hloads hidle hslot
    have heffect : fxStopLoadStart p false s.dev = s.dev.startLoad p false := by
      refine Device.targetLoaded_of_no_switch ?_
      rw [hstart, Device.part_setSlot_same, Device.part_modPart_same]
      exact hswitch
    rw [hstart] at heffect
    refine Ends.of_effect hrun rfl heffect rfl rfl ?_
    rw [Device.part_setSlot_same, Device.part_modPart_same]
    refine ⟨by simp [hloads], ?_, fun i hi => Table.getD_put_other _ _ _ _ _ hi, fun q hq => ?_, rfl⟩
    · exact congrArg Slot.state (Table.getD_put_same _ _ _ _)
    · rw [Device.part_setSlot_other _ _ _ hq, Device.part_modPart_other _ _ _ _ hq]
  case store =>
    have hkey : l.blockKey p = storeKey p pos := by rw [Load.blockKey, hsrc]
    have hread := Device.blockRead_of_one hloads hstarted hblock (.inl ⟨pos, hsrc⟩)
    rw [hkey] at hread
    cases hcrc : blockCrcOk (s.dev.readBytes (storeKey p pos) 65536)
    · exact Ends.of_onDev .runs (fxStopBlockReadComplete p false) rfl hrun.runs (fun h => absurd h Bool.false_ne_true)
    · rw [hcrc, if_pos rfl] at hread
      have hafter := Device.part_modLoad_of_one
        (fun m => { m with block := some (StopCfg.ofBlock (s.dev.readBytes (storeKey p pos) 65536)) }) hloads hstarted
      have heffect : fxStopBlockReadComplete p false s.dev = s.dev.blockRead p false := by
        refine Device.targetLoaded_of_no_switch ?_
        rw [hread, hafter]
        exact hswitch
      rw [hread] at heffect
      refine Ends.of_effect hrun rfl heffect rfl rfl (fun _ => ⟨congrArg Partition.loads hafter, fun q hq => ?_, rfl⟩)
      exact Device.part_modPart_other _ _ _ _ hq
  case t2 =>
    have hkey : l.blockKey p = localKey a.toNat := by rw [Load.blockKey, hsrc]
    have hread := Device.blockRead_of_one hloads hstarted hblock (.inr ⟨a, hsrc, hclean⟩)
    rw [hkey] at hread
    cases hcrc : blockCrcOk (s.dev.readBytes (localKey a.toNat) 65536)
    · rw [hcrc, if_neg Bool.false_ne_true, Device.loadCrc_of_t2 hsrc hfront] at hread
      have hpart : (s.dev.blockRead p false).part p =
          { s.dev.part p with slots := Table.put (s.dev.part p).slots l.slot { state := .failed }, loads := [] } := by
        rw [hread, Device.part_endStop, Device.part_modPart_same, Device.part_setSlot_same]
        simp [hloads, hstarted]
      have heffect : fxStopBlockReadComplete p false s.dev = s.dev.blockRead p false := by
        refine Device.targetLoaded_of_no_switch ?_
        rw [hpart]
        exact hswitch
      refine Ends.of_effect hrun rfl heffect (by rw [hread, Device.endStop_mem]; rfl) (by rw [hread, Device.endStop_wlog]; rfl)
        ⟨fun h => absurd h Bool.false_ne_true, fun _ => ⟨by rw [hpart], ?_, ?_, by rw [hread, Device.endStop_mem]; rfl⟩⟩
      · rw [hpart]
        exact congrArg Slot.state (Table.getD_put_same _ _ _ _)
      · rw [hread]
        exact Device.regField_stopStatus_endStop _ _ _ _ _
    · rw [hcrc, if_pos rfl] at hread
      have hafter := Device.part_modLoad_of_one
        (fun m => { m with block := some (StopCfg.ofBlock (s.dev.readBytes (localKey a.toNat) 65536)) }) hloads hstarted
      have heffect : fxStopBlockReadComplete p false s.dev = s.dev.blockRead p false := by
        refine Device.targetLoaded_of_no_switch ?_
        rw [hread, hafter]
        exact hswitch
      rw [hread] at heffect
      exact Ends.of_effect hrun rfl heffect rfl rfl ⟨fun _ => ⟨congrArg Partition.loads hafter, rfl⟩,
        fun h => absurd h.symm Bool.false_ne_true⟩
  case complete =>
    have heffect := Device.stopLoaded_of_one hswitch hfront hloads hstarted hblock hcmd
    refine Ends.of_effect hrun rfl heffect (Device.complete_mem _ _ _ _) (Device.complete_wlog _ _ _ _) ?_
    rw [Device.complete_parts, Device.complete_regs, Device.part_congr (Device.complete_parts _ _ _ _),
      Device.regField_congr (Device.complete_regs _ _ _ _), Device.part_stopStatus, Device.part_modPart_same,
      Device.part_setSlot_same]
    refine ⟨by simp [hloads, hstarted], Table.getD_put_same _ _ _ _, fun i hi => Table.getD_put_other _ _ _ _ _ hi, ?_, rfl⟩
    exact Device.regField_setRegField_same _ 0 (by decide)

end Sys2Proof.Machine
end

section
/-!
SUPPORT. A switch: its start, its commit once the partition has drained, its end, and a drain that outlasts its budget (R236 to
R246).
-/
namespace Sys2Proof.Machine

section Switch
variable {d : Device} {p : Nat} {w : Switch}

/-- R236, R237: a switch of an active stop closes the tile ports and drains. -/
theorem fxSwitchStart_of_active (hswitch : (d.part p).switch = some w) (hphase : w.phase = .waiting)
    (hidle : (d.part p).running = none) (hreplay : (d.part p).replay = none) (hgoes : (d.fab p).halted = false)
    (hactive : (d.part p).active ≠ none) :
    fxSwitchStart p d = (d.modPart p (fun x => { x with closed := true, draining := true })).modSwitch p
      (fun w => { w with phase := .draining }) := by
  have hgoes' : (d.part p).fabric.halted = false := hgoes
  simp [fxSwitchStart, hswitch, hphase, hidle, hreplay, hgoes', hactive]

/-- R243: a stop that binds no queue has none to flush. -/
theorem Device.flushOld_of_no_binding {old : StopCfg} (new : StopCfg) (h : old.bindings = []) : d.flushOld p old new = d := by
  simp [Device.flushOld, h]

theorem carryMismatch_of_no_binding {old : StopCfg} (new : StopCfg) (h : old.bindings = []) : carryMismatch old new = false := by
  simp [carryMismatch, h]

/-- R241: a partition after the commit of a switch from slot `a` to slot `t`. -/
def Partition.switched (x : Partition) (a t : Nat) : Partition :=
  { x with slots := Table.put (Table.put x.slots a { x.slot a with state := .ready }) t
                      { Table.getD (Table.put x.slots a { x.slot a with state := .ready }) t {} with state := .active }
           active := some t, epoch := (x.epoch + 1) % 4, rings := [] }

theorem Device.part_modSwitch (d : Device) (p : Nat) (f : Switch → Switch) :
    (d.modSwitch p f).part p = { d.part p with switch := (d.part p).switch.map f } := Device.part_modPart_same _ _ _

/-- R241: the commit of a switch, where the old stop binds no queue. -/
theorem Device.commitSwitch_of_no_binding {a : Nat} (hactive : (d.part p).active = some a)
    (hbindings : ((d.part p).slot a).cfg.bindings = []) :
    d.commitSwitch p w =
      (d.modPart p (fun x => x.switched a w.target)).modSwitch p (fun w => { w with phase := .committing }) := by
  have hslots : (d.modPart p (fun x =>
      let slots := match x.active with
        | some a => Table.put x.slots a { x.slot a with state := .ready }
        | none => x.slots
      { x with slots := Table.put slots w.target { Table.getD slots w.target {} with state := .active }
               active := some w.target, epoch := (x.epoch + 1) % 4, rings := [] })) =
      d.modPart p (fun x => x.switched a w.target) := by
    simp only [Device.modPart, hactive]
    rfl
  simp only [Device.commitSwitch, hactive]
  exact congrArg (Device.modSwitch · p _) ((Device.flushOld_of_no_binding _ hbindings).trans hslots)

/-- R244, R247: a drained switch towards a READY slot commits where no queue of the old stop clashes with the new one's. -/
theorem Device.afterDrain_of_ready {a : Nat} (hactive : (d.part p).active = some a)
    (hready : ((d.part p).slot w.target).state = .ready) (hbindings : ((d.part p).slot a).cfg.bindings = []) :
    d.afterDrain p w =
      (d.modPart p (fun x => x.switched a w.target)).modSwitch p (fun w => { w with phase := .committing }) := by
  have hstop : (d.part p).stop = ((d.part p).slot a).cfg := by rw [Partition.stop, hactive]
  have hmatch : carryMismatch (d.part p).stop ((d.part p).slot w.target).cfg = false :=
    carryMismatch_of_no_binding _ (hstop ▸ hbindings)
  simp only [Device.afterDrain, Device.slotState, hready, hmatch]
  exact Device.commitSwitch_of_no_binding hactive hbindings

/-- R239: at occupancy 0 a drain ends. -/
theorem fxDrainEnd_of_empty (cycles : Nat) (hswitch : (d.part p).switch = some w) (hphase : w.phase = .draining)
    (hempty : d.occupancy p = 0) :
    fxDrainEnd p cycles d =
      ((d.setReg (prtOff p PRT_DRAIN_LAST) cycles).modSwitch p (fun _ => { w with drainCycles := cycles })).afterDrain p
        { w with drainCycles := cycles } := by
  simp only [fxDrainEnd, hswitch, hphase, hempty]
  exact if_neg (by simp)

/-- R241: the end of a committed switch reopens the tile ports. -/
theorem fxSwitchComplete_of_committing (hswitch : (d.part p).switch = some w) (hphase : w.phase = .committing) :
    fxSwitchComplete p d =
      (d.modPart p (fun x => { x with switch := none, draining := false, closed := false })).endStop p 0 w.cmd
        (leBytes 4 w.drainCycles) := by
  simp only [fxSwitchComplete, hswitch, hphase]
  rfl

/-- R239: a drain that outlasts its budget raises DRAIN_TIMEOUT. -/
theorem fxStopDrainTimeout_of_full (hswitch : (d.part p).switch = some w) (hphase : w.phase = .draining)
    (hfull : d.occupancy p ≠ 0) :
    fxStopDrainTimeout p d =
      (d.setReg (prtOff p PRT_DRAIN_LAST) ((d.part p).stop.drainBudget + 1)).fabricFault p 0x25 4 0 0 0 false
        { status := 0x1025, kind := 4 } := by
  simp only [fxStopDrainTimeout, hswitch, hphase]
  exact if_neg (by simp [hfull])

end Switch

/-! ### Fabric faults that no job owns (R166, R167, R240) -/

theorem prtOff_inj {p a b : Nat} (h : a ≠ b) : prtOff p a ≠ prtOff p b := fun he => h (Nat.add_left_cancel he)

section Fault
variable {d : Device} {p : Nat}

/-- A fault that no job owns halts none. -/
theorem Device.jobFault_of_no_job {j : Nat} (f : FaultInfo) (hjob : (d.job j).state = .none) : d.jobFault j f = d := by
  rw [Device.jobFault, if_pos hjob]

theorem Device.failSwitch_of_no_switch (st : Nat) (hswitch : (d.part p).switch = none) : d.failSwitch p st = d := by
  rw [Device.failSwitch, hswitch]

/-- R240: a fault ends the switch of its partition with its status. -/
theorem Device.failSwitch_of_switch {w : Switch} (st : Nat) (hswitch : (d.part p).switch = some w) :
    d.failSwitch p st =
      ((d.modPart p (fun x => { x with switch := none, draining := false })).stopStatus p st).completeOpt w.cmd st [] := by
  rw [Device.failSwitch, hswitch]

variable (d p)

theorem Device.failSwitch_mem (st : Nat) : (d.failSwitch p st).mem = d.mem := by
  cases hswitch : (d.part p).switch with
  | none => rw [Device.failSwitch_of_no_switch st hswitch]
  | some w =>
    rw [Device.failSwitch_of_switch st hswitch, Device.completeOpt_mem]
    rfl

theorem Device.failSwitch_wlog (st : Nat) : (d.failSwitch p st).wlog = d.wlog := by
  cases hswitch : (d.part p).switch with
  | none => rw [Device.failSwitch_of_no_switch st hswitch]
  | some w =>
    rw [Device.failSwitch_of_switch st hswitch, Device.completeOpt_wlog]
    rfl

theorem Device.job_failSwitch (st j : Nat) : (d.failSwitch p st).job j = d.job j := by
  cases hswitch : (d.part p).switch with
  | none => rw [Device.failSwitch_of_no_switch st hswitch]
  | some w =>
    rw [Device.failSwitch_of_switch st hswitch, Device.job, Device.completeOpt_jobs]
    rfl

/-- The end of a switch by a fault takes the switch from its partition, and at most ends its draining. -/
theorem Device.part_failSwitch (st : Nat) :
    ∃ b, (d.failSwitch p st).part p = { d.part p with switch := none, draining := b } := by
  cases hswitch : (d.part p).switch with
  | none =>
    refine ⟨(d.part p).draining, ?_⟩
    rw [Device.failSwitch_of_no_switch st hswitch, ← hswitch]
  | some w =>
    refine ⟨false, ?_⟩
    rw [Device.failSwitch_of_switch st hswitch, Device.part_completeOpt, Device.part_stopStatus, Device.part_modPart_same]

theorem Device.reg_failSwitch_other {k : Nat} (st : Nat) (hk : k ≠ prtOff p PRT_STOP_STATUS) :
    (d.failSwitch p st).reg k = d.reg k := by
  cases hswitch : (d.part p).switch with
  | none => rw [Device.failSwitch_of_no_switch st hswitch]
  | some w =>
    rw [Device.failSwitch_of_switch st hswitch, Device.reg_congr (Device.completeOpt_regs _ _ _ _), Device.stopStatus,
      Device.reg_setRegField_other _ _ _ _ hk]
    rfl

/-- R171: what PRT_FABRIC_FAULT latches of a fault. -/
def faultWord (code site port ch : Nat) (scalar : Bool) : Nat :=
  2 ^ 31 + 2 ^ 23 * bit scalar + 2 ^ 21 * (ch % 4) + 2 ^ 18 * (port % 8) + 2 ^ 9 * site + code % 256

variable (code kind site port ch : Nat) (scalar : Bool) (info : FaultInfo)

/-- R171: the first fault of a partition is latched. -/
def Device.latchFault : Device :=
  if d.regField (prtOff p PRT_FABRIC_FAULT) 31 31 = 1 then d
  else d.setReg (prtOff p PRT_FABRIC_FAULT) (faultWord code site port ch scalar)

theorem Device.latchFault_frame :
    d.latchFault p code site port ch scalar = { d with regs := (d.latchFault p code site port ch scalar).regs } := by
  rw [Device.latchFault]
  split <;> rfl

theorem Device.part_latchFault (q : Nat) : (d.latchFault p code site port ch scalar).part q = d.part q := by
  rw [Device.latchFault_frame]
  rfl

variable {d p} in
/-- R166, R167: a fabric fault of a partition that no job holds halts the partition and ends its switch. -/
theorem Device.fabricFault_of_no_job (hjob : (d.job (d.part p).job).state = .none) :
    d.fabricFault p code kind site port ch scalar info =
      ((d.latchFault p code site port ch scalar).modFab p (fun f => { f with halted := true })).failSwitch p (0x1000 + code) := by
  have hhalted : ((d.latchFault p code site port ch scalar).modFab p (fun f => { f with halted := true })).part p =
      { d.part p with fabric := { (d.part p).fabric with halted := true } } := by
    rw [Device.modFab, Device.part_modPart_same, Device.part_latchFault]
  obtain ⟨b, hpart⟩ := Device.part_failSwitch
    ((d.latchFault p code site port ch scalar).modFab p (fun f => { f with halted := true })) p (0x1000 + code)
  have hjobs (j : Nat) : ((d.latchFault p code site port ch scalar).modFab p (fun f => { f with halted := true })).job j = d.job j := by
    rw [Device.latchFault_frame]
    rfl
  refine Device.jobFault_of_no_job _ ?_
  have hstate : ((((d.latchFault p code site port ch scalar).modFab p (fun f => { f with halted := true })).failSwitch p
      (0x1000 + code)).job ((((d.latchFault p code site port ch scalar).modFab p (fun f => { f with halted := true })).failSwitch p
      (0x1000 + code)).part p).job).state = .none := by
    rw [Device.job_failSwitch, hjobs, hpart, hhalted]
    exact hjob
  exact hstate

section FaultOfNoJob
variable {d p}
variable (hjob : (d.job (d.part p).job).state = .none)
include hjob

/-- R167: the partition is halted, and its switch ended. -/
theorem Device.part_fabricFault_of_no_job :
    ∃ b, (d.fabricFault p code kind site port ch scalar info).part p =
      { d.part p with fabric := { (d.part p).fabric with halted := true }, switch := none, draining := b } := by
  obtain ⟨b, hpart⟩ := Device.part_failSwitch
    ((d.latchFault p code site port ch scalar).modFab p (fun f => { f with halted := true })) p (0x1000 + code)
  refine ⟨b, ?_⟩
  rw [Device.fabricFault_of_no_job code kind site port ch scalar info hjob, hpart, Device.modFab, Device.part_modPart_same,
    Device.part_latchFault]

theorem Device.fab_fabricFault_of_no_job : ((d.fabricFault p code kind site port ch scalar info).fab p).halted = true := by
  obtain ⟨b, hpart⟩ := Device.part_fabricFault_of_no_job code kind site port ch scalar info hjob
  rw [Device.fab, hpart]

theorem Device.fabricFault_mem_of_no_job : (d.fabricFault p code kind site port ch scalar info).mem = d.mem := by
  rw [Device.fabricFault_of_no_job code kind site port ch scalar info hjob, Device.failSwitch_mem, Device.modFab_mem,
    Device.latchFault_frame]

theorem Device.fabricFault_wlog_of_no_job : (d.fabricFault p code kind site port ch scalar info).wlog = d.wlog := by
  rw [Device.fabricFault_of_no_job code kind site port ch scalar info hjob, Device.failSwitch_wlog, Device.modFab_wlog,
    Device.latchFault_frame]

/-- R171: a register that none of the latch and the stop status is stays. -/
theorem Device.reg_fabricFault_other {k : Nat} (hlatch : k ≠ prtOff p PRT_FABRIC_FAULT) (hstatus : k ≠ prtOff p PRT_STOP_STATUS) :
    (d.fabricFault p code kind site port ch scalar info).reg k = d.reg k := by
  rw [Device.fabricFault_of_no_job code kind site port ch scalar info hjob, Device.reg_failSwitch_other _ _ _ hstatus,
    Device.reg_congr (Device.modFab_regs _ _ _), Device.latchFault]
  split
  · rfl
  · exact Device.reg_setReg_other _ _ _ _ hlatch

/-- R171: a free latch takes the fault's code. -/
theorem Device.faultCode_of_free (hfree : d.regField (prtOff p PRT_FABRIC_FAULT) 31 31 = 0) :
    (d.fabricFault p code kind site port ch scalar info).regField (prtOff p PRT_FABRIC_FAULT) 7 0 = code % 256 := by
  have hkey : prtOff p PRT_FABRIC_FAULT ≠ prtOff p PRT_STOP_STATUS := prtOff_inj (by decide)
  have hlatch : d.latchFault p code site port ch scalar =
      d.setReg (prtOff p PRT_FABRIC_FAULT) (faultWord code site port ch scalar) := by
    rw [Device.latchFault, if_neg (by simp [hfree])]
  rw [Device.fabricFault_of_no_job code kind site port ch scalar info hjob, Device.regField, Device.reg_failSwitch_other _ _ _ hkey,
    Device.reg_congr (Device.modFab_regs _ _ _), hlatch, Device.reg_setReg_same, faultWord, bitsOf]
  omega

/-- R240: the switch that the fault ends shows its status. -/
theorem Device.stopStatus_fabricFault_of_switch {w : Switch} (hswitch : (d.part p).switch = some w) :
    (d.fabricFault p code kind site port ch scalar info).regField (prtOff p PRT_STOP_STATUS) 15 0 = (0x1000 + code) % 2 ^ 16 := by
  have hstands : (((d.latchFault p code site port ch scalar).modFab p (fun f => { f with halted := true })).part p).switch =
      some w := by
    rw [Device.modFab, Device.part_modPart_same, Device.part_latchFault]
    exact hswitch
  rw [Device.fabricFault_of_no_job code kind site port ch scalar info hjob, Device.failSwitch_of_switch _ hstands,
    Device.regField_congr (Device.completeOpt_regs _ _ _ _)]
  exact Device.regField_setRegField_same _ _ (by decide)

end FaultOfNoJob

end Fault

/-- Settles O27 (the occupancy counts as in log entries 10 and 49): start, end of the drain, end of the switch, and the fault of a
drain that lasts too long. -/
theorem switchDrainsThenCommits : Obligations.SwitchDrainsThenCommits := by
  refine fun s p w hrun hp hswitch => ⟨fun hphase hidle hreplay hgoes hactive => ?start,
    fun a cycles hphase hempty hactive hother hready hbindings => ?drained, fun c hphase hcmd => ?complete,
    fun hphase hfull hjob hfree => ?timeout⟩
  case start =>
    refine Ends.of_effect hrun rfl (fxSwitchStart_of_active hswitch hphase hidle hreplay hgoes hactive) rfl rfl
      ⟨?_, fun q hq => ?_, rfl⟩
    · rw [Device.part_modSwitch, Device.part_modPart_same]
      simp [hswitch]
    · rw [Device.modSwitch, Device.part_modPart_other _ _ _ _ hq, Device.part_modPart_other _ _ _ _ hq]
  case drained =>
    have hpart := Device.part_modSwitch (s.dev.setReg (prtOff p PRT_DRAIN_LAST) cycles) p
      (fun _ => { w with drainCycles := cycles })
    rw [Device.part_setReg, hswitch] at hpart
    have heffect := (fxDrainEnd_of_empty cycles hswitch hphase hempty).trans
      (Device.afterDrain_of_ready (by rw [hpart]; exact hactive) (by rw [hpart]; exact hready) (by rw [hpart]; exact hbindings))
    refine Ends.of_effect hrun rfl heffect rfl rfl ?_
    rw [Device.part_modSwitch, Device.part_modPart_same, hpart]
    refine ⟨rfl, rfl, ?_, ?_, rfl, rfl, rfl, ?_, fun q hq => ?_, rfl⟩
    · have hold := Table.getD_put_other (Table.put (s.dev.part p).slots a { (s.dev.part p).slot a with state := .ready }) w.target a
        { Table.getD (Table.put (s.dev.part p).slots a { (s.dev.part p).slot a with state := .ready }) w.target {} with
          state := .active } {} hother
      exact congrArg Slot.state (hold.trans (Table.getD_put_same _ _ _ _))
    · exact congrArg Slot.state (Table.getD_put_same _ _ _ _)
    · exact Device.reg_setReg_same _ _ _
    · rw [Device.modSwitch, Device.part_modPart_other _ _ _ _ hq, Device.part_modPart_other _ _ _ _ hq, Device.modSwitch,
        Device.part_modPart_other _ _ _ _ hq, Device.part_setReg]
  case complete =>
    have heffect := fxSwitchComplete_of_committing hswitch hphase
    rw [hcmd] at heffect
    refine Ends.of_effect hrun rfl heffect (Device.endStop_mem _ _ _ _ _) (Device.endStop_wlog _ _ _ _ _) ⟨?_, ?_, ?_⟩
    · rw [Device.part_endStop, Device.part_modPart_same]
    · exact Device.regField_stopStatus_endStop _ _ _ _ _
    · rw [Device.endStop, Device.completeOpt_parts, Device.completeOpt_regs]
      rfl
  case timeout =>
    have hkey : prtOff p PRT_FABRIC_FAULT ≠ prtOff p PRT_DRAIN_LAST := prtOff_inj (by decide)
    have heffect := fxStopDrainTimeout_of_full hswitch hphase hfull
    generalize hd : s.dev.setReg (prtOff p PRT_DRAIN_LAST) _ = d' at heffect
    have hpart (q : Nat) : d'.part q = s.dev.part q := hd ▸ Device.part_setReg _ _ _ _
    have hjob' : (d'.job (d'.part p).job).state = .none := by
      rw [hpart, ← hd]
      exact hjob
    have hfree' : d'.regField (prtOff p PRT_FABRIC_FAULT) 31 31 = 0 := by
      rw [Device.regField, ← hd, Device.reg_setReg_other _ _ _ _ hkey]
      exact hfree
    obtain ⟨b, hfault⟩ := Device.part_fabricFault_of_no_job 0x25 4 0 0 0 false { status := 0x1025, kind := 4 } hjob'
    rw [hpart] at hfault
    have hmem' : d'.mem = s.dev.mem := by rw [← hd, Device.setReg_mem]
    have hwlog' : d'.wlog = s.dev.wlog := by rw [← hd, Device.setReg_wlog]
    have hmem := (Device.fabricFault_mem_of_no_job 0x25 4 0 0 0 false { status := 0x1025, kind := 4 } hjob').trans hmem'
    have hwlog := (Device.fabricFault_wlog_of_no_job 0x25 4 0 0 0 false { status := 0x1025, kind := 4 } hjob').trans hwlog'
    refine Ends.of_effect hrun rfl heffect hmem hwlog ⟨?_, by rw [hfault], by rw [hfault], ?_, ?_, hmem⟩
    · rw [Device.fab, hfault]
    · exact Device.faultCode_of_free 0x25 4 0 0 0 false _ hjob' hfree'
    · exact Device.stopStatus_fabricFault_of_switch 0x25 4 0 0 0 false _ hjob' ((congrArg Partition.switch (hpart p)).trans hswitch)

end Sys2Proof.Machine
end

section
/-!
SUPPORT. A step of an image's digest where two long operations share a number (R640).
-/
namespace Sys2Proof.Machine

/-- The command of an IMAGE_LOAD of one byte. -/
def oneByteLoad : Staged :=
  { cmd := { origin := .mgmt, port := .mgmt, uid := 1, opcode := 0x10, flags := 0, tag := 0, inst := 0 }
    entry := List.replicate 16 0 ++ [1] ++ List.replicate 47 0, home := 15 }

/-- A digest's long operation at step `n`, under number 5. -/
def digestAt (n : Nat) : LongOp := { id := 5, kind := .imageDigest, cls := 4, cmd := some oneByteLoad.cmd, step := n }

/-- A device with two long operations under one number, the later a block further on than the first. -/
def twinDigests : State := { dev := { longOps := [digestAt 0, digestAt 1], planned := [5], staged := [oneByteLoad] } }

/-- A step of no block leaves both where they stand. -/
theorem fxLongOpStep_twinDigests :
    (fxLongOpStep 5 0 false none twinDigests.dev).longOps.map (·.step) = [0, 1] := by
  decide +kernel

/-- Refutes O28: the clause of an unfinished digest step sets every long operation of that number to the first one's step, while the
model moves each on from its own. On `twinDigests`, whose operations are at 0 and 1, a step of no block would set both to 0. Numbers
are given once in the model (`Device.uid`), but the statement does not ask that the state's are distinct. -/
theorem not_imageLoadAndUnload : ¬ Obligations.ImageLoadAndUnload := by
  intro h
  obtain ⟨-, hstep, -⟩ := h twinDigests .mgmt oneByteLoad ⟨rfl, rfl, rfl⟩
  obtain ⟨hunfinished, -⟩ := hstep 5 (digestAt 0) 0 none rfl rfl rfl (by decide)
  have heffect := (hunfinished (by decide)).of_exec (g := .runs) (f := fxLongOpStep 5 0 false none) rfl rfl
  have hclaimed : (fxLongOpStep 5 0 false none twinDigests.dev).longOps.map (·.step) = [0, 0] :=
    congrArg (fun d : Device => d.longOps.map (·.step)) heffect
  exact absurd (fxLongOpStep_twinDigests.symm.trans hclaimed) (by decide)

end Sys2Proof.Machine
end

section
/-!
SUPPORT. The fabric of one partition: what its wires, buffers and credits hold after each of its operations; tokens through
switches, over links and into cells (R111 to R127, R163, R164).
-/
namespace Sys2Proof.Machine

/-! ### Tables -/

theorem Table.getD_drop_same {α : Type} (t : Table α) (k : Nat) (x : α) : Table.getD (Table.drop t k) k x = x := by
  rw [Table.getD, Table.find?_drop_same, Option.getD_none]

theorem Table.getD_drop_other {α : Type} (t : Table α) {k i : Nat} (x : α) (h : i ≠ k) :
    Table.getD (Table.drop t k) i x = Table.getD t i x := by
  rw [Table.getD, Table.find?_drop_other t k i h, Table.getD]

/-- A list stored under a key, where an empty one leaves no key, reads back. -/
theorem Table.getD_store_same {α : Type} (t : Table (List α)) (k : Nat) (l : List α) :
    Table.getD (if l.isEmpty then Table.drop t k else Table.put t k l) k [] = l := by
  cases l with
  | nil => exact Table.getD_drop_same t k []
  | cons x r => exact Table.getD_put_same t k (x :: r) []

theorem Table.getD_store_other {α : Type} (t : Table (List α)) {k j : Nat} (l : List α) (h : j ≠ k) :
    Table.getD (if l.isEmpty then Table.drop t k else Table.put t k l) j [] = Table.getD t j [] := by
  cases l with
  | nil => exact Table.getD_drop_other t [] h
  | cons x r => exact Table.getD_put_other t k j (x :: r) [] h

/-! ### Channels of a fabric -/

namespace Fabric
variable (f : Fabric)

@[simp] theorem wire_setWire_same (c : Chan) (l : List Token) : (f.setWire c l).wire c = l := Table.getD_store_same _ _ _
@[simp] theorem wire_setWire_other {c e : Chan} (l : List Token) (h : e.key ≠ c.key) : (f.setWire c l).wire e = f.wire e :=
  Table.getD_store_other _ _ h
@[simp] theorem buf_setBuf_same (c : Chan) (l : List Token) : (f.setBuf c l).buf c = l := Table.getD_store_same _ _ _
@[simp] theorem buf_setBuf_other {c e : Chan} (l : List Token) (h : e.key ≠ c.key) : (f.setBuf c l).buf e = f.buf e :=
  Table.getD_store_other _ _ h

@[simp] theorem buf_setWire (c e : Chan) (l : List Token) : (f.setWire c l).buf e = f.buf e := rfl
@[simp] theorem wire_setBuf (c e : Chan) (l : List Token) : (f.setBuf c l).wire e = f.wire e := rfl
@[simp] theorem wire_freeEntry (c e : Chan) : (f.freeEntry c).wire e = f.wire e := rfl
@[simp] theorem buf_freeEntry (c e : Chan) : (f.freeEntry c).buf e = f.buf e := rfl
@[simp] theorem buf_send (c e : Chan) (t : Token) : (f.send c t).buf e = f.buf e := rfl
@[simp] theorem wire_send_same (c : Chan) (t : Token) : (f.send c t).wire c = f.wire c ++ [t] := wire_setWire_same _ _ _
@[simp] theorem wire_send_other {c e : Chan} (t : Token) (h : e.key ≠ c.key) : (f.send c t).wire e = f.wire e :=
  wire_setWire_other _ _ h
@[simp] theorem spent_send_same (c : Chan) (t : Token) :
    Table.getD (f.send c t).spent c.key 0 = Table.getD f.spent c.key 0 + 1 := Table.getD_put_same _ _ _ _
@[simp] theorem due_freeEntry_same (c : Chan) : Table.getD (f.freeEntry c).due c.key 0 = Table.getD f.due c.key 0 + 1 :=
  Table.getD_put_same _ _ _ _

/-- R164: a good arrival changes the replay buffers alone. -/
theorem accepted_frame (c : Chan) : f.accepted c = { f with replay := (f.accepted c).replay } := by
  rw [accepted]
  split <;> rfl

@[simp] theorem wire_accepted (c e : Chan) : (f.accepted c).wire e = f.wire e := by rw [accepted_frame]; rfl
@[simp] theorem buf_accepted (c e : Chan) : (f.accepted c).buf e = f.buf e := by rw [accepted_frame]; rfl
@[simp] theorem spent_accepted (c : Chan) : (f.accepted c).spent = f.spent := by rw [accepted_frame]
@[simp] theorem due_accepted (c : Chan) : (f.accepted c).due = f.due := by rw [accepted_frame]
@[simp] theorem cells_accepted (c : Chan) : (f.accepted c).cells = f.cells := by rw [accepted_frame]
@[simp] theorem outs_accepted (c : Chan) : (f.accepted c).outs = f.outs := by rw [accepted_frame]

/-- R111: an empty buffer lets nothing go. -/
theorem forward_of_empty {cfg : StopCfg} {c : Chan} {f : Fabric} (n : Nat) (h : f.buf c = []) : forward cfg c f n = f := by
  cases n with
  | zero => rfl
  | succ n => rw [forward, h]

variable {cfg : StopCfg} {c oc : Chan} {o : Nat × Nat} {t : Token} {f : Fabric}
variable (hrouted : cfg.routed c = [o]) (hout : outputChan c.site o.1 c.scalar o.2 = some oc)
include hrouted hout

/-- R111: the token of a channel with one output leaves on it while it has a credit. -/
theorem forward_one (n : Nat) (hbuf : f.buf c = [t]) (hcredit : f.credit oc = true) :
    forward cfg c f (n + 1) = ((f.setBuf c []).freeEntry c).send oc t := by
  have hgo : forward cfg c f (n + 1) = forward cfg c (((f.setBuf c []).freeEntry c).send oc t) n := by
    simp [forward, hbuf, hrouted, hout, hcredit]
  exact hgo.trans (forward_of_empty n (by rw [buf_send, buf_freeEntry, buf_setBuf_same]))

/-- R111, R112: without the credit it waits. -/
theorem forward_waits (n : Nat) (hcredit : f.credit oc = false) : forward cfg c f n = f := by
  cases n with
  | zero => rfl
  | succ n =>
    rw [forward]
    split
    · rfl
    · simp [hrouted, hout, hcredit]

end Fabric

/-! ### Partitions -/

section Part
variable (d : Device) (p : Nat)

theorem Device.modPart_modPart (f g : Partition → Partition) :
    (d.modPart p f).modPart p g = d.modPart p (fun x => g (f x)) := by
  have hread : (d.modPart p f).part p = f (d.part p) := Device.part_modPart_same _ _ _
  have hput : ({ d with parts := Table.put (Table.put d.parts p (f (d.part p))) p (g (f (d.part p))) } : Device) =
      { d with parts := Table.put d.parts p (g (f (d.part p))) } := by rw [Table.put_put]
  rw [Device.modPart, hread]
  exact hput

theorem Device.modFab_modFab (f g : Fabric → Fabric) : (d.modFab p f).modFab p g = d.modFab p (fun x => g (f x)) :=
  Device.modPart_modPart d p _ _

@[simp] theorem Device.stop_modFab (f : Fabric → Fabric) : ((d.modFab p f).part p).stop = (d.part p).stop := by
  rw [Device.modFab, Device.part_modPart_same]
  rfl

@[simp] theorem Device.epoch_modFab (f : Fabric → Fabric) : ((d.modFab p f).part p).epoch = (d.part p).epoch := by
  rw [Device.modFab, Device.part_modPart_same]

theorem Device.part_modFab_other {q : Nat} (f : Fabric → Fabric) (hq : q ≠ p) : (d.modFab p f).part q = d.part q :=
  Device.part_modPart_other _ _ _ _ hq

theorem Device.halted_of_live {d : Device} {p : Nat} (h : d.live p = true) : (d.fab p).halted = false := by
  simp only [Device.live, Bool.and_eq_true, Bool.not_eq_true'] at h
  exact h.2

end Part

/-! ### Tokens that arrive (R111, R123) -/

section Arrival
variable {c e : Chan} {t : Token} {rest : List Token}

/-- An arrived token stands in the buffer of its input channel. -/
def Fabric.arrived (f : Fabric) (c : Chan) (t : Token) (rest : List Token) : Fabric :=
  ((f.setWire c rest).accepted c).setBuf c [t]

namespace Fabric
variable (f : Fabric)

@[simp] theorem buf_arrived_same : (f.arrived c t rest).buf c = [t] := buf_setBuf_same _ _ _
@[simp] theorem wire_arrived_same : (f.arrived c t rest).wire c = rest := by simp [arrived]
@[simp] theorem wire_arrived_other (h : e.key ≠ c.key) : (f.arrived c t rest).wire e = f.wire e := by simp [arrived, h]
@[simp] theorem spent_arrived : (f.arrived c t rest).spent = f.spent := by rw [arrived, setBuf, spent_accepted, setWire]
@[simp] theorem due_arrived : (f.arrived c t rest).due = f.due := by rw [arrived, setBuf, due_accepted, setWire]
@[simp] theorem cells_arrived : (f.arrived c t rest).cells = f.cells := by rw [arrived, setBuf, cells_accepted, setWire]
theorem credit_arrived : (f.arrived c t rest).credit e = f.credit e := by rw [credit, spent_arrived, credit]

end Fabric

/-- The two changes of the fabric that every arrival makes, where the buffer was empty. -/
theorem Device.modFab_arrived {d : Device} {p : Nat} (hbuf : (d.fab p).buf c = []) :
    (d.modFab p (fun f => (f.setWire c rest).accepted c)).modFab p (fun f => f.setBuf c (f.buf c ++ [t])) =
      d.modFab p (fun f => f.arrived c t rest) := by
  have hbuf' : (((d.part p).fabric.setWire c rest).accepted c).buf c = [] := by
    rw [Fabric.buf_accepted, Fabric.buf_setWire]
    exact hbuf
  rw [Device.modFab_modFab]
  exact congrArg (fun l => d.setPart p { d.part p with fabric := (((d.part p).fabric.setWire c rest).accepted c).setBuf c (l ++ [t]) })
    hbuf'

end Arrival

/-! ### Switches (R111, R112) -/

section Switches
variable {d : Device} {p : Nat} {c oc : Chan} {t : Token} {rest : List Token} {o : Nat × Nat}

/-- R111: a token that a switch routes is put forward from the buffer of its channel. -/
theorem fxTokenArrivalSwitch_of_routed (hlive : d.live p = true) (hport : c.port ≤ 4) (hsite : c.site < siteCount)
    (hwire : (d.fab p).wire c = t :: rest) (hbuf : (d.fab p).buf c = []) (hrouted : (d.part p).stop.routed c = [o])
    (hout : outputChan c.site o.1 c.scalar o.2 = some oc) :
    fxTokenArrivalSwitch p c.site c.port c.scalar c.ch d =
      d.modFab p (fun f => Fabric.forward (d.part p).stop c (f.arrived c t rest) 8) := by
  have hput : (d.modFab p (fun f => (f.setWire c rest).accepted c)).modFab p
      (fun f => Fabric.forward (d.part p).stop c (f.setBuf c (f.buf c ++ [t])) 8) =
      d.modFab p (fun f => Fabric.forward (d.part p).stop c (f.arrived c t rest) 8) := by
    have hstep := congrArg (fun x : Device => x.modFab p (fun f => Fabric.forward (d.part p).stop c f 8))
      (Device.modFab_arrived (t := t) (rest := rest) hbuf)
    simpa only [Device.modFab_modFab] using hstep
  have hc : (⟨c.site, c.port, c.scalar, c.ch⟩ : Chan) = c := rfl
  simp only [fxTokenArrivalSwitch, hc, hlive, hwire, hrouted]
  rw [if_neg (by simp [hport, hsite])]
  exact (if_neg (by simp [hout])).trans hput

/-- R112: the fabric after one of the `n` credits due to a channel has come back. -/
def Fabric.creditBack (f : Fabric) (c : Chan) (n : Nat) : Fabric :=
  { f with due := if n = 1 then Table.drop f.due c.key else Table.put f.due c.key (n - 1)
           spent := Table.put f.spent c.key (Table.getD f.spent c.key 0 - 1) }

theorem Fabric.due_creditBack (f : Fabric) (c : Chan) (n : Nat) : Table.getD (f.creditBack c (n + 1)).due c.key 0 = n := by
  cases n with
  | zero => exact Table.getD_drop_same _ _ _
  | succ n => exact Table.getD_put_same _ _ _ _

/-- R112: a credit of a local input comes back, with no token waiting for it. -/
theorem fxCreditReturn_of_local {site ch n : Nat} {scalar : Bool} (hlive : d.live p = true)
    (hdue : Table.getD (d.fab p).due (Chan.key ⟨site, 4, scalar, ch⟩) 0 = n + 1)
    (houts : Table.getD (d.fab p).outs (Chan.key ⟨site, 4, scalar, ch⟩) [] = []) :
    fxCreditReturn p site 4 scalar ch d = d.modFab p (fun f => f.creditBack ⟨site, 4, scalar, ch⟩ (n + 1)) := by
  have hflush (f : Fabric) (h : Table.getD f.outs (Chan.key ⟨site, 4, scalar, ch⟩) [] = []) :
      Fabric.flushOut ⟨site, 4, scalar, ch⟩ f 16 = f := by rw [Fabric.flushOut, h]
  have hback : (d.modFab p (fun f => f.creditBack ⟨site, 4, scalar, ch⟩ (n + 1))).modFab p
      (fun f => Fabric.flushOut ⟨site, 4, scalar, ch⟩ f 16) =
      d.modFab p (fun f => f.creditBack ⟨site, 4, scalar, ch⟩ (n + 1)) := by
    rw [Device.modFab_modFab]
    exact congrArg (fun g => d.setPart p { d.part p with fabric := g }) (hflush _ houts)
  simp only [fxCreditReturn, hdue, hlive]
  rw [if_neg (by simp)]
  exact (if_pos trivial).trans hback

/-- Settles O29: what the forwarding and the waiting token, and the credit that came back, leave in the fabric. -/
theorem switchesForwardUnderCredit : Obligations.SwitchesForwardUnderCredit := by
  refine fun s p c hrun hlive hch => ⟨fun t rest o oc hport hsite hwire hbuf hrouted hout hkey => ?_,
    fun n hport hdue houts => ?_⟩
  · have heffect := fxTokenArrivalSwitch_of_routed hlive hport hsite hwire hbuf hrouted hout
    refine ⟨fun hcredit => ?_, fun hcredit => ?_⟩
    · refine Ends.of_effect hrun rfl heffect rfl rfl ⟨?_, ?_, ?_, ?_, ?_, fun q hq => Device.part_modFab_other _ _ _ hq, rfl⟩
        <;> rw [Device.fab_modFab_same, Fabric.forward_one hrouted hout 7 (Fabric.buf_arrived_same _)
          ((Fabric.credit_arrived _).trans hcredit)]
      · rw [Fabric.wire_send_same, Fabric.wire_freeEntry, Fabric.wire_setBuf, Fabric.wire_arrived_other _ hkey]
      · rw [Fabric.wire_send_other _ _ (Ne.symm hkey), Fabric.wire_freeEntry, Fabric.wire_setBuf, Fabric.wire_arrived_same]
      · rw [Fabric.buf_send, Fabric.buf_freeEntry, Fabric.buf_setBuf_same]
      · rw [Fabric.spent_send_same, Fabric.freeEntry, Fabric.setBuf, Fabric.spent_arrived]
      · rw [Fabric.send, Fabric.setWire, Fabric.due_freeEntry_same, Fabric.setBuf, Fabric.due_arrived]
    · refine Ends.of_effect hrun rfl heffect rfl rfl ⟨?_, ?_, ?_, fun q hq => Device.part_modFab_other _ _ _ hq, rfl⟩
        <;> rw [Device.fab_modFab_same, Fabric.forward_waits hrouted hout 8 ((Fabric.credit_arrived _).trans hcredit)]
      · exact Fabric.buf_arrived_same _
      · exact Fabric.wire_arrived_same _
      · exact Fabric.spent_arrived _
  · obtain ⟨site, port, scalar, ch⟩ := c
    cases hport
    refine Ends.of_effect hrun rfl (fxCreditReturn_of_local hlive hdue houts) rfl rfl
      ⟨?_, ?_, ?_, ?_, fun q hq => Device.part_modFab_other _ _ _ hq, rfl⟩ <;> rw [Device.fab_modFab_same]
    · exact Fabric.due_creditBack _ _ _
    · exact Table.getD_put_same _ _ _ _
    · rfl
    · rfl

end Switches

/-! ### Links (R163, R164) -/

section Links
variable {d : Device} {p : Nat} {c : Chan}

/-- The fabric with no token on the way over a link. -/
def Fabric.emptied (f : Fabric) (c : Chan) : Fabric := (List.range 4).foldl (fun f k => f.setWire { c with ch := k } []) f

/-- R163: the fabric after a link's tokens on the way are discarded and asked for again. -/
def Fabric.discarded (f : Fabric) (c : Chan) : Fabric :=
  { f.emptied c with resend := if f.resend.contains c.link then f.resend else f.resend ++ [c.link] }

/-- Emptying the wire of a channel keeps every empty wire empty. -/
theorem Fabric.wire_setWire_nil {f : Fabric} {e : Chan} (c : Chan) (h : f.wire e = []) : (f.setWire c []).wire e = [] := by
  by_cases hkey : e.key = c.key
  · exact (congrArg (fun k => Table.getD (f.setWire c []).wires k []) hkey).trans (Fabric.wire_setWire_same _ _ _)
  · rw [Fabric.wire_setWire_other _ _ hkey, h]

theorem Fabric.wire_emptied (f : Fabric) (c : Chan) : ∀ k, k < 4 → (f.emptied c).wire { c with ch := k } = []
  | 0, _ => Fabric.wire_setWire_nil _ (Fabric.wire_setWire_nil _ (Fabric.wire_setWire_nil _ (Fabric.wire_setWire_same _ _ _)))
  | 1, _ => Fabric.wire_setWire_nil _ (Fabric.wire_setWire_nil _ (Fabric.wire_setWire_same _ _ _))
  | 2, _ => Fabric.wire_setWire_nil _ (Fabric.wire_setWire_same _ _ _)
  | 3, _ => Fabric.wire_setWire_same _ _ _

theorem Fabric.resend_discarded (f : Fabric) (c : Chan) : (f.discarded c).resend.contains c.link = true := by
  have h (l : List Nat) : (if l.contains c.link then l else l ++ [c.link]).contains c.link = true := by
    split
    · assumption
    · simp
  exact h _

/-- R163: the transmissions counted of the first kept token of a channel. -/
def Fabric.keptSends (f : Fabric) (c : Chan) : Nat :=
  match (Table.getD f.replay c.link []).find? (fun s => s.ch == c.ch) with | some s => s.sends | none => 0

theorem fxLinkParityError_of_early (hlive : d.live p = true) (hwire : (d.fab p).wire c ≠ [])
    (hsends : (d.fab p).keptSends c < 3) :
    fxLinkParityError p c.site c.port c.scalar c.ch d = d.modFab p (fun f => f.discarded c) := by
  have hgo : (!d.live p || (d.fab p).wire c == []) = false := by simp [hlive, hwire]
  rw [fxLinkParityError, if_neg (by simpa using hgo)]
  exact if_neg (Nat.not_le.mpr hsends)

theorem fxLinkParityError_of_third (hlive : d.live p = true) (hwire : (d.fab p).wire c ≠ [])
    (hsends : 3 ≤ (d.fab p).keptSends c) :
    fxLinkParityError p c.site c.port c.scalar c.ch d =
      d.fabricFault p 0x20 1 c.site (if c.port = 5 then 4 else c.port) c.ch c.scalar { status := 0x1020, kind := 1 } := by
  have hgo : (!d.live p || (d.fab p).wire c == []) = false := by simp [hlive, hwire]
  rw [fxLinkParityError, if_neg (by simpa using hgo)]
  exact if_pos hsends

/-- R164: the fabric after the sender has sent its one kept token again. -/
def Fabric.resent (f : Fabric) (c : Chan) (x : Sent) : Fabric :=
  { f.setWire { c with ch := x.ch } (f.wire { c with ch := x.ch } ++ [x.tok]) with
    resend := f.resend.filter (fun k => k != c.link)
    replay := Table.put f.replay c.link [{ x with sends := x.sends + 1 }] }

theorem fxLinkResend_of_one {x : Sent} (hlive : d.live p = true) (hasked : (d.fab p).resend.contains c.link = true)
    (hkept : Table.getD (d.fab p).replay c.link [] = [x]) :
    fxLinkResend p c.site c.port c.scalar d =
      (d.modFab p (fun f => f.resent c x)).bump64 (prtOff p PRT_LINK_REPLAY_COUNT_LO) 1 := by
  have hlink : Chan.link ⟨c.site, c.port, c.scalar, 0⟩ = c.link := rfl
  have hgo : (!d.live p || !(d.fab p).resend.contains c.link) = false := by rw [hlive, hasked]; rfl
  simp only [fxLinkResend, hlink, hkept]
  exact if_neg (by simpa using hgo)

/-- A 64-bit counter reads back what a count made of it, held at its greatest value. -/
theorem Device.reg64_bump64 (d : Device) (k n : Nat) : (d.bump64 k n).reg64 k = satAdd 64 (d.reg64 k) n := by
  have hbound : satAdd 64 (d.reg64 k) n < 2 ^ 64 := Nat.lt_of_le_of_lt (Nat.min_le_left _ _) (by decide)
  have hlow : (d.bump64 k n).reg k = satAdd 64 (d.reg64 k) n % 2 ^ 32 :=
    (Device.reg_setReg_other _ _ _ _ (by omega)).trans (Device.reg_setReg_same _ _ _)
  have hhigh : (d.bump64 k n).reg (k + 4) = satAdd 64 (d.reg64 k) n / 2 ^ 32 % 2 ^ 32 := Device.reg_setReg_same _ _ _
  rw [Device.reg64, hlow, hhigh]
  omega

/-- Settles O30: the discarded link, the fault of the third failure by the fault's own lemmas, and the one kept token sent again. -/
theorem linksReplay : Obligations.LinksReplay := by
  refine fun s p c hrun hlive hch => ⟨fun hwire hearly => ?_, fun hwire hlate ⟨x, hx, hxch⟩ hjob hfree => ?_,
    fun x hasked hkept => ?_⟩
  · have hsends : (s.dev.fab p).keptSends c < 3 := by
      rw [Fabric.keptSends]
      split
      · next y hy => exact hearly y (List.mem_of_find?_eq_some hy) (by simpa using List.find?_some hy)
      · decide
    refine Ends.of_effect hrun rfl (fxLinkParityError_of_early hlive hwire hsends) rfl rfl
      ⟨?_, ?_, ?_, ?_, fun q hq => Device.part_modFab_other _ _ _ hq, rfl⟩ <;> rw [Device.fab_modFab_same]
    · exact Fabric.wire_emptied _ _
    · exact Fabric.resend_discarded _ _
    · exact Device.halted_of_live hlive
    · rfl
  · have hsends : 3 ≤ (s.dev.fab p).keptSends c := by
      rw [Fabric.keptSends]
      split
      · next y hy => exact hlate y (List.mem_of_find?_eq_some hy) (by simpa using List.find?_some hy)
      · next hnone => exact absurd (by simpa using hxch) (List.find?_eq_none.mp hnone x hx)
    exact Ends.of_effect hrun rfl (fxLinkParityError_of_third hlive hwire hsends)
      (Device.fabricFault_mem_of_no_job _ _ _ _ _ _ _ hjob) (Device.fabricFault_wlog_of_no_job _ _ _ _ _ _ _ hjob)
      ⟨Device.fab_fabricFault_of_no_job _ _ _ _ _ _ _ hjob, Device.faultCode_of_free _ _ _ _ _ _ _ hjob hfree,
        Device.fabricFault_mem_of_no_job _ _ _ _ _ _ _ hjob⟩
  · have hpart (q : Nat) : ((s.dev.modFab p (fun f => f.resent c x)).bump64 (prtOff p PRT_LINK_REPLAY_COUNT_LO) 1).part q =
        (s.dev.modFab p (fun f => f.resent c x)).part q := rfl
    refine Ends.of_effect hrun rfl (fxLinkResend_of_one hlive hasked hkept) rfl rfl
      ⟨?_, ?_, ?_, Device.reg64_bump64 _ _ _, fun q hq => (hpart q).trans (Device.part_modFab_other _ _ _ hq), rfl⟩
      <;> rw [Device.fab, hpart, ← Device.fab, Device.fab_modFab_same]
    · exact Fabric.wire_setWire_same _ _ _
    · simp [Fabric.resent]
    · exact Table.getD_put_same _ _ _ _

end Links

/-! ### Cells (R115, R123, R125) -/

section Cells
variable {d : Device} {p site ch : Nat} {scalar : Bool} {t : Token} {rest : List Token}

/-- An empty buffer lets nothing into its cell. -/
theorem acceptInput_of_empty {c : Chan} (n : Nat) (hbuf : (d.fab p).buf c = []) : acceptInput p c d n = d := by
  cases n with
  | zero => rfl
  | succ n => rw [acceptInput, hbuf]

/-- R125: a cell after a token has opened a context. -/
def Cell.opened (x : Cell) (input : Nat) (t : Token) : Cell :=
  { x with ctxs := x.ctxs ++ [{ tag := t.tag, opened := x.nextOpen, waiting := [(input, t)] }], nextOpen := x.nextOpen + 1 }

theorem Cell.join_opens {x : Cell} {allowed input : Nat} (hctx : x.ctx t.tag = none) (hfree : x.ctxs.length < allowed) :
    x.join allowed input t = some (x.opened input t) := by
  simp only [Cell.join, hctx]
  exact if_pos hfree

theorem Device.fab_modCell (d : Device) (p site : Nat) (f : Cell → Cell) :
    (d.modCell p site f).fab p = { d.fab p with cells := Table.modify (d.fab p).cells site {} f } := Device.fab_modFab_same _ _ _

@[simp] theorem Device.buf_modCell (d : Device) (p site : Nat) (f : Cell → Cell) (c : Chan) :
    ((d.modCell p site f).fab p).buf c = (d.fab p).buf c := by
  rw [Device.fab_modCell]
  rfl

@[simp] theorem Device.wire_modCell (d : Device) (p site : Nat) (f : Cell → Cell) (c : Chan) :
    ((d.modCell p site f).fab p).wire c = (d.fab p).wire c := by
  rw [Device.fab_modCell]
  rfl

/-- R125: the one data token of a compute cell's declared input opens a context, and its buffer entry is free again. -/
theorem acceptInput_opens (n : Nat) (hsite : siteKind site = .compute) (henabled : (d.part p).stop.enabled site = true)
    (hbuf : (d.fab p).buf ⟨site, 5, scalar, ch⟩ = [t])
    (hdeclares : ((d.part p).stop.compute site).declares (computeInput scalar ch) = true) (hinput : computeInput scalar ch ≠ 3)
    (hkind : t.kind = .data) (hctx : (d.cell p site).ctx t.tag = none)
    (hfree : (d.cell p site).ctxs.length < ((d.part p).stop.compute site).contexts) :
    acceptInput p ⟨site, 5, scalar, ch⟩ d (n + 1) =
      (d.modFab p (fun f => (f.setBuf ⟨site, 5, scalar, ch⟩ []).freeEntry ⟨site, 5, scalar, ch⟩)).modCell p site
        (fun _ => (d.cell p site).opened (computeInput scalar ch) t) := by
  rw [acceptInput]
  simp only [hbuf, hsite, henabled, hdeclares, hkind, hinput, Token.isControl, Cell.join_opens hctx hfree]
  refine (if_neg (by decide)).trans ((if_neg (by decide)).trans ((if_neg (by decide)).trans ((if_neg (by simp)).trans ?_)))
  refine acceptInput_of_empty n ?_
  rw [Device.buf_modCell, Device.fab_modFab_same, Fabric.buf_freeEntry, Fabric.buf_setBuf_same]

/-- R123: a token of the current epoch goes into the buffer and from there into its cell. -/
theorem fxTokenArrivalCell_of_epoch (hlive : d.live p = true) (hsite : siteKind site ≠ .valve)
    (hwire : (d.fab p).wire ⟨site, 5, scalar, ch⟩ = t :: rest) (hbuf : (d.fab p).buf ⟨site, 5, scalar, ch⟩ = [])
    (hepoch : t.epoch = (d.part p).epoch) :
    fxTokenArrivalCell p site scalar ch d =
      acceptInput p ⟨site, 5, scalar, ch⟩ (d.modFab p (fun f => f.arrived ⟨site, 5, scalar, ch⟩ t rest)) 8 := by
  have hgo : (!d.live p || siteKind site == .valve) = false := by simp [hlive, hsite]
  simp only [fxTokenArrivalCell, hwire, Device.epoch_modFab, Device.modFab_arrived hbuf]
  rw [if_neg (by simpa using hgo)]
  exact if_neg (by simp [hepoch])

/-- R115, R123: a token of another epoch is stray. -/
theorem fxTokenArrivalCell_of_stray (hlive : d.live p = true) (hsite : siteKind site ≠ .valve)
    (hwire : (d.fab p).wire ⟨site, 5, scalar, ch⟩ = t :: rest) (hepoch : t.epoch ≠ (d.part p).epoch) :
    fxTokenArrivalCell p site scalar ch d =
      (d.modFab p (fun f => ((f.setWire ⟨site, 5, scalar, ch⟩ rest).accepted ⟨site, 5, scalar, ch⟩).freeEntry
        ⟨site, 5, scalar, ch⟩)).stray p ⟨site, 5, scalar, ch⟩ := by
  have hgo : (!d.live p || siteKind site == .valve) = false := by simp [hlive, hsite]
  simp only [fxTokenArrivalCell, hwire, Device.epoch_modFab, Device.modFab_modFab]
  rw [if_neg (by simpa using hgo)]
  exact if_pos hepoch

/-- R115: what a stray token of a partition that no job holds does, besides its count. -/
theorem Device.stray_of_no_job {c : Chan} (hjob : (d.job (d.part p).job).state = .none)
    (hfree : d.regField (prtOff p PRT_FABRIC_FAULT) 31 31 = 0) :
    (d.stray p c).reg (prtOff p PRT_STRAY_COUNT) = satAdd 32 (d.reg (prtOff p PRT_STRAY_COUNT)) 1 ∧
      ((d.stray p c).fab p).halted = true ∧ (d.stray p c).regField (prtOff p PRT_FABRIC_FAULT) 7 0 = 0x22 ∧
      (d.stray p c).mem = d.mem ∧ (d.stray p c).wlog = d.wlog := by
  have hjob' : ((d.bump (prtOff p PRT_STRAY_COUNT) 1).job ((d.bump (prtOff p PRT_STRAY_COUNT) 1).part p).job).state = .none := hjob
  have hfree' : (d.bump (prtOff p PRT_STRAY_COUNT) 1).regField (prtOff p PRT_FABRIC_FAULT) 31 31 = 0 := by
    rw [Device.regField, Device.reg_bump_other _ _ (prtOff_inj (by decide))]
    exact hfree
  refine ⟨?_, Device.fab_fabricFault_of_no_job _ _ _ _ _ _ _ hjob', Device.faultCode_of_free _ _ _ _ _ _ _ hjob' hfree',
    Device.fabricFault_mem_of_no_job _ _ _ _ _ _ _ hjob', Device.fabricFault_wlog_of_no_job _ _ _ _ _ _ _ hjob'⟩
  rw [Device.stray, Device.reg_fabricFault_other _ _ _ _ _ _ _ hjob' (prtOff_inj (by decide)) (prtOff_inj (by decide)),
    Device.reg_bump_same]

/-- Settles O31: the context that the token opens, and the stray token's count and fault. -/
theorem cellsTakeTokens : Obligations.CellsTakeTokens := by
  refine fun s p site ch scalar t rest hrun hlive hch hwire hbuf =>
    ⟨fun hsite hepoch henabled hdeclares hinput hkind hctx hfree => ?_, fun hsite hepoch hjob hfree => ?_⟩
  · have hcell (k : Nat) : (s.dev.modFab p (fun f => f.arrived ⟨site, 5, scalar, ch⟩ t rest)).cell p k = s.dev.cell p k := by
      rw [Device.cell, Device.fab_modFab_same, Fabric.cells_arrived, Device.cell]
    have hcell' (k : Nat) : ((s.dev.modFab p (fun f => f.arrived ⟨site, 5, scalar, ch⟩ t rest)).modFab p
        (fun f => (f.setBuf ⟨site, 5, scalar, ch⟩ []).freeEntry ⟨site, 5, scalar, ch⟩)).cell p k = s.dev.cell p k := by
      rw [Device.cell, Device.fab_modFab_same]
      exact hcell k
    have hopens := acceptInput_opens (d := s.dev.modFab p (fun f => f.arrived ⟨site, 5, scalar, ch⟩ t rest)) (t := t) 7 hsite
      (by rwa [Device.stop_modFab]) (by rw [Device.fab_modFab_same, Fabric.buf_arrived_same]) (by rwa [Device.stop_modFab]) hinput
      hkind (by rwa [hcell]) (by rwa [hcell, Device.stop_modFab])
    refine Ends.of_effect hrun rfl
      ((fxTokenArrivalCell_of_epoch hlive (by simp [hsite]) hwire hbuf hepoch).trans hopens) rfl rfl
      ⟨?_, fun k hk => ?_, ?_, ?_, fun q hq => ?_, rfl⟩
    · rw [Device.cell_modCell_same, hcell, Cell.opened]
    · rw [Device.cell_modCell_other _ _ _ _ _ hk, hcell']
    · rw [Device.wire_modCell, Device.fab_modFab_same, Fabric.wire_freeEntry, Fabric.wire_setBuf, Device.fab_modFab_same,
        Fabric.wire_arrived_same]
    · rw [Device.buf_modCell, Device.fab_modFab_same, Fabric.buf_freeEntry, Fabric.buf_setBuf_same]
    · rw [Device.modCell, Device.part_modFab_other _ _ _ hq, Device.part_modFab_other _ _ _ hq, Device.part_modFab_other _ _ _ hq]
  · have hpartjob (f : Fabric → Fabric) : (((s.dev.modFab p f).job ((s.dev.modFab p f).part p).job)).state = .none := by
      rw [Device.modFab, Device.part_modPart_same]
      exact hjob
    obtain ⟨hcount, hhalted, hcode, hmem, hwlog⟩ := Device.stray_of_no_job (c := ⟨site, 5, scalar, ch⟩)
      (hpartjob (fun f => ((f.setWire ⟨site, 5, scalar, ch⟩ rest).accepted ⟨site, 5, scalar, ch⟩).freeEntry ⟨site, 5, scalar, ch⟩))
      hfree
    exact Ends.of_effect hrun rfl (fxTokenArrivalCell_of_stray hlive hsite hwire hepoch) hmem hwlog
      ⟨hcount, hhalted, hcode, hmem⟩

end Cells

end Sys2Proof.Machine
end

section
/-!
SUPPORT. No fault, of a partition or of a job, changes what a cell holds (R166, R167, R844 to R850).
-/
namespace Sys2Proof.Machine

/-- Every cell of every partition holds in `e` what it holds in `d`. -/
def SameCells (d e : Device) : Prop := ∀ p site, e.cell p site = d.cell p site

namespace SameCells
variable {d e : Device}

theorem of_parts (h : e.parts = d.parts) : SameCells d e := fun p site => by
  rw [Device.cell, Device.fab, Device.part_congr h]
  rfl

theorem refl (d : Device) : SameCells d d := of_parts rfl

theorem trans {f : Device} (h : SameCells d e) (h' : SameCells e f) : SameCells d f :=
  fun p site => (h' p site).trans (h p site)

theorem ite {f : Device} {c : Prop} [Decidable c] (he : SameCells d e) (hf : SameCells d f) : SameCells d (if c then e else f) := by
  split
  · exact he
  · exact hf

theorem modPart (d : Device) (p : Nat) {f : Partition → Partition} (hf : (f (d.part p)).fabric.cells = (d.part p).fabric.cells) :
    SameCells d (d.modPart p f) := fun q site => by
  by_cases hq : q = p
  · subst hq
    rw [Device.cell, Device.fab, Device.part_modPart_same, hf]
    rfl
  · rw [Device.cell, Device.fab, Device.part_modPart_other _ _ _ _ hq]
    rfl

theorem modFab (d : Device) (p : Nat) {f : Fabric → Fabric} (hf : (f (d.fab p)).cells = (d.fab p).cells) :
    SameCells d (d.modFab p f) := modPart d p hf

theorem foldl {α : Type} {f : Device → α → Device} (hf : ∀ d a, SameCells d (f d a)) :
    ∀ (l : List α) (d : Device), SameCells d (l.foldl f d)
  | [], d => refl d
  | a :: l, d => (hf d a).trans (foldl hf l (f d a))

theorem completeOpt (d : Device) (c : Option CmdRef) (st : Nat) (v : List Byte) : SameCells d (d.completeOpt c st v) :=
  of_parts (Device.completeOpt_parts _ _ _ _)

theorem setRegField (d : Device) (k hi lo v : Nat) : SameCells d (d.setRegField k hi lo v) :=
  of_parts (Device.setRegField_parts d k hi lo v)

theorem store (d : Device) (key : Nat) (bs : List Byte) : SameCells d (d.store key bs) := by
  have hbump (d : Device) (k n : Nat) : SameCells d (d.bump k n) := of_parts (Device.bump_parts _ _ _)
  have hlatched (d : Device) (g n : Nat) : SameCells d (d.poisonedReturn g n) := by
    rw [Device.poisonedReturn]
    exact ite ((hbump _ _ _).trans (ite (refl _) (of_parts rfl))) ((hbump _ _ _).trans (ite (refl _) (of_parts rfl)))
  rw [Device.store]
  split
  · exact of_parts rfl
  · exact trans (e := { d.writeBytes key bs with poison := _ }) (of_parts rfl) (foldl (fun d g => hlatched d g 1) _ _)

theorem failSwitch (d : Device) (p st : Nat) : SameCells d (d.failSwitch p st) := by
  cases hswitch : (d.part p).switch with
  | none =>
    rw [Device.failSwitch_of_no_switch st hswitch]
    exact refl d
  | some w =>
    rw [Device.failSwitch_of_switch st hswitch]
    exact (modPart d p rfl).trans ((setRegField _ _ _ _ _).trans (completeOpt _ _ _ _))

theorem haltPart (d : Device) (st p : Nat) : SameCells d (d.haltPart st p) := by
  have hmark : SameCells d (((d.modFab p (fun f => { f with halted := true })).modPart p (fun x => { x with front := [] })).setRegField
      (drnOff p DRN_STATUS) 30 30 1) := 
    (modFab d p rfl).trans ((modPart _ p rfl).trans (setRegField _ _ _ _ _))
  have hloads (d : Device) : SameCells d (d.failLoads p st) :=
    (modPart d p rfl).trans (foldl (fun d _ => completeOpt d _ _ _) _ _)
  have hpops (d : Device) : SameCells d (d.failPops p st) :=
    trans (e := { d with queues := _ }) (of_parts rfl) (foldl (fun _ _ => of_parts (Device.complete_parts _ _ _ _)) _ _)
  exact hmark.trans ((failSwitch _ p st).trans ((hloads _).trans (hpops _)))

theorem addEntry (d : Device) (t : EntryType) (j : Nat) (f : FaultInfo) (secondary : Bool) (origin serial recovery : Nat) :
    SameCells d (d.addEntry t j f secondary origin serial recovery) := by
  have happend (d : Device) (rest : List Byte) : SameCells d (d.ringAppend rest) := by
    rw [Device.ringAppend]
    refine trans ?_ (of_parts (Device.setReg_parts _ _ _))
    split
    · exact trans (e := { d with ring := _ }) (of_parts rfl) (store _ _ _)
    · exact of_parts rfl
  have hcount (d : Device) (k : Nat) : SameCells d (d.countKind k) := by
    rw [Device.countKind]
    split <;> exact of_parts (Device.modReg_parts _ _ _)
  have hlast {d e : Device} (h : SameCells d e) : SameCells d
      (if t = .fault || t = .remote then e.modJob j (fun x => { x with lastSerial := e.ring.serial }) else e) := by
    split
    · exact h.trans (of_parts (Device.modJob_parts _ _ _))
    · exact h
  cases t with
  | fault => exact hlast ((happend d _).trans (trans (of_parts (Device.bump_parts _ _ _)) (hcount _ _)))
  | remote => exact hlast ((happend d _).trans (hcount _ _))
  | restarted => exact hlast (happend d _)
  | waiting => exact hlast (happend d _)
  | stopped => exact hlast (happend d _)

theorem endRequest (d : Device) (job id st : Nat) : SameCells d (d.endRequest job id st) := by
  have hprefix (d : Device) (pid : Nat) : SameCells d (d.dropPrefix pid) := by
    rw [Device.dropPrefix]
    split
    · exact refl d
    · exact ite (of_parts rfl) (of_parts rfl)
  have hfree (d : Device) : SameCells d (d.freeSeq job id) := by
    rw [Device.freeSeq]
    split
    · exact of_parts rfl
    · exact trans (e := { d with seqs := _ }) (of_parts rfl) (hprefix _ _)
  have hrows (d : Device) (l : List SamplerRow) : SameCells d { d with rows := l } := of_parts rfl
  have hend {e : Device} (c : Bool) (x : Seq) (h : SameCells d e) :
      SameCells d (if c then e.setSeq job id x else e.freeSeq job id) := ite (h.trans (of_parts rfl)) (h.trans (hfree e))
  exact hend _ _ ((completeOpt d _ _ _).trans (hrows _ _))

theorem endSuspend (d : Device) (j st : Nat) : SameCells d (d.endSuspend j st) := by
  rw [Device.endSuspend]
  exact ite (refl d) (trans (of_parts (Device.modJob_parts _ _ _)) (completeOpt _ _ _ _))

theorem faultVectors (d : Device) (j : Nat) : SameCells d (d.faultVectors j) :=
  have hmsix (d : Device) (fn vector : Nat) : SameCells d (d.msix fn vector) := of_parts (Device.emit_parts _ _)
  foldl (fun _ _ => ite (hmsix _ _ _) (refl _)) _ _

theorem endAll (d : Device) (j st : Nat) : SameCells d (d.endAll j st) := by
  have hone (d : Device) (e : Nat × Seq) : SameCells d (match e.2.state with
      | .prefill => d.endRequest j e.1 st
      | .handoff => d.endRequest j e.1 st
      | .decode => d.endRequest j e.1 st
      | _ => d) := by
    split
    · exact endRequest _ _ _ _
    · exact endRequest _ _ _ _
    · exact endRequest _ _ _ _
    · exact refl d
  exact foldl hone _ _

theorem enterHalted (d : Device) (j : Nat) (f : FaultInfo) (t : EntryType) (origin serial : Nat) :
    SameCells d (d.enterHalted j f t origin serial) := by
  have hjob (d : Device) (g : Job → Job) : SameCells d (d.modJob j g) := of_parts (Device.modJob_parts _ _ _)
  have hbump (d : Device) (k n : Nat) : SameCells d (d.bump k n) := of_parts (Device.bump_parts _ _ _)
  have hcount (d : Device) : SameCells d { d with since := { d.since with jobsFaulted := d.since.jobsFaulted + 1 } } := of_parts rfl
  have hsend (d : Device) (dest : Nat) (body : List Byte) : SameCells d (d.sendControl dest j 1 body) := of_parts rfl
  have hstopped {e : Device} (stop : Bool) (h : SameCells d e) :
      SameCells d (if stop then (e.addEntry .stopped j f false origin 0 0).endAll j f.status else e) :=
    ite ((h.trans (addEntry _ _ _ _ _ _ _ _)).trans (endAll _ _ _)) h
  have hhalted (g : Job → Job) : SameCells d ((d.endSuspend j f.status).modJob j g) := (endSuspend _ _ _).trans (hjob _ _)
  have hcounted (c : Bool) (g : Job → Job) : SameCells d (if c then (d.endSuspend j f.status).modJob j g else
      ((d.endSuspend j f.status).modJob j g).bump MGT_RESTART_COUNT 1) := ite (hhalted g) ((hhalted g).trans (hbump _ _ _))
  have hentered {e : Device} (h : SameCells d e) : SameCells d
      (({ e with since := { e.since with jobsFaulted := e.since.jobsFaulted + 1 } } : Device).addEntry t j f false origin serial 0) :=
    (h.trans (hcount e)).trans (addEntry _ _ _ _ _ _ _ _)
  have htold {e : Device} (l : List Nat) (body : List Byte) (h : SameCells d e) : SameCells d
      (l.foldl (fun d dev => d.sendControl dev j 1 body) (((e.jobParts j).foldl (fun d p => d.haltPart f.status p) e).faultVectors j)) :=
    ((h.trans (foldl (fun e p => haltPart e _ p) _ _)).trans (faultVectors _ _)).trans (foldl (fun e dev => hsend e dev _) _ _)
  rw [Device.enterHalted]
  exact hstopped _ (htold _ _ (hentered (hcounted _ _)))

/-- R844 to R846: a fault of a job keeps the cells. -/
theorem jobFault (d : Device) (j : Nat) (f : FaultInfo) : SameCells d (d.jobFault j f) :=
  ite (refl d) (ite (addEntry _ _ _ _ _ _ _ _) (enterHalted _ _ _ _ _ _))

/-- R166, R167: a fabric fault keeps the cells. -/
theorem fabricFault (d : Device) (p code kind site port ch : Nat) (scalar : Bool) (info : FaultInfo) :
    SameCells d (d.fabricFault p code kind site port ch scalar info) := by
  have hlatch : SameCells d (d.latchFault p code site port ch scalar) := ite (refl d) (of_parts (Device.setReg_parts _ _ _))
  exact ((hlatch.trans (modFab _ p rfl)).trans (failSwitch _ p _)).trans (jobFault _ _ _)

theorem stray (d : Device) (p : Nat) (c : Chan) : SameCells d (d.stray p c) :=
  (of_parts (Device.bump_parts _ _ _)).trans (fabricFault _ _ _ _ _ _ _ _ _)

end SameCells

end Sys2Proof.Machine
end

section
/-!
SUPPORT. The compute cell: what a beat, the anchor pass, the capture of a tile, a row's output and a vector instruction leave in it
(R126 to R142).
-/
namespace Sys2Proof.Machine

/-! ### Contexts -/

theorem minByKey_mem {α : Type} (key : α → Nat) : ∀ {l : List α} {a : α}, minByKey key l = some a → a ∈ l
  | b :: l, a, h => by
    rw [minByKey] at h
    cases hl : minByKey key l with
    | none =>
      rw [hl] at h
      exact List.mem_cons.mpr (Or.inl (Option.some.inj h).symm)
    | some c =>
      have hmem := minByKey_mem key hl
      rw [hl] at h
      have hpick : (if key c < key b then some c else some b) = some a := h
      split at hpick
      · exact List.mem_cons_of_mem _ (Option.some.inj hpick ▸ hmem)
      · exact List.mem_cons.mpr (Or.inl (Option.some.inj hpick).symm)

/-- The place that `indexWhere` finds holds the element that `find?` finds. -/
theorem indexWhere_of_find? {α : Type} {q : α → Bool} {a : α} : ∀ {l : List α} (k : Nat), l.find? q = some a →
    ∃ i, indexWhere q k l = some (k + i) ∧ l[i]? = some a
  | b :: l, k, h => by
    by_cases hb : q b = true
    · rw [List.find?_cons_of_pos hb] at h
      exact ⟨0, by simp [indexWhere, hb], by simpa using h⟩
    · rw [List.find?_cons_of_neg hb] at h
      obtain ⟨i, hi, hget⟩ := indexWhere_of_find? (k + 1) h
      exact ⟨i + 1, by simp [indexWhere, hb, hi, Nat.add_assoc, Nat.add_comm 1], by simpa using hget⟩

namespace Ctx
variable (x : Ctx) {i j : Nat} {t : Token}

/-- R126: the token taken of an input stands behind those taken before. -/
theorem tokens_take_same (hnext : x.next i = some t) : (x.take i).tokens i = x.tokens i ++ [t] := by
  obtain ⟨e, hfind, rfl⟩ := Option.map_eq_some_iff.mp hnext
  obtain ⟨n, hindex, hget⟩ := indexWhere_of_find? 0 hfind
  rw [Nat.zero_add] at hindex
  simp only [take, hindex, hget]
  exact Table.getD_put_same _ _ _ _

/-- R126: a token taken of one input leaves every other as it was. -/
theorem tokens_take_other (hij : j ≠ i) : (x.take i).tokens j = x.tokens j := by
  rw [take]
  split
  · rfl
  · split
    · rfl
    · exact Table.getD_put_other _ _ _ _ _ hij

@[simp] theorem tag_take : (x.take i).tag = x.tag := by
  rw [take]
  split
  · rfl
  · split <;> rfl

/-- R126, R138: the context of a beat with its next tokens taken. -/
def beaten (k : ComputeCfg) : Ctx :=
  let x := (beatInputs k x).foldl Ctx.take x
  let x := if (x.next 4).isSome then x.take 4 else x
  let x := if (x.next 5).isSome then x.take 5 else x
  if (k.usesA || k.usesB) && k.usesC && (x.next 2).isSome then x.take 2 else x

theorem tokens_takeIf_other (c : Bool) (hij : j ≠ i) : (if c then x.take i else x).tokens j = x.tokens j := by
  split
  · exact tokens_take_other x hij
  · rfl

theorem tag_takeIf (c : Bool) : (if c then x.take i else x).tag = x.tag := by
  split
  · exact tag_take x
  · rfl

theorem tag_beaten (k : ComputeCfg) : (x.beaten k).tag = x.tag := by
  have hfold (l : List Nat) : ∀ y : Ctx, (l.foldl Ctx.take y).tag = y.tag := by
    induction l with
    | nil => exact fun _ => rfl
    | cons i l ih => exact fun y => (ih _).trans (tag_take y)
  rw [beaten, tag_takeIf, tag_takeIf, tag_takeIf, hfold]

/-- R126: a beat that needs A takes its next token. -/
theorem tokens_beaten {k : ComputeCfg} (huses : k.usesA = true) (hopen : x.hasEnded 0 = false) (hnext : x.next 0 = some t) :
    (x.beaten k).tokens 0 = x.tokens 0 ++ [t] := by
  have hfold : ((beatInputs k x).foldl Ctx.take x).tokens 0 = x.tokens 0 ++ [t] := by
    have hinputs : beatInputs k x = 0 :: (if k.usesB && !x.hasEnded 1 then [1] else []) := by simp [beatInputs, huses, hopen]
    rw [hinputs, List.foldl_cons]
    split
    · exact (tokens_take_other _ (by decide)).trans (tokens_take_same x hnext)
    · exact tokens_take_same x hnext
  rw [beaten, tokens_takeIf_other _ _ (by decide), tokens_takeIf_other _ _ (by decide), tokens_takeIf_other _ _ (by decide), hfold]

end Ctx

/-! ### The contexts of a cell -/

namespace Cell
variable (c : Cell) {x y : Ctx} {tag : Nat}

theorem ctx_setCtx : (c.setCtx x).ctx tag = (c.ctx tag).map (fun y => if y.tag = x.tag then x else y) := by
  rw [ctx, setCtx, List.find?_map, ctx]
  refine congrArg (fun p => (c.ctxs.find? p).map (fun y => if y.tag = x.tag then x else y)) (funext fun y => ?_)
  by_cases hy : y.tag = x.tag <;> simp [hy]

theorem tag_of_ctx (h : c.ctx tag = some x) : x.tag = tag := by simpa using List.find?_some h

theorem ctx_setCtx_same (h : c.ctx x.tag = some y) : (c.setCtx x).ctx x.tag = some x := by
  rw [ctx_setCtx, h, Option.map_some, if_pos (tag_of_ctx c h)]

theorem ctx_of_mem (h : x ∈ c.ctxs) : ∃ y, c.ctx x.tag = some y := by
  cases hfind : c.ctx x.tag with
  | none => exact absurd (List.find?_eq_none.mp hfind x h) (by simp)
  | some y => exact ⟨y, rfl⟩

/-- The context of a tag holds these tokens of input A, and the cell has counted so many beats. -/
def HasTaken (tag : Nat) (l : List Token) (n : Nat) (c : Cell) : Prop := c.fires = n ∧ ∃ y, c.ctx tag = some y ∧ y.tokens 0 = l

variable {c} {l : List Token} {n : Nat}

/-- What changes neither the count nor the contexts keeps them. -/
theorem HasTaken.congr {c' : Cell} (h : HasTaken tag l n c) (hfires : c'.fires = c.fires) (hctxs : c'.ctxs = c.ctxs) :
    HasTaken tag l n c' := by
  obtain ⟨hn, y, hy, hl⟩ := h
  exact ⟨hfires.trans hn, y, by rwa [ctx, hctxs], hl⟩

/-- A context of the same tag may be replaced by one with the same tokens of A. -/
theorem HasTaken.setCtx (h : HasTaken tag l n c) (hx : x.tag = tag → x.tokens 0 = l) : HasTaken tag l n (c.setCtx x) := by
  obtain ⟨hn, y, hy, hl⟩ := h
  refine ⟨hn, if y.tag = x.tag then x else y, by rw [ctx_setCtx, hy, Option.map_some], ?_⟩
  split
  · next htag => exact hx (htag.symm.trans (tag_of_ctx c hy))
  · exact hl

/-- The context found under another name of the tag holds the tokens too. -/
theorem HasTaken.tokens_of_ctx {other : Nat} (h : HasTaken tag l n c) (hx : c.ctx other = some x) (htag : x.tag = tag) :
    x.tokens 0 = l := by
  obtain ⟨-, y, hy, hl⟩ := h
  obtain rfl : other = tag := (tag_of_ctx c hx).symm.trans htag
  rw [hx] at hy
  exact Option.some.inj hy ▸ hl

theorem HasTaken.join {c' : Cell} {allowed input : Nat} {t : Token} (h : HasTaken tag l n c)
    (hjoin : c.join allowed input t = some c') : HasTaken tag l n c' := by
  rw [Cell.join] at hjoin
  split at hjoin
  · next x hx =>
    obtain rfl := Option.some.inj hjoin
    exact h.setCtx fun htag => show x.tokens 0 = l from h.tokens_of_ctx hx htag
  · split at hjoin
    · obtain rfl := Option.some.inj hjoin
      obtain ⟨hn, y, hy, hl⟩ := h
      exact ⟨hn, y, by rw [ctx, List.find?_append, show c.ctxs.find? _ = some y from hy, Option.some_or], hl⟩
    · cases hjoin

/-- `c'` differs from `c` in the vector program, the conversion stage and the rows that wait alone. -/
def OnlyRows (c c' : Cell) : Prop := c' = { c with vec := c'.vec, conv := c'.conv, rowQueue := c'.rowQueue }

theorem OnlyRows.ite {a b : Cell} {q : Prop} [Decidable q] (ha : OnlyRows c a) (hb : OnlyRows c b) :
    OnlyRows c (if q then a else b) := by
  split
  · exact ha
  · exact hb

/-- R138, R139: a row goes into the vector program from the conversion stage or from the rows that wait. -/
theorem loadRow_onlyRows (cfg : StopCfg) (site : Nat) (c : Cell) : OnlyRows c (loadRow cfg site c) := by
  rw [loadRow]
  split
  · rfl
  · split
    · split <;> rfl
    · exact OnlyRows.ite rfl (OnlyRows.ite rfl (OnlyRows.ite rfl rfl))

theorem HasTaken.loadRow (cfg : StopCfg) (site : Nat) (h : HasTaken tag l n c) : HasTaken tag l n (loadRow cfg site c) := by
  have hrows : OnlyRows c (Machine.loadRow cfg site c) := loadRow_onlyRows cfg site c
  rw [hrows]
  exact h.congr rfl rfl

/-- A cell with no row to load stays. -/
theorem loadRow_of_idle (cfg : StopCfg) (site : Nat) (hvec : c.vec = none) (hconv : c.conv = none) (hrows : c.rowQueue = []) :
    Machine.loadRow cfg site c = c := by
  simp only [Machine.loadRow, hvec, hconv, hrows]

/-- R72, R88: the products that have become complete change the ledgers, and how far their context has come. -/
theorem advanceCtx_cases (p : Nat) (k : ComputeCfg) (kk : Nat) (x : Ctx) (c : Cell) :
    (advanceCtx p k kk x c).1 = c.setCtx x ∨ ∃ k1 lost ls, (advanceCtx p k kk x c).1 =
      ({ c with ledger := ls, ledgerTag := some x.tag } : Cell).setCtx { x with kDone := k1, lost := lost } :=
  (ite_eq_or_eq _ _ _).imp (congrArg Prod.fst) (fun h => ⟨_, _, _, congrArg Prod.fst h⟩)

theorem hasTaken_advanceCtx (p : Nat) (k : ComputeCfg) (kk : Nat) (h : c.ctx x.tag = some y) :
    HasTaken x.tag (x.tokens 0) c.fires (advanceCtx p k kk x c).1 := by
  obtain hstay | ⟨k1, lost, ls, hadvance⟩ := advanceCtx_cases p k kk x c
  · exact hstay ▸ ⟨rfl, x, ctx_setCtx_same c h, rfl⟩
  · have hctx : ({ c with ledger := ls, ledgerTag := some x.tag } : Cell).ctx x.tag = some y := h
    exact hadvance ▸ ⟨rfl, { x with kDone := k1, lost := lost }, ctx_setCtx_same _ hctx, rfl⟩

/-- R129: a beat counts. -/
theorem HasTaken.beat (h : HasTaken tag l n c) : HasTaken tag l ((n + 1) % 2 ^ 32) { c with fires := (c.fires + 1) % 2 ^ 32 } := by
  obtain ⟨rfl, htaken⟩ := h
  exact ⟨rfl, htaken⟩

theorem HasTaken.ite {c' : Cell} {q : Prop} [Decidable q] (h : HasTaken tag l n c) (h' : HasTaken tag l n c') :
    HasTaken tag l n (if q then c else c') := by
  split
  · exact h
  · exact h'

end Cell

/-! ### What a cell lets in and puts out -/

theorem Device.part_modCell_other (d : Device) {p q : Nat} (site : Nat) (f : Cell → Cell) (hq : q ≠ p) :
    (d.modCell p site f).part q = d.part q := Device.part_modFab_other _ _ _ hq

section Accept
variable {d : Device} {p site : Nat}

theorem Fabric.flushOut_cells (c : Chan) : ∀ (n : Nat) (f : Fabric), (Fabric.flushOut c f n).cells = f.cells
  | 0, _ => rfl
  | n + 1, f => by
    rw [flushOut]
    split
    · rfl
    · split
      · exact (flushOut_cells c n _).trans rfl
      · rfl

theorem SameCells.cellEmit (d : Device) (p site : Nat) (scalar : Bool) (ch : Nat) (t : Token) :
    SameCells d (d.cellEmit p site scalar ch t) :=
  SameCells.modFab d p ((Fabric.flushOut_cells _ _ _).trans rfl)

/-- R145: the anchor packets that a cell sends. -/
theorem SameCells.sendAux (p site : Nat) (k : ComputeCfg) (x : Ctx) (kk tile : Nat) (d : Device) :
    SameCells d (sendAux p site k x kk tile d) := by
  have hone {e : Device} (q : Prop) [Decidable q] (t : Token) (h : SameCells d e) :
      SameCells d (if q then e else e.cellEmit p site false 1 t) := SameCells.ite h (h.trans (SameCells.cellEmit _ _ _ _ _ _))
  exact hone _ _ (hone _ _ (SameCells.refl d))

theorem SameCells.gapAtCell (passOn : Bool) (t : Token) (d : Device) : SameCells d (gapAtCell p site passOn t d) :=
  SameCells.ite (SameCells.cellEmit _ _ _ _ _ _) (SameCells.of_parts (Device.bump_parts _ _ _))

theorem Cell.HasTaken.iteDevice {a b : Device} {q : Prop} [Decidable q] {tag n : Nat} {l : List Token}
    (ha : (a.cell p site).HasTaken tag l n) (hb : (b.cell p site).HasTaken tag l n) :
    ((if q then a else b).cell p site).HasTaken tag l n := by
  split
  · exact ha
  · exact hb

theorem Cell.HasTaken.sameCells {e : Device} {tag n : Nat} {l : List Token} (h : (d.cell p site).HasTaken tag l n)
    (he : SameCells d e) : (e.cell p site).HasTaken tag l n := by rwa [he p site]

/-- R123 to R127: what a cell takes in joins contexts, whose tokens taken stay. -/
theorem hasTaken_acceptInput {c : Chan} {tag n : Nat} {l : List Token} : ∀ (fuel : Nat) {d : Device},
    (d.cell p site).HasTaken tag l n → ((acceptInput p c d fuel).cell p site).HasTaken tag l n
  | 0, _, h => h
  | fuel + 1, d, h => by
    have hfreed (rest : List Token) : SameCells d (d.modFab p (fun f => (f.setBuf c rest).freeEntry c)) := SameCells.modFab d p rfl
    rw [acceptInput]
    split
    · exact h
    · next t rest hbuf =>
      have hstray := h.sameCells ((hfreed rest).trans (SameCells.stray _ p c))
      have hgap (passOn : Bool) := hasTaken_acceptInput (c := c) fuel (h.sameCells ((hfreed rest).trans
        (SameCells.gapAtCell (p := p) (site := c.site) passOn t _)))
      split
      · refine h.iteDevice ((h.iteDevice (hgap _)).iteDevice (hstray.iteDevice (hstray.iteDevice ?_)))
        split
        · next c' hjoin =>
          refine hasTaken_acceptInput fuel ?_
          by_cases hsite : site = c.site
          · subst hsite
            rw [Device.cell_modCell_same]
            exact h.join hjoin
          · rw [Device.cell_modCell_other _ _ _ _ _ hsite]
            exact h.sameCells (hfreed rest)
        · exact h
      · exact hstray.iteDevice h
      · exact (hgap _).iteDevice (hstray.iteDevice h)
      · exact h

/-- The inputs of the vector network look again, then those of the scalar one. -/
theorem acceptSite_eq (p e : Nat) (d : Device) :
    acceptSite p e d = (List.range 4).foldl (fun d ch => acceptInput p ⟨e, 5, true, ch⟩ d 8)
      ((List.range 4).foldl (fun d ch => acceptInput p ⟨e, 5, false, ch⟩ d 8) d) := by
  simp only [acceptSite, List.foldl_cons, List.foldl_nil]

theorem hasTaken_acceptSite {e tag n : Nat} {l : List Token} (h : (d.cell p site).HasTaken tag l n) :
    ((acceptSite p e d).cell p site).HasTaken tag l n := by
  have hnet (sc : Bool) (chs : List Nat) : ∀ d : Device, (d.cell p site).HasTaken tag l n →
      ((chs.foldl (fun d ch => acceptInput p ⟨e, 5, sc, ch⟩ d 8) d).cell p site).HasTaken tag l n := by
    induction chs with
    | nil => exact fun _ h => h
    | cons ch chs ih => exact fun _ h => ih _ (hasTaken_acceptInput 8 h)
  rw [acceptSite_eq]
  exact hnet true _ _ (hnet false _ _ h)

/-- A site with empty buffers takes nothing in. -/
theorem acceptSite_of_no_buf (hbufs : (d.fab p).bufs = []) : acceptSite p site d = d := by
  have hempty (c : Chan) : (d.fab p).buf c = [] := by rw [Fabric.buf, hbufs]; rfl
  have hnet (sc : Bool) (chs : List Nat) : chs.foldl (fun d ch => acceptInput p ⟨site, 5, sc, ch⟩ d 8) d = d := by
    induction chs with
    | nil => rfl
    | cons ch chs ih => rw [List.foldl_cons, acceptInput_of_empty 8 (hempty _), ih]
  rw [acceptSite_eq, hnet, hnet]

end Accept

/-! ### The beat (R126) -/

section Beat
variable {d : Device} {p site : Nat}

/-- R143: the K of a reduction whose source is its configuration. -/
theorem ctxK_of_const {k : ComputeCfg} (bounds : List Nat) (x : Ctx) (h : k.kSrc = 0) : ctxK k bounds x = some k.kConst := by
  simp only [ctxK, h]

/-- R126: a beat of the cell whose earliest ready context takes a token of A. -/
theorem hasTaken_computeBeat {x : Ctx} {t : Token}
    (hpick : minByKey Ctx.opened ((d.cell p site).ctxs.filter
      (ctxReady ((d.part p).stop.compute site) (d.part p).bounds (d.cell p site))) = some x)
    (hsrc : ((d.part p).stop.compute site).kSrc = 0) (huses : ((d.part p).stop.compute site).usesA = true)
    (hopen : x.hasEnded 0 = false) (hnext : x.next 0 = some t) :
    ((computeBeat p site d).cell p site).HasTaken x.tag (x.tokens 0 ++ [t]) (((d.cell p site).fires + 1) % 2 ^ 32) := by
  obtain ⟨y, hy⟩ := (d.cell p site).ctx_of_mem (List.mem_filter.mp (minByKey_mem _ hpick)).1
  have htokens := x.tokens_beaten huses hopen hnext
  have hadvanced (long : Bool) : (advanceCtx p ((d.part p).stop.compute site) ((d.part p).stop.compute site).kConst
      { x.beaten ((d.part p).stop.compute site) with kOver := long } (d.cell p site)).1.HasTaken x.tag (x.tokens 0 ++ [t])
      (d.cell p site).fires := by
    have h := Cell.hasTaken_advanceCtx p ((d.part p).stop.compute site) ((d.part p).stop.compute site).kConst
      (x := { x.beaten ((d.part p).stop.compute site) with kOver := long }) (c := d.cell p site) (y := y)
      (by rw [← hy]; exact congrArg _ (x.tag_beaten _))
    rw [← htokens, ← x.tag_beaten ((d.part p).stop.compute site)]
    exact h
  rw [computeBeat]
  simp only [hpick, ctxK_of_const _ _ hsrc]
  have hmodCell {e : Device} {c' : Cell} (h : c'.HasTaken x.tag (x.tokens 0 ++ [t]) (((d.cell p site).fires + 1) % 2 ^ 32)) :
      ((e.modCell p site (fun _ => c')).cell p site).HasTaken x.tag (x.tokens 0 ++ [t]) (((d.cell p site).fires + 1) % 2 ^ 32) := by
    rwa [Device.cell_modCell_same]
  have harith {e : Device} (n : Nat) : SameCells e (e.arith p n) := SameCells.of_parts (Device.modReg_parts _ _ _)
  have hstatus {e : Device} (n : Nat) : SameCells e (e.stepStatus p n) := SameCells.modPart e p rfl
  have hlong {e : Device} (q : Prop) [Decidable q] (h : (e.cell p site).HasTaken x.tag (x.tokens 0 ++ [t])
      (((d.cell p site).fires + 1) % 2 ^ 32)) :
      ((if q then (e.arith p 16).stepStatus p 0x1031 else e).cell p site).HasTaken x.tag (x.tokens 0 ++ [t])
      (((d.cell p site).fires + 1) % 2 ^ 32) := (h.sameCells ((harith _).trans (hstatus _))).iteDevice h
  have haux {e : Device} {z : Ctx} (q : Prop) [Decidable q] (kk tile : Nat) (h : (e.cell p site).HasTaken x.tag (x.tokens 0 ++ [t])
      (((d.cell p site).fires + 1) % 2 ^ 32)) :
      ((if q then (sendAux p site ((d.part p).stop.compute site) z kk tile e).modCell p site (fun c =>
        match c.ctx z.tag with | some y => c.setCtx { y with auxSent := true } | none => c) else e).cell p site).HasTaken x.tag
        (x.tokens 0 ++ [t]) (((d.cell p site).fires + 1) % 2 ^ 32) := by
    have hsent := h.sameCells (SameCells.sendAux p site ((d.part p).stop.compute site) z kk tile e)
    refine Cell.HasTaken.iteDevice ?_ h
    rw [Device.cell_modCell_same]
    split
    · next y hy => exact hsent.setCtx fun htag => show y.tokens 0 = _ from hsent.tokens_of_ctx hy htag
    · exact hsent
  refine hasTaken_acceptSite (hlong _ (haux _ _ _ ?_))
  have hlost {e : Device} (q : Bool) (h : (e.cell p site).HasTaken x.tag (x.tokens 0 ++ [t]) (((d.cell p site).fires + 1) % 2 ^ 32)) :
      ((if q then e.arith p 8 else e).cell p site).HasTaken x.tag (x.tokens 0 ++ [t]) (((d.cell p site).fires + 1) % 2 ^ 32) :=
    (h.sameCells (harith _)).iteDevice h
  refine hlost _ (hmodCell (Cell.HasTaken.loadRow _ _ ?_))
  exact Cell.HasTaken.ite (hadvanced _).beat ((hadvanced _).beat.congr rfl rfl)

end Beat

/-! ### The anchor pass, the capture and a row's output (R67, R136, R140) -/

section Tile
variable {d : Device} {p site : Nat}

/-- R67: a context whose anchor is fixed. -/
def Ctx.anchored (x : Ctx) (a : Int) : Ctx := { x with anchor := some a }

/-- R67: a context whose scale bytes are in has its anchor fixed; the products that this completes enter the ledgers. -/
theorem fxAnchorPassComplete_of_ready {tag kk : Nat} {a : Int} {x : Ctx} {k : ComputeCfg} (hlive : d.live p = true)
    (hsite : siteKind site = .compute) (henabled : (d.part p).stop.enabled site = true)
    (hcfg : (d.part p).stop.compute site = k) (hmx : k.family = .mx) (hctx : (d.cell p site).ctx tag = some x)
    (hopen : x.anchor = none) (hk : ctxK k (d.part p).bounds x = some kk)
    (hanchor : ctxAnchor k x kk (tileOf k (d.cell p site) x) = a) (ha : k.scaleTokens kk ≤ (x.tokens 0).length)
    (hb : k.scaleTokens kk ≤ (x.tokens 1).length) (hrecA : k.recA = false) (hrecB : k.recB = false) (hmode : k.anchorMode ≠ 2) :
    ∃ q : Bool, fxAnchorPassComplete p site tag d =
      let e := d.modCell p site (fun _ => if q then (d.cell p site).setCtx (x.anchored a) else
        (advanceCtx p k kk (x.anchored a) (d.cell p site)).1)
      if (advanceCtx p k kk (x.anchored a) (d.cell p site)).2 then e.arith p 8 else e := by
  have hgo : (!d.live p || siteKind site != .compute || !(d.part p).stop.enabled site || k.family != .mx) = false := by
    simp [hlive, hsite, henabled, hmx]
  have hready : (x.anchor.isSome || decide ((x.tokens 0).length < k.scaleTokens kk) ||
      decide ((x.tokens 1).length < k.scaleTokens kk) || ((k.recA || k.recB) && x.tokens 5 == []) ||
      (decide (k.anchorMode = 2) && !anchorPacketsHere k x (tileOf k (d.cell p site) x))) = false := by
    simp [hopen, hrecA, hrecB, hmode, ha, hb]
  have hanchored : ({ x with anchor := some a, mismatch := x.mismatch || false } : Ctx) = x.anchored a := by
    rw [Bool.or_false]
    rfl
  refine ⟨decide ((x.tokens 0).length ≤ k.scaleTokens kk), ?_⟩
  simp only [fxAnchorPassComplete, hcfg, hgo, hctx, hk, hanchor, hrecA, hrecB, Bool.false_and, Bool.or_self, hanchored]
  rw [if_neg (by decide), if_neg (by simp [hopen, hmode, ha, hb]), if_neg (by decide)]
  simp only [decide_eq_true_eq]
  rfl

theorem Cell.ctx_advanceCtx {c : Cell} {x y : Ctx} (p : Nat) (k : ComputeCfg) (kk : Nat) (h : c.ctx x.tag = some y) :
    ∃ z, (advanceCtx p k kk x c).1.ctx x.tag = some z ∧ z.anchor = x.anchor := by
  obtain hstay | ⟨k1, lost, ls, hadvance⟩ := advanceCtx_cases p k kk x c
  · exact hstay ▸ ⟨x, ctx_setCtx_same c h, rfl⟩
  · have hctx : ({ c with ledger := ls, ledgerTag := some x.tag } : Cell).ctx x.tag = some y := h
    exact hadvance ▸ ⟨{ x with kDone := k1, lost := lost }, ctx_setCtx_same _ hctx, rfl⟩

/-- R67: the pass leaves the context with its anchor, whether or not products entered the ledgers. -/
theorem Cell.anchor_of_pass {c : Cell} {x y : Ctx} {a : Int} {k : ComputeCfg} (q : Bool) (p kk : Nat) (h : c.ctx x.tag = some y) :
    ∃ z, (if q then c.setCtx (x.anchored a) else (advanceCtx p k kk (x.anchored a) c).1).ctx x.tag = some z ∧ z.anchor = some a := by
  cases q with
  | false => exact Cell.ctx_advanceCtx (x := x.anchored a) p k kk h
  | true => exact ⟨x.anchored a, Cell.ctx_setCtx_same (x := x.anchored a) c h, rfl⟩

/-- R136: a cell after its conversion stage has taken the tile `v`. -/
def Cell.captured (c : Cell) (v : Conv) : Cell :=
  { c with ledger := [], ledgerTag := none, tilesDone := c.tilesDone + 1, conv := some v }

/-- R136: the tile of a float context whose operands have ended. -/
def Ctx.tile (x : Ctx) (k : ComputeCfg) (lanes : Table LedgerLane) : Conv :=
  { tag := x.tag, anchor := x.anchor.getD 0, lanes := lanes, rows := k.rows, poisoned := x.mismatch || x.kOver, lost := x.lost,
    kOver := x.kOver, cTokens := x.tokens 2 }

/-- R136, R137: the conversion stage takes the ledgers of a float tile. -/
theorem fxTileCapture_of_float {tag : Nat} {x : Ctx} {k : ComputeCfg} (hlive : d.live p = true) (hsite : siteKind site = .compute)
    (hcfg : (d.part p).stop.compute site = k) (hconv : (d.cell p site).conv = none) (hledger : (d.cell p site).ledgerTag = some tag)
    (hctx : (d.cell p site).ctx tag = some x) (ha : k.usesA = true) (hb : k.usesB = true) (hcombine : k.combine = false)
    (hfloat : k.family = .float) (hendA : x.hasEnded 0 = true) (hendB : x.hasEnded 1 = true) :
    fxTileCapture p site d =
      let e := d.modCell p site (fun c => loadRow (d.part p).stop site (c.captured (x.tile k (d.cell p site).ledger)))
      if x.lost then (e.arith p 8).bump64 (prtOff p PRT_TRUNC_COUNT_LO) 1 else e := by
  obtain rfl := (d.cell p site).tag_of_ctx hctx
  have hgo : (!d.live p || siteKind site != .compute || (d.cell p site).conv.isSome) = false := by simp [hlive, hsite, hconv]
  simp only [fxTileCapture, hcfg, hgo, hledger, hctx, ha, hb, hcombine, hfloat, hendA, hendB, Option.filter]
  rw [if_neg (by decide), if_pos (by simp)]
  simp only [Bool.false_eq_true, if_false, if_true, reduceCtorEq, Bool.not_true, Bool.or_false]
  rfl

/-- R138: a row that leaves the conversion stage for the vector program leaves the stage's tile as it is. -/
theorem loadRow_conv (cfg : StopCfg) (site : Nat) {c : Cell} {v : Conv} (hconv : c.conv = some v) :
    ∃ w, (loadRow cfg site c).conv = some w ∧ w.tag = v.tag ∧ w.lanes = v.lanes := by
  have hite {a b : Cell} (q : Prop) [Decidable q] (ha : ∃ w, a.conv = some w ∧ w.tag = v.tag ∧ w.lanes = v.lanes)
      (hb : ∃ w, b.conv = some w ∧ w.tag = v.tag ∧ w.lanes = v.lanes) :
      ∃ w, (if q then a else b).conv = some w ∧ w.tag = v.tag ∧ w.lanes = v.lanes := by
    split
    · exact ha
    · exact hb
  have hstay : ∃ w, c.conv = some w ∧ w.tag = v.tag ∧ w.lanes = v.lanes := ⟨v, hconv, rfl, rfl⟩
  cases hvec : c.vec with
  | some r =>
    simp only [loadRow, hvec]
    exact hstay
  | none =>
    simp only [loadRow, hvec, hconv]
    exact hite _ hstay (hite _ ⟨_, rfl, rfl, rfl⟩ (hite _ hstay ⟨_, rfl, rfl, rfl⟩))

end Tile

/-! ### A row's output (R140) -/

section Output
variable {p site : Nat}

/-- The device `e` differs from `d` in that the tokens `ts` wait at an output of the cell on the vector network. -/
structure Emits (p site ch : Nat) (d e : Device) (ts : List Token) : Prop where
  outs : Table.getD (e.fab p).outs (Chan.key ⟨site, 4, false, ch⟩) [] =
    Table.getD (d.fab p).outs (Chan.key ⟨site, 4, false, ch⟩) [] ++ ts
  fab : e.fab p = { d.fab p with outs := (e.fab p).outs }
  part : e.part p = { d.part p with fabric := e.fab p }
  others : ∀ q, q ≠ p → e.part q = d.part q
  frame : e = { d with parts := e.parts }

section Emission
variable {ch : Nat}

theorem Emits.refl (d : Device) : Emits p site ch d d [] := ⟨(List.append_nil _).symm, rfl, rfl, fun _ _ => rfl, rfl⟩

theorem Emits.trans {d e f : Device} {ts us : List Token} (h : Emits p site ch d e ts) (h' : Emits p site ch e f us) :
    Emits p site ch d f (ts ++ us) where
  outs := by rw [h'.outs, h.outs, List.append_assoc]
  fab := by rw [h'.fab, h.fab]
  part := by rw [h'.part, h.part]
  others q hq := (h'.others q hq).trans (h.others q hq)
  frame := by rw [h'.frame, h.frame]

theorem Fabric.flushOut_of_no_credit {c : Chan} {f : Fabric} (h : f.credit c = false) : ∀ n, Fabric.flushOut c f n = f
  | 0 => rfl
  | n + 1 => by
    rw [flushOut]
    split
    · rfl
    · rw [h]
      rfl

/-- A token waits behind the others at an output. -/
def Fabric.queued (f : Fabric) (c : Chan) (t : Token) : Fabric :=
  { f with outs := Table.put f.outs c.key (Table.getD f.outs c.key [] ++ [t]) }

/-- R112, R222: a token emitted without a credit waits at its output. -/
theorem Device.cellEmit_of_no_credit {d : Device} {scalar : Bool} (t : Token)
    (hcredit : (d.fab p).credit ⟨site, 4, scalar, ch⟩ = false) :
    d.cellEmit p site scalar ch t =
      d.modFab p (fun f => f.queued ⟨site, 4, scalar, ch⟩ { t with epoch := (d.part p).epoch }) :=
  congrArg (fun f => d.setPart p { d.part p with fabric := f })
    (Fabric.flushOut_of_no_credit (f := (d.part p).fabric.queued ⟨site, 4, scalar, ch⟩ { t with epoch := (d.part p).epoch })
      hcredit 16)

theorem Emits.cellEmit {d : Device} (t : Token) (hcredit : (d.fab p).credit ⟨site, 4, false, ch⟩ = false) :
    Emits p site ch d (d.cellEmit p site false ch t) [{ t with epoch := (d.part p).epoch }] := by
  rw [Device.cellEmit_of_no_credit t hcredit]
  refine ⟨?_, ?_, ?_, fun q hq => Device.part_modFab_other _ _ _ hq, rfl⟩
  · rw [Device.fab_modFab_same, Fabric.queued, Table.getD_put_same]
  · rw [Device.fab_modFab_same, Fabric.queued]
  · rw [Device.fab_modFab_same, Device.modFab, Device.part_modPart_same]
    rfl

/-- Tokens emitted one after the other without a credit wait in that order. -/
theorem emits_foldl (ts : List Token) : ∀ d : Device, (d.fab p).credit ⟨site, 4, false, ch⟩ = false →
    Emits p site ch d (ts.foldl (fun d t => d.cellEmit p site false ch t) d)
      (ts.map (fun t => { t with epoch := (d.part p).epoch })) := by
  induction ts with
  | nil => exact fun d _ => Emits.refl d
  | cons t ts ih =>
    intro d hcredit
    have hone := Emits.cellEmit t hcredit
    have hcredit' : ((d.cellEmit p site false ch t).fab p).credit ⟨site, 4, false, ch⟩ = false := by
      rw [hone.fab]
      exact hcredit
    have hrest := ih _ hcredit'
    rw [hone.part] at hrest
    exact hone.trans hrest

end Emission

/-- R140: the tokens of a row that is not the last of its tile, at an output without credit. -/
theorem emits_emitRow {d : Device} {tag : Nat} (ps : List (BitVec 512)) (hcredit : (d.fab p).credit ⟨site, 4, false, 0⟩ = false) :
    Emits p site 0 d (emitRow p site tag false ps d)
      (ps.map (fun pay => { payload := pay, tag := tag, fin := false, epoch := (d.part p).epoch })) := by
  have h := emits_foldl ((ps.zipIdx).map (fun x : BitVec 512 × Nat =>
    ({ payload := x.1, tag := tag, fin := false && x.2 + 1 == ps.length } : Token))) d hcredit
  rw [List.foldl_map, List.map_map] at h
  have hmap : ps.map (fun pay => ({ payload := pay, tag := tag, fin := false, epoch := (d.part p).epoch } : Token)) =
      (ps.zipIdx).map (fun x => { payload := x.1, tag := tag, fin := false, epoch := (d.part p).epoch }) := by
    conv_lhs => rw [← List.zipIdx_map_fst 0 ps]
    exact List.map_map
  rw [hmap]
  exact h

/-- R140: a cell whose row has left the vector program. -/
def Cell.rowLeft (c : Cell) (total : OutFlags) : Cell :=
  { c with vec := none, conv := c.conv.map (fun (v : Conv) => { v with gathered := total }) }

/-- R140: a row of the vector program, of a cell without a tile, leaves in its output format. -/
theorem fxVectorRowOutput_of_row {d : Device} {r : VecRow} {k : ComputeCfg} (hlive : d.live p = true)
    (hsite : siteKind site = .compute) (hcfg : (d.part p).stop.compute site = k) (hfree : d.outFree p site false 0 = true)
    (hvec : (d.cell p site).vec = some r) (hconv : (d.cell p site).conv = none) (hpc : k.vlen ≤ r.pc)
    (hlast : r.last = false) :
    let out := rowPayloads k.fmtOut ((r.regs.getD 0 zeroRow).zipIdx.map (fun (x : Word × Nat) =>
      if k.cols ≤ x.2 then Fl.fin false 0 0 else f32Val x.1))
    ∃ (total : OutFlags) (e : Device), e = { emitRow p site r.tag false out.1 d with regs := e.regs } ∧
      fxVectorRowOutput p site d = acceptSite p site ((e.modCell p site (fun c => c.rowLeft total)).modCell p site
        (loadRow (d.part p).stop site)) := by
  have hgo : (!d.live p || siteKind site != .compute || !d.outFree p site false 0) = false := by simp [hlive, hsite, hfree]
  have hready : (!(k.fmtOut == Fmt.raw) && decide (r.pc < k.vlen)) = false := by simp [hpc]
  intro out
  refine ⟨out.2, if out.2.bits = 0 then emitRow p site r.tag false out.1 d else
    (emitRow p site r.tag false out.1 d).arith p out.2.bits, ?_, ?_⟩
  · split <;> rfl
  · simp only [fxVectorRowOutput, hcfg, hgo, hvec, hready, hconv, hlast]
    rfl

end Output

/-- Settles O32 (an MX row's token layout is log entry 9): a beat of the earliest ready context, the anchor's pass, the capture of a
float tile, and a row's output. -/
theorem computeCellsReduceTiles : Obligations.ComputeCellsReduceTiles := by
  refine fun s p site hrun hlive hsite henabled => ⟨fun x t hpick hsrc huses hopen hnext => ?beat,
    fun tag x kk hmx hctx hopen hk ha hb hrecA hrecB hmode => ?anchor,
    fun tag x hconv hledger hctx htag ha hb hcombine hfloat hendA hendB => ?capture,
    fun r hvec hconv hrows hfmt hpc hlast hfree hcredit hbufs => ?output⟩
  case beat =>
    have hbeat : fxCellBeat p site s.dev = computeBeat p site s.dev := if_neg (by simp [hlive, hsite, henabled])
    refine Ends.of_landed hrun rfl (congrArg (Device.land · _) hbeat) ?_
    exact hasTaken_computeBeat hpick hsrc huses hopen hnext
  case anchor =>
    obtain ⟨q, heffect⟩ := fxAnchorPassComplete_of_ready hlive hsite henabled rfl hmx hctx hopen hk rfl ha hb hrecA hrecB hmode
    obtain rfl := (s.dev.cell p site).tag_of_ctx hctx
    have hanchored := Cell.anchor_of_pass q p kk (k := (s.dev.part p).stop.compute site)
      (a := ctxAnchor ((s.dev.part p).stop.compute site) x kk (tileOf ((s.dev.part p).stop.compute site) (s.dev.cell p site) x)) hctx
    revert heffect hanchored
    generalize (if q then _ else _ : Cell) = c', (advanceCtx _ _ _ _ _).2 = lost
    intro heffect hanchored
    rw [← Device.cell_modCell_same s.dev p site (fun _ => c')] at hanchored
    have hother (q : Nat) (hq : q ≠ p) := Device.part_modCell_other s.dev site (fun _ => c') hq
    cases lost with
    | false => exact Ends.of_effect hrun rfl heffect rfl rfl ⟨hanchored, hother, rfl⟩
    | true => exact Ends.of_effect hrun rfl heffect rfl rfl ⟨hanchored, hother, rfl⟩
  case capture =>
    have heffect := fxTileCapture_of_float hlive hsite rfl hconv hledger hctx ha hb hcombine hfloat hendA hendB
    obtain ⟨v, hv, hvtag, hvlanes⟩ := loadRow_conv (s.dev.part p).stop site
      (c := (s.dev.cell p site).captured (x.tile ((s.dev.part p).stop.compute site) (s.dev.cell p site).ledger)) rfl
    have hrows := Cell.loadRow_onlyRows (s.dev.part p).stop site
      ((s.dev.cell p site).captured (x.tile ((s.dev.part p).stop.compute site) (s.dev.cell p site).ledger))
    have hcell := Device.cell_modCell_same s.dev p site (fun c => loadRow (s.dev.part p).stop site
      (c.captured (x.tile ((s.dev.part p).stop.compute site) (s.dev.cell p site).ledger)))
    have hother (q : Nat) (hq : q ≠ p) := Device.part_modCell_other s.dev site (fun c => loadRow (s.dev.part p).stop site
      (c.captured (x.tile ((s.dev.part p).stop.compute site) (s.dev.cell p site).ledger))) hq
    have hledger' := (congrArg Cell.ledger hcell).trans (congrArg Cell.ledger hrows)
    have htag' := (congrArg Cell.ledgerTag hcell).trans (congrArg Cell.ledgerTag hrows)
    have hdone := (congrArg Cell.tilesDone hcell).trans (congrArg Cell.tilesDone hrows)
    have hstage := (congrArg Cell.conv hcell).trans hv
    cases hlost : x.lost with
    | false =>
      rw [hlost] at heffect
      exact Ends.of_effect hrun rfl heffect rfl rfl ⟨hledger', htag', hdone, ⟨v, hstage, hvtag.trans htag, hvlanes⟩, hother, rfl⟩
    | true =>
      rw [hlost] at heffect
      exact Ends.of_effect hrun rfl heffect rfl rfl ⟨hledger', htag', hdone, ⟨v, hstage, hvtag.trans htag, hvlanes⟩, hother, rfl⟩
  case output =>
    obtain ⟨total, e, he, heffect⟩ := fxVectorRowOutput_of_row hlive hsite rfl hfree hvec hconv hpc hlast
    have hemits := emits_emitRow (tag := r.tag) (rowPayloads ((s.dev.part p).stop.compute site).fmtOut
      ((r.regs.getD 0 zeroRow).zipIdx.map (fun (x : Word × Nat) =>
        if ((s.dev.part p).stop.compute site).cols ≤ x.2 then Fl.fin false 0 0 else f32Val x.1))).1 hcredit
    have hempty : Table.getD (s.dev.fab p).outs (Chan.key ⟨site, 4, false, 0⟩) [] = [] := List.isEmpty_iff.mp hfree
    have houts := hemits.outs
    rw [hempty, List.nil_append] at houts
    revert he
    generalize emitRow p site r.tag false _ s.dev = row at hemits houts
    intro he
    have hpart (q : Nat) : e.part q = row.part q := by rw [he]; rfl
    have hfab : (e.fab p) = { s.dev.fab p with outs := (row.fab p).outs } := by
      rw [Device.fab, hpart, ← Device.fab, ← hemits.fab]
    have hcell : e.cell p site = s.dev.cell p site := by rw [Device.cell, hfab, Device.cell]
    have hloaded : (loadRow (s.dev.part p).stop site ((s.dev.cell p site).rowLeft total)).vec = none := by
      have hgone : ((s.dev.cell p site).rowLeft total).conv = none := by rw [Cell.rowLeft, hconv, Option.map_none]
      rw [Cell.loadRow_of_idle _ _ rfl hgone hrows]
      rfl
    have hbufs' : (((e.modCell p site (fun c => c.rowLeft total)).modCell p site (loadRow (s.dev.part p).stop site)).fab p).bufs =
        [] := by
      rw [Device.fab_modCell, Device.fab_modCell, hfab]
      exact hbufs
    rw [acceptSite_of_no_buf hbufs'] at heffect
    refine Ends.of_effect hrun rfl heffect ?_ ?_ ⟨?_, ?_, fun q hq => ?_, ?_⟩
    · rw [Device.modCell_mem, Device.modCell_mem, he, hemits.frame]
    · rw [Device.modCell_wlog, Device.modCell_wlog, he, hemits.frame]
    · rw [Device.cell_modCell_same, Device.cell_modCell_same, hcell, hloaded]
    · rw [Device.fab_modCell, Device.fab_modCell, hfab]
      exact houts
    · rw [Device.part_modCell_other _ _ _ hq, Device.part_modCell_other _ _ _ hq, hpart, hemits.others q hq]
    · obtain ⟨x, rfl⟩ : ∃ x, row = { s.dev with parts := x } := ⟨row.parts, hemits.frame⟩
      obtain ⟨regs, rfl⟩ : ∃ regs, e = { s.dev with parts := x, regs := regs } := ⟨e.regs, he⟩
      rfl

end Sys2Proof.Machine
end

section
/-!
SUPPORT. The vector instructions (R142).
-/
namespace Sys2Proof.Machine

/-- R142: the row executes its next instruction under the command of its operation code. -/
theorem vecStep_of_code {d : Device} {p site : Nat} {r : VecRow} {code : Nat} (hlive : d.live p = true)
    (hsite : siteKind site = .compute) (hvec : (d.cell p site).vec = some r) (hpc : r.pc < ((d.part p).stop.compute site).vlen)
    (hcode : (vInstr ((d.part p).stop.cellWord site (8 + r.pc))).code = code) :
    vecStep code p site d = d.modCell p site (fun c => { c with vec := some (r.exec
      (vInstr ((d.part p).stop.cellWord site (8 + r.pc))) (fun j => BitVec.ofNat 32 ((d.part p).stop.cellWord site (24 + j)))) }) := by
  simp only [vecStep, hvec]
  exact if_neg (by simp [hlive, hsite, hpc, hcode])

/-- R142: an instruction with a result writes its destination alone. -/
theorem VecRow.regs_exec_of_result {r : VecRow} {i : VInstr} {k : Nat → Word} {v : List Word} (h : vecResult i k r.regs = some v) :
    (r.exec i k).regs = r.regs.set i.dst v := by
  rw [VecRow.exec, h]

/-- R142: NOP writes nothing. -/
theorem VecRow.regs_exec_of_nop {r : VecRow} {i : VInstr} {k : Nat → Word} (h : i.code = 0) : (r.exec i k).regs = r.regs := by
  simp only [VecRow.exec, vecResult, h]

/-- Settles O33: all thirteen commands are the one step of their operation code. -/
theorem vectorInstructionsExecute : Obligations.VectorInstructionsExecute := by
  intro s p site r code c hrun hlive hsite hvec hpc hmem hcode
  have hexec : exec c s = onDev .runs (vecStep code p site) s := by
    simp only [List.mem_cons, Prod.mk.injEq, List.mem_nil_iff, or_false] at hmem
    obtain ⟨rfl, rfl⟩ | ⟨rfl, rfl⟩ | ⟨rfl, rfl⟩ | ⟨rfl, rfl⟩ | ⟨rfl, rfl⟩ | ⟨rfl, rfl⟩ | ⟨rfl, rfl⟩ | ⟨rfl, rfl⟩ | ⟨rfl, rfl⟩ |
      ⟨rfl, rfl⟩ | ⟨rfl, rfl⟩ | ⟨rfl, rfl⟩ | ⟨rfl, rfl⟩ := hmem <;> rfl
  refine Ends.of_effect hrun hexec (vecStep_of_code hlive hsite hvec hpc hcode) rfl rfl
    ⟨⟨_, congrArg Cell.vec (Device.cell_modCell_same _ _ _ _), rfl, rfl, rfl, rfl, fun hnop => ?_, fun v hv => ?_⟩, fun k hk => ?_, ?_,
      fun q hq => Device.part_modCell_other _ _ _ hq, rfl⟩
  · exact VecRow.regs_exec_of_nop (hcode.trans hnop)
  · exact VecRow.regs_exec_of_result hv
  · exact Device.cell_modCell_other _ _ _ _ _ hk
  · rw [Device.cell_modCell_same]

end Sys2Proof.Machine
end

section
/-!
SUPPORT. Valves: a token that parks, a beat of SELECT, the faults of the matching store, the marks (R179 to R217).
-/
namespace Sys2Proof.Machine

section Valves
variable {d : Device} {p site : Nat} {k : ValveCfg}

/-- A data packet that needs a control token is ready for no beat while it has none. -/
theorem ValveCfg.pick_of_unpaired {v : Valve} {q : VPkt} (hpkts : v.pkts = [q]) (hpair : q.pair = none) : k.pick v = none := by
  have hready : k.ready v q = false := by simp [ValveCfg.ready, hpair]
  simp [ValveCfg.pick, hpkts, hready, minByKey]

/-- R179: a valve whose one packet is data pairs nothing where that needs a control token. -/
theorem Valve.pairAll_of_data {v : Valve} {q : VPkt} (hpkts : v.pkts = [q]) (hinput : q.input ≠ 4) (hpair : q.pair = none)
    (hneeds : k.needsCtl q.input = true) : v.pairAll k = v := by
  have hfree : v.freeCtls = [] := by simp [Valve.freeCtls, hpkts, hinput]
  simp [Valve.pairAll, hpkts, Valve.pairOne, hinput, hpair, hneeds, hfree]

/-- R181: a valve's tokens with one of them in an entry of the matching store. -/
def Valve.storing (v : Valve) (t : VTok) : Valve :=
  { v with toks := v.toks.map (fun u => if u = t then { u with stored := true } else u) }

/-- R181, R182: a data token whose packet is not ready parks where the store has room. -/
theorem takeIn_parks {v : Valve} {t : VTok} {c : Chan} (freed held : Device) (hpairs : v.pairAll k = v) (hpick : k.pick v = none)
    (hinput : t.input ≠ 4) (hroom : v.occupancy < k.bound) :
    valveAccept.takeIn p c k v t freed held =
      notePark p c.site k ((freed.modValve p c.site (fun _ => v)).modValve p c.site (fun v => v.storing t)) := by
  simp only [valveAccept.takeIn, hpairs, hpick]
  rw [if_neg (by simp [hinput]), if_neg (by simp), if_pos hroom]
  rfl

/-- The valve that a first data token leaves, before it parks. -/
def Valve.first (i : Nat) (t : Token) : Valve :=
  { toks := [{ input := i, pkt := 0, tok := t }], pkts := [{ id := 0, input := i, tag := t.tag, ended := t.fin }], nextPkt := 1
    openTags := [t.tag], arriving := if t.fin then [] else Table.put [] i 0 }

/-- R175, R178: an empty valve takes a data token in as the first of its packet. -/
theorem valveAccept_of_empty {c : Chan} {t : Token} {i : Nat} (n : Nat) (hcfg : (d.part p).stop.valve c.site = k)
    (henabled : (d.part p).stop.enabled c.site = true) (hbuf : (d.fab p).buf c = [t]) (hkind : t.kind = .data)
    (hinput : k.input c.scalar c.ch = some i) (hi : i < 4) (hloop : k.kind ≠ .loop) (hempty : d.valve p c.site = {}) (hcontexts : 0 < k.contexts) :
    valveAccept p c d (n + 1) =
      valveAccept.takeIn p c k (Valve.first i t) { input := i, pkt := 0, tok := t }
        (d.modFab p (fun f => (f.setBuf c []).freeEntry c)) d := by
  have hnotctl : i ≠ 4 := by omega
  rw [valveAccept]
  simp only [hbuf, hcfg, henabled, hinput, hempty, hkind, Token.isControl]
  rw [if_neg (by decide), if_neg (by decide), if_neg (by simp)]
  simp only [Table.find?_nil]
  rw [if_neg (by simp [hloop]), if_neg (by simp [Nat.ne_of_gt hcontexts]), if_neg hnotctl, if_neg (by simp [hloop])]
  rfl

/-- R214: a valve whose marks follow the occupancy `n`. -/
def Valve.marked (v : Valve) (n bound : Nat) : Valve :=
  { v with highWater := max v.highWater n, atBound := v.atBound || n == bound }

/-- R214, R217: a token that parks changes the marks of its valve, and PRT_VALVE_PEAK. -/
theorem notePark_marks (p site : Nat) (k : ValveCfg) (d : Device) : ∃ regs, notePark p site k d =
    { d.modValve p site (fun v => v.marked (d.valve p site).occupancy k.bound) with regs := regs } := by
  have hnoted (e : Device) (q : Prop) [Decidable q] (key n : Nat) :
      ∃ regs, (if q then e.setReg key n else e) = { e with regs := regs } := by
    split
    · exact ⟨_, rfl⟩
    · exact ⟨e.regs, rfl⟩
  exact hnoted _ _ _ _

theorem Device.fab_modValve (d : Device) (p site : Nat) (f : Valve → Valve) : (d.modValve p site f).fab p =
    { d.fab p with cells := Table.modify (d.fab p).cells site {} (fun c => { c with valve := f c.valve }) } :=
  Device.fab_modCell _ _ _ _

theorem Device.part_modValve_other (d : Device) {p q : Nat} (site : Nat) (f : Valve → Valve) (hq : q ≠ p) :
    (d.modValve p site f).part q = d.part q := Device.part_modCell_other _ _ _ hq

theorem Table.modify_modify {α : Type} (t : Table α) (n : Nat) (x : α) (f g : α → α) :
    Table.modify (Table.modify t n x f) n x g = Table.modify t n x (fun a => g (f a)) := by
  rw [Table.modify, Table.getD_modify_same, Table.modify, Table.put_put, Table.modify]

theorem Device.modCell_modCell (d : Device) (p site : Nat) (f g : Cell → Cell) :
    (d.modCell p site f).modCell p site g = d.modCell p site (fun c => g (f c)) := by
  rw [Device.modCell, Device.modCell, Device.modFab_modFab]
  exact congrArg (d.modFab p) (funext fun x => congrArg (fun t => { x with cells := t }) (Table.modify_modify _ _ _ _ _))

theorem Device.modValve_modValve (d : Device) (p site : Nat) (f g : Valve → Valve) :
    (d.modValve p site f).modValve p site g = d.modValve p site (fun v => g (f v)) := Device.modCell_modCell _ _ _ _ _

theorem Device.job_modFab (d : Device) (p : Nat) (f : Fabric → Fabric) :
    (d.modFab p f).job ((d.modFab p f).part p).job = d.job (d.part p).job := by
  rw [Device.modFab, Device.part_modPart_same]
  rfl

/-- R181: the store holds the first data token of a valve. -/
def Valve.parked (i : Nat) (t : Token) (bound : Nat) : Valve :=
  ((Valve.first i t).storing { input := i, pkt := 0, tok := t }).marked 1 bound

theorem Valve.toks_storing_first (i : Nat) (t : Token) : ((Valve.first i t).storing { input := i, pkt := 0, tok := t }).toks =
    [{ input := i, pkt := 0, tok := t, stored := true }] := by simp [Valve.storing, Valve.first]

theorem Valve.occupancy_storing_first (i : Nat) (t : Token) :
    ((Valve.first i t).storing { input := i, pkt := 0, tok := t }).occupancy = 1 := by
  rw [Valve.occupancy, Valve.toks_storing_first]
  rfl

/-- R179 to R182: the first data token of an empty valve parks. -/
theorem valveAccept_parks {c : Chan} {t : Token} {i : Nat} (n : Nat) (hcfg : (d.part p).stop.valve c.site = k)
    (henabled : (d.part p).stop.enabled c.site = true) (hbuf : (d.fab p).buf c = [t]) (hkind : t.kind = .data)
    (hinput : k.input c.scalar c.ch = some i) (hi : i < 4) (hneeds : k.kind = .select ∨ k.kind = .merge ∨ k.kind = .filter)
    (hbound : 0 < k.bound) (hcontexts : 0 < k.contexts) (hempty : d.valve p c.site = {}) :
    ∃ regs, valveAccept p c d (n + 1) =
      { (d.modFab p (fun f => (f.setBuf c []).freeEntry c)).modValve p c.site (fun _ => Valve.parked i t k.bound) with
        regs := regs } := by
  have hloop : k.kind ≠ .loop := by obtain h | h | h := hneeds <;> simp [h]
  have hctl : k.needsCtl i = true := by obtain h | h | h := hneeds <;> simp [ValveCfg.needsCtl, h]
  have hpairs : (Valve.first i t).pairAll k = Valve.first i t :=
    Valve.pairAll_of_data rfl (Nat.ne_of_lt hi) rfl hctl
  have hpick : k.pick (Valve.first i t) = none := ValveCfg.pick_of_unpaired rfl rfl
  obtain ⟨regs, hmarks⟩ := notePark_marks p c.site k (((d.modFab p (fun f => (f.setBuf c []).freeEntry c)).modValve p c.site
    (fun _ => Valve.first i t)).modValve p c.site (fun v => v.storing { input := i, pkt := 0, tok := t }))
  rw [Device.valve_modValve_same, Device.valve_modValve_same, Valve.occupancy_storing_first, Device.modValve_modValve,
    Device.modValve_modValve] at hmarks
  refine ⟨regs, ?_⟩
  rw [valveAccept_of_empty n hcfg henabled hbuf hkind hinput hi hloop hempty hcontexts,
    takeIn_parks _ _ hpairs hpick (Nat.ne_of_lt hi) hbound, Device.modValve_modValve]
  exact hmarks

/-- R123: a token of the current epoch stands at the valve's channel and may be taken in. -/
theorem fxValveTokenArrival_of_epoch {scalar : Bool} {ch : Nat} {t : Token} {rest : List Token} (hlive : d.valveLive p site = true)
    (hwire : (d.fab p).wire ⟨site, 5, scalar, ch⟩ = t :: rest) (hbuf : (d.fab p).buf ⟨site, 5, scalar, ch⟩ = [])
    (hepoch : t.epoch = (d.part p).epoch) :
    fxValveTokenArrival p site scalar ch d =
      valveAccept p ⟨site, 5, scalar, ch⟩ (d.modFab p (fun f => f.arrived ⟨site, 5, scalar, ch⟩ t rest)) 8 := by
  simp only [fxValveTokenArrival, hlive, hwire, Device.epoch_modFab, Device.modFab_arrived hbuf]
  exact (if_neg (by decide)).trans (if_neg (by simp [hepoch]))

/-- R184: a packet that SELECT starts leaves on the channel that its control value names. -/
theorem valveFire_of_select {q : VPkt} {t : VTok} {v : Nat} (hcfg : (d.part p).stop.valve site = k)
    (hpick : k.pick (d.valve p site) = some q) (hnext : Valve.nextTok k (d.valve p site) q = some t) (hkind : k.kind = .select)
    (hstarted : q.started = false) (hpair : q.pair = some v) (hmask : bitOf k.outMask (v % 4) = true)
    (hfree : d.outFree p site k.dataScalar (v % 4) = true) :
    ∃ w : Valve, valveFire p site d =
      (d.modCell p site (fun c => { c with valve := w, fires := (c.fires + 1) % 2 ^ 32 })).cellEmit p site k.dataScalar (v % 4)
        { t.tok with tag := q.tag } := by
  have hout : k.outOf (d.valve p site) q = (v % 4, false) := by simp [ValveCfg.outOf, hkind, hpair, hmask]
  have hstart : (d.valve p site).start k q =
      (d.valve p site, { q with started := true, outCh := v % 4, drop := false, outTag := q.tag }, none) := by
    simp only [Valve.start, hkind, hout]
  have hrate : (k.kind == .rate) = false := by simp [hkind]
  simp only [valveFire, hcfg, hpick, hnext, hstarted, hstart, hfree, ValveCfg.isRepeat, hrate, Bool.false_eq_true, if_false,
    Bool.not_true, Bool.and_false, Bool.not_false, Bool.and_true, Bool.false_and, if_true]
  exact ⟨_, rfl⟩

theorem Device.fab_congr {d e : Device} (h : e.parts = d.parts) (p : Nat) : e.fab p = d.fab p := by
  rw [Device.fab, Device.part_congr h, Device.fab]

theorem Device.valve_congr {d e : Device} (h : e.parts = d.parts) (p site : Nat) : e.valve p site = d.valve p site := by
  rw [Device.valve, Device.cell, Device.fab_congr h, Device.valve, Device.cell]

theorem Device.of_valveLive (h : d.valveLive p site = true) : p < 12 ∧ siteKind site = .valve := by
  simp only [Device.valveLive, Bool.and_eq_true, decide_eq_true_eq, beq_iff_eq] at h
  obtain ⟨⟨⟨hp, -⟩, hkind⟩, -⟩ := h
  exact ⟨hp, hkind⟩

/-- R209: a fired entry that fails its parity check is a fault. -/
theorem fxValveBeat_of_bad {q : VPkt} {t : VTok} (hlive : d.valveLive p site = true) (henabled : (d.part p).stop.enabled site = true)
    (hcfg : (d.part p).stop.valve site = k) (hpick : k.pick (d.valve p site) = some q)
    (hnext : Valve.nextTok k (d.valve p site) q = some t) (hstored : t.stored = true) :
    fxValveBeat p site false d =
      d.fabricFault p 0x24 1 site 4 q.input k.dataScalar { status := 0x1024, kind := 1, detail := q.tag } := by
  simp only [fxValveBeat, hlive, henabled, hcfg, hpick, hnext, hstored]
  exact (if_neg (by decide)).trans (if_pos (by decide))

theorem fxValveBeat_of_good {q : VPkt} (hlive : d.valveLive p site = true) (henabled : (d.part p).stop.enabled site = true)
    (hpick : ((d.part p).stop.valve site).pick (d.valve p site) = some q) : fxValveBeat p site true d = valveFire p site d := by
  simp only [fxValveBeat, hlive, henabled, hpick]
  exact (if_neg (by decide)).trans (if_neg (by simp))

/-- R216: what PRT_VALVE_TIMEOUT latches of a token whose age passes PAIR_LIMIT. -/
def timeoutWord (site : Nat) (t : VTok) : Nat :=
  2 ^ 31 + 2 ^ 22 * site + 2 ^ 18 * bit (decide (t.input = 4)) + 2 ^ 16 * (if t.input = 4 then 3 else t.input) + t.tok.tag % 4096

theorem bitsOf_timeoutWord (site : Nat) (t : VTok) : bitsOf (timeoutWord site t % 2 ^ 32) 11 0 = t.tok.tag % 4096 := by
  rw [bitsOf, timeoutWord]
  omega

/-- R205, R216: a token that has waited too long, latched and aged; the fault follows. -/
theorem fxValvePairingTimeout_of_waiting {i : Nat} {t : VTok} (hlive : d.valveLive p site = true)
    (hcfg : (d.part p).stop.valve site = k) (hwaits : ((d.valve p site).aging k)[i]? = some t)
    (hfree : d.regField (prtOff p PRT_VALVE_TIMEOUT) 31 31 = 0) :
    ∃ (v : Valve → Valve) (ch : Nat) (scalar : Bool) (info : FaultInfo), fxValvePairingTimeout p site i false d =
      ((d.setReg (prtOff p PRT_VALVE_TIMEOUT) (timeoutWord site t)).modValve p site v).fabricFault p 0x23 3 site 4 ch scalar info := by
  simp only [fxValvePairingTimeout, hcfg, hwaits, hlive, hfree, Bool.not_true, Bool.false_and, Bool.false_eq_true, if_false,
    zero_ne_one]
  exact ⟨_, _, _, _, rfl⟩

end Valves

/-- Settles O36: a token that parks, a beat of SELECT, the faults by the fault's own lemmas, and the marks. -/
theorem valvesPairAndFire : Obligations.ValvesPairAndFire := by
  refine fun s p site hrun hlive henabled => ⟨fun scalar ch t rest i hwire hbuf hepoch hkind hinput hi hneeds hbound hempty => ?park,
    fun q t v hpick hnext => ⟨fun hkind hstarted hpair hmask hfree hcredit => ?fire, fun hstored hjob hfree => ?parity⟩,
    fun i t hwaits hjob hfree hfree' => ?timeout, fun port hsel => ?clearHw, ?clear⟩
  all_goals have ⟨hp, hkind'⟩ := Device.of_valveLive hlive
  case park =>
    have hcell : (s.dev.modFab p (fun f => f.arrived ⟨site, 5, scalar, ch⟩ t rest)).cell p site = s.dev.cell p site := by
      rw [Device.cell, Device.fab_modFab_same, Fabric.cells_arrived, Device.cell]
    obtain ⟨regs, heffect⟩ := valveAccept_parks (d := s.dev.modFab p (fun f => f.arrived ⟨site, 5, scalar, ch⟩ t rest)) (p := p)
      (c := ⟨site, 5, scalar, ch⟩) (t := t) 7 rfl (by rwa [Device.stop_modFab]) (by rw [Device.fab_modFab_same, Fabric.buf_arrived_same])
      hkind (by rwa [Device.stop_modFab]) hi (by rwa [Device.stop_modFab]) (by rwa [Device.stop_modFab])
      (Nat.succ_pos _) (by rw [Device.valve, hcell]; exact hempty)
    refine Ends.of_effect hrun rfl ((fxValveTokenArrival_of_epoch hlive hwire hbuf hepoch).trans heffect) rfl rfl ?_
    rw [Device.modFab_modFab]
    generalize hfab : (fun f : Fabric => ((f.arrived ⟨site, 5, scalar, ch⟩ t rest).setBuf ⟨site, 5, scalar, ch⟩ []).freeEntry
      ⟨site, 5, scalar, ch⟩) = g
    generalize hbound' : (((s.dev.modFab p (fun f => f.arrived ⟨site, 5, scalar, ch⟩ t rest)).part p).stop.valve site).bound = bound
    have hgone : (g (s.dev.fab p)).wire ⟨site, 5, scalar, ch⟩ = rest := hfab ▸ Fabric.wire_arrived_same (t := t) _
    have hempty' : (g (s.dev.fab p)).buf ⟨site, 5, scalar, ch⟩ = [] :=
      hfab ▸ Fabric.buf_setBuf_same ((s.dev.fab p).arrived ⟨site, 5, scalar, ch⟩ t rest) ⟨site, 5, scalar, ch⟩ []
    have hparts : ({ (s.dev.modFab p g).modValve p site (fun _ => Valve.parked i t bound) with regs := regs } : Device).parts =
        ((s.dev.modFab p g).modValve p site (fun _ => Valve.parked i t bound)).parts := rfl
    have hvalve := (Device.valve_congr hparts p site).trans (Device.valve_modValve_same _ _ _ _)
    have hnet := (Device.fab_congr hparts p).trans (Device.fab_modValve _ _ _ _)
    rw [Device.fab_modFab_same] at hnet
    refine ⟨?_, ?_, ?_, ?_, ?_, ?_, fun q hq => ?_, rfl⟩
    · exact (congrArg Valve.toks hvalve).trans (Valve.toks_storing_first i t)
    · exact congrArg Valve.pkts hvalve
    · exact congrArg Valve.openTags hvalve
    · exact congrArg Valve.highWater hvalve
    · exact (congrArg (fun f => f.wire ⟨site, 5, scalar, ch⟩) hnet).trans hgone
    · exact (congrArg (fun f => f.buf ⟨site, 5, scalar, ch⟩) hnet).trans hempty'
    · rw [Device.part_congr hparts, Device.part_modValve_other _ _ _ hq, Device.part_modFab_other _ _ _ hq]
  case fire =>
    obtain ⟨w, heffect⟩ := valveFire_of_select rfl hpick hnext hkind hstarted hpair hmask hfree
    rw [Device.cellEmit_of_no_credit _ (by rw [Device.fab_modCell]; exact hcredit), Device.modCell, Device.epoch_modFab,
      Device.modFab_modFab] at heffect
    have hempty : Table.getD (s.dev.fab p).outs (Chan.key ⟨site, 4, ((s.dev.part p).stop.valve site).dataScalar, v % 4⟩) [] = [] :=
      List.isEmpty_iff.mp hfree
    refine Ends.of_effect hrun rfl ((fxValveBeat_of_good hlive henabled hpick).trans heffect) rfl rfl
      ⟨?_, ?_, fun q hq => Device.part_modFab_other _ _ _ hq, rfl⟩
    · rw [Device.fab_modFab_same, Fabric.queued, Table.getD_put_same, hempty]
      rfl
    · rw [Device.cell, Device.fab_modFab_same, Fabric.queued, Table.getD_modify_same]
      rfl
  case parity =>
    exact Ends.of_effect hrun rfl (fxValveBeat_of_bad hlive henabled rfl hpick hnext hstored)
      (Device.fabricFault_mem_of_no_job _ _ _ _ _ _ _ hjob) (Device.fabricFault_wlog_of_no_job _ _ _ _ _ _ _ hjob)
      ⟨Device.fab_fabricFault_of_no_job _ _ _ _ _ _ _ hjob, Device.faultCode_of_free _ _ _ _ _ _ _ hjob hfree,
        Device.fabricFault_mem_of_no_job _ _ _ _ _ _ _ hjob⟩
  case timeout =>
    obtain ⟨v, ch, scalar, info, heffect⟩ := fxValvePairingTimeout_of_waiting hlive rfl hwaits hfree'
    have hjob' : (((s.dev.setReg (prtOff p PRT_VALVE_TIMEOUT) (timeoutWord site t)).modValve p site v).job
        (((s.dev.setReg (prtOff p PRT_VALVE_TIMEOUT) (timeoutWord site t)).modValve p site v).part p).job).state = .none := by
      rw [Device.modValve, Device.modCell, Device.job_modFab]
      exact hjob
    have hlatch : ((s.dev.setReg (prtOff p PRT_VALVE_TIMEOUT) (timeoutWord site t)).modValve p site v).regField
        (prtOff p PRT_FABRIC_FAULT) 31 31 = 0 := by
      rw [Device.regField_congr (Device.modValve_regs _ _ _ _), Device.regField, Device.reg_setReg_other _ _ _ _ (prtOff_inj (by decide))]
      exact hfree
    refine Ends.of_effect hrun rfl heffect ?_ ?_ ⟨Device.fab_fabricFault_of_no_job _ _ _ _ _ _ _ hjob',
      Device.faultCode_of_free _ _ _ _ _ _ _ hjob' hlatch, ?_, ?_⟩
    · exact Device.fabricFault_mem_of_no_job _ _ _ _ _ _ _ hjob'
    · exact Device.fabricFault_wlog_of_no_job _ _ _ _ _ _ _ hjob'
    · rw [Device.regField, Device.reg_fabricFault_other _ _ _ _ _ _ _ hjob' (prtOff_inj (by decide)) (prtOff_inj (by decide)),
        Device.reg_congr (Device.modValve_regs _ _ _ _), Device.reg_setReg_same, bitsOf_timeoutWord]
    · exact Device.fabricFault_mem_of_no_job _ _ _ _ _ _ _ hjob'
  case clearHw =>
    have heffect : fxPrtValveClearHw port p s.dev = s.dev.modValve p site (fun v => { v with highWater := v.occupancy }) := by
      simp only [fxPrtValveClearHw, hsel]
      exact if_neg (by simp [hp, hkind'])
    refine Ends.of_effect hrun rfl heffect rfl rfl ⟨?_, fun k hk => Device.cell_modCell_other _ _ _ _ _ hk, ?_,
      fun q hq => Device.part_modValve_other _ _ _ hq, rfl⟩
    · rw [Device.valve_modValve_same]
    · rw [Device.fab_modValve]
  case clear =>
    have heffect : fxPrtValvePeakClear p s.dev = s.dev.setReg (prtOff p PRT_VALVE_PEAK) 0 := if_neg (Nat.not_le.mpr hp)
    exact Ends.of_effect hrun rfl heffect rfl rfl
      ⟨Device.reg_setReg_same _ _ _, fun k hk => Device.reg_setReg_other _ _ _ _ hk, rfl⟩

end Sys2Proof.Machine
end

section
/-!
SUPPORT. The rings of the tile ports: fills, injection, outbound slots and write-outs (R298 to R309).
-/
namespace Sys2Proof.Machine

/-! ### Rings as storage -/

section Rings
variable (d : Device) (p col ch : Nat)

@[simp] theorem Device.portRing_modRing_same (f : Ring → Ring) : (d.modRing p col ch f).portRing p col ch = f (d.portRing p col ch) := by
  rw [Device.portRing, Device.modRing, Device.part_modPart_same]
  exact Table.getD_modify_same _ _ _ _

theorem Device.part_modRing_other {q : Nat} (f : Ring → Ring) (hq : q ≠ p) : (d.modRing p col ch f).part q = d.part q :=
  Device.part_modPart_other _ _ _ _ hq

theorem Device.fab_modRing (f : Ring → Ring) : (d.modRing p col ch f).fab p = d.fab p := by
  rw [Device.fab, Device.modRing, Device.part_modPart_same]
  rfl

theorem Device.modRing_modRing (f g : Ring → Ring) :
    (d.modRing p col ch f).modRing p col ch g = d.modRing p col ch (fun r => g (f r)) := by
  rw [Device.modRing, Device.modRing, Device.modPart_modPart]
  exact congrArg (d.modPart p) (funext fun x => congrArg (fun t => { x with rings := t }) (Table.modify_modify _ _ _ _ _))

end Rings

theorem bitsOf_lt (n hi lo : Nat) : bitsOf n hi lo < 2 ^ (hi + 1 - lo) := Nat.mod_lt _ (Nat.two_pow_pos _)

/-- R300: the bounds that the fields of a ring's configuration set. -/
theorem StopCfg.ring_bounds {cfg : StopCfg} {col ch : Nat} {c : RingCfg} (hring : cfg.ring col ch = some c) :
    c.slots ≤ 2 ^ 4 ∧ 0 < c.slots ∧ c.home < 2 ^ 7 ∧ c.base < 2 ^ 13 ∧ c.tokens < 2 ^ 13 := by
  rw [StopCfg.ring] at hring
  split at hring
  · obtain rfl := Option.some.inj hring
    refine ⟨bitsOf_lt _ 4 1, Nat.succ_pos _, bitsOf_lt _ 11 5, bitsOf_lt _ 24 12, ?_⟩
    show (if ch % 2 = 0 then _ else _) < _
    split
    · exact bitsOf_lt _ 12 0
    · exact bitsOf_lt _ 28 16
  · cases hring

/-- R300: a slot of a ring stands in T1: its bytes have keys far below those of T2. -/
theorem RingCfg.key_lt {cfg : StopCfg} {p col ch n : Nat} {c : RingCfg} (hp : p < 12) (hring : cfg.ring col ch = some c) :
    c.key p n < 2 ^ 40 := by
  obtain ⟨hslots, hpos, hhome, hbase, htokens⟩ := StopCfg.ring_bounds hring
  have hslot : n % c.slots * c.tokens ≤ 2 ^ 4 * 2 ^ 13 :=
    Nat.mul_le_mul ((Nat.mod_lt n hpos).le.trans hslots) htokens.le
  rw [RingCfg.key, memKey]
  omega

/-- A write below the keys of T2 meets no poisoned granule. -/
theorem Device.store_of_t1 {d : Device} {key : Nat} (bs : List Byte) (hkey : key < 2 ^ 53) : d.store key bs = d.writeBytes key bs := by
  have hspace : key / 2 ^ 53 = 0 := Nat.div_eq_of_lt hkey
  rw [Device.store, hspace]
  exact if_pos (by simp)

/-! ### Fills (R303, R304, R309) -/

section Fills
variable {d : Device} {p col ch i : Nat} {c : RingCfg} {x : StepInst} {e : RingRec}

/-- R303: a ring after it has issued a fill. -/
def Ring.issued (r : Ring) (uid : Nat) (x : StepInst) (e : RingRec) (src : Option Nat) : Ring :=
  { (r.give x.uid) with
    nextFill := r.nextFill + 1
    fills := r.fills ++ [{ index := r.nextFill, uid := uid, step := x.uid, bytes := e.bytes, src := src }] }

theorem Device.issueFill_null : d.issueFill p col ch x e none =
    ({ d with nextUid := d.nextUid + 1 } : Device).modRing p col ch (fun r => r.issued d.nextUid x e none) := rfl

/-- R303: a fill from this device asks no other. -/
theorem Device.issueFill_own {a : Nat} (hself : d.isSelf (addrDevice a) = true) : d.issueFill p col ch x e (some a) =
    (({ d with nextUid := d.nextUid + 1 } : Device).modRing p col ch (fun r => r.issued d.nextUid x e (some a))).addRingWork
      (16 * p + col) d.nextUid := if_pos hself

/-- R298: modes beyond the index list and the logit buffer give no address. -/
theorem Device.ringAddr_of_null {mode base list tokens n : Nat} (hmode : 3 ≤ mode) :
    d.ringAddr p col ch mode base list tokens n = .null := by
  obtain ⟨m, rfl⟩ := Nat.exists_eq_add_of_le' hmode
  rfl

/-- A ring that may issue a fill goes by the address that its table gives. -/
theorem fxRingFillIssue_of_open (hp : p < 12) (hcol : col < 16) (hch : ch < 2) (hgoes : (d.fab p).halted = false)
    (hopen : (d.part p).closed = false) (hstopped : (d.portRing p col ch).stopped = false)
    (hring : (d.part p).stop.ring col ch = some c) (hnext : d.nextFill p col ch = some (x, e, i))
    (hroom : (d.portRing p col ch).nextFill < (d.portRing p col ch).keep + c.slots)
    (hslot : (d.portRing p col ch).fills.any (fun f => f.index % c.slots == (d.portRing p col ch).nextFill % c.slots) = false) :
    fxRingFillIssue p col ch d = match d.ringAddr p col ch e.mode e.base e.list c.tokens i with
      | .wait => d.askList p col ch e.list i
      | .refused st => d.ringError p col ch st
      | .poison g => d.parityFault x.job p g x.stepId
      | .null => (d.listTaken p col ch).issueFill p col ch x e none
      | .at a =>
        let st := d.ringRefusal p a e.bytes false
        if st ≠ 0 then d.ringError p col ch st
        else (if e.mode = 1 then d.listTaken p col ch else d).issueFill p col ch x e (some a) := by
  simp only [fxRingFillIssue, hring, hnext]
  refine (if_neg (by simp [hp, hcol, hch, hgoes, hopen, hstopped])).trans ((if_neg (by simp [hroom, hslot])).trans ?_)
  rfl

end Fills

/-! ### Where the bytes go (R302, R304, R306) -/

section Slots
variable {d : Device} {p col ch : Nat} {c : RingCfg}

/-- R302: a ring whose fill `f` is in its slot. -/
def Ring.filled (r : Ring) (f : Fill) : Ring :=
  { r with tail := r.tail + 1, fills := r.fills.map (fun g => if g.uid = f.uid then { g with done := true } else g) }

/-- R302, R303: the last byte of a fill: its bytes into T1, its traces gone, its ring moved on. -/
theorem Device.fillDone_of_t1 {f : Fill} (bs : List Byte) (hkey : c.key p f.index < 2 ^ 53) :
    d.fillDone p col ch c f bs =
      ((((d.writeBytes (c.key p f.index) bs).forget f.uid).endRingWork (16 * p + col) f.uid).bump64
        (regKey MOV_BYTES_LO (16 * p + col)) bs.length).modRing p col ch (fun r => r.filled f) := by
  rw [Device.fillDone, Device.store_of_t1 bs hkey]
  rfl

theorem fxRingFillComplete_of_null {f : Fill} (hp : p < 12) (hcol : col < 16) (hch : ch < 2)
    (hring : (d.part p).stop.ring col ch = some c) (hfill : (d.portRing p col ch).fills.find? (fun f => !f.done) = some f)
    (hsrc : f.src = none) :
    fxRingFillComplete p col ch d = d.fillDone p col ch c f (List.replicate f.bytes 0) := by
  simp only [fxRingFillComplete, hring, hfill, hsrc]
  exact if_neg (by simp [hp, hcol, hch])

theorem fxRingFillComplete_of_bytes {f : Fill} {a : Nat} {bs : List Byte} (hp : p < 12) (hcol : col < 16) (hch : ch < 2)
    (hring : (d.part p).stop.ring col ch = some c) (hfill : (d.portRing p col ch).fills.find? (fun f => !f.done) = some f)
    (hsrc : f.src = some a) (hread : d.readAny f.uid 0 a f.bytes = .bytes bs) :
    fxRingFillComplete p col ch d = d.fillDone p col ch c f bs := by
  simp only [fxRingFillComplete, hring, hfill, hsrc, hread]
  exact if_neg (by simp [hp, hcol, hch])

/-- R304: a ring whose fill `f` is in the fabric. -/
def Ring.given1 (r : Ring) (f : Fill) : Ring :=
  { r with head := r.head + 1, fills := r.fills.map (fun g => if g.uid = f.uid then { g with injected := true } else g) }

/-- What a read finds depends on memory and the command's own writes alone. -/
theorem Device.readBytes_congr {d e : Device} (hmem : e.mem = d.mem) (hwlog : e.wlog = d.wlog) :
    ∀ n a, e.readBytes a n = d.readBytes a n
  | 0, _ => rfl
  | n + 1, a => by
    rw [Device.readBytes, Device.readBytes_congr hmem hwlog n, Device.readBytes, Device.readByte, hmem, hwlog, Device.readByte]

theorem Device.slotTokens_modRing (d : Device) (p col ch : Nat) (g : Ring → Ring) (c : RingCfg) (f : Fill) :
    (d.modRing p col ch g).slotTokens p c f = d.slotTokens p c f := by
  have hread : (d.modRing p col ch g).readBytes (c.key p f.index) (min f.bytes (64 * c.tokens)) =
      d.readBytes (c.key p f.index) (min f.bytes (64 * c.tokens)) :=
      Device.readBytes_congr (d := d) (e := d.modRing p col ch g) rfl rfl _ _
  rw [Device.slotTokens, hread, Device.slotTokens]

theorem fxRingInject_of_done {f : Fill} {x : StepInst} (hp : p < 12) (hcol : col < 16) (hch : ch < 2)
    (hgoes : (d.fab p).halted = false) (hopen : (d.part p).closed = false) (hring : (d.part p).stop.ring col ch = some c)
    (hstep : (d.part p).running = some x)
    (hfill : (d.portRing p col ch).fills.find? (fun f => f.step == x.uid && !f.injected) = some f) (hdone : f.done = true)
    (hcut : d.cutDue p x = false) :
    fxRingInject p col ch d = (d.slotTokens p c f).foldl (fun d t => d.cellEmit p col false ch t)
      (d.modRing p col ch (fun r => r.given1 f)) := by
  have hgoes' : (d.part p).fabric.halted = false := hgoes
  simp only [fxRingInject, hring, hstep, hfill]
  refine (if_neg (by simp [hp, hcol, hch, hgoes', hopen])).trans ((if_neg (by simp [hdone, hcut])).trans ?_)
  rw [Device.slotTokens_modRing]
  rfl

/-- R306: a slot after a token. -/
def OutSlot.took (o : OutSlot) (t : Token) (size : Nat) : OutSlot :=
  { o with tokens := o.tokens + 1, closed := t.fin || o.tokens + 1 == size }

/-- R306: the next outbound token goes into its slot in T1. -/
theorem fxOutboundToken_of_open {x : StepInst} {t : Token} {rest : List Token} {o : OutSlot} (hp : p < 12) (hcol : col < 16)
    (hch : ch = 2 ∨ ch = 3) (hgoes : (d.fab p).halted = false) (hstopped : (d.portRing p col ch).stopped = false)
    (hring : (d.part p).stop.ring col ch = some c) (hstep : (d.part p).running = some x)
    (hbuf : (d.fab p).buf ⟨col, 5, false, ch - 2⟩ = t :: rest)
    (hslot : (d.portRing p col ch).openSlot c x (d.ringEntry x col ch) = some o)
    (hkey : c.key p o.index + 64 * o.tokens < 2 ^ 53) :
    fxOutboundToken p col ch d =
      ((d.modFab p (fun f => (f.setBuf ⟨col, 5, false, ch - 2⟩ rest).freeEntry ⟨col, 5, false, ch - 2⟩)).writeBytes
        (c.key p o.index + 64 * o.tokens) t.bytes).modRing p col ch
        (fun r => r.putSlot (o.took t c.tokens)) := by
  have hgoes' : (d.part p).fabric.halted = false := hgoes
  have hbuf' : (d.part p).fabric.buf ⟨col, 5, false, ch - 2⟩ = t :: rest := hbuf
  have hout : (ch == 2 || ch == 3) = true := by obtain rfl | rfl := hch <;> rfl
  simp only [fxOutboundToken, hring, hstep, hbuf', hslot, Device.store_of_t1 _ hkey]
  exact if_neg (by simp [hp, hcol, hout, hgoes', hstopped])

/-- R306: a ring whose slot `o` has gone to its destination. -/
def Ring.writtenOut (r : Ring) (o : OutSlot) : Ring :=
  { r with head := r.head + 1, keep := r.keep + 1, outs := r.outs.filter (fun y => y.index != o.index) }

/-- The packets of a write-out that leave for another device carry their ring's tag. -/
def Device.tagged (d : Device) (uid tag : Nat) : Device :=
  { d with txq := d.txq.map (fun t => if t.uid = uid then { t with tag := tag } else t) }

/-- R306, R308: a committed slot goes to the address that its table's base and stride give. -/
theorem fxRingWriteOut_of_stride {o : OutSlot} {a : Nat} (hp : p < 12) (hcol : col < 16) (hch : ch = 2 ∨ ch = 3)
    (hgoes : (d.fab p).halted = false) (hstopped : (d.portRing p col ch).stopped = false)
    (hring : (d.part p).stop.ring col ch = some c)
    (hslot : (d.portRing p col ch).outs.find? (fun o => o.closed && o.committed) = some o) (hmode : o.mode = 0)
    (ha : unsignedOf 64 ((o.base : Int) + o.nth * signedOf 64 o.list) = a) (hfree : d.ringRefusal p a (64 * o.tokens) true = 0) :
    fxRingWriteOut p col ch d =
      (((d.sendBytes o.uid (16 * p + col) (d.part p).job 2 p a (d.readBytes (c.key p o.index) (64 * o.tokens))).tagged o.uid
        (ringTag ch)).endRingWork (16 * p + col) o.uid).modRing p col ch (fun r => r.writtenOut o) := by
  have hgoes' : (d.part p).fabric.halted = false := hgoes
  have hout : (ch == 2 || ch == 3) = true := by obtain rfl | rfl := hch <;> rfl
  simp only [fxRingWriteOut, hring, hslot, Device.ringAddr, hmode, ha, hfree, zero_ne_one, if_false, ne_eq, not_true_eq_false]
  exact if_neg (by simp [hp, hcol, hout, hgoes', hstopped])

end Slots

/-- R393, R764: bytes on their way change a counter, what is in flight and what is to be sent. -/
theorem Device.sendBytes_frame (d : Device) (uid chan job cls srcPart a : Nat) (bs : List Byte) : ∃ regs flight txq,
    d.sendBytes uid chan job cls srcPart a bs = { d with regs := regs, flight := flight, txq := txq } := by
  have hsend (e : Device) (l : List Flight) : ∃ flight txq,
      (if !e.isSelf (addrDevice a) then e.writeAny uid chan job cls srcPart a bs else { e with flight := l }) =
        { e with flight := flight, txq := txq } := by
    cases hself : e.isSelf (addrDevice a) with
    | false =>
      rw [if_pos (by decide), Device.writeAny, if_neg (by simp [hself])]
      exact ⟨e.flight, _, rfl⟩
    | true => exact ⟨l, e.txq, rfl⟩
  obtain ⟨e, he, hcounted⟩ : ∃ e : Device, e = { d with regs := e.regs } ∧
      (if chan ≤ 199 then d.bump64 (regKey MOV_BYTES_LO chan) bs.length else d) = e := by
    refine ⟨_, ?_, rfl⟩
    split <;> rfl
  rw [Device.sendBytes, hcounted]
  obtain ⟨flight, txq, hsent⟩ := hsend e _
  refine ⟨e.regs, flight, txq, hsent.trans ?_⟩
  rw [he]

theorem Device.ringRefusal_lt (d : Device) (p a n : Nat) (write : Bool) : d.ringRefusal p a n write < 2 ^ 31 := by
  rw [Device.ringRefusal]
  repeat' split
  all_goals decide

/-- The bytes that a change of a ring follows land in memory. -/
theorem Device.land_modRing_writeBytes (d : Device) (p col ch : Nat) (f : Ring → Ring) (key : Nat) (bs : List Byte) {m : Memory}
    (hquiet : d.wlog = []) : (((d.writeBytes key bs).modRing p col ch f).land m) =
      ({ d with mem := Memory.applyAll m (cellsOf key bs) } : Device).modRing p col ch f :=
  congrArg (fun e : Device => e.modRing p col ch f) (Device.land_writeBytes m key bs hquiet)

/-- Settles O37: fills from an affine table and null ones, their completion, injection, the outbound slot and the write-out. -/
theorem ringsFillInjectAndDrain : Obligations.RingsFillInjectAndDrain := by
  refine fun s p col ch c hrun@⟨_, _, hquiet⟩ hp hcol hgoes hring hstopped =>
    ⟨fun x e i hch hopen hnext hroom hslot => ⟨fun hmode harrived => ?null, fun hmode => ⟨fun hfree hself => ?own,
      fun st hst hbad => ?refused⟩⟩, fun f bs hch hfill hbytes => ?filled,
     fun x f hch hopen hstep hfill hdone hcut hcredit => ?inject, fun x t rest o hch hstep hbuf hslot hroom => ?outbound,
     fun o hch hslot hmode hfree hself => ?writeOut⟩
  case null =>
    have hissue := fxRingFillIssue_of_open hp hcol hch hgoes hopen hstopped hring hnext hroom hslot
    rw [Device.ringAddr_of_null hmode] at hissue
    have hempty : s.dev.arrived.filter (fun e => e.1 != listUid p col ch) = s.dev.arrived := by rw [harrived]; rfl
    have htaken : s.dev.listTaken p col ch = s.dev.modRing p col ch (fun r => { r with asked := false }) := by
      rw [Device.listTaken, Device.forget, hempty]
    rw [htaken] at hissue
    have heffect := hissue.trans (Device.modRing_modRing { s.dev with nextUid := s.dev.nextUid + 1 } p col ch
      (fun r => { r with asked := false }) (fun r => r.issued s.dev.nextUid x e none))
    have hportRing := Device.portRing_modRing_same { s.dev with nextUid := s.dev.nextUid + 1 } p col ch
      (fun r => ({ r with asked := false } : Ring).issued s.dev.nextUid x e none)
    exact Ends.of_effect hrun rfl heffect rfl rfl ⟨congrArg Ring.fills hportRing, congrArg Ring.nextFill hportRing,
      Device.fab_modRing _ _ _ _ _, fun q hq => Device.part_modRing_other _ _ _ _ _ hq, rfl⟩
  case own =>
    have hissue := fxRingFillIssue_of_open hp hcol hch hgoes hopen hstopped hring hnext hroom hslot
    simp only [Device.ringAddr, hmode] at hissue
    have heffect := (hissue.trans ((if_neg (by simp [hfree])).trans rfl)).trans (Device.issueFill_own hself)
    have hportRing := Device.portRing_modRing_same { s.dev with nextUid := s.dev.nextUid + 1 } p col ch
      (fun r => r.issued s.dev.nextUid x e (some (unsignedOf 64 ((e.base : Int) + i * signedOf 64 e.list))))
    exact Ends.of_effect hrun rfl heffect rfl rfl ⟨congrArg Ring.fills hportRing, congrArg Mover.ringWork (Device.mover_modMover_same _ _ _),
      fun q hq => Device.part_modRing_other _ _ _ _ _ hq, rfl⟩
  case refused =>
    have hissue := fxRingFillIssue_of_open hp hcol hch hgoes hopen hstopped hring hnext hroom hslot
    simp only [Device.ringAddr, hmode, hst] at hissue
    have heffect := hissue.trans (if_pos hbad)
    have hportRing := Device.portRing_modRing_same s.dev p col ch (fun r => { r with stopped := true })
    have hfills := congrArg Ring.fills hportRing
    refine Ends.of_effect hrun rfl heffect rfl rfl ⟨congrArg Ring.stopped hportRing, hfills, ?_,
      fun q hq => Device.part_modRing_other _ _ _ _ _ hq, rfl⟩
    have hsmall : st < 2 ^ 31 := hst ▸ Device.ringRefusal_lt _ _ _ _ _
    rw [Device.ringError, Device.reg_setReg_same, Nat.mod_eq_of_lt (by omega)]
  case filled =>
    have hkey : c.key p f.index < 2 ^ 53 := (RingCfg.key_lt hp hring).trans (by decide)
    have hdone : fxRingFillComplete p col ch s.dev = s.dev.fillDone p col ch c f bs := by
      cases hsrc : f.src with
      | none =>
        rw [hsrc] at hbytes
        rw [hbytes]
        exact fxRingFillComplete_of_null hp hcol hch hring hfill hsrc
      | some a =>
        rw [hsrc] at hbytes
        exact fxRingFillComplete_of_bytes hp hcol hch hring hfill hsrc hbytes
    rw [Device.fillDone_of_t1 bs hkey] at hdone
    have hportRing := Device.portRing_modRing_same ((((s.dev.writeBytes (c.key p f.index) bs).forget f.uid).endRingWork (16 * p + col)
      f.uid).bump64 (regKey MOV_BYTES_LO (16 * p + col)) bs.length) p col ch (fun r => r.filled f)
    have hwlog : (s.dev.wlog ++ cellsOf (c.key p f.index) bs) = cellsOf (c.key p f.index) bs := by rw [hquiet, List.nil_append]
    exact Ends.of_landed hrun rfl (congrArg (Device.land · _) hdone) ⟨congrArg (Memory.applyAll s.dev.mem) hwlog,
      congrArg Ring.tail hportRing, congrArg Ring.fills hportRing, fun q hq => Device.part_modRing_other _ _ _ _ _ hq, rfl⟩
  case inject =>
    have heffect := fxRingInject_of_done hp hcol hch hgoes hopen hring hstep hfill hdone hcut
    have hemits := emits_foldl (s.dev.slotTokens p c f) (s.dev.modRing p col ch (fun r => r.given1 f))
      (by rw [Device.fab_modRing]; exact hcredit)
    have hepoch : ((s.dev.modRing p col ch (fun r => r.given1 f)).part p).epoch = (s.dev.part p).epoch := by
      rw [Device.modRing, Device.part_modPart_same]
    have houts := hemits.outs
    rw [Device.fab_modRing, hepoch] at houts
    have hrings := congrArg (fun x : Partition => Table.getD x.rings (ringKey col ch) {}) hemits.part
    have hhead := congrArg Ring.head (hrings.trans (Device.portRing_modRing_same s.dev p col ch (fun r => r.given1 f)))
    refine Ends.of_effect hrun rfl heffect ?_ ?_ ⟨hhead, houts, fun q hq => ?_, ?_⟩
    · rw [hemits.frame]
      rfl
    · rw [hemits.frame]
      rfl
    · exact (hemits.others q hq).trans (Device.part_modRing_other _ _ _ _ _ hq)
    · exact hemits.frame
  case outbound =>
    have hkey : c.key p o.index + 64 * o.tokens < 2 ^ 53 := by
      have hbase := RingCfg.key_lt (n := o.index) hp hring
      obtain ⟨-, -, -, -, htokens⟩ := StopCfg.ring_bounds hring
      omega
    have heffect := fxOutboundToken_of_open hp hcol hch hgoes hstopped hring hstep hbuf hslot hkey
    have hlanded := (congrArg (Device.land · s.dev.mem) heffect).trans (Device.land_modRing_writeBytes _ _ _ _ _ _ _ hquiet)
    have hring' : (s.dev.modFab p (fun f => (f.setBuf ⟨col, 5, false, ch - 2⟩ rest).freeEntry ⟨col, 5, false, ch - 2⟩)).portRing
        p col ch = s.dev.portRing p col ch := by
      rw [Device.portRing, Device.modFab, Device.part_modPart_same]
      rfl
    have hgone : ((s.dev.modFab p (fun f => (f.setBuf ⟨col, 5, false, ch - 2⟩ rest).freeEntry ⟨col, 5, false, ch - 2⟩)).fab p).buf
        ⟨col, 5, false, ch - 2⟩ = rest := by
      rw [Device.fab_modFab_same, Fabric.buf_freeEntry, Fabric.buf_setBuf_same]
    have hothers (q : Nat) (hq : q ≠ p) := Device.part_modFab_other s.dev p
      (fun f => (f.setBuf ⟨col, 5, false, ch - 2⟩ rest).freeEntry ⟨col, 5, false, ch - 2⟩) hq
    obtain ⟨e, he⟩ : ∃ e, e = s.dev.modFab p (fun f => (f.setBuf ⟨col, 5, false, ch - 2⟩ rest).freeEntry ⟨col, 5, false, ch - 2⟩) :=
      ⟨_, rfl⟩
    rw [← he] at hlanded hring' hgone hothers
    have hframe : e = { s.dev with parts := e.parts } := he ▸ rfl
    refine Ends.of_landed hrun rfl hlanded ?_
    clear hlanded heffect
    generalize Memory.applyAll s.dev.mem (cellsOf (c.key p o.index + 64 * o.tokens) t.bytes) = m
    refine ⟨Device.modPart_mem _ _ _, ?_, ?_, fun q hq => ?_, ?_⟩
    · exact (Device.portRing_modRing_same _ _ _ _ _).trans (congrArg (fun r : Ring => r.putSlot (o.took t c.tokens)) hring')
    · exact (congrArg (fun f : Fabric => f.buf ⟨col, 5, false, ch - 2⟩) (Device.fab_modRing _ _ _ _ _)).trans hgone
    · exact (Device.part_modRing_other _ _ _ _ _ hq).trans (hothers q hq)
    · clear he hothers hgone hring'
      obtain ⟨x, rfl⟩ : ∃ x, e = { s.dev with parts := x } := ⟨e.parts, hframe⟩
      rfl
  case writeOut =>
    have heffect := fxRingWriteOut_of_stride hp hcol hch hgoes hstopped hring hslot hmode rfl hfree
    generalize s.dev.readBytes (c.key p o.index) (64 * o.tokens) = bs at heffect ⊢
    obtain ⟨regs, flight, txq, hsent⟩ := Device.sendBytes_frame s.dev o.uid (16 * p + col) (s.dev.part p).job 2 p
      (unsignedOf 64 ((o.base : Int) + o.nth * signedOf 64 o.list)) bs
    rw [hsent] at heffect ⊢
    have hportRing := Device.portRing_modRing_same ((({ s.dev with regs := regs, flight := flight, txq := txq } : Device).tagged o.uid
      (ringTag ch)).endRingWork (16 * p + col) o.uid) p col ch (fun r => r.writtenOut o)
    exact Ends.of_effect hrun rfl heffect rfl rfl ⟨congrArg Ring.head hportRing, congrArg Ring.keep hportRing,
      congrArg Ring.outs hportRing, rfl, rfl, fun q hq => Device.part_modRing_other _ _ _ _ _ hq⟩

end Sys2Proof.Machine
end

section
/-!
SUPPORT. The queue unit's commands: queues made and taken away, packets pushed, popped and skipped (R427, R428, R462 to R467).
-/
namespace Sys2Proof.Machine

/-! ### Queues as storage -/

section Storage
variable (d : Device) (p q : Nat) (x : Queue)

theorem Device.queue?_congr {d e : Device} (h : e.queues = d.queues) (p q : Nat) : e.queue? p q = d.queue? p q := by
  rw [Device.queue?, Device.qpart, h, Device.queue?, Device.qpart]

@[simp] theorem Device.qpart_setQueue_same :
    (d.setQueue p q x).qpart p = { d.qpart p with queues := Table.put (d.qpart p).queues q x } := Table.getD_put_same _ _ _ _

theorem Device.qpart_setQueue_other {k : Nat} (hk : k ≠ p) : (d.setQueue p q x).qpart k = d.qpart k :=
  Table.getD_put_other _ _ _ _ _ hk

@[simp] theorem Device.queue?_setQueue_same : (d.setQueue p q x).queue? p q = some x := by
  rw [Device.queue?, Device.qpart_setQueue_same]
  exact Table.find?_put_same _ _ _

theorem Device.queue?_setQueue_other {k : Nat} (hk : k ≠ q) : (d.setQueue p q x).queue? p k = d.queue? p k := by
  rw [Device.queue?, Device.qpart_setQueue_same]
  exact Table.find?_put_other _ _ _ _ hk

end Storage

/-- R30: what an origin may start next is its own. -/
theorem Device.origin_of_startable {d : Device} {o : Origin} {opcode : Nat} {e : Staged} (hnext : d.startable o opcode = some e) :
    e.cmd.origin = o := by
  have hmem := List.mem_of_find?_eq_some hnext
  simpa using (List.mem_filter.mp hmem).2

theorem Device.complete_arrived (d : Device) (c : CmdRef) (st : Nat) (v : List Byte) : (d.complete c st v).arrived = d.arrived := by
  rw [Device.complete_frame]

/-! ### Queues made and taken away (R463, R464) -/

section Made
variable {d : Device} {o : Origin} {e : Staged}

/-- R463: a queue that fits is placed. -/
theorem fxQueueCreate_of_fit {base : Nat} (hnext : d.startable o 0x30 = some e) (hmax : e.op 16 4 ≠ 0)
    (hcapacity : e.op 16 4 + 1 ≤ e.op 12 4) (hlimit : e.op 12 4 ≤ 65536)
    (harg : e.op 20 2 ≤ (if e.op 10 1 % 4 = 2 then 11 else 2047)) (hnew : d.queue? (e.op 8 1) (e.op 9 1) = none)
    (hjob : (d.part (e.op 8 1)).job ≠ 0) (hcarved : (d.qpart (e.op 8 1)).carved = true)
    (hfit : (d.qpart (e.op 8 1)).firstFit (e.op 12 4) = some base) :
    fxQueueCreate o d = ((d.start e).setQueue (e.op 8 1) (e.op 9 1)
      { base := base, capacity := e.op 12 4, maxPacket := e.op 16 4, notify := e.op 10 1 % 4, notifyArg := e.op 20 2,
        stallLimit := e.op 22 2 }).complete e.cmd 0 (leBytes 2 base) := by
  rw [fxQueueCreate, Device.run_of_startable _ hnext]
  refine (if_neg (by simpa [hmax, hlimit, harg] using hcapacity)).trans ?_
  have hnone : ((d.start e).queue? (e.op 8 1) (e.op 9 1)).isSome = false := by
    rw [Device.queue?_congr (d := d) (e := d.start e) rfl, hnew]
    rfl
  have hplace : (if ((d.start e).part (e.op 8 1)).job = 0 || !((d.start e).qpart (e.op 8 1)).carved then none
      else ((d.start e).qpart (e.op 8 1)).firstFit (e.op 12 4)) = some base :=
    (if_neg (by simpa using ⟨hjob, hcarved⟩)).trans hfit
  rw [if_neg (by simp [hnone]), hplace]

/-- The registers of a queue, which go with it. -/
def queueRegs (p q : Nat) (e : Nat × Nat) : Bool :=
  e.1 / 2 ^ 26 == queInst p q && decide (0x300004 ≤ e.1 % 2 ^ 26) && decide (e.1 % 2 ^ 26 ≤ 0x300044)

/-- R427: a queue that no pop waits on goes with its registers. -/
theorem Device.removeQueue_of_no_pop {p q : Nat} {x : Queue} (hqueue : d.queue? p q = some x) (hwaiting : x.waiting = []) :
    d.removeQueue p q = { d.modQpart p (fun u => { u with queues := Table.drop u.queues q }) with
      regs := d.regs.filter (fun e => !queueRegs p q e) } := by
  simp only [Device.removeQueue, hqueue, hwaiting]
  rfl

theorem fxQueueDestroy_of_session {x : Queue} (hnext : d.startable o 0x31 = some e)
    (hqueue : d.queue? (e.op 8 1) (e.op 9 1) = some x) (hsession : x.image = 0) :
    fxQueueDestroy o d = ((d.start e).removeQueue (e.op 8 1) (e.op 9 1)).complete e.cmd 0 [] := by
  have hqueue' : (d.start e).queue? (e.op 8 1) (e.op 9 1) = some x := hqueue
  rw [fxQueueDestroy, Device.run_of_startable _ hnext]
  simp only [hqueue']
  exact if_neg (by simp [hsession])

/-- R464: an image's queue stays. -/
theorem fxQueueDestroy_of_image {x : Queue} (hnext : d.startable o 0x31 = some e)
    (hqueue : d.queue? (e.op 8 1) (e.op 9 1) = some x) (himage : x.image ≠ 0) :
    fxQueueDestroy o d = (d.start e).complete e.cmd 0x0405 [] := by
  have hqueue' : (d.start e).queue? (e.op 8 1) (e.op 9 1) = some x := hqueue
  rw [fxQueueDestroy, Device.run_of_startable _ hnext]
  simp only [hqueue']
  exact if_pos himage

end Made

/-! ### Packets pushed (R436 to R440, R444, R465) -/

section Pushed
variable (d : Device) (p q id level : Nat) (seq : Option Nat)

theorem Device.dropPacket_frame (x : Queue) (n m words reasons : Nat) : ∃ queues regs,
    d.dropPacket p q x id n m words reasons = { d with queues := queues, regs := regs } := by
  rw [Device.dropPacket]
  split
  split <;> exact ⟨_, _, rfl⟩

/-- R440, R444: what becomes of a further word of the packet `y`, the rest of its queue's partial packets being `rest`. -/
def Device.storeWord (bytes : List Byte) (fin : Bool) (x : Queue) (y : Packet) (rest : List Packet) : Device :=
  if x.maxPacket < y.words.length + 1 then
    d.dropPacket p q (if fin then x else { x with discarding := x.discarding ++ [(id, false)] }) id y.seq y.level
      (y.words.length + 1) dropOverlong
  else if x.capacity - 1 < x.packetWords + 1 then
    d.dropPacket p q (if fin then x else { x with discarding := x.discarding ++ [(id, false)] }) id y.seq y.level
      (y.words.length + 1) dropFull
  else if fin then
    (d.setQueue p q { x with partials := rest, packets := x.packets ++ [{ y with words := y.words ++ [padTo 64 bytes] }] }).bump64
      (regKey QUE_STORED_LO (queInst p q)) 1
  else d.setQueue p q { x with partials := rest ++ [{ y with words := y.words ++ [padTo 64 bytes] }] }

theorem Device.storeWord_frame (bytes : List Byte) (fin : Bool) (x : Queue) (y : Packet) (rest : List Packet) : ∃ queues regs,
    d.storeWord p q id bytes fin x y rest = { d with queues := queues, regs := regs } := by
  rw [Device.storeWord]
  split
  · exact Device.dropPacket_frame ..
  · split
    · exact Device.dropPacket_frame ..
    · split <;> exact ⟨_, _, rfl⟩

/-- R436: the first word of a packet. -/
theorem Device.queueWord_of_first {bytes : List Byte} {fin : Bool} {x : Queue} (hqueue : d.queue? p q = some x)
    (hdiscarding : x.discarding.find? (fun e => e.1 == id) = none) (hpartials : x.partials.find? (fun y => y.producer == id) = none) :
    d.queueWord p q id level seq bytes fin = match x.verdict id seq with
      | (.duplicate, x) =>
        (d.setQueue p q (if fin then x else { x with discarding := x.discarding ++ [(id, true)] })).queBump p q QUE_DUP_COUNT 1
      | (.tooMany s, x) =>
        d.dropPacket p q (if fin then x else { x with discarding := x.discarding ++ [(id, false)] }) id s level 1 dropProducerOver
      | (.accepted s, x) => d.storeWord p q id bytes fin x { producer := id, seq := s, level := level, words := [] } x.partials := by
  simp only [Device.queueWord, hqueue, hdiscarding, hpartials]
  rfl

/-- R440, R444: a word changes its queue and its counters. -/
theorem Device.queueWord_frame (bytes : List Byte) (fin : Bool) : ∃ queues regs,
    d.queueWord p q id level seq bytes fin = { d with queues := queues, regs := regs } := by
  cases hqueue : d.queue? p q with
  | none =>
    simp only [Device.queueWord, hqueue]
    exact ⟨d.queues, d.regs, rfl⟩
  | some x =>
    cases hdiscarding : x.discarding.find? (fun e => e.1 == id) with
    | some e =>
      simp only [Device.queueWord, hqueue, hdiscarding]
      exact ⟨_, _, rfl⟩
    | none =>
      cases hpartials : x.partials.find? (fun y => y.producer == id) with
      | some y =>
        simp only [Device.queueWord, hqueue, hdiscarding, hpartials]
        exact Device.storeWord_frame d p q id bytes fin x y _
      | none =>
        rw [Device.queueWord_of_first _ _ _ _ _ _ hqueue hdiscarding hpartials]
        split
        · exact ⟨_, _, rfl⟩
        · exact Device.dropPacket_frame ..
        · exact Device.storeWord_frame ..

theorem Device.pushPacket_frame : ∀ (d : Device) (ws : List (List Byte)), ∃ queues regs,
    d.pushPacket p q id level seq ws = { d with queues := queues, regs := regs }
  | d, [] => ⟨d.queues, d.regs, rfl⟩
  | d, [w] => d.queueWord_frame p q id level seq w true
  | d, w :: v :: ws => by
    obtain ⟨queues, regs, hword⟩ := d.queueWord_frame p q id level seq w false
    obtain ⟨queues', regs', hrest⟩ := Device.pushPacket_frame (d.queueWord p q id level seq w false) (v :: ws)
    rw [Device.pushPacket, hrest, hword]
    · exact ⟨queues', regs', rfl⟩
    · exact List.cons_ne_nil _ _

end Pushed

section Push
variable {d : Device} {o : Origin} {e : Staged} {x : Queue}

/-- R436 to R438: the check of a packet's first word changes the producers alone. -/
theorem Queue.verdict_frame (x : Queue) (id : Nat) (seq : Option Nat) :
    (x.verdict id seq).2 = { x with producers := (x.verdict id seq).2.producers } := by
  have hset (r : Producer) : x.setProducer r = { x with producers := (x.setProducer r).producers } := by
    rw [Queue.setProducer]
    split <;> rfl
  rw [Queue.verdict]
  split
  · dsimp only
    split
    · rfl
    · exact hset _
  · have hchecked (r t : Producer) (n m : Nat) :
        (if seqAbove n m then (Verdict.accepted n, x.setProducer r) else (.duplicate, x.setProducer t)).2 =
          { x with producers :=
            (if seqAbove n m then (Verdict.accepted n, x.setProducer r) else (.duplicate, x.setProducer t)).2.producers } := by
      split <;> exact hset _
    exact hchecked _ _ _ _

/-- R440: an accepted packet of one word joins the others. -/
theorem Device.queueWord_of_accepted {p q id level n : Nat} {seq : Option Nat} {w : List Byte} {y : Queue}
    (hqueue : d.queue? p q = some x) (hdiscarding : x.discarding = []) (hpartials : x.partials = [])
    (hverdict : x.verdict id seq = (.accepted n, y)) (hlen : 1 ≤ x.maxPacket) (hroom : x.packetWords + 1 ≤ x.capacity - 1) :
    d.queueWord p q id level seq w true =
      (d.setQueue p q { y with packets := y.packets ++ [{ producer := id, seq := n, level := level, words := [padTo 64 w] }] }).bump64
        (regKey QUE_STORED_LO (queInst p q)) 1 := by
  obtain ⟨producers, rfl⟩ : ∃ r, y = { x with producers := r } := by
    have hframe := x.verdict_frame id seq
    rw [hverdict] at hframe
    exact ⟨_, hframe⟩
  have hwords : ({ x with producers := producers } : Queue).packetWords = x.packetWords := rfl
  rw [Device.queueWord_of_first _ _ _ _ _ _ hqueue (by rw [hdiscarding]; rfl) (by rw [hpartials]; rfl), hverdict]
  refine (if_neg ?_).trans ((if_neg ?_).trans rfl)
  · exact Nat.not_lt.mpr hlen
  · exact hwords ▸ Nat.not_lt.mpr hroom

theorem Device.readBytes_length (d : Device) : ∀ n a, (d.readBytes a n).length = n
  | 0, _ => rfl
  | n + 1, a => by rw [Device.readBytes, List.length_cons, Device.readBytes_length]

/-- R465: a push whose words are this device's reads them at once, and pushes them. -/
theorem fxQueuePush_of_self (hnew : d.startedOp o 0x32 = none) (hnext : d.startable o 0x32 = some e)
    (hqueue : d.queue? (e.op 8 1) (e.op 9 1) = some x) (hlen : e.op 24 4 ≤ x.maxPacket)
    (hself : d.isSelf (addrDevice (e.op 16 8)) = true) (hspace : addrSpace (e.op 16 8) ≠ 4)
    (hclean : d.poisonIn (localKey (e.op 16 8)) (64 * e.op 24 4) = none) :
    fxQueuePush o 0 none d =
      (((d.start e).forget e.cmd.uid).pushPacket (e.op 8 1) (e.op 9 1) e.cmd.origin.producer (e.op 10 1) (some (e.op 12 4))
        (chunksOf 64 (e.op 24 4) (d.readBytes (localKey (e.op 16 8)) (64 * e.op 24 4)))).complete e.cmd 0
        (leBytes 1 (d.pushVerdict (e.op 8 1) (e.op 9 1) e.cmd.origin.producer (some (e.op 12 4)) (e.op 24 4))) := by
  have hself' : (d.start e).isSelf (addrDevice (e.op 16 8)) = true := hself
  have hclean' : (d.start e).poisonIn (localKey (e.op 16 8)) (64 * e.op 24 4) = none := hclean
  have hue : (d.start e).ueIn (e.op 16 8) (64 * e.op 24 4) none = false := by simp [Device.ueIn]
  have hsecded : (d.start e).secded (e.op 16 8) 0 none = d.start e := if_neg (by simp [hspace])
  have hremote (uid n : Nat) : (d.start e).requestRemote uid hubChan 0 4 15 0 (e.op 16 8) n = d.start e := if_pos hself'
  have hread : (d.start e).readAny e.cmd.uid 0 (e.op 16 8) (64 * e.op 24 4) =
      .bytes (d.readBytes (localKey (e.op 16 8)) (64 * e.op 24 4)) := by
    rw [Device.readAny, if_pos hself', hclean', Device.readBytes_congr (d := d) (e := d.start e) rfl rfl]
  have hqueue' : ((d.start e).forget e.cmd.uid).queue? (e.op 8 1) (e.op 9 1) = some x := hqueue
  simp only [fxQueuePush, hnew, Device.run_of_startable _ hnext, hue, hsecded, hremote, Device.runPush, hread,
    Device.finishPush, hqueue']
  refine (if_neg Bool.false_ne_true).trans ((if_neg (by omega)).trans ?_)
  rfl

end Push

/-! ### Packets popped and skipped (R448, R449, R466, R467) -/

theorem Device.poisonedReturn_frame (d : Device) (g k : Nat) : ∃ regs, d.poisonedReturn g k = { d with regs := regs } := by
  rw [Device.poisonedReturn]
  dsimp only
  split <;> split <;> exact ⟨_, rfl⟩

/-- R370, R371: a write of bytes may end poison and count it; nothing else follows it. -/
theorem Device.store_frame (d : Device) (key : Nat) (bs : List Byte) : ∃ regs poison,
    d.store key bs = { d.writeBytes key bs with regs := regs, poison := poison } := by
  have hparts (l : List Nat) (e : Device) : ∃ regs, l.foldl (fun d g => d.poisonedReturn g 1) e = { e with regs := regs } := by
    induction l generalizing e with
    | nil => exact ⟨e.regs, rfl⟩
    | cons g l ih =>
      obtain ⟨regs, hone⟩ := e.poisonedReturn_frame g 1
      obtain ⟨regs', hrest⟩ := ih (e.poisonedReturn g 1)
      exact ⟨regs', hrest.trans (by rw [hone])⟩
  rw [Device.store]
  dsimp only
  split
  · exact ⟨d.regs, d.poison, rfl⟩
  · obtain ⟨regs, hfold⟩ := hparts _ _
    exact ⟨regs, _, hfold⟩

/-- The bytes of a write are in memory as its command ends. -/
theorem Device.land_store {d : Device} (m : Memory) (key : Nat) (bs : List Byte) (hquiet : d.wlog = []) : ∃ regs poison,
    (d.store key bs).land m = { d with mem := Memory.applyAll m (cellsOf key bs), regs := regs, poison := poison } := by
  obtain ⟨regs, poison, hstored⟩ := d.store_frame key bs
  have hlanded := congrArg (fun e : Device => { e with regs := regs, poison := poison }) (Device.land_writeBytes m key bs hquiet)
  exact ⟨regs, poison, (congrArg (Device.land · m) hstored).trans hlanded⟩

/-- What a command has written lands whether it has completed or not. -/
theorem Device.land_complete (d : Device) (c : CmdRef) (st : Nat) (v : List Byte) (m : Memory) :
    (d.complete c st v).land m = (d.land m).complete c st v := by
  rw [Device.complete, Device.post, Device.complete, Device.post]
  split
  · rfl
  · split <;> rfl
  · rfl
  · rfl

/-- R42: whose addresses are this device's own depends on its index alone. -/
theorem Device.isSelf_of_index {d e : Device} (h : e.reg HUB_DEVICE_INDEX = d.reg HUB_DEVICE_INDEX) (n : Nat) :
    e.isSelf n = d.isSelf n := by
  rw [Device.isSelf, Device.isSelf, Device.inDomain, Device.inDomain, Device.index, Device.index, Device.regField, Device.regField,
    Device.regField, Device.regField, h]

theorem Device.index_queueCe (d : Device) (p ce : Nat) : (d.queueCe p ce).reg HUB_DEVICE_INDEX = d.reg HUB_DEVICE_INDEX := by
  have hkey : regKey QUE_CE_COUNT_LO p = 0x300110 + 2 ^ 26 * p := rfl
  have hlow : HUB_DEVICE_INDEX ≠ regKey QUE_CE_COUNT_LO p := by rw [hkey, HUB_DEVICE_INDEX]; omega
  have hhigh : HUB_DEVICE_INDEX ≠ regKey QUE_CE_COUNT_LO p + 4 := by rw [hkey, HUB_DEVICE_INDEX]; omega
  rw [Device.queueCe, Device.bump64, Device.reg_setReg_other _ _ _ _ hhigh, Device.reg_setReg_other _ _ _ _ hlow]

section Pop
variable {d : Device} {o : Origin} {e : Staged} {x : Queue}

/-- R466: a queue after `n` words of its packet `i` have gone to the origin with the key `k`. -/
def Queue.popped (x : Queue) (i k n : Nat) (y : Packet) : Queue :=
  { x with packets := x.packets.eraseIdx i
           current := if (y.words.drop n).isEmpty then none else some (k, { y with words := y.words.drop n }) }

/-- R466: a pop from a free queue tries it. -/
theorem fxQueuePop_of_free (hidle : d.waitingPop o = none) (hnext : d.startable o 0x33 = some e)
    (hlive : d.popFault (e.op 8 1) = none) (hqueue : d.queue? (e.op 8 1) (e.op 9 1) = some x) (hcurrent : x.current = none)
    (hwritable : d.isReadOnly (e.op 16 8) (64 * e.op 12 4) = false) :
    fxQueuePop o 0 none d =
      ((d.start e).tryPop (e.op 8 1) (e.op 9 1) e.cmd (e.op 12 4) (e.op 16 8) 0 none).getD
        (if x.stallLimit = 0 then (d.start e).complete e.cmd 0x0403 []
         else (d.start e).setQueue (e.op 8 1) (e.op 9 1) { x with waiting := x.waiting ++ [(e.cmd, e.op 12 4, e.op 16 8)] }) := by
  have hlive' : (d.start e).popFault (e.op 8 1) = none := hlive
  have hqueue' : (d.start e).queue? (e.op 8 1) (e.op 9 1) = some x := hqueue
  have hwritable' : (d.start e).isReadOnly (e.op 16 8) (64 * e.op 12 4) = false := hwritable
  simp only [fxQueuePop, hidle, Device.run_of_startable _ hnext, hlive', hqueue', hwritable', hcurrent]
  refine (if_neg Bool.false_ne_true).trans ((if_neg Bool.false_ne_true).trans ?_)
  cases (d.start e).tryPop (e.op 8 1) (e.op 9 1) e.cmd (e.op 12 4) (e.op 16 8) 0 none <;> rfl

theorem Device.tryPop_of_empty {p q n dst : Nat} {c : CmdRef} (hqueue : d.queue? p q = some x) (hcurrent : x.current = none)
    (hitem : x.nextItem = none) : d.tryPop p q c n dst 0 none = none := by
  simp only [Device.tryPop, hqueue, hcurrent, hitem]

/-- R448, R466: the next packet's words are written where DST says. -/
theorem Device.tryPop_of_packet {p q n dst i : Nat} {c : CmdRef} {y : Packet} (hqueue : d.queue? p q = some x)
    (hcurrent : x.current = none) (hitem : x.nextItem = some (.packet i y)) (hself : d.isSelf (addrDevice dst) = true) :
    d.tryPop p q c n dst 0 none =
      some ((((d.queueCe p 0).setQueue p q (x.popped i c.origin.key n y)).store (localKey dst) (y.words.take n).flatten).complete c 0
        (popValue (y.words.take n).length y.level (bit y.marker) (!(y.words.drop n).isEmpty))) := by
  have hself' : ((d.queueCe p 0).setQueue p q (x.popped i c.origin.key n y)).isSelf (addrDevice dst) = true := by
    rw [← hself]
    exact Device.isSelf_of_index (d.index_queueCe p 0) _
  simp only [Device.tryPop, hqueue, hcurrent, hitem, Device.popDeliver]
  rw [← Queue.popped, Device.writeAny_of_isSelf _ _ _ _ _ _ hself']

/-- R467: a pop that waits ends as its time is over. -/
theorem fxQueuePopTimeout_of_waiting {p q n dst : Nat} {c : CmdRef} (hwaits : d.waitingPop o = some (p, q, c, n, dst))
    (hqueue : d.queue? p q = some x) : fxQueuePopTimeout o d = (d.setQueue p q (x.unwait c.uid)).complete c 0x0403 [] := by
  simp only [fxQueuePopTimeout, hwaits, hqueue]

/-- R466: a skip drops the rest of its origin's packet. -/
theorem fxQueueSkip_of_current {y : Packet} (hnext : d.startable o 0x34 = some e)
    (hqueue : d.queue? (e.op 8 1) (e.op 9 1) = some x) (hcurrent : x.current = some (e.cmd.origin.key, y)) :
    fxQueueSkip o d = (((d.start e).setQueue (e.op 8 1) (e.op 9 1) { x with current := none }).queBump (e.op 8 1) (e.op 9 1)
      QUE_SKIP_COUNT 1).complete e.cmd 0 (valueOf y.words.length) := by
  have hqueue' : (d.start e).queue? (e.op 8 1) (e.op 9 1) = some x := hqueue
  simp only [fxQueueSkip, Device.run_of_startable _ hnext, hqueue', hcurrent]
  exact if_pos trivial

theorem fxQueueSkip_of_none (hnext : d.startable o 0x34 = some e)
    (hqueue : d.queue? (e.op 8 1) (e.op 9 1) = some x) (hcurrent : x.current = none) :
    fxQueueSkip o d = ((d.start e).queBump (e.op 8 1) (e.op 9 1) QUE_SKIP_IGNORED 1).complete e.cmd 0 [] := by
  have hqueue' : (d.start e).queue? (e.op 8 1) (e.op 9 1) = some x := hqueue
  simp only [fxQueueSkip, Device.run_of_startable _ hnext, hqueue', hcurrent]

end Pop

/-- Settles O39: each command's effect is the device of its equation above; a push's packet is judged before its words are stored. -/
theorem queueCommandsComplete : Obligations.QueueCommandsComplete := by
  refine fun s o e p q hrun@⟨_, _, hquiet⟩ hp hq => ?_
  subst hp hq
  refine ⟨fun base hnext hmax hcapacity hlimit harg hnew hjob hcarved hfit => ?create,
    fun x hnext hqueue hwaiting => ⟨fun hsession => ?destroy, fun himage => ?keep⟩,
    fun x hnext hfirst hqueue hlen hself hspace hclean => ?push,
    fun x hnext hidle hlive hqueue hcurrent hwritable hself => ⟨fun i y hitem => ?pop, fun hitem => ⟨fun hstall => ?empty, fun hstall => ?wait⟩⟩,
    fun x c n dst hwaits hqueue => ?timeout, fun x hnext hqueue => ⟨fun y hcurrent => ?skip, fun hcurrent => ?ignored⟩⟩
  case create =>
    refine Ends.of_effect hrun rfl (fxQueueCreate_of_fit hnext hmax hcapacity hlimit harg hnew hjob hcarved hfit) (by simp; rfl)
      (by simp; rfl) ⟨?_, fun k hk => ?_, fun k hk => ?_, ?_⟩
    · exact (Device.queue?_congr (Device.complete_queues _ _ _ _) _ _).trans (Device.queue?_setQueue_same _ _ _ _)
    · exact (Device.queue?_congr (Device.complete_queues _ _ _ _) _ _).trans (Device.queue?_setQueue_other _ _ _ _ hk)
    · rw [Device.qpart, Device.complete_queues]
      exact Device.qpart_setQueue_other _ _ _ _ hk
    · rw [Device.complete_queues]
      rfl
  case destroy =>
    have heffect := fxQueueDestroy_of_session hnext hqueue hsession
    rw [Device.removeQueue_of_no_pop (d := s.dev.start e) hqueue hwaiting] at heffect
    refine Ends.of_effect hrun rfl heffect (by simp; rfl) (by simp; rfl) ⟨?_, fun k hk => ?_, fun k hk => ?_, ?_⟩
    · rw [Device.queue?, Device.qpart, Device.complete_queues]
      exact (congrArg (fun u : QueuePart => Table.find? u.queues _) (Table.getD_put_same _ _ _ _)).trans (Table.find?_drop_same _ _)
    · rw [Device.queue?, Device.qpart, Device.complete_queues]
      exact (congrArg (fun u : QueuePart => Table.find? u.queues _) (Table.getD_put_same _ _ _ _)).trans (Table.find?_drop_other _ _ _ hk)
    · rw [Device.qpart, Device.complete_queues]
      exact Table.getD_put_other _ _ _ _ _ hk
    · rw [Device.complete_queues, Device.complete_regs]
      rfl
  case keep =>
    exact Ends.of_effect hrun rfl (fxQueueDestroy_of_image hnext hqueue himage) (by simp) (by simp) rfl
  case push =>
    have horigin : e.cmd.origin = o := Device.origin_of_startable hnext
    have heffect := fxQueuePush_of_self hfirst hnext hqueue hlen hself hspace hclean
    rw [horigin] at heffect
    obtain ⟨queues, regs, hpushed⟩ := Device.pushPacket_frame (e.op 8 1) (e.op 9 1) o.producer (e.op 10 1)
      (some (e.op 12 4)) ((s.dev.start e).forget e.cmd.uid)
      (chunksOf 64 (e.op 24 4) (s.dev.readBytes (localKey (e.op 16 8)) (64 * e.op 24 4)))
    refine Ends.of_effect hrun rfl heffect ?_ ?_ ⟨?_, fun n y hone hdiscarding hpartials hverdict hroom => ?_⟩
    · rw [Device.complete_mem, hpushed]
      rfl
    · rw [Device.complete_wlog, hpushed]
      rfl
    · rw [hpushed, Device.complete_queues, Device.complete_regs, Device.complete_arrived]
      rfl
    · have hlength := s.dev.readBytes_length (64 * e.op 24 4) (localKey (e.op 16 8))
      rw [hone] at hlength hlen ⊢
      generalize s.dev.readBytes (localKey (e.op 16 8)) (64 * 1) = bs at hlength ⊢
      have hchunks : chunksOf 64 1 bs = [bs] := by
        cases bs with
        | nil => cases hlength
        | cons b bs => exact congrArg (fun w => [w]) (List.take_of_length_le hlength.le)
      rw [hchunks, Device.pushPacket, Device.queueWord_of_accepted (d := (s.dev.start e).forget e.cmd.uid) hqueue hdiscarding hpartials
        hverdict hlen hroom, padTo_of_length hlength]
      exact (Device.queue?_congr (Device.complete_queues _ _ _ _) _ _).trans (Device.queue?_setQueue_same _ _ _ _)
  case pop =>
    have heffect := (fxQueuePop_of_free hidle hnext hlive hqueue hcurrent hwritable).trans
      (congrArg (Option.getD · _) (Device.tryPop_of_packet (d := s.dev.start e) hqueue hcurrent hitem hself))
    generalize hvalue : popValue _ _ _ _ = value at heffect ⊢
    obtain ⟨regs, poison, hstored⟩ := Device.land_store (d := ((s.dev.start e).queueCe (e.op 8 1) 0).setQueue (e.op 8 1) (e.op 9 1)
      (x.popped i e.cmd.origin.key (e.op 12 4) y)) s.dev.mem (localKey (e.op 16 8)) (y.words.take (e.op 12 4)).flatten hquiet
    have hlanded := congrArg (Device.land · s.dev.mem) heffect
    simp only [Option.getD_some, Device.land_complete, hstored] at hlanded
    refine Ends.of_landed hrun rfl hlanded ⟨?_, ?_, ?_⟩
    · rw [Device.complete_mem]
    · exact (Device.queue?_congr (Device.complete_queues _ _ _ _) _ _).trans (Device.queue?_setQueue_same _ _ _ _)
    · rw [Device.complete_mem, Device.complete_queues, Device.complete_regs, Device.complete_poison]
      rfl
  case empty =>
    have heffect := (fxQueuePop_of_free hidle hnext hlive hqueue hcurrent hwritable).trans
      ((congrArg (Option.getD · _) (Device.tryPop_of_empty (d := s.dev.start e) hqueue hcurrent hitem)).trans (if_pos hstall))
    exact Ends.of_effect hrun rfl heffect (by simp) (by simp) rfl
  case wait =>
    have heffect := (fxQueuePop_of_free hidle hnext hlive hqueue hcurrent hwritable).trans
      ((congrArg (Option.getD · _) (Device.tryPop_of_empty (d := s.dev.start e) hqueue hcurrent hitem)).trans (if_neg hstall))
    exact Ends.of_effect hrun rfl heffect rfl rfl ⟨Device.queue?_setQueue_same _ _ _ _, rfl⟩
  case timeout =>
    refine Ends.of_effect hrun rfl (fxQueuePopTimeout_of_waiting hwaits hqueue) (by simp; rfl) (by simp; rfl) ⟨?_, ?_⟩
    · exact (Device.queue?_congr (Device.complete_queues _ _ _ _) _ _).trans (Device.queue?_setQueue_same _ _ _ _)
    · rw [Device.complete_queues]
      rfl
  case skip =>
    refine Ends.of_effect hrun rfl (fxQueueSkip_of_current hnext hqueue hcurrent) (by simp; rfl) (by simp; rfl) ⟨?_, ?_, ?_⟩
    · exact (Device.queue?_congr (Device.complete_queues _ _ _ _) _ _).trans (Device.queue?_setQueue_same _ _ _ _)
    · exact (Device.reg_congr (Device.complete_regs _ _ _ _) _).trans (Device.reg_bump_same _ _ _)
    · rw [Device.complete_queues, Device.complete_regs]
      rfl
  case ignored =>
    refine Ends.of_effect hrun rfl (fxQueueSkip_of_none hnext hqueue hcurrent) (by simp; rfl) (by simp; rfl) ⟨?_, ?_⟩
    · exact (Device.reg_congr (Device.complete_regs _ _ _ _) _).trans (Device.reg_bump_same _ _ _)
    · rw [Device.complete_regs]
      rfl

end Sys2Proof.Machine
end

section
/-!
SUPPORT. The breath: what an intake leaves on a device with no work, the timer's edges and ticks, and the writes of the timer's, the
arbiters', the regulators' and the domain's registers (R57, R594 to R602, R615, R619, R626, R627, R772, R773, R780 to R783).
-/
namespace Sys2Proof.Machine

/-! ### What the orders of an intake leave -/

/-- The registers in which a breath shows: the source it began from, the edges it missed, the period in force. -/
def timerRegs : List Nat := [BRT_STATUS, BRT_IN_MISS, regKey BRT_PERIOD 1]

/-- Beside the timer, memory, the work of the device, its buckets and its staged commands stay. -/
structure Stays (d e : Device) : Prop where
  breath : e.breath = d.breath
  mem : e.mem = d.mem
  wlog : e.wlog = d.wlog
  staged : e.staged = d.staged
  timer : e.timer = d.timer
  buckets : e.buckets = d.buckets
  jobs : e.jobs = d.jobs
  images : e.images = d.images
  deploys : e.deploys = d.deploys
  chains : e.chains = d.chains
  groups : e.groups = d.groups
  banks : e.banks = d.banks
  regs : ∀ k ∈ timerRegs, e.reg k = d.reg k

namespace Stays
variable {d e f : Device}

theorem refl (d : Device) : Stays d d := ⟨rfl, rfl, rfl, rfl, rfl, rfl, rfl, rfl, rfl, rfl, rfl, rfl, fun _ _ => rfl⟩

theorem trans (h : Stays d e) (g : Stays e f) : Stays d f :=
  ⟨g.breath.trans h.breath, g.mem.trans h.mem, g.wlog.trans h.wlog, g.staged.trans h.staged, g.timer.trans h.timer,
    g.buckets.trans h.buckets, g.jobs.trans h.jobs, g.images.trans h.images, g.deploys.trans h.deploys, g.chains.trans h.chains,
    g.groups.trans h.groups, g.banks.trans h.banks, fun k hk => (g.regs k hk).trans (h.regs k hk)⟩

theorem setReg (d : Device) {k : Nat} (v : Nat) (hk : k ∉ timerRegs) : Stays d (d.setReg k v) :=
  ⟨rfl, rfl, rfl, rfl, rfl, rfl, rfl, rfl, rfl, rfl, rfl, rfl,
    fun _ hj => Device.reg_setReg_other _ _ _ _ (fun he => hk (he ▸ hj))⟩

theorem setRegField (d : Device) {k : Nat} (hi lo v : Nat) (hk : k ∉ timerRegs) : Stays d (d.setRegField k hi lo v) :=
  setReg d _ hk

theorem bump (d : Device) {k : Nat} (n : Nat) (hk : k ∉ timerRegs) : Stays d (d.bump k n) := setReg d _ hk

theorem emit (d : Device) (o : Out) : Stays d (d.emit o) :=
  ⟨rfl, rfl, rfl, rfl, rfl, rfl, rfl, rfl, rfl, rfl, rfl, rfl, fun _ _ => rfl⟩

theorem modPart (d : Device) (p : Nat) (f : Partition → Partition) : Stays d (d.modPart p f) :=
  ⟨rfl, rfl, rfl, rfl, rfl, rfl, rfl, rfl, rfl, rfl, rfl, rfl, fun _ _ => rfl⟩

theorem power (d : Device) (x : Power) : Stays d { d with power := x } :=
  ⟨rfl, rfl, rfl, rfl, rfl, rfl, rfl, rfl, rfl, rfl, rfl, rfl, fun _ _ => rfl⟩

theorem ports (d : Device) (x : Table LinkPort) : Stays d { d with ports := x } :=
  ⟨rfl, rfl, rfl, rfl, rfl, rfl, rfl, rfl, rfl, rfl, rfl, rfl, fun _ _ => rfl⟩

theorem ite {c : Prop} [Decidable c] {a b : Device} (ha : Stays d a) (hb : Stays d b) : Stays d (if c then a else b) := by
  split
  · exact ha
  · exact hb

theorem foldl {α : Type} (l : List α) {f : Device → α → Device} (hf : ∀ d a, a ∈ l → Stays d (f d a)) : Stays d (l.foldl f d) := by
  induction l generalizing d with
  | nil => exact refl d
  | cons a l ih =>
    exact (hf d a List.mem_cons_self).trans (ih fun d b hb => hf d b (List.mem_cons_of_mem _ hb))

end Stays

/-- The registers of a partition are not the timer's. -/
theorem prtOff_not_timer {p off : Nat} (hp : p < 12) (hoff : off < 2 ^ 20) : prtOff p off ∉ timerRegs := by
  simp only [timerRegs, prtOff, regKey, BRT_STATUS, BRT_IN_MISS, BRT_PERIOD, List.mem_cons, List.not_mem_nil, or_false, not_or]
  omega

section Orders
variable (d : Device)

theorem stays_pmuEvent (i : Nat) : Stays d (d.pmuEvent i) := by
  rw [Device.pmuEvent]
  refine Stays.ite (Stays.refl d) ?_
  have hraised : Stays d (d.raise PMU_EVENTS i) := Stays.setRegField d i i 1 (by decide)
  exact Stays.ite (hraised.trans (Stays.emit _ _)) hraised

theorem stays_setLevel (l : Nat) : Stays d (d.setLevel l) :=
  (((Stays.setRegField d 19 16 l (k := PMU_STATUS) (by decide)).trans (Stays.setRegField _ _ _ _ (by decide))).trans
    (Stays.setReg _ _ (by decide))).trans (Stays.setReg _ _ (by decide))

theorem stays_stepDemands (us : Nat) : Stays d (d.stepDemands us) := by
  have hstatus (e : Device) (x : Power) (a b c : Nat) : Stays e (((({ e with power := x } : Device).setRegField PMU_STATUS 15 12
      a).setRegField PMU_STATUS 11 8 b).setRegField PMU_STATUS 28 28 c) :=
    (((Stays.power e x).trans (Stays.setRegField _ _ _ _ (by decide))).trans (Stays.setRegField _ _ _ _ (by decide))).trans
      (Stays.setRegField _ _ _ _ (by decide))
  rw [Device.stepDemands]
  refine Stays.ite ?_ (hstatus _ _ _ _ _)
  exact ((hstatus _ _ _ _ _).trans (Stays.bump _ _ (by decide))).trans (stays_pmuEvent _ _)

/-- R827 to R831: the power manager's order changes its own state and registers. -/
theorem stays_powerBreath (us : Nat) : Stays d (d.powerBreath us) := by
  rw [Device.powerBreath]
  refine (Stays.trans ?_ (stays_stepDemands _ us)).trans (stays_setLevel _ _)
  refine Stays.trans ?_ (Stays.power _ _)
  cases d.power.nextCap with
  | none => exact Stays.refl d
  | some w => exact Stays.setRegField d _ _ _ (by decide)

/-- R766: the ports' order changes the ports and the bank in force. -/
theorem stays_slotBreath (us : Nat) : Stays d (d.slotBreath us) :=
  (Stays.setRegField d 4 4 _ (k := PLV_SLOT_BANK) (by decide)).trans (Stays.ports _ _)

theorem stays_twinBreath : Stays d d.twinBreath := by
  have hheartbeat (e : Device) : Stays e e.sendHeartbeat := by
    rw [Device.sendHeartbeat]
    have hfirst : Stays e (if e.twinUp then e.emit (.link 16 16 (e.regField PLV_TWIN_STATUS 6 0)
        (leBytes 8 e.breath ++ leBytes 1 e.twinState ++ leBytes 8 e.twin.position)) else e) :=
      Stays.ite (Stays.emit _ _) (Stays.refl _)
    exact Stays.ite (hfirst.trans (Stays.emit _ _)) hfirst
  have htwin (e : Device) (x : Twin) : Stays e { e with twin := x } :=
    ⟨rfl, rfl, rfl, rfl, rfl, rfl, rfl, rfl, rfl, rfl, rfl, rfl, fun _ _ => rfl⟩
  rw [Device.twinBreath]
  refine Stays.ite (Stays.refl d) (Stays.trans (Stays.trans (Stays.ite ?_ (Stays.refl d)) (htwin _ _)) (hheartbeat _))
  exact (Stays.setRegField d _ _ _ (by decide)).trans (Stays.setRegField _ _ _ _ (by decide))

theorem stays_planLong : Stays d d.planLong := ⟨rfl, rfl, rfl, rfl, rfl, rfl, rfl, rfl, rfl, rfl, rfl, rfl, fun _ _ => rfl⟩

end Orders

/-! ### Orders on a device with no work -/

section Idle
variable {d : Device}

/-- R501, R504: a bank that has counted nothing begins or waits, and shows and sends nothing. -/
theorem Device.brmIntake_of_new {n b : Nat} (hbank : d.bank b = {}) :
    ∃ x, d.brmIntake n b = { d with banks := Table.put d.banks b x } := by
  have hdue : (d.brmOn b && (d.bank b).due == some n) = false := by rw [hbank]; exact Bool.and_false _
  have hheld : (d.bank b).held = [] := by rw [hbank]
  have hmod (x y : Bank → Bank) : (d.modBank b x).modBank b y = d.modBank b (fun z => y (x z)) := by
    rw [Device.modBank, Device.bank, Device.modBank, Table.getD_put_same, Device.modBank, Table.put_put]
  have hcounting : ((d.modBank b (fun x => { x with held := [] })).bank b).counting = false := by
    rw [Device.modBank, Device.bank, Table.getD_put_same, hbank]
  simp only [Device.brmIntake, hdue, Bool.false_eq_true, if_false, hheld, List.foldl_nil, hcounting, hmod]
  split
  · exact ⟨_, rfl⟩
  · split <;> exact ⟨_, rfl⟩

/-- Order 4 of R602 where no bank has counted. -/
theorem Device.brmIntakeAll_of_none (n : Nat) (hbanks : d.banks = []) : ∃ banks, d.brmIntakeAll n = { d with banks := banks } := by
  have hall (l : List Nat) (e : Device) (hnodup : l.Nodup) (hnew : ∀ b ∈ l, e.bank b = {}) :
      ∃ banks, l.foldl (fun d b => d.brmIntake n b) e = { e with banks := banks } := by
    induction l generalizing e with
    | nil => exact ⟨e.banks, rfl⟩
    | cons b l ih =>
      obtain ⟨hb, hnodup⟩ := List.nodup_cons.mp hnodup
      obtain ⟨x, hone⟩ := Device.brmIntake_of_new (n := n) (hnew b List.mem_cons_self)
      rw [List.foldl_cons, hone]
      obtain ⟨banks, hrest⟩ := ih { e with banks := Table.put e.banks b x } hnodup fun c hc =>
        (Table.getD_put_other _ _ _ _ _ (fun he : c = b => hb (he ▸ hc))).trans (hnew c (List.mem_cons_of_mem _ hc))
      exact ⟨banks, hrest⟩
  refine hall _ d List.nodup_range fun b _ => ?_
  rw [Device.bank, hbanks]
  rfl

theorem Device.heads_of_none (hchains : d.chains = []) (hgroups : d.groups = []) : d.heads = [] := by
  rw [Device.heads, hchains, hgroups]
  rfl

/-- R607, R849: with no job a parked replay stays parked. -/
theorem Plan.unpark_of_no_job {a : Plan} (hjobs : a.d.jobs = []) (p : Nat) : (a.unpark p).d = a.d := by
  have hadmits (j : Nat) : a.d.jobAdmits j false = false := by
    rw [Device.jobAdmits, Device.job, hjobs]
    rfl
  rw [Plan.unpark]
  split
  · rfl
  · rw [if_pos (by simp [hadmits])]

theorem stays_carrySteps (hgroups : d.groups = []) : Stays d d.carrySteps := by
  have hpart (e : Device) (p : Nat) (hp : p ∈ List.range 12) : Stays e (match (e.part p).running with
      | some s =>
        if s.carried then e
        else (e.modPart p (fun x => { x with running := some { s with carried := true } })).bump (prtOff p PRT_CARRY_COUNT) 1
      | none => e) := by
    split
    · exact Stays.ite (Stays.refl e) ((Stays.modPart _ _ _).trans
        (Stays.bump _ _ (prtOff_not_timer (List.mem_range.mp hp) (by decide))))
    · exact Stays.refl e
  have hparts := Stays.foldl (d := d) (List.range 12) hpart
  rw [Device.carrySteps]
  refine hparts.trans ?_
  have hnone := hparts.groups.trans hgroups
  generalize (List.range 12).foldl _ d = e at hnone
  rw [hnone]
  exact Stays.refl e

/-- Order 7 of R602 where nothing waits for admission. -/
theorem stays_admitSteps (n : Nat) (hjobs : d.jobs = []) (hchains : d.chains = []) (hgroups : d.groups = []) :
    Stays d (d.admitSteps n) := by
  have hset (off : Nat) (hoff : off < 2 ^ 20) (v : Nat → Nat) (e : Device) :
      Stays e ((List.range 12).foldl (fun d p => d.setReg (prtOff p off) (v p)) e) :=
    Stays.foldl _ fun e p hp => Stays.setReg e _ (prtOff_not_timer (List.mem_range.mp hp) hoff)
  have hunpark (l : List Nat) (a : Plan) (hjobs : a.d.jobs = []) : (l.foldl Plan.unpark a).d = a.d := by
    induction l generalizing a with
    | nil => rfl
    | cons p l ih => exact (ih _ ((Plan.unpark_of_no_job hjobs p).symm ▸ hjobs)).trans (Plan.unpark_of_no_job hjobs p)
  have hrun (k : Nat) (a : Plan) (hheads : a.d.heads = []) : Plan.run k a = a := by
    cases k with
    | zero => rfl
    | succ k =>
      rw [Plan.run, hheads]
      rfl
  have hcleared : Stays d ((List.range 12).foldl (fun d p => d.setReg (prtOff p PRT_FRONT_STATUS) 0) d.carrySteps) :=
    (stays_carrySteps hgroups).trans (hset PRT_FRONT_STATUS (by decide) (fun _ => 0) _)
  unfold Device.admitSteps
  extract_lets busy e level plan aged unparked ran
  have hheads : e.heads = [] := Device.heads_of_none (hcleared.chains.trans hchains) (hcleared.groups.trans hgroups)
  have haged : aged = plan := by
    rw [show aged = e.heads.foldl _ plan from rfl, hheads]
    rfl
  have hunparked : unparked.d = e := (hunpark (List.range 12) aged (haged ▸ hcleared.jobs.trans hjobs)).trans (by rw [haged])
  have hran : ran = unparked := hrun _ _ (hunparked ▸ hheads)
  rw [hran, hunparked]
  exact hcleared.trans (hset PRT_SCHED_LAST (by decide) _ _)

/-- Orders 5 to 7 of R602 and what follows them, with no work. -/
theorem stays_workOrders (n : Nat) (fails : List Nat) (hjobs : d.jobs = []) (himages : d.images = []) (hdeploys : d.deploys = [])
    (hchains : d.chains = []) (hgroups : d.groups = []) :
    Stays d ((((d.currency n).restartIntakes n fails).rebuildBatches.frontIntakes.switchBack.admitSteps n).restartedEntries.planLong.twinBreath) := by
  have hcurrency : d.currency n = d := by rw [Device.currency, hdeploys]; rfl
  have hrestarts : d.restartIntakes n fails = d := by rw [Device.restartIntakes, hjobs]; rfl
  have hbatches : d.rebuildBatches = d := by rw [Device.rebuildBatches, hgroups]; rfl
  have hfronts : d.frontIntakes = d := by
    have hnone (p : Nat) (w : List (Nat × Nat)) : d.frontIntake p w = d := by
      rw [Device.frontIntake, Device.frontOn, himages]
      rfl
    rw [Device.frontIntakes]
    exact List.foldl_fixed' (fun p => hnone p _) _
  have hswitches : d.switchBack = d := by rw [Device.switchBack, Device.heads_of_none hchains hgroups]; rfl
  rw [hcurrency, hrestarts, hbatches, hfronts, hswitches]
  have hadmitted := stays_admitSteps n hjobs hchains hgroups
  have hentries : (d.admitSteps n).restartedEntries = d.admitSteps n := by
    rw [Device.restartedEntries, hadmitted.jobs, hjobs, List.map_nil, List.foldl_nil]
  rw [hentries]
  exact (hadmitted.trans (stays_planLong _)).trans (stays_twinBreath _)

end Idle

/-! ### The regulators (R615, R619) -/

section Regulators
variable {d : Device}

/-- Order 3 of R602 on one bucket: it takes its held settings and refills. -/
def Device.regulate (d : Device) (i : Nat) : Device := (d.heldBucket (i / 3) (i % 3)).modBucket (i / 3) (i % 3) Bucket.refilled

theorem Device.regulate_eq (i : Nat) : ∃ b, d.regulate i = { d with buckets := Table.put d.buckets i b } ∧
    ((Table.getD d.buckets i {}).held = false → b = (Table.getD d.buckets i {}).refilled) := by
  have hkey : 3 * (i / 3) + i % 3 = i := Nat.div_add_mod i 3
  rw [Device.regulate, Device.heldBucket, Device.bucket, hkey]
  split
  · rw [Device.modBucket, hkey, Table.modify]
    exact ⟨_, rfl, fun _ => rfl⟩
  · rename_i hheld
    simp only [Device.modBucket, hkey, Table.modify, Table.put_put]
    exact ⟨_, rfl, fun h => absurd (by rw [h]; rfl) hheld⟩

/-- R615: every bucket refills once. -/
theorem Device.regulators_eq : ∃ buckets, d.regulators = { d with buckets := buckets } ∧
    ∀ i < 36, (Table.getD d.buckets i {}).held = false → Table.getD buckets i {} = (Table.getD d.buckets i {}).refilled := by
  have hall (l : List Nat) (e : Device) (hnodup : l.Nodup) : ∃ buckets, l.foldl Device.regulate e = { e with buckets := buckets } ∧
      (∀ i ∉ l, Table.getD buckets i {} = Table.getD e.buckets i {}) ∧
      ∀ i ∈ l, (Table.getD e.buckets i {}).held = false → Table.getD buckets i {} = (Table.getD e.buckets i {}).refilled := by
    induction l generalizing e with
    | nil => exact ⟨e.buckets, rfl, fun _ _ => rfl, fun _ hi => absurd hi List.not_mem_nil⟩
    | cons j l ih =>
      obtain ⟨hj, hnodup⟩ := List.nodup_cons.mp hnodup
      obtain ⟨b, hone, hrefilled⟩ := e.regulate_eq j
      obtain ⟨buckets, hrest, hothers, hown⟩ := ih { e with buckets := Table.put e.buckets j b } hnodup
      refine ⟨buckets, ?_, fun i hi => ?_, fun i hi hheld => ?_⟩
      · rw [List.foldl_cons, hone, hrest]
      · obtain ⟨hne, hi⟩ := not_or.mp (List.mem_cons.not.mp hi)
        exact (hothers i hi).trans (Table.getD_put_other _ _ _ _ _ hne)
      · by_cases hne : i = j
        · subst hne
          rw [hothers i hj, Table.getD_put_same]
          exact hrefilled hheld
        · have hi := (List.mem_cons.mp hi).resolve_left hne
          have hsame : Table.getD (Table.put e.buckets j b) i {} = Table.getD e.buckets i {} := Table.getD_put_other _ _ _ _ _ hne
          have hrefill := hown i hi
          rw [hsame] at hrefill
          exact hrefill hheld
  obtain ⟨buckets, hfold, -, hown⟩ := hall (List.range 36) d List.nodup_range
  exact ⟨buckets, hfold, fun i hi => hown i (List.mem_range.mpr hi)⟩

end Regulators

/-! ### A breath begins on a device with no work -/

/-- What stands after a breath `n` has begun on the device `d` with no work. -/
structure Begun (d : Device) (n : Nat) (e : Device) : Prop where
  breath : e.breath = n % 2 ^ 64
  mem : e.mem = d.mem
  wlog : e.wlog = d.wlog
  staged : e.staged = d.staged
  begun : e.timer.begun = true
  edge : e.timer.edge = false
  misses : e.timer.misses = d.timer.misses
  status : e.reg BRT_STATUS = d.reg BRT_STATUS
  missed : e.reg BRT_IN_MISS = d.reg BRT_IN_MISS
  period : ∀ v, d.timer.heldPeriod = some v → e.period = v % 2 ^ 32 ∧ e.timer.heldPeriod = none
  buckets : ∀ p k, p < 12 → k < 3 → (d.bucket p k).held = false → e.bucket p k = (d.bucket p k).refilled

/-- A device whose held period, if it holds one, is in force, and which holds none. -/
def Device.periodHeld (d : Device) (regs : Table Nat) : Device :=
  { d with regs := regs, timer := { d.timer with heldPeriod := none, heldSource := none } }

/-- R597, R601: a period written before the boundary comes into force. -/
theorem Device.heldTimer_of_no_source {d : Device} (hsource : d.timer.heldSource = none) : ∃ regs, d.heldTimer = d.periodHeld regs ∧
    (d.periodHeld regs).reg BRT_STATUS = d.reg BRT_STATUS ∧ (d.periodHeld regs).reg BRT_IN_MISS = d.reg BRT_IN_MISS ∧
    ∀ v, d.timer.heldPeriod = some v → (d.periodHeld regs).period = v % 2 ^ 32 := by
  cases hperiod : d.timer.heldPeriod with
  | none =>
    simp only [Device.heldTimer, hperiod, hsource]
    exact ⟨d.regs, rfl, rfl, rfl, fun v hv => nomatch hv⟩
  | some v =>
    simp only [Device.heldTimer, hperiod, hsource]
    have hreg (k : Nat) (hk : k ≠ BRT_PERIOD) (hk' : k ≠ regKey BRT_PERIOD 1) :
        ((d.periodHeld d.regs).setPeriod v).reg k = d.reg k :=
      (Device.reg_setReg_other _ _ _ _ hk).trans (Device.reg_setReg_other _ _ _ _ hk')
    refine ⟨((d.periodHeld d.regs).setPeriod v).regs, rfl, hreg _ (by decide) (by decide), hreg _ (by decide) (by decide), ?_⟩
    rintro w ⟨⟩
    exact (Device.reg_setReg_other ((d.periodHeld d.regs).setReg (regKey BRT_PERIOD 1) v) BRT_PERIOD (regKey BRT_PERIOD 1) v
      (by decide)).trans (Device.reg_setReg_same _ _ _)

/-- The intake of a device with no work. -/
theorem Device.intake_of_idle {d : Device} (n us : Nat) (fails : List Nat) (hjobs : d.jobs = []) (himages : d.images = [])
    (hdeploys : d.deploys = []) (hchains : d.chains = []) (hgroups : d.groups = []) (hbanks : d.banks = [])
    (hproposed : d.timer.proposed = none) (hsource : d.timer.heldSource = none) (hbegun : d.timer.begun = true)
    (hedge : d.timer.edge = false) {m : Nat} (hnumber : d.breath = m % 2 ^ 64) : Begun d m (d.intake n us none fails) := by
  obtain ⟨regs, hheld, hstatus, hmissed, hperiod⟩ := Device.heldTimer_of_no_source hsource
  have hsettled : d.settleProposal = d := by simp only [Device.settleProposal, hproposed]
  have hslots : Stays (d.periodHeld regs) (((d.periodHeld regs).powerBreath us).slotBreath us) :=
    (stays_powerBreath _ us).trans (stays_slotBreath _ us)
  have hheard : Device.heedTick (((d.periodHeld regs).powerBreath us).slotBreath us) none =
      { ((d.periodHeld regs).powerBreath us).slotBreath us with
        timer := { (((d.periodHeld regs).powerBreath us).slotBreath us).timer with coming := none } } := rfl
  rw [Device.intake, hsettled, hheld, hheard]
  generalize ((d.periodHeld regs).powerBreath us).slotBreath us = e at hslots
  obtain ⟨buckets, hregulated, hrefilled⟩ := Device.regulators_eq (d := { e with timer := { e.timer with coming := none } })
  rw [hregulated]
  obtain ⟨banks, hbrm⟩ := Device.brmIntakeAll_of_none (d := { e with timer := { e.timer with coming := none }, buckets := buckets })
    n (hslots.banks.trans hbanks)
  rw [hbrm]
  have hafter := stays_workOrders (d := { e with timer := { e.timer with coming := none }, buckets := buckets, banks := banks }) n fails
    (hslots.jobs.trans hjobs) (hslots.images.trans himages) (hslots.deploys.trans hdeploys) (hslots.chains.trans hchains)
    (hslots.groups.trans hgroups)
  generalize Device.twinBreath _ = g at hafter ⊢
  have htimer : g.timer = { d.timer with heldPeriod := none, heldSource := none, coming := none } :=
    hafter.timer.trans (congrArg (fun t : Timer => { t with coming := none }) hslots.timer)
  have hreg (k : Nat) (hk : k ∈ timerRegs) : g.reg k = (d.periodHeld regs).reg k := (hafter.regs k hk).trans (hslots.regs k hk)
  exact
    { breath := (hafter.breath.trans hslots.breath).trans hnumber
      mem := hafter.mem.trans hslots.mem
      wlog := hafter.wlog.trans hslots.wlog
      staged := hafter.staged.trans hslots.staged
      begun := htimer ▸ hbegun
      edge := htimer ▸ hedge
      misses := htimer ▸ rfl
      status := (hreg _ (by decide)).trans hstatus
      missed := (hreg _ (by decide)).trans hmissed
      period := fun v hv => ⟨(hreg _ (by decide)).trans (hperiod v hv), htimer ▸ rfl⟩
      buckets := fun p k hp hk hfree => by
        have hbuckets : e.buckets = d.buckets := hslots.buckets
        have hrefill := hrefilled (3 * p + k) (by omega)
        rw [hbuckets] at hrefill
        rw [Device.bucket, hafter.buckets]
        exact hrefill hfree }

theorem Device.beginBreath_of_idle {d : Device} (n : Nat) (fails : List Nat) (hjobs : d.jobs = []) (himages : d.images = [])
    (hdeploys : d.deploys = []) (hchains : d.chains = []) (hgroups : d.groups = []) (hseqs : d.seqs = []) (hbanks : d.banks = [])
    (hproposed : d.timer.proposed = none) (hsource : d.timer.heldSource = none) : Begun d n (d.beginBreath n none fails) := by
  have hprogress : (if d.timer.begun then d.postProgress else d) = d := by
    rw [Device.postProgress, hseqs]
    exact ite_self _
  rw [Device.beginBreath, hprogress]
  have hbegun := Device.intake_of_idle (d := { d with
    breath := n % 2 ^ 64, timer := { d.timer with begun := true, edge := false, tick := none } }) n d.period fails hjobs himages hdeploys
    hchains hgroups hbanks hproposed hsource rfl rfl (m := n) rfl
  exact ⟨hbegun.breath, hbegun.mem, hbegun.wlog, hbegun.staged, hbegun.begun, hbegun.edge, hbegun.misses, hbegun.status, hbegun.missed,
    hbegun.period, hbegun.buckets⟩

/-! ### Edges, ticks and refusals of a period (R598, R600, R780, R783) -/

@[simp] theorem Device.link_modLink_same (d : Device) (p : Nat) (f : LinkPort → LinkPort) : (d.modLink p f).link p = f (d.link p) :=
  Table.getD_modify_same _ _ _ _

theorem Device.link_modLink_other (d : Device) {p q : Nat} (f : LinkPort → LinkPort) (hq : q ≠ p) : (d.modLink p f).link q = d.link q :=
  Table.getD_put_other _ _ _ _ _ hq

/-- R783: PERIOD_NAK goes out on every UP port. -/
theorem nakAll_eq (d : Device) (l : List Nat) : ∃ ports,
    l.foldl (fun d q => if d.portUp q then d.modLink q (fun x => { x with nakPeriod := true }) else d) d = { d with ports := ports } ∧
      ∀ q, (q ∈ l ∧ d.portUp q = true ∨ (d.link q).nakPeriod = true) → (Table.getD ports q {}).nakPeriod = true := by
  induction l generalizing d with
  | nil => exact ⟨d.ports, rfl, fun q hq => hq.resolve_left fun h => List.not_mem_nil h.1⟩
  | cons p l ih =>
    rw [List.foldl_cons]
    cases hup : d.portUp p with
    | false =>
      obtain ⟨ports, hrest, hnak⟩ := ih d
      refine ⟨ports, (congrArg (l.foldl _) (if_neg (by decide))).trans hrest, fun q hq => hnak q (hq.imp_left fun h => ⟨?_, h.2⟩)⟩
      refine (List.mem_cons.mp h.1).resolve_left ?_
      rintro rfl
      exact absurd h.2 (by rw [hup]; decide)
    | true =>
      obtain ⟨ports, hrest, hnak⟩ := ih (d.modLink p (fun x => { x with nakPeriod := true }))
      refine ⟨ports, (congrArg (l.foldl _) (if_pos rfl)).trans hrest, fun q hq => hnak q ?_⟩
      by_cases hqp : q = p
      · subst hqp
        exact .inr (congrArg LinkPort.nakPeriod (Device.link_modLink_same _ _ _))
      · refine hq.imp (fun h => ⟨(List.mem_cons.mp h.1).resolve_left hqp, h.2⟩) fun h => ?_
        rw [Device.link_modLink_other _ _ hqp]
        exact h

section Events
variable {d : Device}

theorem fxBreathStart_of_own {fails : List Nat} (hon : d.timer.on = true) (hsource : d.source = 0) (hbegun : d.timer.begun = true) :
    fxBreathStart fails d = ((({ d with timer := { d.timer with misses := 0 } } : Device).setRegField BRT_STATUS 31 31 0).setRegField
      PLV_DOMAIN_STATUS 29 29 0).beginBreath (d.breath + 1) none fails := by
  have hnumber : d.nextNumber = d.breath + 1 := if_pos hbegun
  simp only [fxBreathStart, hsource, hnumber]
  exact if_neg (by simp [hon])

theorem fxBreathHoldover_of_edge {fails : List Nat} (hon : d.timer.on = true) (hsource : d.source = 1) (hbegun : d.timer.begun = true)
    (hedge : d.timer.edge = false) : fxBreathHoldover fails d =
      ((d.setRegField BRT_STATUS 31 31 1).bump BRT_IN_MISS 1).beginBreath (d.breath + 1) none fails := by
  have hnumber : ((d.setRegField BRT_STATUS 31 31 1).bump BRT_IN_MISS 1).nextNumber = d.breath + 1 := if_pos hbegun
  rw [← hnumber]
  simp only [fxBreathHoldover, hsource]
  exact (if_neg (by simp [hon, hedge])).trans rfl

theorem fxBreathInEdge_of_source {us : Nat} (hon : d.timer.on = true) (hsource : d.source = 1) : fxBreathInEdge us d =
    if d.timer.edge || (d.timer.begun && decide (us < d.period)) then d.bump BRT_IN_EARLY 1
    else { d with timer := { d.timer with edge := true } } := if_neg (by simp [hon, hsource])

theorem fxTraceTrigEdge_of_pin (hsource : d.source ≠ 1) (hpin : d.regField BRT_PIN 0 0 = 1) :
    fxTraceTrigEdge d = { d with timer := { d.timer with traceTriggers := d.timer.traceTriggers + 1 } } :=
  if_neg (by simp [hsource, hpin])

theorem fxDomainTick_of_next {p b per nxt skew : Nat} (hon : d.timer.on = true) (hsource : d.source = 2) (hmaster : d.timer.master = false)
    (htick : d.timer.tick = none) (hp : p ≤ 16) (hup : d.portUp p = true) (hport : bitOf (d.reg PLV_TICK_PORTS) p = true)
    (hbegun : d.timer.begun = true) (hnext : d.breath < b) : fxDomainTick p b per nxt skew d =
      ({ d with timer := { d.timer with tick := some ⟨b % 2 ^ 48, per % 2 ^ 16, nxt % 2 ^ 16⟩ } } : Device).setReg PLV_TICK_SKEW
        (skew % 2 ^ 16) := by
  rw [fxDomainTick]
  refine (if_neg ?_).trans (if_pos hbegun)
  simp [hon, hsource, hmaster, htick, Nat.not_lt.mpr hp, hup, hport, hnext]

theorem fxPeriodNak_of_up {p : Nat} (hp : p ≤ 16) (hup : d.portUp p = true) : fxPeriodNak p d =
    (let e := (List.range 17).foldl (fun d q => if d.portUp q then d.modLink q (fun x => { x with nakPeriod := true }) else d) d
     if e.timer.announced then { e with timer := { e.timer with nak := true } } else e) :=
  if_neg (by simp [hup, Nat.not_lt.mpr hp])

end Events

/-! ### Writes of the registers (R601, R619, R626, R627, R772, R773) -/

section Writes
variable {d : Device} {port : Port} {word : Nat}

theorem fxBrtPeriodWrite_of_fit (hport : port.operates = true) (hfit : d.couldRun (bitsOf word 11 0) = true) (hsource : d.sourceComing ≠ 2)
    (hmaster : d.isMaster = false) : fxBrtPeriodWrite port word d =
      ({ d with timer := { d.timer with heldPeriod := some (bitsOf word 11 0) } } : Device).setReg BRT_PERIOD (bitsOf word 11 0) := by
  rw [fxBrtPeriodWrite]
  refine (if_neg (by simp [hport])).trans ((if_neg (by simp [hfit, hsource])).trans ?_)
  rw [hmaster]
  rfl

theorem fxBrtPeriodWrite_of_unfit (hport : port.operates = true) (hfit : d.couldRun (bitsOf word 11 0) = false) :
    fxBrtPeriodWrite port word d = d.raise BRT_STATUS 30 :=
  (if_neg (by simp [hport])).trans (if_pos (by simp [hfit]))

theorem fxBrtSrcWrite_of_value (hport : port.operates = true) (hvalue : bitsOf word 1 0 ≠ 3) : fxBrtSrcWrite port word d =
    ({ d with timer := { d.timer with heldSource := some (bitsOf word 1 0) } } : Device).setReg BRT_SRC (bitsOf word 1 0) :=
  if_neg (by simp [hport, hvalue])

theorem Device.bucket_modBucket_same (d : Device) (p k : Nat) (f : Bucket → Bucket) : (d.modBucket p k f).bucket p k = f (d.bucket p k) :=
  Table.getD_modify_same _ _ _ _

theorem Device.bucket_modBucket_other (d : Device) {p k q j : Nat} (f : Bucket → Bucket) (hk : k < 3) (hj : j < 3)
    (hother : (q, j) ≠ (p, k)) : (d.modBucket p k f).bucket q j = d.bucket q j := by
  refine Table.getD_put_other _ _ _ _ _ fun he => hother (Prod.ext ?_ ?_)
  · dsimp only
    omega
  · dsimp only
    omega

/-- CTRL keeps bit 31 of what is written. -/
theorem and_bit31 (n : Nat) : (n &&& 0x80000000) % 2 ^ 32 = 2 ^ 31 * bitsOf n 31 31 := by
  have hbit : n &&& 0x80000000 = (n.testBit 31).toNat * 2 ^ 31 := Nat.and_two_pow n 31
  have hvalue : bitsOf n 31 31 = (n.testBit 31).toNat := by
    rw [Nat.toNat_testBit]
    rfl
  rw [hbit, hvalue]
  have hle := Bool.toNat_le (n.testBit 31)
  omega

/-- R773: HUB_DEVICE_INDEX says whether the domain is formed with two members or more. -/
theorem Device.inDomain_formDomain (d : Device) : d.formDomain.regField HUB_DEVICE_INDEX 31 31 =
    bit (d.formDomain.formed && decide (2 ≤ countOnes d.formDomain.memberMask 72)) := by
  have hreg (k : Nat) (hk : k ≠ HUB_DEVICE_INDEX) : d.formDomain.reg k = d.reg k := Device.reg_setReg_other _ _ _ _ hk
  have hmask : d.formDomain.memberMask = d.memberMask := by
    rw [Device.memberMask, Device.memberMask, hreg _ (by decide), hreg _ (by decide), hreg _ (by decide)]
  have hformed : d.formDomain.formed = d.formed := by
    rw [Device.formed, Device.formed, hmask, Device.regField, Device.regField, hreg _ (by decide), ← Device.regField, ← Device.regField]
  rw [hformed, hmask, Device.regField, Device.formDomain, Device.reg_setReg_same]
  split
  · rename_i hin
    have hindex : d.regField PLV_DOMAIN_CFG 6 0 < 2 ^ 7 := bitsOf_lt _ _ _
    rw [hin]
    simp only [bitsOf, bit, if_true]
    omega
  · rename_i hout
    rw [Bool.eq_false_of_not_eq_true hout]
    rfl

/-- The budget of class `i` of an arbiter's kind, as a write of class `c` would leave it. -/
def Device.budgetWith (d : Device) (kind c v i : Nat) : Nat := if i = c then v else d.reg (regKey (SCH_ARB_BUDGET + 4 * i) kind)

theorem fxSchArbBudgetWrite_of_kind {c : Nat} (hport : port.operates = true) (hc : c ≤ 3) (himages : d.images = [])
    (hkind : bitsOf (d.portReg port SCH_ARB_SEL) 2 0 ≤ 6) (hzero : bitsOf (d.portReg port SCH_ARB_SEL) 2 0 ≠ 0) :
    fxSchArbBudgetWrite port c word d =
      (let n := d.budgetWith (bitsOf (d.portReg port SCH_ARB_SEL) 2 0) c (bitsOf word 21 0)
       if d.budgetLimit < n 0 + n 1 + n 2 + n 3 then d.setRegField (portKey SCH_ARB_SEL port) 31 31 1
       else d.setReg (regKey (SCH_ARB_BUDGET + 4 * c) (bitsOf (d.portReg port SCH_ARB_SEL) 2 0)) (bitsOf word 21 0)) := by
  rw [fxSchArbBudgetWrite]
  refine (if_neg (by simp [hport, hkind, hc])).trans ?_
  refine if_congr ?_ rfl rfl
  simp [himages, hzero, Device.budgetWith]

theorem fxRegulatorWrite_of_bucket {p k reg : Nat} (hport : port.operates = true) (hp : p < 12) (hk : k < 3) (hreg : reg < 3) :
    fxRegulatorWrite port p k reg word d = (d.setReg (prtOff p (PRT_REG_CTRL + 0x20 * k + 4 * reg))
      (if reg = 0 then word &&& 0x80000000 else word)).modBucket p k (fun b => { b with held := true }) := by
  rw [fxRegulatorWrite]
  refine if_neg ?_
  simp only [hport, Bool.not_true, Bool.false_or, Bool.or_eq_true, decide_eq_true_eq, not_or]
  omega

theorem fxDomainConfigWrite_of_locked {off : Nat} (hport : port.steward = true) (hlocked : d.circuits ≠ []) :
    fxDomainConfigWrite port off word d = d.raise PLV_DOMAIN_CFG 30 :=
  (if_pos hport).trans (if_pos (by simpa [Device.domainLocked] using hlocked))

theorem fxDomainConfigWrite_of_members {off : Nat} (hport : port.steward = true) (hfree : d.circuits = [])
    (hoff : 0x800000 + off = PLV_MEMBERS) : fxDomainConfigWrite port off word d = (d.setReg PLV_MEMBERS word).formDomain := by
  refine (if_pos hport).trans ?_
  rw [hoff]
  refine (if_neg (by simp [Device.domainLocked, hfree])).trans ((if_neg (by decide)).trans ((if_neg (by decide)).trans (if_pos (by decide))))

end Writes

/-- Settles O40. A breath on a device with no work: each order of the intake `Stays`. The writes and the events: the device of the
equation above. That the domain's registers are locked by a live circuit alone and that CTRL reads the ENABLE last written are the
model's choices (log entry 77), as is what a tick and a holdover leave (log entry 78). -/
theorem breathsAndTheirRegisters : Obligations.BreathsAndTheirRegisters := by
  refine ⟨fun s hrun hon => ⟨fun hjobs himages hdeploys hchains hgroups hseqs hbanks hbegun hproposed hheld => ⟨fun hsource => ?own,
      fun hsource hedge => ?holdover⟩, fun us hsource => ⟨fun hedge hlate => ?edge, fun hedge => ?early⟩,
      fun hsource hpin => ?trace, fun p b per nxt skew hsource hmaster htick hp hup hport hbegun hnext => ?tick, fun p hp hup => ?nak⟩,
    fun s port word hrun hport => ⟨fun hfit hsource hmaster => ?period, fun hfit => ?unfit, fun hvalue => ?source,
      fun c hc himages => ?budget, fun p k reg hp hk hreg => ?regulator,
      fun off hsteward => ⟨fun hlocked => ?locked, fun hfree hoff => ?members⟩⟩⟩
  case own =>
    have heffect := fxBreathStart_of_own (fails := []) hon hsource hbegun
    generalize he : (({ s.dev with timer := { s.dev.timer with misses := 0 } } : Device).setRegField BRT_STATUS 31 31 0).setRegField
      PLV_DOMAIN_STATUS 29 29 0 = e at heffect
    have hb : Begun e (s.dev.breath + 1) (e.beginBreath (s.dev.breath + 1) none []) := by
      subst he
      exact Device.beginBreath_of_idle _ _ hjobs himages hdeploys hchains hgroups hseqs hbanks hproposed hheld
    have hstatus : e.regField BRT_STATUS 31 31 = 0 := by
      subst he
      rw [Device.regField_setRegField_other _ _ _ _ _ _ (by decide)]
      exact Device.regField_setRegField_same _ _ (by decide)
    refine Ends.of_effect hrun rfl heffect ?_ ?_ ⟨hb.breath, ?_, ?_, hb.begun, hb.edge, ?_, ?_, fun v hv => ?_, fun p k hp hk hfree => ?_⟩
    · exact hb.mem.trans (he ▸ rfl)
    · exact hb.wlog.trans (he ▸ rfl)
    · rw [Device.regField, hb.status]
      exact hstatus
    · exact hb.mem.trans (he ▸ rfl)
    · exact hb.misses.trans (he ▸ rfl)
    · exact hb.staged.trans (he ▸ rfl)
    · exact hb.period v (he ▸ hv)
    · have hsame : e.bucket p k = s.dev.bucket p k := he ▸ rfl
      exact (hb.buckets p k hp hk (hsame ▸ hfree)).trans (congrArg Bucket.refilled hsame)
  case holdover =>
    have heffect := fxBreathHoldover_of_edge (fails := []) hon hsource hbegun hedge
    generalize he : (s.dev.setRegField BRT_STATUS 31 31 1).bump BRT_IN_MISS 1 = e at heffect
    have hb : Begun e (s.dev.breath + 1) (e.beginBreath (s.dev.breath + 1) none []) := by
      subst he
      exact Device.beginBreath_of_idle _ _ hjobs himages hdeploys hchains hgroups hseqs hbanks hproposed hheld
    refine Ends.of_effect hrun rfl heffect ?_ ?_ ⟨hb.breath, ?_, ?_, ?_, ?_⟩
    · exact hb.mem.trans (he ▸ rfl)
    · exact hb.wlog.trans (he ▸ rfl)
    · rw [Device.regField, hb.status, ← Device.regField, ← he, Device.regField, Device.reg_bump_other _ _ (by decide)]
      exact Device.regField_setRegField_same _ _ (by decide)
    · exact hb.mem.trans (he ▸ rfl)
    · rw [hb.missed, ← he, Device.reg_bump_same, Device.reg_setRegField_other _ _ _ _ (by decide)]
    · exact hb.staged.trans (he ▸ rfl)
  case edge =>
    exact Ends.of_effect hrun rfl ((fxBreathInEdge_of_source hon hsource).trans (if_neg (by simp [hedge, Nat.not_lt.mpr hlate]))) rfl rfl rfl
  case early =>
    exact Ends.of_effect hrun rfl ((fxBreathInEdge_of_source hon hsource).trans (if_pos (by simp [hedge]))) rfl rfl
      ⟨Device.reg_bump_same _ _ _, rfl⟩
  case trace =>
    exact Ends.of_effect hrun rfl (fxTraceTrigEdge_of_pin hsource hpin) rfl rfl rfl
  case tick =>
    refine Ends.of_effect hrun rfl (fxDomainTick_of_next hon hsource hmaster htick hp hup hport hbegun hnext) rfl rfl ⟨rfl, ?_, rfl⟩
    exact (Device.reg_setReg_same _ _ _).trans (Nat.mod_eq_of_lt ((Nat.mod_lt _ (by decide)).trans (by decide)))
  case nak =>
    obtain ⟨ports, hall, hnak⟩ := nakAll_eq s.dev (List.range 17)
    have heffect := fxPeriodNak_of_up hp hup
    rw [hall] at heffect
    have hlink := hnak p (.inl ⟨List.mem_range.mpr (by omega), hup⟩)
    cases hannounced : s.dev.timer.announced with
    | true =>
      exact Ends.of_effect hrun rfl (heffect.trans (if_pos hannounced)) rfl rfl ⟨hlink, (Bool.or_true _).symm, rfl⟩
    | false =>
      exact Ends.of_effect hrun rfl (heffect.trans (if_neg (by simp [hannounced]))) rfl rfl ⟨hlink, (Bool.or_false _).symm, rfl⟩
  case period =>
    refine Ends.of_effect hrun rfl (fxBrtPeriodWrite_of_fit hport hfit hsource hmaster) rfl rfl ⟨rfl, ?_, ?_, rfl⟩
    · exact (Device.reg_setReg_same _ _ _).trans (Nat.mod_eq_of_lt ((bitsOf_lt _ _ _).trans (by decide)))
    · exact Device.reg_setReg_other _ _ _ _ (by decide)
  case unfit =>
    exact Ends.of_effect hrun rfl (fxBrtPeriodWrite_of_unfit hport hfit) rfl rfl
      ⟨Device.regField_setRegField_same _ _ (by decide), Device.reg_setRegField_other _ _ _ _ (by decide), rfl⟩
  case source =>
    refine Ends.of_effect hrun rfl (fxBrtSrcWrite_of_value hport hvalue) rfl rfl ⟨rfl, ?_, rfl⟩
    exact congrArg (· % 4) (Device.reg_setReg_other _ _ _ _ (by decide))
  case budget =>
    intro kind n hkind hzero
    have heffect := fxSchArbBudgetWrite_of_kind (word := word) hport hc himages hkind hzero
    refine ⟨fun hroom => ?_, fun hfull => ?_⟩
    · refine Ends.of_effect hrun rfl (heffect.trans (if_neg (Nat.not_lt.mpr hroom))) rfl rfl
        ⟨?_, fun k hk => Device.reg_setReg_other _ _ _ _ hk, rfl⟩
      exact (Device.reg_setReg_same _ _ _).trans (Nat.mod_eq_of_lt ((bitsOf_lt _ _ _).trans (by decide)))
    · exact Ends.of_effect hrun rfl (heffect.trans (if_pos hfull)) rfl rfl
        ⟨Device.regField_setRegField_same _ _ (by decide), fun k hk => Device.reg_setRegField_other _ _ _ _ hk, rfl⟩
  case regulator =>
    refine Ends.of_effect hrun rfl (fxRegulatorWrite_of_bucket hport hp hk hreg) rfl rfl
      ⟨?_, fun r hr => Device.reg_setReg_other _ _ _ _ hr, ?_, fun q j hj hother => ?_, rfl⟩
    · exact Device.bucket_modBucket_same _ _ _ _
    · refine (Device.reg_setReg_same _ _ _).trans ?_
      split
      · exact and_bit31 _
      · rfl
    · exact Device.bucket_modBucket_other _ _ hk hj hother
  case locked =>
    exact Ends.of_effect hrun rfl (fxDomainConfigWrite_of_locked hsteward hlocked) rfl rfl
      ⟨Device.regField_setRegField_same _ _ (by decide), fun k hk => Device.reg_setRegField_other _ _ _ _ hk, rfl⟩
  case members =>
    refine Ends.of_effect hrun rfl (fxDomainConfigWrite_of_members hsteward hfree hoff) rfl rfl ⟨?_, ?_, rfl⟩
    · exact (Device.reg_setReg_other _ _ _ _ (by decide)).trans (Device.reg_setReg_same _ _ _)
    · exact Device.inDomain_formDomain _

end Sys2Proof.Machine
end

section
/-!
SUPPORT. Suspending and resuming a job: the save and restore steps over the job's partitions, and the cut at a checkpoint (R628 to
R639).
-/
namespace Sys2Proof.Machine

section Completions
variable (d : Device) (c : CmdRef) (st : Nat) (v : List Byte)

theorem Device.part_complete (p : Nat) : (d.complete c st v).part p = d.part p := Device.part_congr (Device.complete_parts ..) p

theorem Device.job_complete (j : Nat) : (d.complete c st v).job j = d.job j := by
  rw [Device.job, Device.complete_jobs, Device.job]

theorem Device.complete_saves : (d.complete c st v).saves = d.saves := by rw [Device.complete_frame]

end Completions

/-! ### One change on each of several partitions -/

theorem Device.jobParts_nodup (d : Device) (j : Nat) : (d.jobParts j).Nodup := List.nodup_range.filter _

/-- A change of every partition of a list. -/
theorem Device.foldl_modPart (f : Nat → Partition → Partition) (l : List Nat) (d : Device) (hnodup : l.Nodup) : ∃ parts,
    l.foldl (fun d p => d.modPart p (f p)) d = { d with parts := parts } ∧
    (∀ p ∈ l, Table.getD parts p {} = f p (d.part p)) ∧ ∀ p ∉ l, Table.getD parts p {} = d.part p := by
  induction l generalizing d with
  | nil => exact ⟨d.parts, rfl, fun _ hp => absurd hp List.not_mem_nil, fun _ _ => rfl⟩
  | cons q l ih =>
    obtain ⟨hq, hnodup⟩ := List.nodup_cons.mp hnodup
    obtain ⟨parts, hrest, hown, hothers⟩ := ih (d.modPart q (f q)) hnodup
    refine ⟨parts, hrest, fun p hp => ?_, fun p hp => ?_⟩
    · by_cases hpq : p = q
      · subst hpq
        exact (hothers p hq).trans (Device.part_modPart_same _ _ _)
      · exact (hown p ((List.mem_cons.mp hp).resolve_left hpq)).trans (congrArg (f p) (Device.part_modPart_other _ _ _ _ hpq))
    · obtain ⟨hpq, hp⟩ := not_or.mp (List.mem_cons.not.mp hp)
      exact (hothers p hp).trans (Device.part_modPart_other _ _ _ _ hpq)

/-! ### Commands (R629, R637) -/

section Commands
variable {d : Device} {o : Origin} {e : Staged}

/-- R629: the suspension of a running job is asked for. -/
theorem fxJobSuspend_of_running (hnext : d.startable o 0x7A = some e) (hreserved : e.op 1 1 = 0) (haux : e.aux = 0)
    (hzero : allZero (sliceOf e.entry 12 52) = true) (hstate : (d.job (e.op 8 4)).state = .running)
    (hsuspend : (d.job (e.op 8 4)).suspend = .no) :
    fxJobSuspend o d = (d.start e).modJob (e.op 8 4) (fun x => { x with suspend := .suspending, cmd := some e.cmd }) := by
  simp only [fxJobSuspend, hnext]
  refine (if_neg (by simp [hreserved, haux, hzero])).trans ((if_neg (by simp [hstate])).trans ((if_neg (by simp [hsuspend])).trans ?_))
  rw [hstate]
  rfl

/-- R637: the resumption of a saved job takes the partitions of its images. -/
theorem fxJobResume_of_saved (hnext : d.startable o 0x7B = some e) (hreserved : e.op 1 1 = 0) (haux : e.aux = 0)
    (hzero : allZero (sliceOf e.entry 12 52) = true) (hstate : (d.job (e.op 8 4)).state = .running)
    (hsuspend : (d.job (e.op 8 4)).suspend = .saved) (hfree : ∀ p ∈ d.imageParts (e.op 8 4), (d.part p).job = 0) :
    fxJobResume o d = ((d.imageParts (e.op 8 4)).foldl (fun d p => d.modPart p (fun x => { x with job := e.op 8 4 })) (d.start e)).modJob
      (e.op 8 4) (fun x => { x with suspend := .resuming, cmd := some e.cmd }) := by
  have hnone : (d.imageParts (e.op 8 4)).any (fun p => ((d.start e).part p).job != 0) = false := by
    rw [List.any_eq_false]
    exact fun p hp => by
      rw [Device.part_congr (d := d) (d' := d.start e) rfl, hfree p hp]
      decide
  simp only [fxJobResume, hnext]
  refine (if_neg (by simp [hreserved, haux, hzero])).trans ((if_neg (by simp [hstate])).trans ((if_neg (by simp [hsuspend])).trans
    ((if_neg (by rw [hnone]; decide)).trans ?_)))
  rw [hstate]
  rfl

end Commands

/-! ### The save step (R629 to R636) -/

/-- R632: what the device keeps of a partition beside its save area. -/
def Partition.kept (x : Partition) : Saved := ⟨x.fabric, x.rings, x.slots, x.active, x.epoch, x.replay⟩

theorem Device.valveImage_frame (d : Device) (p : Nat) : ∃ n, (d.valveImage p).2 = { d with freeCounter := n } := by
  have hall (l : List Nat) (acc : List Byte × Device) : ∃ n, (l.foldl (fun (acc : List Byte × Device) site =>
      let (n, d) := acc.2.fresh 16384
      (acc.1 ++ (d.valve p site).entries ++ leBytes 2048 n, d)) acc).2 = { acc.2 with freeCounter := n } := by
    induction l generalizing acc with
    | nil => exact ⟨_, rfl⟩
    | cons site l ih => exact ih _
  exact hall _ _

theorem foldl_writeBytes_frame {α : Type} (l : List α) (g : α → List Byte) (len : α → Nat) (acc : Device × Nat) : ∃ wlog,
    (l.foldl (fun (acc : Device × Nat) r => (acc.1.writeBytes acc.2 (g r), acc.2 + len r)) acc).1 = { acc.1 with wlog := wlog } := by
  induction l generalizing acc with
  | nil => exact ⟨_, rfl⟩
  | cons r l ih => exact ih _

theorem Device.savePart_of_area (d : Device) {j p : Nat} (harea : d.saveKey j p ≠ none) : ∃ wlog n,
    d.savePart j p = { d with wlog := wlog, freeCounter := n, saves := Table.put d.saves (saveInst j p) (d.part p).kept } := by
  obtain ⟨k, hkey⟩ := Option.ne_none_iff_exists'.mp harea
  obtain ⟨n, hvalves⟩ := d.valveImage_frame p
  unfold Device.savePart
  rw [hkey]
  dsimp only
  rw [(foldl_writeBytes_frame _ _ _ _).choose_spec]
  dsimp only [Device.writeBytes]
  rw [hvalves]
  exact ⟨_, n, rfl⟩

theorem saveInst_inj {j p q : Nat} (h : saveInst j p = saveInst j q) : p = q := Nat.add_left_cancel h

/-- R629: the save steps of several partitions. -/
theorem Device.savePart_foldl (j : Nat) (l : List Nat) (d : Device) (hnodup : l.Nodup) : ∃ wlog n saves,
    l.foldl (fun d p => d.savePart j p) d = { d with wlog := wlog, freeCounter := n, saves := saves } ∧
    (∀ p ∈ l, d.saveKey j p ≠ none → Table.getD saves (saveInst j p) {} = (d.part p).kept) ∧
    ∀ i, (∀ p ∈ l, i ≠ saveInst j p) → Table.getD saves i {} = Table.getD d.saves i {} := by
  induction l generalizing d with
  | nil => exact ⟨d.wlog, d.freeCounter, d.saves, rfl, fun _ hp => absurd hp List.not_mem_nil, fun _ _ => rfl⟩
  | cons q l ih =>
    obtain ⟨hq, hnodup⟩ := List.nodup_cons.mp hnodup
    have hnext {p : Nat} (hp : p ∈ q :: l) (hpq : p ≠ q) : p ∈ l := (List.mem_cons.mp hp).resolve_left hpq
    by_cases harea : d.saveKey j q = none
    · have hskip : d.savePart j q = d := by
        unfold Device.savePart
        rw [harea]
      obtain ⟨wlog, n, saves, hrest, hown, hothers⟩ := ih d hnodup
      refine ⟨wlog, n, saves, ?_, fun p hp hkey => hown p (hnext hp fun hpq => hkey (hpq ▸ harea)) hkey,
        fun i hi => hothers i fun p hp => hi p (List.mem_cons_of_mem _ hp)⟩
      rw [List.foldl_cons, hskip, hrest]
    · obtain ⟨wlog₁, n₁, hone⟩ := d.savePart_of_area harea
      obtain ⟨wlog, n, saves, hrest, hown, hothers⟩ := ih { d with
        wlog := wlog₁, freeCounter := n₁, saves := Table.put d.saves (saveInst j q) (d.part q).kept } hnodup
      refine ⟨wlog, n, saves, ?_, fun p hp hkey => ?_, fun i hi => ?_⟩
      · rw [List.foldl_cons, hone, hrest]
      · by_cases hpq : p = q
        · subst hpq
          exact (hothers _ fun r hr heq => hq ((saveInst_inj heq : p = r) ▸ hr)).trans (Table.getD_put_same _ _ _ _)
        · exact hown p (hnext hp hpq) hkey
      · exact (hothers i fun p hp => hi p (List.mem_cons_of_mem _ hp)).trans
          (Table.getD_put_other _ _ _ _ _ (hi q List.mem_cons_self))

/-- A command's changes of memory land as it ends, and none is left over. -/
theorem Device.land_setWlog {d : Device} (hquiet : d.wlog = []) (w : List MemOp) (m : Memory) :
    ({ d with wlog := w } : Device).land m = { d with mem := Memory.applyAll m w } := by
  simp [Device.land, hquiet]

theorem fxSaveStep_of_quiet {d : Device} {j : Nat} (hsuspend : (d.job j).suspend = .suspending) (hjob : d.jobQuiet j = true) :
    fxSaveStep j d = ((d.jobParts j).foldl (fun d p => d.savePart j p) d).modJob j (fun x => { x with suspend := .saving }) :=
  if_neg (by simp [hsuspend, hjob])

/-- R238: nothing is left in a fabric whose state is discarded. -/
theorem Fabric.occupancy_discard (f : Fabric) : f.discard.occupancy = 0 := by
  have hcells (l : List (Nat × Cell)) (n : Nat) (g : Nat → Cell → Cell) (hg : ∀ k c, (g k c).occupancy = 0) :
      (Table.mapVals l g).foldl (fun n e => n + e.2.occupancy) n = n := by
    induction l generalizing n with
    | nil => rfl
    | cons e l ih => exact (congrArg (fun m => (Table.mapVals l g).foldl _ (n + m)) (hg e.1 e.2)).trans (ih n)
  rw [Fabric.occupancy, Fabric.discard]
  dsimp only
  refine (Nat.zero_add _).trans (hcells f.cells 0 _ ?_)
  exact fun _ _ => rfl

/-- R636: a partition whose job is saved is free. -/
def Partition.freed (x : Partition) : Partition :=
  { x with fabric := x.fabric.discard, rings := [], slots := [], active := none, replay := none, parked := false, front := [], job := 0 }

theorem fxSaveComplete_of_saving {d : Device} {j : Nat} (hsuspend : (d.job j).suspend = .saving) :
    fxSaveComplete j d =
      (let e := (d.jobParts j).foldl (fun d p => d.modPart p Partition.freed) d
       (e.modJob j (fun x => { x with suspend := .saved, cmd := none })).completeOpt (e.job j).cmd 0
         (valueOf ((d.jobParts j).foldl (fun n p => n + d.saveBytes j p (d.part p).cutStep.isSome) 0))) :=
  if_neg (by simp [hsuspend])

/-! ### The restore step (R637, R638) -/

/-- Only the slots and the loads of partition `p` may differ. -/
structure SlotsAndLoads (p : Nat) (d e : Device) : Prop where
  frame : e = { d with parts := e.parts }
  fabric : (e.part p).fabric = (d.part p).fabric
  rings : (e.part p).rings = (d.part p).rings
  replay : (e.part p).replay = (d.part p).replay
  others : ∀ q, q ≠ p → e.part q = d.part q

theorem SlotsAndLoads.refl (p : Nat) (d : Device) : SlotsAndLoads p d d := ⟨rfl, rfl, rfl, rfl, fun _ _ => rfl⟩

theorem SlotsAndLoads.trans {p : Nat} {d e f : Device} (h : SlotsAndLoads p d e) (g : SlotsAndLoads p e f) : SlotsAndLoads p d f :=
  ⟨g.frame.trans (congrArg (fun x : Device => { x with parts := f.parts }) h.frame), g.fabric.trans h.fabric, g.rings.trans h.rings,
    g.replay.trans h.replay, fun q hq => (g.others q hq).trans (h.others q hq)⟩

theorem SlotsAndLoads.modPart (p : Nat) (d : Device) (slots : Partition → Table Slot) (loads : Partition → List Load) :
    SlotsAndLoads p d (d.modPart p (fun x => { x with slots := slots x, loads := loads x })) := by
  refine ⟨rfl, ?_, ?_, ?_, fun q hq => Device.part_modPart_other _ _ _ _ hq⟩ <;> rw [Device.part_modPart_same]

/-- R637: a slot's stop is loaded again, or stands as it failed. -/
theorem slotsAndLoads_slot (p : Nat) (d : Device) (e : Nat × Slot) : SlotsAndLoads p d (match e.2.state with
    | .failed => d.setSlot p e.1 e.2
    | .ready => Device.restorePart.reload p d e
    | .active => Device.restorePart.reload p d e
    | _ => d) := by
  have hreload : SlotsAndLoads p d (Device.restorePart.reload p d e) := by
    rw [Device.restorePart.reload]
    split
    · exact SlotsAndLoads.modPart p d (fun x => x.slots) _
    · exact SlotsAndLoads.refl p d
  split
  · exact SlotsAndLoads.modPart p d _ (fun x => x.loads)
  · exact hreload
  · exact hreload
  · exact SlotsAndLoads.refl p d

/-- What a restore step brings back of a partition. -/
structure Restored (p : Nat) (v : Saved) (d e : Device) : Prop where
  frame : e = { d with parts := e.parts, wlog := e.wlog }
  rings : (e.part p).rings = v.rings
  replay : (e.part p).replay = v.replay
  bufs : (e.fab p).bufs = v.fabric.bufs
  halted : (e.fab p).halted = (d.fab p).halted
  others : ∀ q, q ≠ p → e.part q = d.part q

theorem foldl_copy_frame (p : Nat) (l : List (Nat × Nat)) (acc : Device × Nat) : ∃ wlog,
    (l.foldl (fun (acc : Device × Nat) r =>
      (acc.1.writeBytes (t1Linear p r.1) (acc.1.readBytes acc.2 r.2), acc.2 + r.2)) acc).1 = { acc.1 with wlog := wlog } := by
  induction l generalizing acc with
  | nil => exact ⟨_, rfl⟩
  | cons r l ih => exact ih _

theorem Device.restorePart_of_area (d : Device) {j p : Nat} (harea : d.saveKey j p ≠ none) :
    Restored p (d.saved j p) d (d.restorePart j p) := by
  obtain ⟨k, hkey⟩ := Option.ne_none_iff_exists'.mp harea
  obtain ⟨wlog, hcopied⟩ := foldl_copy_frame p (d.saveRegions j p) (d, k + 0x8A1000)
  unfold Device.restorePart
  rw [hkey]
  dsimp only
  rw [hcopied]
  generalize Table.mapVals _ _ = cells
  generalize hmod : Device.modPart _ p _ = e
  have hpart : e.part p = { d.part p with
      fabric := { (d.saved j p).fabric with cells := cells, halted := (d.part p).fabric.halted }, rings := (d.saved j p).rings
      replay := (d.saved j p).replay, parked := (d.saved j p).replay.isSome } := hmod ▸ Device.part_modPart_same _ _ _
  have hothers (q : Nat) (hq : q ≠ p) : e.part q = d.part q := hmod ▸ Device.part_modPart_other _ _ _ _ hq
  have hslots : SlotsAndLoads p e ((d.saved j p).slots.foldl (fun d e => match e.2.state with
      | .failed => d.setSlot p e.1 e.2
      | .ready => Device.restorePart.reload p d e
      | .active => Device.restorePart.reload p d e
      | _ => d) e) := by
    generalize (d.saved j p).slots = l
    clear hmod hpart hothers
    induction l generalizing e with
    | nil => exact SlotsAndLoads.refl p e
    | cons r l ih => exact (slotsAndLoads_slot p e r).trans (ih _)
  have hframe : e = { d with parts := e.parts, wlog := wlog } := hmod ▸ rfl
  have hrestored {f : Device} (h : SlotsAndLoads p e f) : Restored p (d.saved j p) d f :=
    { frame := by rw [h.frame, hframe]
      rings := h.rings.trans (by rw [hpart])
      replay := h.replay.trans (by rw [hpart])
      bufs := (congrArg Fabric.bufs h.fabric).trans (by rw [hpart])
      halted := (congrArg Fabric.halted h.fabric).trans (by rw [hpart]; rfl)
      others := fun q hq => (h.others q hq).trans (hothers q hq) }
  exact hrestored hslots

/-- R637: the restore steps of several partitions. -/
theorem Device.restorePart_foldl (j : Nat) (l : List Nat) (d : Device) (hnodup : l.Nodup) : ∃ wlog parts,
    l.foldl (fun d p => d.restorePart j p) d = { d with wlog := wlog, parts := parts } ∧
    (∀ p ∈ l, d.saveKey j p ≠ none → (Table.getD parts p {}).rings = (d.saved j p).rings ∧
      (Table.getD parts p {}).replay = (d.saved j p).replay ∧ (Table.getD parts p {}).fabric.bufs = (d.saved j p).fabric.bufs ∧
      (Table.getD parts p {}).fabric.halted = (d.fab p).halted) ∧
    ∀ p ∉ l, Table.getD parts p {} = d.part p := by
  induction l generalizing d with
  | nil => exact ⟨d.wlog, d.parts, rfl, fun _ hp => absurd hp List.not_mem_nil, fun _ _ => rfl⟩
  | cons q l ih =>
    obtain ⟨hq, hnodup⟩ := List.nodup_cons.mp hnodup
    obtain ⟨wlog₁, parts₁, hone, hrestored, hkept⟩ : ∃ wlog₁ parts₁, d.restorePart j q = { d with wlog := wlog₁, parts := parts₁ } ∧
        (d.saveKey j q ≠ none → Restored q (d.saved j q) d (d.restorePart j q)) ∧ ∀ p, p ≠ q → Table.getD parts₁ p {} = d.part p := by
      by_cases harea : d.saveKey j q = none
      · have hskip : d.restorePart j q = d := by
          unfold Device.restorePart
          rw [harea]
        exact ⟨d.wlog, d.parts, hskip, fun h => absurd harea h, fun _ _ => rfl⟩
      · have hrestored := d.restorePart_of_area harea
        exact ⟨_, _, hrestored.frame, fun _ => hrestored, hrestored.others⟩
    obtain ⟨wlog, parts, hrest, hown, hothers⟩ := ih { d with wlog := wlog₁, parts := parts₁ } hnodup
    rw [List.foldl_cons, hone, hrest]
    rw [hone] at hrestored
    refine ⟨wlog, parts, rfl, fun p hp hkey => ?_, fun p hp => ?_⟩
    · by_cases hpq : p = q
      · subst hpq
        obtain ⟨-, hrings, hreplay, hbufs, hhalted, -⟩ := hrestored hkey
        have hsame : Table.getD parts p {} = _ := hothers p hq
        rw [hsame]
        exact ⟨hrings, hreplay, hbufs, hhalted⟩
      · obtain ⟨hrings, hreplay, hbufs, hhalted⟩ := hown p ((List.mem_cons.mp hp).resolve_left hpq) hkey
        exact ⟨hrings, hreplay, hbufs, hhalted.trans (congrArg (fun x : Partition => x.fabric.halted) (hkept p hpq))⟩
    · obtain ⟨hpq, hp⟩ := not_or.mp (List.mem_cons.not.mp hp)
      exact (hothers p hp).trans (hkept p hpq)

theorem fxRestoreStep_of_resuming {d : Device} {j : Nat} (hsuspend : (d.job j).suspend = .resuming) :
    fxRestoreStep j d = ((d.jobParts j).foldl (fun d p => d.restorePart j p) d).modJob j (fun x => { x with suspend := .restoring }) :=
  if_neg (by simp [hsuspend])

/-- R637: a restored partition whose stops stand in their slots again. -/
def Partition.resumed (v : Saved) (x : Partition) : Partition :=
  { x with active := v.active, epoch := v.epoch
           slots := match v.active with
             | some a => Table.put x.slots a { x.slot a with state := .active }
             | none => x.slots }

theorem fxRestoreComplete_of_intact {d : Device} {j : Nat} (hsuspend : (d.job j).suspend = .restoring)
    (hloads : ∀ p ∈ d.jobParts j, ∀ l ∈ (d.part p).loads, l.restart = false) (hintact : ∀ p ∈ d.jobParts j, d.saveIntact j p = true)
    (hslots : ∀ p ∈ d.jobParts j, ∀ e ∈ (d.saved j p).slots, (e.2.state = .ready ∨ e.2.state = .active) → d.slotState p e.1 = .ready) :
    fxRestoreComplete j d =
      (let e := (d.jobParts j).foldl (fun f p => f.modPart p (Partition.resumed (f.saved j p))) d
       (({ e with saves := e.saves.filter (fun r => r.1 / 16 != j) } : Device).modJob j
         (fun x => { x with suspend := .no, cmd := none })).completeOpt (e.job j).cmd 0 []) := by
  rw [fxRestoreComplete]
  refine (if_neg ?_).trans ((if_neg ?_).trans ((if_neg ?_).trans rfl))
  · simpa [hsuspend] using hloads
  · simpa using hintact
  · simp only [List.any_eq_true, not_exists, Bool.and_eq_true, Bool.or_eq_true, bne_iff_ne, beq_iff_eq, not_and, not_not]
    exact hslots

theorem Device.foldl_resumed {j : Nat} (v : Nat → Saved) (l : List Nat) (d : Device) (hv : ∀ p, d.saved j p = v p) :
    l.foldl (fun f p => f.modPart p (Partition.resumed (f.saved j p))) d =
      l.foldl (fun f p => f.modPart p (Partition.resumed (v p))) d := by
  induction l generalizing d with
  | nil => rfl
  | cons p l ih =>
    rw [List.foldl_cons, List.foldl_cons, hv]
    exact ih _ hv

/-! ### The cut at a checkpoint (R639) -/

/-- What un-admitting a step leaves of partition `p` and of the device. -/
structure Unadmitted (p : Nat) (d e : Device) : Prop where
  jobs : e.jobs = d.jobs
  mem : e.mem = d.mem
  wlog : e.wlog = d.wlog
  running : (e.part p).running = (d.part p).running
  parked : (e.part p).parked = (d.part p).parked
  replay : (e.part p).replay = (d.part p).replay
  fabric : (e.part p).fabric = (d.part p).fabric

namespace Unadmitted
variable {p : Nat} {d e f : Device}

theorem refl (p : Nat) (d : Device) : Unadmitted p d d := ⟨rfl, rfl, rfl, rfl, rfl, rfl, rfl⟩

theorem trans (h : Unadmitted p d e) (g : Unadmitted p e f) : Unadmitted p d f :=
  ⟨g.jobs.trans h.jobs, g.mem.trans h.mem, g.wlog.trans h.wlog, g.running.trans h.running, g.parked.trans h.parked,
    g.replay.trans h.replay, g.fabric.trans h.fabric⟩

theorem foldl {α : Type} (l : List α) {f : Device → α → Device} (hf : ∀ d a, Unadmitted p d (f d a)) : Unadmitted p d (l.foldl f d) := by
  induction l generalizing d with
  | nil => exact refl p d
  | cons a l ih => exact (hf d a).trans ih

/-- A change of a partition's rings or admitted steps. -/
theorem modPart (q : Nat) (g : Partition → Partition) (hg : ∀ x, (g x).running = x.running ∧ (g x).parked = x.parked ∧
    (g x).replay = x.replay ∧ (g x).fabric = x.fabric) : Unadmitted p d (d.modPart q g) := by
  have hpart : ((d.modPart q g).part p).running = (d.part p).running ∧ ((d.modPart q g).part p).parked = (d.part p).parked ∧
      ((d.modPart q g).part p).replay = (d.part p).replay ∧ ((d.modPart q g).part p).fabric = (d.part p).fabric := by
    by_cases hq : p = q
    · subst hq
      rw [Device.part_modPart_same]
      exact hg _
    · rw [Device.part_modPart_other _ _ _ _ hq]
      exact ⟨rfl, rfl, rfl, rfl⟩
  obtain ⟨hrunning, hparked, hreplay, hfabric⟩ := hpart
  exact ⟨rfl, rfl, rfl, hrunning, hparked, hreplay, hfabric⟩

theorem ringsDrop (q uid : Nat) : Unadmitted p d (d.ringsDrop q uid) := by
  have hwork (l : List (Nat × Nat)) : Unadmitted p d (l.foldl (fun d e => (d.forget e.2).endRingWork (16 * q + e.1 / 4) e.2) d) :=
    foldl l fun d e => ⟨rfl, rfl, rfl, rfl, rfl, rfl, rfl⟩
  rw [Device.ringsDrop]
  refine (hwork _).trans (modPart q _ ?_)
  exact fun x => ⟨rfl, rfl, rfl, rfl⟩

theorem unadmit (s : StepInst) : Unadmitted p d (d.unadmit s) := by
  have hdrop (l : List (Nat × StepInst)) : Unadmitted p d (l.foldl (fun d e =>
      (d.ringsDrop e.1 e.2.uid).modPart e.1 (fun x => { x with admitted := x.admitted.filter (fun t => t.uid != e.2.uid) })) d) :=
    foldl l fun d e => (ringsDrop e.1 e.2.uid).trans (modPart e.1 _ fun x => ⟨rfl, rfl, rfl, rfl⟩)
  have hchain (e : Device) (g : Chain → Chain) : Unadmitted p e (e.modChain s.chain g) := ⟨rfl, rfl, rfl, rfl, rfl, rfl, rfl⟩
  exact (hdrop _).trans (hchain _ _)

end Unadmitted

/-- R639: a step that stands at its checkpoint is cut, and what is admitted behind it is so no more. -/
theorem fxCheckpointCut_of_due {d : Device} {p n : Nat} {x : StepInst} (hp : p < 12) (hgoes : (d.fab p).halted = false)
    (hstep : (d.part p).running = some x) (hpoint : d.checkpointOf p x = some n) (hdue : d.cutDue p x = true)
    (hledgers : (d.fab p).onlyLedgers = true) (htaken : d.taken p = 0) :
    Unadmitted p (d.modPart p (fun y => { y with running := none, parked := true, replay := some { x with cut := n, carried := false } }))
      (fxCheckpointCut p d) := by
  have hgoes' : (d.part p).fabric.halted = false := hgoes
  have hledgers' : (d.part p).fabric.onlyLedgers = true := hledgers
  simp only [fxCheckpointCut, hstep, hpoint]
  rw [if_neg (by simp [hp, hdue, hgoes', hledgers', htaken])]
  exact Unadmitted.foldl _ fun d t => Unadmitted.unadmit t

/-- Settles O44: each command and step is the device of its equation above, read off partition by partition. How a partition is saved
and restored, and that nothing behind a cut step stays admitted, are the model's choices (log entries 34, 35, 56). -/
theorem jobsSuspendAndResume : Obligations.JobsSuspendAndResume := by
  refine fun s j hrun@⟨_, _, hquiet⟩ => ⟨fun o e hnext hop hreserved haux hzero hstate hsuspend => ?suspend,
    fun hsuspend hjob => ?save, fun c hsuspend hcmd => ?saved, fun o e hnext hop hreserved haux hzero hstate hsuspend hfree => ?resume,
    fun hsuspend => ?restore, fun c hsuspend hcmd hloads => ?restored,
    fun p x n hp hgoes hstep hpoint hdue hledgers htaken => ?cut⟩
  case suspend =>
    subst hop
    exact Ends.of_effect hrun rfl (fxJobSuspend_of_running hnext hreserved haux hzero hstate hsuspend) rfl rfl
      ⟨Device.job_modJob_same _ _ _, fun k hk => Device.job_modJob_other _ _ _ _ hk, rfl⟩
  case save =>
    have heffect := fxSaveStep_of_quiet hsuspend hjob
    obtain ⟨wlog, n, saves, hsaved, hown, -⟩ := Device.savePart_foldl j (s.dev.jobParts j) s.dev (s.dev.jobParts_nodup j)
    rw [hsaved] at heffect
    have hlanded := (congrArg (Device.land · s.dev.mem) heffect).trans (congrArg (fun e : Device =>
      ({ e with freeCounter := n, saves := saves } : Device).modJob j (fun x => { x with suspend := .saving }))
      (Device.land_setWlog hquiet wlog s.dev.mem))
    exact Ends.of_landed hrun rfl hlanded ⟨Device.job_modJob_same _ _ _, hown, rfl⟩
  case saved =>
    obtain ⟨parts, hfreed, hown, hothers⟩ := Device.foldl_modPart (fun _ => Partition.freed) (s.dev.jobParts j) s.dev
      (s.dev.jobParts_nodup j)
    have heffect := fxSaveComplete_of_saving hsuspend
    dsimp only at heffect
    rw [hfreed, show (({ s.dev with parts := parts } : Device).job j).cmd = some c from hcmd, Device.completeOpt_some] at heffect
    refine Ends.of_effect hrun rfl heffect (by simp) (by simp) ⟨?_, fun p hp => ?_, fun p hp => ?_, ?_⟩
    · rw [Device.job_complete, Device.job_modJob_same]
    · rw [Device.fab, Device.part_complete]
      have hpart : Table.getD parts p {} = _ := hown p hp
      rw [Device.part_congr (d := { s.dev with parts := parts }) (Device.modJob_parts _ _ _), Device.part, hpart]
      exact ⟨rfl, rfl, rfl, rfl, Fabric.occupancy_discard _⟩
    · rw [Device.part_complete]
      exact hothers p hp
    · rw [Device.complete_jobs, Device.complete_parts]
      rfl
  case resume =>
    subst hop
    obtain ⟨parts, htaken, hown, hothers⟩ := Device.foldl_modPart (fun _ x => { x with job := e.op 8 4 })
      (s.dev.imageParts (e.op 8 4)) (s.dev.start e) (List.nodup_range.filter _)
    have heffect := fxJobResume_of_saved hnext hreserved haux hzero hstate hsuspend hfree
    rw [htaken] at heffect
    exact Ends.of_effect hrun rfl heffect rfl rfl ⟨Device.job_modJob_same _ _ _, hown, hothers, rfl⟩
  case restore =>
    have heffect := fxRestoreStep_of_resuming hsuspend
    obtain ⟨wlog, parts, hrestored, hown, hothers⟩ := Device.restorePart_foldl j (s.dev.jobParts j) s.dev (s.dev.jobParts_nodup j)
    rw [hrestored] at heffect
    have hlanded := (congrArg (Device.land · s.dev.mem) heffect).trans (congrArg (fun e : Device =>
      ({ e with parts := parts } : Device).modJob j (fun x => { x with suspend := .restoring }))
      (Device.land_setWlog hquiet wlog s.dev.mem))
    exact Ends.of_landed hrun rfl hlanded ⟨Device.job_modJob_same _ _ _, hown, hothers, rfl⟩
  case restored =>
    refine Ends.of_onDev .runs (fxRestoreComplete j) rfl hrun.runs fun hall => ?_
    have heffect := fxRestoreComplete_of_intact hsuspend hloads (fun p hp => (hall p hp).1) fun p hp => (hall p hp).2
    obtain ⟨parts, hresumed, hown, -⟩ := Device.foldl_modPart (fun p => Partition.resumed (s.dev.saved j p)) (s.dev.jobParts j) s.dev
      (s.dev.jobParts_nodup j)
    dsimp only at heffect
    rw [Device.foldl_resumed (s.dev.saved j) _ _ (fun _ => rfl), hresumed,
      show (({ s.dev with parts := parts } : Device).job j).cmd = some c from hcmd, Device.completeOpt_some] at heffect
    have hmem : (fxRestoreComplete j s.dev).mem = s.dev.mem := (congrArg Device.mem heffect).trans (Device.complete_mem ..)
    have hwlog : (fxRestoreComplete j s.dev).wlog = [] := (congrArg Device.wlog heffect).trans ((Device.complete_wlog ..).trans hquiet)
    rw [Device.land_of_quiet hmem hwlog, heffect]
    refine ⟨?_, fun p hp => ?_, ?_⟩
    · rw [Device.job_complete, Device.job_modJob_same]
    · rw [Device.part_complete]
      exact ⟨congrArg Partition.active (hown p hp), congrArg Partition.epoch (hown p hp)⟩
    · rw [Device.complete_jobs, Device.complete_parts, Device.complete_saves]
      rfl
  case cut =>
    have hcut := fxCheckpointCut_of_due hp hgoes hstep hpoint hdue hledgers htaken
    have hpart := Device.part_modPart_same s.dev p
      (fun y => { y with running := none, parked := true, replay := some { x with cut := n, carried := false } })
    exact Ends.of_effect hrun rfl rfl hcut.mem hcut.wlog ⟨hcut.running.trans (by rw [hpart]), hcut.parked.trans (by rw [hpart]),
      hcut.replay.trans (by rw [hpart]), (congrArg Fabric.cells hcut.fabric).trans (by rw [hpart]; rfl), hcut.jobs, hcut.mem⟩

end Sys2Proof.Machine
end

section
/-!
SUPPORT. Front loads that start, and the steps of long operations (R346, R348, R360, R640, R641).
-/
namespace Sys2Proof.Machine

/-! ### Front loads -/

section Front
variable {d : Device} {p h i : Nat} {x : Image} {f : FrontRec}

/-- The Front entry of an image stands under its image and index. -/
theorem Device.frontEntry_key (d : Device) (p h i : Nat) : (d.frontEntry p h i).image = h ∧ (d.frontEntry p h i).index = i := by
  rw [Device.frontEntry]
  cases hfind : (d.part p).front.find? (fun e => e.image == h && e.index == i) with
  | none => exact ⟨rfl, rfl⟩
  | some e => simpa using List.find?_some hfind

theorem Device.frontEntry_congr {d e : Device} (hpart : (e.part p).front = (d.part p).front) : e.frontEntry p h i = d.frontEntry p h i := by
  rw [Device.frontEntry, hpart, Device.frontEntry]

/-- A Front entry whose change keeps its key reads back as changed. -/
theorem Device.frontEntry_modFront (d : Device) (p h i : Nat) (g : FrontEntry → FrontEntry)
    (hkey : (g (d.frontEntry p h i)).image = h ∧ (g (d.frontEntry p h i)).index = i) :
    (d.modFront p h i g).frontEntry p h i = g (d.frontEntry p h i) := by
  have hgone : ((d.part p).front.filter (fun y => !(y.image == h && y.index == i))).find? (fun e => e.image == h && e.index == i) = none := by
    rw [List.find?_eq_none]
    intro y hy
    simpa [imp_iff_not_or] using (List.mem_filter.mp hy).2
  rw [Device.frontEntry, Device.modFront, Device.part_modPart_same]
  dsimp only
  rw [List.find?_append, hgone, Option.none_or, List.find?_cons_of_pos (by simp [hkey.1, hkey.2])]
  rfl

theorem Device.part_modFront_other (d : Device) {p q : Nat} (h i : Nat) (g : FrontEntry → FrontEntry) (hq : q ≠ p) :
    (d.modFront p h i g).part q = d.part q := Device.part_modPart_other _ _ _ _ hq

/-- R348: the moves of a load join the queue of their channel, in order. -/
theorem Device.queueMoves_eq (chan : Nat) (owner : WorkFor) (ms : List Move) (d : Device) : ∃ movers n,
    ms.foldl (fun d m =>
      let (u, d) := d.uid
      d.modMover chan (fun y => { y with queue := y.queue ++ [{ uid := u, owner := owner, port := none, mv := m }] })) d =
      { d with movers := movers, nextUid := n } ∧
    ({ d with movers := movers } : Device).mover chan = { d.mover chan with
      queue := (({ d with movers := movers } : Device).mover chan).queue } ∧
    (({ d with movers := movers } : Device).mover chan).queue.map (·.mv) = (d.mover chan).queue.map (·.mv) ++ ms ∧
    ∀ c, c ≠ chan → ({ d with movers := movers } : Device).mover c = d.mover c := by
  induction ms generalizing d with
  | nil => exact ⟨d.movers, d.nextUid, rfl, rfl, (List.append_nil _).symm, fun _ _ => rfl⟩
  | cons m ms ih =>
    have hone := Device.mover_modMover_same ({ d with nextUid := d.nextUid + 1 } : Device) chan
      (fun y => { y with queue := y.queue ++ [{ uid := d.nextUid, owner := owner, port := none, mv := m }] })
    obtain ⟨movers, n, hrest, hchan, hqueue, hothers⟩ := ih (({ d with nextUid := d.nextUid + 1 } : Device).modMover chan
      (fun y => { y with queue := y.queue ++ [{ uid := d.nextUid, owner := owner, port := none, mv := m }] }))
    refine ⟨movers, n, hrest, ?_, ?_, fun c hc => ?_⟩
    · rw [hone] at hchan
      exact hchan
    · rw [hone] at hqueue
      exact hqueue.trans (by simp; rfl)
    · exact (hothers c hc).trans (Device.mover_modMover_other _ _ hc)

theorem fxFrontLoadStart_of_first (hp : p < 12) (hgoes : (d.fab p).halted = false)
    (hfirst : (d.frontOn p).find? (fun e =>
      let y := d.frontEntry p e.1 e.2.2.1
      y.claimed && !y.started && !d.frontOccupied p e) = some (h, x, i, f)) : fxFrontLoadStart p d = d.frontStart p (h, x, i, f) := by
  rw [fxFrontLoadStart, if_neg (by simp [hp, hgoes]), hfirst]

/-- R348: a TILE_LOAD that fits in its channel's queue starts. -/
theorem Device.frontStart_of_tile {t : TileRec} (hkind : f.kind = 0) (htile : x.tiles.find? (fun t => t.id == f.arg0) = some t)
    (hroom : (d.mover (16 * p + f.arg3 % 16)).queue.length + (x.tileMoves p f t).length ≤ 64) : ∃ movers n,
    d.frontStart p (h, x, i, f) =
      ((({ d with movers := movers, nextUid := n } : Device).modFront p h i (fun y => { y with started := true })).addFence (.front p h i)
        (16 * p + f.arg3 % 16) (({ d with movers := movers, nextUid := n } : Device).coverOf (16 * p + f.arg3 % 16) none)) ∧
    (({ d with movers := movers } : Device).mover (16 * p + f.arg3 % 16)).queue.map (·.mv) =
      (d.mover (16 * p + f.arg3 % 16)).queue.map (·.mv) ++ x.tileMoves p f t ∧
    ∀ c, c ≠ 16 * p + f.arg3 % 16 → ({ d with movers := movers } : Device).mover c = d.mover c := by
  obtain ⟨movers, n, hqueued, -, hqueue, hothers⟩ := Device.queueMoves_eq (16 * p + f.arg3 % 16) (.front p h i) (x.tileMoves p f t) d
  refine ⟨movers, n, ?_, hqueue, hothers⟩
  simp only [Device.frontStart, hkind, htile]
  refine (if_pos trivial).trans ((if_neg (Nat.not_lt.mpr hroom)).trans ?_)
  exact congrArg (fun e : Device => ((e.modFront p h i (fun y => { y with started := true })).addFence (.front p h i)
    (16 * p + f.arg3 % 16) (e.coverOf (16 * p + f.arg3 % 16) none))) hqueued

/-- R346: a STOP_LOAD whose slot is free waits behind its partition's loads. -/
theorem Device.frontStart_of_stop {r : StopRec} (hkind : f.kind ≠ 0) (hstop : x.stops.find? (fun r => r.id == f.arg0) = some r)
    (hfree : d.loadRefusal p (f.arg1 % 4) = 0) :
    d.frontStart p (h, x, i, f) = (d.modFront p h i (fun y => { y with started := true })).modPart p (fun y => { y with
      loads := y.loads ++ [{ slot := f.arg1 % 4, src := r.source, image := h, stopId := r.id, front := some i }] }) := by
  have hfree' : (d.modFront p h i (fun y => { y with started := true })).loadRefusal p (f.arg1 % 4) = 0 := by
    rw [Device.loadRefusal, Device.modFront, Device.part_modPart_same]
    exact hfree
  simp only [Device.frontStart, hstop]
  refine (if_neg hkind).trans ((if_neg (by simp [hfree])).trans ?_)
  exact if_neg (by simp [hfree'])

end Front

/-! ### Long operations -/

section Long
variable {d : Device} {id units : Nat} {l : LongOp}

/-- R641: an operation that the intake has not planned does nothing. -/
theorem fxLongOpStep_of_unplanned (bad : Bool) (data : Option (List Byte)) (hfind : d.longOps.find? (fun l => l.id == id) = some l)
    (hplanned : d.planned.contains id = false) : fxLongOpStep id units bad data d = d := by
  simp only [fxLongOpStep, hfind]
  exact if_pos (by rw [hplanned]; rfl)

/-- R360: where no granule is poisoned the scrub goes on by the granules it has visited. -/
theorem fxLongOpStep_of_scrub (data : Option (List Byte)) (hfind : d.longOps.find? (fun l => l.id == id) = some l)
    (hplanned : d.planned.contains id = true) (hkind : l.kind = .scrubT3) (hclean : d.poison = []) :
    fxLongOpStep id units false data d = ({ d with planned := d.planned.filter (fun i => i != id) } : Device).modLong l.id (fun y => { y with
      step := if (d.ddr + d.cxl.getD 0 0 + d.cxl.getD 1 0) / 4096 ≤ y.step + min units 2048 then 0 else y.step + min units 2048 }) := by
  have hmay : d.mayStep l = true := by rw [Device.mayStep, hkind]
  have hunits (e : Device) : e.unitsPerStep l.kind units = min units 2048 := by rw [hkind]; rfl
  simp only [fxLongOpStep, hfind]
  refine (if_neg (by simp only [hplanned, hmay]; decide)).trans ?_
  rw [Device.stepLong, hunits, hkind]
  have hmin : min (min units 2048) 2048 = min units 2048 := by omega
  unfold Device.stepScrub
  simp only [Bool.false_and, Bool.false_eq_true, if_false, hclean, List.filter_nil, List.foldl_nil, hmin]

theorem find?_modLong {ls : List LongOp} (hfind : ls.find? (fun l => l.id == id) = some l) (g : LongOp → LongOp) (hg : (g l).id = l.id) :
    (ls.map (fun y => if y.id = l.id then g y else y)).find? (fun l => l.id == id) = some (g l) := by
  have hid : l.id = id := by simpa using List.find?_some hfind
  induction ls with
  | nil => cases hfind
  | cons y ls ih =>
    by_cases hy : y.id = id
    · rw [List.find?_cons_of_pos (by simpa using hy)] at hfind
      obtain rfl := Option.some.inj hfind
      rw [List.map_cons, if_pos rfl, List.find?_cons_of_pos (by simpa [hg] using hy)]
    · rw [List.find?_cons_of_neg (by simpa using hy)] at hfind
      rw [List.map_cons, if_neg (fun he => hy (he.trans hid)), List.find?_cons_of_neg (by simpa using hy)]
      exact ih hfind

end Long

/-- Settles O45: a TILE_LOAD's moves are queued one by one, a STOP_LOAD is one more load; of the long operations the scrub, and one that
the intake has not planned, have a step here (the engines' order is the model's choice, log entry 60). -/
theorem frontAndLongOperationsStep : Obligations.FrontAndLongOperationsStep := by
  refine fun s hrun => ⟨fun p h x i f hp hgoes hfirst => ⟨fun t hkind htile hroom => ?tile, fun r hkind hstop hfree => ?stop⟩,
    fun id units l data hfind => ⟨fun hplanned => ?unplanned, fun hplanned hkind hclean => ?scrub⟩⟩
  case tile =>
    obtain ⟨movers, n, hstart, hqueue, hothers⟩ := Device.frontStart_of_tile (h := h) (i := i) hkind htile hroom
    have hkey := Device.frontEntry_key s.dev p h i
    have hentry := Device.frontEntry_modFront ({ s.dev with movers := movers, nextUid := n } : Device) p h i
      (fun y => { y with started := true }) hkey
    have hpart (q : Nat) (hq : q ≠ p) := Device.part_modFront_other ({ s.dev with movers := movers, nextUid := n } : Device) h i
      (fun y => { y with started := true }) hq
    exact Ends.of_effect hrun rfl ((fxFrontLoadStart_of_first hp hgoes hfirst).trans hstart) rfl rfl
      ⟨congrArg FrontEntry.started hentry, hqueue, hothers, hpart, rfl, rfl⟩
  case stop =>
    have hkey := Device.frontEntry_key s.dev p h i
    have hentry := Device.frontEntry_modFront s.dev p h i (fun y => { y with started := true }) hkey
    refine Ends.of_effect hrun rfl ((fxFrontLoadStart_of_first hp hgoes hfirst).trans (Device.frontStart_of_stop hkind hstop hfree)) rfl rfl
      ⟨?_, ?_, fun q hq => ?_, rfl⟩
    · rw [Device.frontEntry_congr (d := s.dev.modFront p h i (fun y => { y with started := true }))
        (by rw [Device.part_modPart_same]), hentry]
    · rw [Device.part_modPart_same, Device.modFront, Device.part_modPart_same]
    · exact (Device.part_modPart_other _ _ _ _ hq).trans (Device.part_modFront_other _ h i _ hq)
  case unplanned =>
    exact Ends.of_effect hrun rfl (fxLongOpStep_of_unplanned false data hfind hplanned) rfl rfl rfl
  case scrub =>
    exact Ends.of_effect hrun rfl (fxLongOpStep_of_scrub data hfind hplanned hkind hclean) rfl rfl
      ⟨find?_modLong hfind _ rfl, rfl, rfl⟩

end Sys2Proof.Machine
end

section
/-!
SUPPORT. The serving commands: requests and prefixes taken in, cancelled, released, packed and unpacked (R528, R544 to R546, R549, R557 to
R561, R569, R572).
-/
namespace Sys2Proof.Machine

/-! ### A device that has started a command and asked for its operands -/

/-- The staged commands and the packets to be sent may differ. -/
def Device.asked (d : Device) (l : List Staged) (t : List TxItem) : Device := { d with staged := l, txq := t }

section Asked
variable (d : Device) (l : List Staged) (t : List TxItem)

theorem Device.readBytes_asked (a n : Nat) : (d.asked l t).readBytes a n = d.readBytes a n :=
  Device.readBytes_congr (d := d) (e := d.asked l t) rfl rfl n a

theorem Device.readAny_asked (uid off a n : Nat) : (d.asked l t).readAny uid off a n = d.readAny uid off a n := by
  rw [Device.readAny, Device.readBytes_asked]
  rfl

theorem Device.readOp_asked (c : CmdRef) (off a n : Nat) (host : Option (List Byte)) :
    (d.asked l t).readOp c off a n host = d.readOp c off a n host := by
  unfold Device.readOp
  rw [Device.readAny_asked]
  rfl

theorem Device.automaton_asked (key : Nat) : (d.asked l t).automaton key = d.automaton key := by
  rw [Device.automaton, Device.readBytes_asked]
  rfl

theorem Device.blockMalformed_asked (who : Port) (b : List Byte) (v : Nat) : (d.asked l t).blockMalformed who b v = d.blockMalformed who b v := by
  have hok (a : Nat) : (d.asked l t).automatonOk who a v = d.automatonOk who a v := by
    rw [Device.automatonOk, Device.readBytes_asked, Device.automaton_asked]
    rfl
  rw [Device.blockMalformed]
  simp only [hok]
  rfl

theorem Device.placePages_asked (group : List Nat) (n : Nat) : ∀ k m used,
    (d.asked l t).placePages group n k m used = d.placePages group n k m used
  | 0, _, _ => rfl
  | k + 1, m, used => by
    rw [Device.placePages, Device.placePages]
    simp only [Device.placePages_asked group n k]
    rfl

theorem Device.reservePages_asked (q : Seq) (group : List Nat) (n : Nat) :
    (d.asked l t).reservePages q group n = d.reservePages q group n := by
  rw [Device.reservePages, Device.placePages_asked]
  rfl

theorem Device.resolveImage_asked (port : Port) (h : Nat) : (d.asked l t).resolveImage port h = d.resolveImage port h := by
  have hnat (k n : Nat) : (d.asked l t).readNat k n = d.readNat k n := by
    rw [Device.readNat, Device.readBytes_asked, Device.readNat]
  have hversion (m v : Nat) : (d.asked l t).versionState m v = d.versionState m v := by
    have hkey (i : Nat) : (d.asked l t).verKey i = d.verKey i := rfl
    have hfind : (d.asked l t).findVersion m v = d.findVersion m v := by simp only [Device.findVersion, hnat, hkey]
    unfold Device.versionState
    rw [hfind]
    generalize d.findVersion m v = i
    cases i with
    | none => rfl
    | some i =>
      dsimp only
      rw [hnat, hkey]
  have himage : (d.asked l t).image? h = d.image? h := rfl
  have hdeploys : (d.asked l t).deploys = d.deploys := rfl
  unfold Device.resolveImage
  by_cases hh : h < 2 ^ 31
  · rw [if_pos hh, if_pos hh, himage]
  · rw [if_neg hh, if_neg hh, hdeploys]
    cases Table.find? d.deploys (h - 2 ^ 31) with
    | none => rfl
    | some y => simp only [hversion]

theorem Device.freeSeqId_asked (job : Nat) : (d.asked l t).freeSeqId job = d.freeSeqId job := by
  have hseqs : (d.asked l t).seqs = d.seqs := rfl
  rw [Device.freeSeqId, hseqs, Device.freeSeqId]

theorem Device.generateFrom_asked (e : Staged) (h : Nat) (dep : Option Nat) :
    (d.asked l t).generateFrom e h dep = d.generateFrom e h dep := by
  have himage (h : Nat) : (d.asked l t).image? h = d.image? h := rfl
  have hseqs : (d.asked l t).seqs = d.seqs := rfl
  have hprefixes : (d.asked l t).prefixes = d.prefixes := rfl
  unfold Device.generateFrom
  rw [hseqs, hprefixes]
  simp only [himage, Device.freeSeqId_asked]

/-- R727: asking for an operand adds packets to be sent, if anything. -/
theorem Device.askOp_asked (c : CmdRef) (off a n : Nat) : ∃ t', (d.asked l t).askOp c off a n = d.asked l t' := by
  rw [Device.askOp]
  split
  · exact ⟨t, rfl⟩
  · rw [Device.requestRemote]
    split
    · exact ⟨t, rfl⟩
    · exact ⟨_, rfl⟩

end Asked

/-! ### Sequences as storage -/

section Seqs
variable (d : Device) (job id : Nat)

@[simp] theorem Device.seq_setSeq_same (q : Seq) : (d.setSeq job id q).seq job id = q := Table.getD_put_same _ _ _ _

theorem Device.setSeq_setSeq (q r : Seq) : (d.setSeq job id q).setSeq job id r = d.setSeq job id r := by
  rw [Device.setSeq, Device.setSeq, Table.put_put]
  rfl

theorem Device.modSeq_setSeq (q : Seq) (f : Seq → Seq) : (d.setSeq job id q).modSeq job id f = d.setSeq job id (f q) := by
  rw [Device.modSeq, Device.seq_setSeq_same, Device.setSeq_setSeq]

/-- R314, R530: a new chain of an image's fabric steps for a sequence. -/
def Device.withChain (d : Device) (job image id : Nat) (forced : Bool) : Device :=
  { d with nextUid := d.nextUid + 1
           chains := d.chains ++ [{ id := d.nextUid, job := job, image := image, seq := id, forced := forced }] }

/-- R314, R530: a request's prefill is a new chain. -/
theorem Device.startChain_setSeq (image : Nat) (q : Seq) (forced : Bool) : (d.setSeq job id q).startChain job image id forced =
    (d.withChain job image id forced).setSeq job id { q with chain := some d.nextUid, state := .prefill } :=
  (d.withChain job image id forced).modSeq_setSeq job id q (fun s => { s with chain := some d.nextUid, state := .prefill })

/-- R528: what is reserved depends on the pages that a sequence has, not on what else it holds. -/
theorem Device.reservePages_of_pages {q q' r : Seq} {group : List Nat} {n : Nat} (hr : d.reservePages q group n = some r)
    (hpages : q'.pages = q.pages) (hscales : q'.scales = q.scales) (hper : q'.perPage = q.perPage) :
    d.reservePages q' group n = some { q' with pages := r.pages, scales := r.scales, reservedPos := r.reservedPos } := by
  rw [Device.reservePages, Option.map_eq_some_iff] at hr
  obtain ⟨l, hplaced, rfl⟩ := hr
  rw [Device.reservePages, hpages, hper, hplaced, hscales]
  rfl

end Seqs

/-! ### GENERATE and PREFIX_BUILD (R528, R544, R559 to R561) -/

section Requests
variable {d : Device} {o : Origin} {e : Staged} {h hx id : Nat} {dep : Option Nat} {q r : Seq} {x : Image} {pb sb : List Byte}

/-- What a request starts from, before its pages are reserved. -/
def Staged.request (d : Device) (e : Staged) (hx : Nat) (x : Image) (sb : List Byte) (q : Seq) : Seq :=
  let b := SampleBlock.ofBytes sb
  let flags := e.op 54 1
  { q with level := e.op 52 1, specK := e.op 53 1, stream := bitOf flags 0, keep := bitOf flags 1, delivered := 0,
           maxTokens := e.op 28 4, prompt := e.op 16 8, promptLen := e.op 24 4, out := e.op 32 8,
           sampling := e.op 40 8, image := hx, group := x.group.foldl (fun m i => m + 2 ^ i) 0,
           cmd := some e.cmd, block := b, mute := d.startMute q.mute b
           keptMute := b.maskKind == 2 && b.keepMute && q.mute.addr == b.maskAddr, guesses := [], cancelled := false,
           base := q.committed, forced := false, tokens := [],
           progressed := false, plainPass := false, kvChannels := [], tokenReady := false,
           fenceBad := false, prep := [], prepared := false }

/-- R528, R544, R560, R561: a request with good operands is taken in: its pages are reserved and its prefill is a new chain. -/
theorem Device.admitGenerate_of_good (hfrom : d.generateFrom e h dep = .ok (id, q, hx, x)) (hspec : 0 < e.op 53 1 → x.hasSpec = true)
    (hbound : q.committed + e.op 24 4 ≤ x.contextBound) (hblock : d.blockMalformed e.cmd.port sb x.vocab = false)
    (hout : d.opRange e.cmd.port (e.op 32 8) (4 * e.op 28 4) true = 0) (hwritable : d.isReadOnly (e.op 32 8) (4 * e.op 28 4) = false)
    (hpages : d.reservePages q x.group (q.committed + e.op 24 4 + e.op 28 4 + e.op 53 1) = some r) : ∃ prefixes,
    d.admitGenerate e h dep (.ok pb) (.ok sb) =
      (({ d.forget e.cmd.uid with prefixes := prefixes } : Device).setSeq x.job id
        { e.request d hx x sb q with pages := r.pages, scales := r.scales, reservedPos := r.reservedPos }).startChain x.job hx id false := by
  have hreserved := d.reservePages_of_pages (q' := e.request d hx x sb q) hpages rfl rfl rfl
  have hspec' : (decide (0 < e.op 53 1) && !x.hasSpec) = false := by
    by_cases hk : 0 < e.op 53 1
    · simp [hspec hk]
    · simp [hk]
  have hwritable' : (!hostAddr e.cmd.port (e.op 32 8) && d.isReadOnly (e.op 32 8) (4 * e.op 28 4)) = false := by
    rw [hwritable, Bool.and_false]
  unfold Device.admitGenerate
  rw [hfrom]
  dsimp only
  rw [if_neg (by rw [hspec']; decide), if_neg (by omega), hblock, hout, hwritable', if_neg (by decide), if_neg (by decide),
    if_neg (by decide), ← Staged.request, hreserved]
  dsimp only
  split
  · exact ⟨_, rfl⟩
  · exact ⟨d.prefixes, rfl⟩

/-- R559: a new request asks for its operands and goes on with what has come. -/
theorem fxGenerate_of_new {prompt sampling : Option (List Byte)} (hnext : d.startable o 0x40 = some e) (hnew : d.awaitingOp o 0x40 = none)
    (hroom : d.mirrorFull = false) (hresolve : d.resolveImage e.cmd.port (e.op 48 4) = .image h dep)
    (hprompt : d.readOp e.cmd promptOff (e.op 16 8) (4 * e.op 24 4) prompt = .ok pb)
    (hsampling : d.readOp e.cmd 0 (e.op 40 8) 64 sampling = .ok sb) : ∃ t,
    fxGenerate o prompt sampling d = (d.asked (d.start e).staged t).admitGenerate e h dep (.ok pb) (.ok sb) := by
  obtain ⟨t, hfirst⟩ := Device.askOp_asked d (d.start e).staged d.txq e.cmd 0 (e.op 40 8) 64
  obtain ⟨t', hsecond⟩ := Device.askOp_asked d (d.start e).staged t e.cmd promptOff (e.op 16 8) (4 * e.op 24 4)
  refine ⟨t', ?_⟩
  unfold fxGenerate
  rw [hnew]
  dsimp only
  rw [hnext]
  dsimp only
  rw [hresolve]
  dsimp only
  have hstart : d.start e = d.asked (d.start e).staged d.txq := rfl
  generalize (d.start e).staged = l at hstart hfirst hsecond ⊢
  rw [hroom, if_neg Bool.false_ne_true, hstart, hfirst, hsecond, Device.readOp_asked, Device.readOp_asked, hprompt, hsampling]

/-- What the build of a prefix starts from, before its pages are reserved. -/
def Staged.prefixRequest (e : Staged) (h : Nat) (x : Image) : Seq :=
  { image := h, cmd := some e.cmd, building := true, promptLen := e.op 16 4, prompt := e.op 8 8, perPage := x.framesPerPage
    group := x.group.foldl (fun m i => m + 2 ^ i) 0 }

/-- R544: a prefix with good tokens is taken in like a request. -/
theorem Device.admitPrefix_of_good (himage : d.image? h = some x) (hgroup : x.group ≠ []) (hpage : e.op 16 4 % 32 = 0) (hmin : 32 ≤ e.op 16 4)
    (hmax : e.op 16 4 ≤ 65536) (hid : d.freeSeqId x.job = some id)
    (hpages : d.reservePages { perPage := x.framesPerPage } x.group (e.op 16 4) = some r) :
    d.admitPrefix e h (.ok pb) = ((d.forget e.cmd.uid).setSeq x.job id
      { e.prefixRequest h x with pages := r.pages, scales := r.scales, reservedPos := r.reservedPos }).startChain x.job h id false := by
  have hreserved := d.reservePages_of_pages (q' := e.prefixRequest h x) hpages rfl rfl rfl
  unfold Device.admitPrefix
  rw [himage]
  dsimp only
  rw [if_neg (by simpa using hgroup), if_neg (by simp only [hpage]; simp; omega), hid]
  dsimp only
  rw [← Staged.prefixRequest, hreserved]

theorem fxPrefixBuild_of_new {tokens : Option (List Byte)} (hnext : d.startable o 0x44 = some e) (hnew : d.awaitingOp o 0x44 = none)
    (hresolve : d.resolveImage e.cmd.port (e.op 20 4) = .image h dep)
    (htokens : d.readOp e.cmd 0 (e.op 8 8) (4 * e.op 16 4) tokens = .ok pb) : ∃ t,
    fxPrefixBuild o tokens d = (d.asked (d.start e).staged t).admitPrefix e h (.ok pb) := by
  obtain ⟨t, hasked⟩ := Device.askOp_asked d (d.start e).staged d.txq e.cmd 0 (e.op 8 8) (4 * e.op 16 4)
  refine ⟨t, ?_⟩
  unfold fxPrefixBuild
  rw [hnew]
  dsimp only
  rw [hnext]
  dsimp only
  rw [hresolve]
  dsimp only
  have hstart : d.start e = d.asked (d.start e).staged d.txq := rfl
  generalize (d.start e).staged = l at hstart hasked ⊢
  rw [hstart, hasked, Device.resolveImage_asked, hresolve]
  dsimp only
  rw [Device.readOp_asked, htokens]

/-- R559 to R561: the device after a new request with good operands. -/
theorem fxGenerate_of_good {prompt sampling : Option (List Byte)} (hnext : d.startable o 0x40 = some e) (hnew : d.awaitingOp o 0x40 = none)
    (hroom : d.mirrorFull = false) (hresolve : d.resolveImage e.cmd.port (e.op 48 4) = .image h dep)
    (hfrom : d.generateFrom e h dep = .ok (id, q, hx, x)) (hspec : 0 < e.op 53 1 → x.hasSpec = true)
    (hbound : q.committed + e.op 24 4 ≤ x.contextBound)
    (hprompt : d.readOp e.cmd promptOff (e.op 16 8) (4 * e.op 24 4) prompt = .ok pb)
    (hsampling : d.readOp e.cmd 0 (e.op 40 8) 64 sampling = .ok sb) (hblock : d.blockMalformed e.cmd.port sb x.vocab = false)
    (hout : d.opRange e.cmd.port (e.op 32 8) (4 * e.op 28 4) true = 0) (hwritable : d.isReadOnly (e.op 32 8) (4 * e.op 28 4) = false)
    (hpages : d.reservePages q x.group (q.committed + e.op 24 4 + e.op 28 4 + e.op 53 1) = some r) : ∃ t prefixes,
    fxGenerate o prompt sampling d =
      { d.start e with
        seqs := Table.put d.seqs (seqKey x.job id)
          { e.request d hx x sb q with pages := r.pages, scales := r.scales, reservedPos := r.reservedPos
                                       chain := some d.nextUid, state := .prefill }
        prefixes := prefixes, chains := d.chains ++ [{ id := d.nextUid, job := x.job, image := hx, seq := id }]
        nextUid := d.nextUid + 1, arrived := (d.forget e.cmd.uid).arrived, txq := t } := by
  obtain ⟨t, hnewly⟩ := fxGenerate_of_new hnext hnew hroom hresolve hprompt hsampling
  obtain ⟨prefixes, hadmitted⟩ := Device.admitGenerate_of_good (d := d.asked (d.start e).staged t) (pb := pb)
    ((Device.generateFrom_asked ..).trans hfrom) hspec hbound ((Device.blockMalformed_asked ..).trans hblock) hout hwritable
    ((Device.reservePages_asked ..).trans hpages)
  exact ⟨t, prefixes, (hnewly.trans hadmitted).trans (Device.startChain_setSeq _ _ _ _ _ _)⟩

/-- R544: the device after the build of a prefix with good tokens. -/
theorem fxPrefixBuild_of_good {tokens : Option (List Byte)} (hnext : d.startable o 0x44 = some e) (hnew : d.awaitingOp o 0x44 = none)
    (hresolve : d.resolveImage e.cmd.port (e.op 20 4) = .image h dep) (himage : d.image? h = some x) (hgroup : x.group ≠ [])
    (hpage : e.op 16 4 % 32 = 0) (hmin : 32 ≤ e.op 16 4) (hmax : e.op 16 4 ≤ 65536)
    (htokens : d.readOp e.cmd 0 (e.op 8 8) (4 * e.op 16 4) tokens = .ok pb) (hid : d.freeSeqId x.job = some id)
    (hpages : d.reservePages { perPage := x.framesPerPage } x.group (e.op 16 4) = some r) : ∃ t,
    fxPrefixBuild o tokens d =
      { d.start e with
        seqs := Table.put d.seqs (seqKey x.job id)
          { e.prefixRequest h x with pages := r.pages, scales := r.scales, reservedPos := r.reservedPos
                                     chain := some d.nextUid, state := .prefill }
        chains := d.chains ++ [{ id := d.nextUid, job := x.job, image := h, seq := id }]
        nextUid := d.nextUid + 1, arrived := (d.forget e.cmd.uid).arrived, txq := t } := by
  obtain ⟨t, hnewly⟩ := fxPrefixBuild_of_new hnext hnew hresolve htokens
  have hadmitted := Device.admitPrefix_of_good (d := d.asked (d.start e).staged t) (pb := pb) himage hgroup hpage hmin hmax
    ((Device.freeSeqId_asked ..).trans hid) ((Device.reservePages_asked ..).trans hpages)
  exact ⟨t, (hnewly.trans hadmitted).trans (Device.startChain_setSeq _ _ _ _ _ _)⟩

end Requests

/-! ### Prefixes and sequences released, packed and unpacked (R546, R549, R557, R561) -/

section Released
variable {d : Device} {o : Origin} {e : Staged} {job : Nat} {q : Seq}

/-- R546: a prefix retires, and goes once nothing refers to it. -/
theorem fxPrefixRelease_of_found {p : Prefix} (hnext : d.startable o 0x45 = some e) (hfind : Table.find? d.prefixes (e.op 8 4) = some p)
    (hseen : ∀ x, d.image? p.image = some x → x.seen e.cmd.port = true) :
    fxPrefixRelease o d = (({ d.start e with
      prefixes := Table.put d.prefixes (e.op 8 4) { p with retiring := true, refs := p.refs + 1 } } : Device).dropPrefix (e.op 8 4)).complete
      e.cmd 0 (leBytes 4 p.refs) := by
  have hfind' : Table.find? (d.start e).prefixes (e.op 8 4) = some p := hfind
  rw [fxPrefixRelease, Device.run_of_startable _ hnext]
  rw [hfind']
  refine if_neg ?_
  cases himage : (d.start e).image? p.image with
  | none => simp
  | some x => simp [hseen x himage]

/-- R546: the reference that the release holds goes; the last one takes the prefix with it. -/
theorem Device.dropPrefix_of_retiring (d : Device) (pid : Nat) (p : Prefix) : ∃ prefixes readOnly,
    ({ d with prefixes := Table.put d.prefixes pid { p with retiring := true, refs := p.refs + 1 } } : Device).dropPrefix pid =
      { d with prefixes := prefixes, readOnly := readOnly } ∧
    Table.find? prefixes pid = if p.refs = 0 then none else some { p with retiring := true } := by
  have hfound : Table.find? (Table.put d.prefixes pid { p with retiring := true, refs := p.refs + 1 }) pid =
    some { p with retiring := true, refs := p.refs + 1 } := Table.find?_put_same _ _ _
  simp only [Device.dropPrefix, hfound, Nat.add_sub_cancel]
  by_cases hrefs : p.refs = 0
  · rw [if_pos (by simp [hrefs]), if_pos hrefs]
    exact ⟨_, _, rfl, Table.find?_drop_same _ _⟩
  · rw [if_neg (by simp [hrefs]), if_neg hrefs]
    exact ⟨_, _, rfl, Table.find?_put_same _ _ _⟩

theorem Device.complete_prefixes (d : Device) (c : CmdRef) (st : Nat) (v : List Byte) : (d.complete c st v).prefixes = d.prefixes := by
  rw [Device.complete_frame]

theorem Device.complete_readOnly (d : Device) (c : CmdRef) (st : Nat) (v : List Byte) : (d.complete c st v).readOnly = d.readOnly := by
  rw [Device.complete_frame]

/-- R561: a command that finds no sequence. -/
theorem fxCancel_of_none (hnext : d.startable o 0x41 = some e) (hfind : d.findSeq e.cmd.port (e.op 8 4) = none) :
    fxCancel o d = (d.start e).complete e.cmd 0x1102 [] := by
  have hfind' : (d.start e).findSeq e.cmd.port (e.op 8 4) = none := hfind
  rw [fxCancel, Device.run_of_startable _ hnext]
  rw [hfind']

theorem fxCancel_of_some (hnext : d.startable o 0x41 = some e) (hfind : d.findSeq e.cmd.port (e.op 8 4) = some (job, q)) :
    fxCancel o d = if q.state = .lulling || q.state = .resuming then (d.start e).complete e.cmd 0x1103 []
      else ((d.start e).complete e.cmd 0 []).cancelSeq job (e.op 8 4) q := by
  have hfind' : (d.start e).findSeq e.cmd.port (e.op 8 4) = some (job, q) := hfind
  rw [fxCancel, Device.run_of_startable _ hnext]
  rw [hfind']

theorem fxSeqRelease_of_none (hnext : d.startable o 0x46 = some e) (hfind : d.findSeq e.cmd.port (e.op 8 4) = none) :
    fxSeqRelease o d = (d.start e).complete e.cmd 0x1102 [] := by
  have hfind' : (d.start e).findSeq e.cmd.port (e.op 8 4) = none := hfind
  rw [fxSeqRelease, Device.run_of_startable _ hnext]
  rw [hfind']

theorem fxSeqRelease_of_some (hnext : d.startable o 0x46 = some e) (hfind : d.findSeq e.cmd.port (e.op 8 4) = some (job, q)) :
    fxSeqRelease o d = if q.state = .idle || q.state = .lulled then ((d.start e).freeSeq job (e.op 8 4)).complete e.cmd 0 []
      else (d.start e).complete e.cmd 0x1103 [] := by
  have hfind' : (d.start e).findSeq e.cmd.port (e.op 8 4) = some (job, q) := hfind
  rw [fxSeqRelease, Device.run_of_startable _ hnext]
  rw [hfind']

theorem Device.dropPrefix_frame (d : Device) (pid : Nat) : ∃ prefixes readOnly,
    d.dropPrefix pid = { d with prefixes := prefixes, readOnly := readOnly } := by
  rw [Device.dropPrefix]
  split
  · exact ⟨d.prefixes, d.readOnly, rfl⟩
  · dsimp only
    split
    · exact ⟨_, _, rfl⟩
    · exact ⟨_, d.readOnly, rfl⟩

/-- R561: a sequence that is freed gives up its prefix. -/
theorem Device.freeSeq_eq (d : Device) (job id : Nat) : ∃ prefixes readOnly,
    d.freeSeq job id = { d with seqs := Table.drop d.seqs (seqKey job id), prefixes := prefixes, readOnly := readOnly } := by
  rw [Device.freeSeq]
  split
  · exact ⟨d.prefixes, d.readOnly, rfl⟩
  · exact Device.dropPrefix_frame { d with seqs := Table.drop d.seqs (seqKey job id) } _

theorem fxLull_of_none (hnext : d.startable o 0x42 = some e) (hfind : d.findSeq e.cmd.port (e.op 8 4) = none) :
    fxLull o d = (d.start e).complete e.cmd 0x1102 [] := by
  have hfind' : (d.start e).findSeq e.cmd.port (e.op 8 4) = none := hfind
  rw [fxLull, hnext]
  dsimp only
  rw [hfind']

/-- R549: an idle sequence whose destination is good is packed by a long operation. -/
theorem fxLull_of_idle (hnext : d.startable o 0x42 = some e) (hfind : d.findSeq e.cmd.port (e.op 8 4) = some (job, q))
    (hstate : q.state = .idle) (hmapped : d.mapped (e.op 16 8) (q.shape.pages * 65536) = true)
    (hreaches : d.reaches 0 (addrDevice (e.op 16 8)) = true)
    (hwindow : d.inWindow (some e.cmd.port) (e.op 16 8) (q.shape.pages * 65536) true = true)
    (hwritable : d.isReadOnly (e.op 16 8) (q.shape.pages * 65536) = false) (hlull : ∀ p ∈ d.jobParts job, (d.part p).lull ≠ 0) :
    fxLull o d = ((d.start e).setSeq job (e.op 8 4) { q with state := .lulling, lull := e.op 16 8 }).addLong
      (.lull job (e.op 8 4) (e.op 16 8)) 4 (some e.cmd) := by
  have hfind' : (d.start e).findSeq e.cmd.port (e.op 8 4) = some (job, q) := hfind
  have hmapped' : (d.start e).mapped (e.op 16 8) (q.shape.pages * 65536) = true := hmapped
  have hreaches' : (d.start e).reaches 0 (addrDevice (e.op 16 8)) = true := hreaches
  have hwindow' : (d.start e).inWindow (some e.cmd.port) (e.op 16 8) (q.shape.pages * 65536) true = true := hwindow
  have hwritable' : (d.start e).isReadOnly (e.op 16 8) (q.shape.pages * 65536) = false := hwritable
  have hlull' : ((d.start e).jobParts job).any (fun p => ((d.start e).part p).lull == 0) = false := by
    rw [List.any_eq_false]
    exact fun p hp => by
      rw [Device.part_congr (d := d) (d' := d.start e) rfl]
      simpa using hlull p hp
  rw [fxLull, hnext]
  dsimp only
  rw [hfind']
  dsimp only
  rw [hstate, hmapped', hreaches', hwindow', hwritable', hlull']
  rfl

theorem fxResume_of_none (hnext : d.startable o 0x43 = some e) (hfind : d.findSeq e.cmd.port (e.op 8 4) = none) :
    fxResume o d = (d.start e).complete e.cmd 0x1102 [] := by
  have hfind' : (d.start e).findSeq e.cmd.port (e.op 8 4) = none := hfind
  rw [fxResume, hnext]
  dsimp only
  rw [hfind']

theorem fxResume_of_lulled (hnext : d.startable o 0x43 = some e) (hfind : d.findSeq e.cmd.port (e.op 8 4) = some (job, q))
    (hstate : q.state = .lulled) : fxResume o d =
      ((d.start e).setSeq job (e.op 8 4) { q with state := .resuming }).addLong (.resume job (e.op 8 4)) 4 (some e.cmd) := by
  have hfind' : (d.start e).findSeq e.cmd.port (e.op 8 4) = some (job, q) := hfind
  rw [fxResume, hnext]
  dsimp only
  rw [hfind']
  dsimp only
  rw [hstate]
  rfl

/-- R546: the device after the release of a prefix. -/
theorem fxPrefixRelease_of_seen {p : Prefix} (hnext : d.startable o 0x45 = some e) (hfind : Table.find? d.prefixes (e.op 8 4) = some p)
    (hseen : ∀ x, d.image? p.image = some x → x.seen e.cmd.port = true) : ∃ prefixes readOnly,
    fxPrefixRelease o d =
      ({ d.start e with prefixes := prefixes, readOnly := readOnly } : Device).complete e.cmd 0 (leBytes 4 p.refs) ∧
    Table.find? prefixes (e.op 8 4) = if p.refs = 0 then none else some { p with retiring := true } := by
  obtain ⟨prefixes, readOnly, hdropped, hleft⟩ := Device.dropPrefix_of_retiring (d.start e) (e.op 8 4) p
  refine ⟨prefixes, readOnly, (fxPrefixRelease_of_found hnext hfind hseen).trans ?_, hleft⟩
  exact congrArg (fun d' : Device => d'.complete e.cmd 0 (leBytes 4 p.refs)) hdropped

/-- R561: a request that decodes under a running job stops at its next commit. -/
theorem fxCancel_of_decoding (hnext : d.startable o 0x41 = some e) (hfind : d.findSeq e.cmd.port (e.op 8 4) = some (job, q))
    (hstate : q.state = .decode) (hjob : (d.job job).state = .running ∨ (d.job job).state = .replaying) :
    fxCancel o d = ((d.start e).complete e.cmd 0 []).setSeq job (e.op 8 4) { q with cancelled := true } := by
  have hgoes : (((d.start e).complete e.cmd 0 []).job job).state = .running ∨
      (((d.start e).complete e.cmd 0 []).job job).state = .replaying := by
    rw [Device.job_complete]
    exact hjob
  rw [fxCancel_of_some hnext hfind, if_neg (by simp [hstate])]
  simp only [Device.cancelSeq, hstate]
  exact if_pos (by simpa using hgoes)

/-- R561: a sequence at rest has nothing to cancel. -/
theorem fxCancel_of_rest (hnext : d.startable o 0x41 = some e) (hfind : d.findSeq e.cmd.port (e.op 8 4) = some (job, q))
    (hstate : q.state = .idle ∨ q.state = .lulled) : fxCancel o d = (d.start e).complete e.cmd 0 [] := by
  rw [fxCancel_of_some hnext hfind]
  obtain hidle | hlulled := hstate
  · rw [if_neg (by simp [hidle])]
    simp only [Device.cancelSeq, hidle]
  · rw [if_neg (by simp [hlulled])]
    simp only [Device.cancelSeq, hlulled]

/-- R561: the device after the release of a sequence at rest. -/
theorem fxSeqRelease_of_rest (hnext : d.startable o 0x46 = some e) (hfind : d.findSeq e.cmd.port (e.op 8 4) = some (job, q))
    (hstate : q.state = .idle ∨ q.state = .lulled) : ∃ prefixes readOnly,
    fxSeqRelease o d = ({ d.start e with
      seqs := Table.drop d.seqs (seqKey job (e.op 8 4)), prefixes := prefixes, readOnly := readOnly } : Device).complete e.cmd 0 [] := by
  obtain ⟨prefixes, readOnly, hfreed⟩ := Device.freeSeq_eq (d.start e) job (e.op 8 4)
  refine ⟨prefixes, readOnly, (fxSeqRelease_of_some hnext hfind).trans ((if_pos (by simpa using hstate)).trans ?_)⟩
  rw [hfreed]
  rfl

end Released

/-- Settles O46: each command's effect is the device of its equation above; what asking for operands changes, the checks do not read.
That the sequence of the lowest job is named by SEQ_ID alone, and what CANCEL does in each state, are the model's choices (log entries
30, 31, 58). -/
theorem requestsAreAdmittedAndReleased : Obligations.RequestsAreAdmittedAndReleased := by
  refine fun s o e hrun => ⟨fun h dep id q hx x r pb sb prompt sampling hnext hnew hroom hresolve hfrom hspec hbound hprompt hsampling hblock
      hout hwritable hpages => ?generate,
    fun h dep id x r tb tokens hnext hnew hresolve himage hgroup hpage hmin hmax htokens hid hpages => ?build,
    fun p hnext hfind hseen => ?prefixRelease,
    fun job q hfind => ⟨fun hnext hstate hjob => ?cancelled, fun hnext hstate => ?cancelIdle, fun hnext hstate => ?cancelBusy,
      fun hnext hstate => ?released, fun hnext hidle hlulled => ?releaseBusy,
      fun hnext hstate hmapped hreaches hwindow hwritable hlull => ?lull, fun hnext hstate => ?resume⟩,
    fun hfind => ⟨fun hnext => ?noCancel, fun hnext => ?noRelease, fun hnext => ?noLull, fun hnext => ?noResume⟩⟩
  case generate =>
    obtain ⟨t, prefixes, heffect⟩ := fxGenerate_of_good hnext hnew hroom hresolve hfrom hspec hbound hprompt hsampling hblock hout
      hwritable hpages
    refine Ends.of_effect hrun rfl heffect rfl rfl ⟨?_, fun k hk => Table.find?_put_other _ _ _ _ hk, rfl, rfl⟩
    dsimp only
    rw [Device.seq, Table.getD_put_same]
    exact ⟨rfl, rfl, rfl, rfl, rfl, rfl, rfl, rfl, rfl, rfl, rfl, rfl, rfl, rfl, rfl, rfl⟩
  case build =>
    obtain ⟨t, heffect⟩ := fxPrefixBuild_of_good hnext hnew hresolve himage hgroup hpage hmin hmax htokens hid hpages
    refine Ends.of_effect hrun rfl heffect rfl rfl ⟨?_, fun k hk => Table.find?_put_other _ _ _ _ hk, rfl, rfl⟩
    dsimp only
    rw [Device.seq, Table.getD_put_same]
    exact ⟨rfl, rfl, rfl, rfl, rfl, rfl, rfl, rfl⟩
  case prefixRelease =>
    obtain ⟨prefixes, readOnly, heffect, hleft⟩ := fxPrefixRelease_of_seen hnext hfind hseen
    refine Ends.of_effect hrun rfl heffect (Device.complete_mem ..) (Device.complete_wlog ..) ⟨?_, ?_⟩
    · rw [Device.complete_prefixes]
      exact hleft
    · rw [Device.complete_prefixes, Device.complete_readOnly]
  case cancelled =>
    exact Ends.of_effect hrun rfl (fxCancel_of_decoding hnext hfind hstate hjob) (Device.complete_mem ..) (Device.complete_wlog ..)
      ⟨Device.seq_setSeq_same .., rfl⟩
  case cancelIdle =>
    exact Ends.of_effect hrun rfl (fxCancel_of_rest hnext hfind hstate) (Device.complete_mem ..) (Device.complete_wlog ..) rfl
  case cancelBusy =>
    exact Ends.of_effect hrun rfl ((fxCancel_of_some hnext hfind).trans (if_pos (by simpa using hstate))) (Device.complete_mem ..)
      (Device.complete_wlog ..) rfl
  case released =>
    obtain ⟨prefixes, readOnly, heffect⟩ := fxSeqRelease_of_rest hnext hfind hstate
    refine Ends.of_effect hrun rfl heffect (Device.complete_mem ..) (Device.complete_wlog ..) ⟨?_, fun k hk => ?_, ?_⟩
    · rw [Device.complete_seqs]
      exact Table.find?_drop_same _ _
    · rw [Device.complete_seqs]
      exact Table.find?_drop_other _ _ _ hk
    · rw [Device.complete_seqs, Device.complete_prefixes, Device.complete_readOnly]
  case releaseBusy =>
    exact Ends.of_effect hrun rfl ((fxSeqRelease_of_some hnext hfind).trans (if_neg (by simp [hidle, hlulled]))) (Device.complete_mem ..)
      (Device.complete_wlog ..) rfl
  case lull =>
    exact Ends.of_effect hrun rfl (fxLull_of_idle hnext hfind hstate hmapped hreaches hwindow hwritable hlull) rfl rfl
      ⟨Device.seq_setSeq_same (s.dev.start e) job (e.op 8 4) _, rfl, rfl⟩
  case resume =>
    exact Ends.of_effect hrun rfl (fxResume_of_lulled hnext hfind hstate) rfl rfl
      ⟨Device.seq_setSeq_same (s.dev.start e) job (e.op 8 4) _, rfl, rfl⟩
  case noCancel =>
    exact Ends.of_effect hrun rfl (fxCancel_of_none hnext hfind) (Device.complete_mem ..) (Device.complete_wlog ..) rfl
  case noRelease =>
    exact Ends.of_effect hrun rfl (fxSeqRelease_of_none hnext hfind) (Device.complete_mem ..) (Device.complete_wlog ..) rfl
  case noLull =>
    exact Ends.of_effect hrun rfl (fxLull_of_none hnext hfind) (Device.complete_mem ..) (Device.complete_wlog ..) rfl
  case noResume =>
    exact Ends.of_effect hrun rfl (fxResume_of_none hnext hfind) (Device.complete_mem ..) (Device.complete_wlog ..) rfl

end Sys2Proof.Machine
end

section
/-!
SUPPORT. The commit of a pass where memory does not stand in its canonical form (R541, R725).
-/
namespace Sys2Proof.Machine

/-- The GENERATE that the committed sequence serves. -/
def committingCmd : CmdRef := { origin := .mgmt, port := .mgmt, uid := 1, opcode := 0x40, flags := 0, tag := 0, inst := 0 }

/-- A sequence that decodes, whose next token goes to T2 offset 1028 of this device. -/
def committingSeq : Seq :=
  { state := .decode, image := 1, maxTokens := 4, reservedPos := 32, committed := 2, cmd := some committingCmd
    out := selfAddr 1 1024, delivered := 1, tokens := [2] }

/-- An image of one Drone step on Drone 3, which bounds its positions by 256. -/
def committingImage : Image :=
  { job := 1, fn := 0, ready := true, parts := [3], addr := 0, len := 0, secStops := 0, t1 := [], qkib := [], queues := []
    steps := [{ id := 5, stopId := 0, part := 3, cls := 0, engine := 1, wc := 0, cross := 0, circuits := 0, t1 := 0
                queueBytes := 0, queues := 0, checkpoints := 0
                bounds := [{ source := 0, op := 0, div := 1, add := 0, min := 0, max := 64, arg := 0 },
                  { source := 0, op := 0, div := 1, add := 0, min := 0, max := 256, arg := 0 }] }] }

/-- The running Drone step of the pass, its rows sampled. -/
def sampledStep : DroneStep :=
  { uid := 1, job := 1, image := 1, stepId := 5, index := 0, rows := 1, longest := 1, sampled := true }

/-- The row that the pass commits: it drew token 256, whose lowest byte is 0. -/
def drawnRow : SamplerRow :=
  { job := 1, seq := 5, row := 0, pos := 2, image := 1, cols := [], pass := true, done := true, token := some 256 }

/-- The only entry of the pass's batch. -/
def committingEntry : BatchEntry :=
  { seq := 5, committed := 2, specK := 0, firstRow := 0, nextToken := 2, guesses := [], pages := [], scales := []
    prefixPages := 0 }

/-- The decode group whose pass commits. -/
def committingGroup : Group := { job := 1, members := [3], batch := [committingEntry], running := true }

/-- A pass at its commit, on a memory that lists the byte where the token goes twice: storing 0 there takes the first entry away and
the second shows. -/
def doubledByte : State :=
  { dev := {
      images := [(1, committingImage)], seqs := [(seqKey 1 5, committingSeq)], rows := [drawnRow]
      groups := [(1, committingGroup)], drones := [(3, { step := some sampledStep })]
      mem := [(memKey 1 1028, 1), (memKey 1 1028, 2)] } }

theorem seq_doubledByte_cancelled (i : Nat) (hi : i ≠ 5) : (doubledByte.dev.seq 1 i).cancelled = false := by
  have hkey : seqKey 1 i ≠ seqKey 1 5 := by simp only [seqKey]; omega
  have hother : Table.getD doubledByte.dev.seqs (seqKey 1 i) {} = ({} : Seq) :=
    Table.getD_put_other [] (seqKey 1 5) (seqKey 1 i) committingSeq {} hkey
  exact congrArg Seq.cancelled hother

/-- The commit leaves 258 where the token 256 should stand. -/
theorem readNat_doubledByte :
    ((fxPassCommit 1 [] doubledByte.dev).land doubledByte.dev.mem).readNat (localKey (selfAddr 1 1024 + 4 * 1)) 4 = 258 := by
  decide +kernel

/-- Refutes O47: the clause of the commit says that the token's four bytes stand at its place in OUT, of every running state, while a
byte written is read back only where memory stands in its canonical form, which `Running` does not ask. `doubledByte` lists a byte of
that place twice; the commit of token 256 leaves 258 there. (After a command that started from a canonical memory the form stands, O4.) -/
theorem not_rowsAreSampledAndCommitted : ¬ Obligations.RowsAreSampledAndCommitted := by
  intro h
  obtain ⟨-, -, -, -, hcommit⟩ := h doubledByte ⟨rfl, rfl, rfl⟩
  have hends := hcommit 1 committingGroup committingImage committingEntry drawnRow committingSeq committingCmd 256
    rfl rfl rfl rfl rfl rfl (by decide +kernel) ⟨3, by decide, sampledStep, rfl, rfl⟩
    (by
      intro m hm z hz
      obtain rfl : m = 3 := by simpa [committingGroup] using hm
      obtain rfl : sampledStep = z := Option.some.inj hz
      rfl)
    rfl rfl rfl rfl rfl rfl rfl rfl rfl rfl rfl rfl rfl rfl (by decide +kernel) (by decide +kernel) (by decide +kernel)
    (by decide) (by decide) (by decide +kernel) rfl seq_doubledByte_cancelled
  obtain ⟨-, -, htoken, -⟩ := hends.of_exec (g := .runs) (f := fxPassCommit 1 []) rfl rfl
  exact absurd (readNat_doubledByte.symm.trans htoken) (by decide)

end Sys2Proof.Machine
end

section
/-!
SUPPORT. A return packet of a Gale route where memory does not stand in its canonical form (R494).
-/
namespace Sys2Proof.Machine

/-- A return packet whose row and combine entry both lie at offset 0 of T1: its header is all zeros, and no row follows. -/
def zeroReturn : Packet := { producer := 1, seq := 1, level := 0, words := [List.replicate 64 0], visible := true }

/-- The return intake queue with that packet at its head. -/
def returnIntake : Queue := { base := 0, capacity := 64, maxPacket := 8, packets := [zeroReturn] }

/-- Route 0 valid and SCATTER, on a memory that lists offset 0 of T1 twice. -/
def doubledCombine : State :=
  { dev := { queues := [(0, { queues := [(0, returnIntake)] })], regs := [(regKey GAL_ROUTE_CFG 0, 2 ^ 31 + 2 ^ 30)]
             mem := [(memKey 0 0, 1), (memKey 0 0, 2)] } }

/-- The device once the packet has been taken. -/
def intakeTaken : Device := doubledCombine.dev.setQueue 0 0 { returnIntake with packets := [] }

/-- The combine entry reads 2 where 0 was written. -/
theorem readNat_doubledCombine :
    ((fxReturnPacketRead 0 doubledCombine.dev).land doubledCombine.dev.mem).readNat (localKey 0) 8 = 2 := by
  decide +kernel

/-- Refutes O48: the clause of a return packet says that its combine entry reads the row's address afterwards, of every running state,
while a byte written is read back only where memory stands in its canonical form, which `Running` does not ask. `doubledCombine` lists a
byte of that entry twice; the entry 0 leaves 2 there. (After a command that started from a canonical memory the form stands, O4.) The
clause takes RET to be the row's address already, the model's choice of log entry 54. -/
theorem not_galeRoutesAssignIssueAndClose : ¬ Obligations.GaleRoutesAssignIssueAndClose := by
  intro h
  obtain ⟨-, -, -, hreturn, -⟩ := h doubledCombine 0 ⟨rfl, rfl, rfl⟩ (by decide) (by decide +kernel)
  have hends := hreturn zeroReturn intakeTaken (by decide +kernel) rfl rfl (by decide +kernel) (by decide +kernel)
  obtain ⟨hcombine, -⟩ := hends.of_exec (g := .runs) (f := fxReturnPacketRead 0) rfl rfl
  exact absurd (readNat_doubledCombine.symm.trans hcombine) (by decide)

end Sys2Proof.Machine
end

section
/-!
SUPPORT. Route registers and the Barometer's biases and counts (R502, R504, R507, R509).
-/
namespace Sys2Proof.Machine

/-! ### Register halves -/

/-- A 32-bit number is its two halves. -/
theorem halves_eq {n : Nat} (h : n < 2 ^ 32) : n = bitsOf n 15 0 + 2 ^ 16 * bitsOf n 31 16 := by
  have hlow : bitsOf n 15 0 = n % 2 ^ 16 := by simp [bitsOf]
  have hhigh : bitsOf n 31 16 = n / 2 ^ 16 % 2 ^ 16 := rfl
  omega

/-- R509: both halves of a register written are the register written. -/
theorem Device.reg_halves_written (d : Device) (k v : Nat) :
    ((d.setRegField k 31 16 (bitsOf v 31 16)).setRegField k 15 0 (bitsOf v 15 0)).reg k = v % 2 ^ 32 := by
  have hbound : ((d.setRegField k 31 16 (bitsOf v 31 16)).setRegField k 15 0 (bitsOf v 15 0)).reg k < 2 ^ 32 := by
    rw [Device.reg_setRegField_same]
    exact Nat.mod_lt _ (Nat.two_pow_pos 32)
  have hlow := Device.regField_setRegField_same (d := d.setRegField k 31 16 (bitsOf v 31 16)) (k := k) (hi := 15) (lo := 0)
    (bitsOf v 15 0) (by decide)
  have hhigh := (Device.regField_setRegField_above (d := d.setRegField k 31 16 (bitsOf v 31 16)) (k := k) (hi := 15) (lo := 0)
    (hi' := 31) (lo' := 16) (bitsOf v 15 0) (by decide) (by decide) (by decide)).trans
    (Device.regField_setRegField_same (d := d) (k := k) (hi := 31) (lo := 16) (bitsOf v 31 16) (by decide))
  rw [Device.regField] at hlow hhigh
  rw [halves_eq hbound, hlow, hhigh]
  have hvlow : bitsOf v 15 0 = v % 2 ^ 16 := by simp [bitsOf]
  have hvhigh : bitsOf v 31 16 = v / 2 ^ 16 % 2 ^ 16 := rfl
  rw [hvlow, hvhigh]
  omega

/-! ### The commands -/

section Commands
variable {d : Device} {port : Port} {off v : Nat}

/-- R507: a write of a route register while the route may change. -/
theorem fxGalRouteWrite_of_closed {x : RegDesc} (hmay : d.mayRoute port (d.portReg port GAL_ROUTE_SEL % 64) = true) (hmin : 4 ≤ off)
    (hmax : off ≤ 0x44) (hword : off % 4 = 0)
    (hclosed : (d.routeCfg (d.portReg port GAL_ROUTE_SEL % 64)).valid = false ∨ (d.route (d.portReg port GAL_ROUTE_SEL % 64)).isOpen = false)
    (hcfg : off ≠ 4) (hcap : off ≠ 0xC) (hdesc : descAt (0x700000 + off) = some x) :
    fxGalRouteWrite port off v d = d.setReg (regKey (0x700000 + off) (d.portReg port GAL_ROUTE_SEL % 64)) (v &&& x.rw) := by
  have hguard : ¬ (!(d.mayRoute port (d.portReg port GAL_ROUTE_SEL % 64) && decide (4 ≤ off) && decide (off ≤ 0x44) && off % 4 == 0)) = true := by
    simp [hmay, hmin, hmax, hword]
  have hround : ¬ ((d.routeCfg (d.portReg port GAL_ROUTE_SEL % 64)).valid &&
      (d.route (d.portReg port GAL_ROUTE_SEL % 64)).isOpen) = true := by
    obtain hinvalid | hshut := hclosed <;> simp [*]
  have hnotCfg : decide (0x700000 + off = GAL_ROUTE_CFG) = false := decide_eq_false (by rw [GAL_ROUTE_CFG]; omega)
  have hnotCap : decide (0x700000 + off = GAL_ROUTE_CAP) = false := decide_eq_false (by rw [GAL_ROUTE_CAP]; omega)
  unfold fxGalRouteWrite
  dsimp only
  rw [if_neg hguard, Device.galRouteWrite, if_neg hround, hnotCfg, hnotCap, Bool.false_and, Bool.false_and, if_neg (by decide),
    if_neg (by decide), hdesc]

/-- R507: a write of a route register while a round is open. -/
theorem fxGalRouteWrite_of_open (hmay : d.mayRoute port (d.portReg port GAL_ROUTE_SEL % 64) = true) (hmin : 4 ≤ off)
    (hmax : off ≤ 0x44) (hword : off % 4 = 0) (hvalid : (d.routeCfg (d.portReg port GAL_ROUTE_SEL % 64)).valid = true)
    (hopen : (d.route (d.portReg port GAL_ROUTE_SEL % 64)).isOpen = true) : fxGalRouteWrite port off v d = d := by
  unfold fxGalRouteWrite
  dsimp only
  rw [if_neg (by simp [hmay, hmin, hmax, hword]), Device.galRouteWrite, if_pos (by simp [hvalid, hopen])]

/-- R509: a write of BRM_CTRL with a window that is not reserved. -/
theorem fxBrmCtrlWrite_of_window (hmay : d.mayRoute port (d.portReg port GAL_ROUTE_SEL % 64) = true) (hmin : 1 ≤ bitsOf v 10 0)
    (hmax : bitsOf v 10 0 ≤ 1024) : fxBrmCtrlWrite port false v d =
      (d.setRegField (regKey BRM_CTRL (d.portReg port GAL_ROUTE_SEL % 64)) 31 31 (bitsOf v 31 31)).setRegField
        (regKey BRM_CTRL (d.portReg port GAL_ROUTE_SEL % 64)) 10 0 (bitsOf v 10 0) := by
  unfold fxBrmCtrlWrite
  dsimp only
  rw [hmay, if_neg (by decide), if_neg (by decide), if_neg (by simp; omega)]

/-- R509: a write of BRM_ETA whose halves are both numbers. -/
theorem fxBrmCtrlWrite_of_numbers (hmay : d.mayRoute port (d.portReg port GAL_ROUTE_SEL % 64) = true)
    (hhigh : halfSpecial (bitsOf v 31 16) = false) (hlow : halfSpecial (bitsOf v 15 0) = false) : fxBrmCtrlWrite port true v d =
      (d.setRegField (regKey BRM_ETA (d.portReg port GAL_ROUTE_SEL % 64)) 31 16 (bitsOf v 31 16)).setRegField
        (regKey BRM_ETA (d.portReg port GAL_ROUTE_SEL % 64)) 15 0 (bitsOf v 15 0) := by
  unfold fxBrmCtrlWrite
  dsimp only
  rw [hmay, hhigh, hlow, if_neg (by decide), if_pos rfl, if_neg (by decide), if_neg (by decide)]

/-- R504: a bias of software is held behind the others. -/
theorem fxBrmBiasWrite_of_word (hmay : d.mayRoute port (off / 0x400) = true) (hbank : off / 0x400 < 64) (hword : off % 4 = 0) :
    fxBrmBiasWrite port off v d =
      d.modBank (off / 0x400) (fun x => { x with held := x.held ++ [(BRM_BIAS + off, v % 2 ^ 32)] }) := by
  unfold fxBrmBiasWrite
  exact if_neg (by simp [hmay, hbank, hword])

theorem Device.bank_modBank_same (d : Device) (b : Nat) (f : Bank → Bank) : (d.modBank b f).bank b = f (d.bank b) :=
  Table.getD_put_same _ _ _ _

theorem Device.bank_modBank_other (d : Device) {b k : Nat} (f : Bank → Bank) (h : k ≠ b) : (d.modBank b f).bank k = d.bank k :=
  Table.getD_put_other _ _ _ _ _ h

end Commands

/-! ### The counts of another device (R502) -/

/-- Counts added to a window, expert by expert from number `i` on. -/
theorem getD_addCounts (counts : List Nat) (i : Nat) (t : Table Nat) (e : Nat) :
    Table.getD ((counts.zipIdx i).foldl (fun t e => Table.modify t e.2 0 (· + e.1)) t) e 0 =
      Table.getD t e 0 + if i ≤ e then counts.getD (e - i) 0 else 0 := by
  induction counts generalizing i t with
  | nil => simp
  | cons c cs ih =>
    rw [List.zipIdx_cons, List.foldl_cons, ih]
    obtain hlt | rfl | hgt := Nat.lt_trichotomy e i
    · rw [Table.getD_modify_other _ _ _ _ _ _ (by omega), if_neg (by omega), if_neg (by omega)]
    · rw [Table.getD_modify_same, if_neg (by omega), if_pos (Nat.le_refl e), Nat.sub_self]
      simp
    · rw [Table.getD_modify_other _ _ _ _ _ _ (by omega), if_pos (by omega), if_pos (by omega),
        show e - i = e - (i + 1) + 1 by omega, List.getD_cons_succ]

/-- Registers written one after another. -/
theorem Device.foldl_setReg_frame {α : Type} (key val : α → Nat) (l : List α) (d : Device) : ∃ regs,
    l.foldl (fun d e => d.setReg (key e) (val e)) d = { d with regs := regs } := by
  induction l generalizing d with
  | nil => exact ⟨d.regs, rfl⟩
  | cons a l ih =>
    obtain ⟨regs, hframe⟩ := ih (d.setReg (key a) (val a))
    exact ⟨regs, hframe⟩

/-- Registers written from what no register's write changes. -/
theorem Device.foldl_setReg_const (key : Nat → Nat) (b : Nat) (l : List Nat) (d : Device) :
    l.foldl (fun d e => d.setReg (key e) (Table.getD (d.bank b).last e 0)) d =
      l.foldl (fun d' e => d'.setReg (key e) (Table.getD (d.bank b).last e 0)) d := by
  suffices h : ∀ d' : Device, d'.banks = d.banks → l.foldl (fun d e => d.setReg (key e) (Table.getD (d.bank b).last e 0)) d' =
      l.foldl (fun d' e => d'.setReg (key e) (Table.getD (d.bank b).last e 0)) d' from h d rfl
  induction l with
  | nil => intros; rfl
  | cons a l ih =>
    intro d' hbanks
    have hbank : d'.bank b = d.bank b := by rw [Device.bank, hbanks, Device.bank]
    rw [List.foldl_cons, List.foldl_cons, hbank]
    exact ih _ hbanks

/-- Registers written one after another under keys of their own each read back as written. -/
theorem Device.reg_foldl_setReg (key val : Nat → Nat) (hkey : ∀ i j, key i = key j → i = j) (l : List Nat) (hl : l.Nodup) (d : Device)
    {e : Nat} (he : e ∈ l) : (l.foldl (fun d e => d.setReg (key e) (val e)) d).reg (key e) = val e % 2 ^ 32 := by
  have hother : ∀ (l : List Nat) (d : Device), e ∉ l →
      (l.foldl (fun d e => d.setReg (key e) (val e)) d).reg (key e) = d.reg (key e) := by
    intro l
    induction l with
    | nil => intros; rfl
    | cons a l ih =>
      intro d hnot
      obtain ⟨hne, hnot⟩ := not_or.mp (fun h => hnot (List.mem_cons.mpr h))
      rw [List.foldl_cons, ih _ hnot, Device.reg_setReg_other _ _ _ _ (fun h => hne (hkey _ _ h))]
  induction l generalizing d with
  | nil => simp at he
  | cons a l ih =>
    obtain ⟨hnew, hl⟩ := List.nodup_cons.mp hl
    rw [List.foldl_cons]
    obtain rfl | he := List.mem_cons.mp he
    · rw [hother l _ hnew, Device.reg_setReg_same]
    · exact ih hl _ he

/-- The register that shows the total is none of those that show the counts. -/
theorem brmCount_ne_total (b e : Nat) (he : e < 512) : BRM_COUNT + 0x800 * b + 4 * e ≠ regKey BRM_TOTAL b := by
  rw [BRM_COUNT, regKey, BRM_TOTAL]
  omega

theorem Device.routeCfg_experts_le (d : Device) (r : Nat) : (d.routeCfg r).experts ≤ 512 := by
  have hbound := bitsOf_lt (d.galReg r GAL_ROUTE_CFG) 23 15
  simp only [Device.routeCfg]
  omega

/-- R502: the counts of a window shown in their registers. -/
theorem Device.brmShow_shows (d : Device) (b : Nat) : ∃ regs, d.brmShow b = { d with regs := regs } ∧
    ∀ e, e < (d.routeCfg b).experts →
      (d.brmShow b).reg (BRM_COUNT + 0x800 * b + 4 * e) = Table.getD (d.bank b).last e 0 % 2 ^ 32 := by
  have hexperts := d.routeCfg_experts_le b
  unfold Device.brmShow
  extract_lets n shown
  have hshown : shown = (List.range n).foldl (fun d' e =>
      d'.setReg (BRM_COUNT + 0x800 * b + 4 * e) (Table.getD (d.bank b).last e 0)) d :=
    Device.foldl_setReg_const (fun e => BRM_COUNT + 0x800 * b + 4 * e) b (List.range n) d
  obtain ⟨regs, hframe⟩ := Device.foldl_setReg_frame (fun e => BRM_COUNT + 0x800 * b + 4 * e) (fun e => Table.getD (d.bank b).last e 0)
    (List.range n) d
  refine ⟨(shown.setReg (regKey BRM_TOTAL b) _).regs, by rw [hshown, hframe]; rfl, fun e he => ?_⟩
  rw [Device.reg_setReg_other _ _ _ _ (brmCount_ne_total b e (by omega)), hshown]
  exact Device.reg_foldl_setReg (fun e => BRM_COUNT + 0x800 * b + 4 * e) (fun e => Table.getD (d.bank b).last e 0)
    (fun i j h => by omega) (List.range n) List.nodup_range d (List.mem_range.mpr he)

/-- R502: the counts of another device are added to the completed window and shown. -/
theorem fxBarometerCountExchange_of_due {d : Device} {b : Nat} (counts : List Nat) (hb : b < 64) (hon : d.brmOn b = true)
    (hdue : (d.bank b).due ≠ none) : fxBarometerCountExchange b counts d =
      (d.modBank b (fun x => { x with last := (counts.zipIdx).foldl (fun t e => Table.modify t e.2 0 (· + e.1)) x.last })).brmShow b := by
  rw [fxBarometerCountExchange]
  exact if_neg (by simp [hb, hon, Option.isSome_iff_ne_none.mpr hdue])

/-- The counts that stand after another device's are added. -/
theorem Device.last_addCounts (d : Device) (b : Nat) (counts : List Nat) (e : Nat) :
    Table.getD ((d.modBank b (fun x =>
      { x with last := (counts.zipIdx).foldl (fun t e => Table.modify t e.2 0 (· + e.1)) x.last })).bank b).last e 0 =
      Table.getD (d.bank b).last e 0 + counts.getD e 0 := by
  rw [Device.bank_modBank_same]
  simpa using getD_addCounts counts 0 (d.bank b).last e

/-- Settles O49: each write's effect is the register or bank of its equation above; the counts are added expert by expert and shown in
registers of their own. -/
theorem routeAndBarometerRegisters : Obligations.RouteAndBarometerRegisters := by
  intro s port off v hrun r
  refine ⟨fun hmay hmin hmax hword => ⟨fun hclosed hcfg hcap x hdesc => ?closed, fun hvalid hopen => ?isOpen⟩,
    fun b counts hb hon hdue => ?exchange, fun hmay hbank hword => ?bias, fun hmay hmin hmax => ?ctrl, fun hmay hhigh hlow => ?eta⟩
  case closed =>
    exact Ends.of_effect hrun rfl (fxGalRouteWrite_of_closed hmay hmin hmax hword hclosed hcfg hcap hdesc) rfl rfl
      ⟨Device.reg_setReg_same .., fun k hk => Device.reg_setReg_other _ _ _ _ hk, rfl⟩
  case isOpen =>
    exact Ends.of_effect hrun rfl (fxGalRouteWrite_of_open hmay hmin hmax hword hvalid hopen) rfl rfl rfl
  case exchange =>
    have heffect := fxBarometerCountExchange_of_due counts hb hon hdue
    have hlast := s.dev.last_addCounts b counts
    obtain ⟨regs, hframe, hshows⟩ := Device.brmShow_shows (s.dev.modBank b (fun x =>
      { x with last := (counts.zipIdx).foldl (fun t e => Table.modify t e.2 0 (· + e.1)) x.last })) b
    have hbanks := congrArg Device.banks hframe
    refine Ends.of_effect hrun rfl heffect (by rw [hframe]; rfl) (by rw [hframe]; rfl) ⟨fun e => ?_, fun e he => ?_, fun k hk => ?_, ?_⟩
    · rw [Device.bank, hbanks]
      exact hlast e
    · exact (hshows e he).trans (congrArg (· % 2 ^ 32) (hlast e))
    · rw [Device.bank, hbanks]
      exact Table.getD_put_other _ _ _ _ _ hk
    · rw [hframe]
      rfl
  case bias =>
    exact Ends.of_effect hrun rfl (fxBrmBiasWrite_of_word hmay hbank hword) rfl rfl
      ⟨Device.bank_modBank_same .., fun k hk => Device.bank_modBank_other _ _ hk, rfl⟩
  case ctrl =>
    have heffect : fxBrmCtrlWrite port false v s.dev =
        (s.dev.setRegField (regKey BRM_CTRL r) 31 31 (bitsOf v 31 31)).setRegField (regKey BRM_CTRL r) 10 0 (bitsOf v 10 0) :=
      fxBrmCtrlWrite_of_window hmay hmin hmax
    refine Ends.of_effect hrun rfl heffect rfl rfl ⟨?_, ?_, fun k hk => ?_, rfl⟩
    · rw [Device.regField_setRegField_above _ _ (by decide) (by decide) (by decide), Device.regField_setRegField_same _ _ (by decide)]
      exact Nat.mod_eq_of_lt (bitsOf_lt v 31 31)
    · rw [Device.regField_setRegField_same _ _ (by decide)]
      exact Nat.mod_eq_of_lt (bitsOf_lt v 10 0)
    · rw [Device.reg_setRegField_other _ _ _ _ hk, Device.reg_setRegField_other _ _ _ _ hk]
  case eta =>
    have heffect : fxBrmCtrlWrite port true v s.dev =
        (s.dev.setRegField (regKey BRM_ETA r) 31 16 (bitsOf v 31 16)).setRegField (regKey BRM_ETA r) 15 0 (bitsOf v 15 0) :=
      fxBrmCtrlWrite_of_numbers hmay hhigh hlow
    exact Ends.of_effect hrun rfl heffect rfl rfl
      ⟨Device.reg_halves_written .., fun k hk => by
        rw [Device.reg_setRegField_other _ _ _ _ hk, Device.reg_setRegField_other _ _ _ _ hk], rfl⟩

end Sys2Proof.Machine
end

section
/-!
SUPPORT. The removal of a version where memory does not stand in its canonical form (R681).
-/
namespace Sys2Proof.Machine

/-- LIB_VERSION_REMOVE of model 1, version 1. -/
def removeFirst : Staged :=
  { cmd := { origin := .mgmt, port := .mgmt, uid := 1, opcode := 0x72, flags := 0, tag := 0, inst := 0 }
    entry := List.replicate 8 0 ++ [1, 0, 0, 0, 1] ++ List.replicate 51 0 }

/-- A catalogue at the start of T1 with model 1 and its version 1, which holds no shard; the first byte of the version's record is
listed twice. -/
def doubledRecord : State :=
  { dev := { boot := { stage := 10, done := true }, staged := [removeFirst], regs := [(LIB_STATUS, 2 ^ 31)]
             mem := [(0x10000, 1), (0x20000, 1), (0x20000, 2), (0x20004, 1)] } }

/-- Zeroing the records of the version and of its model takes each listed byte away once. -/
theorem cleared_doubledRecord :
    Memory.applyAll doubledRecord.dev.mem ((fxLibVersionRemove .mgmt doubledRecord.dev).wlog.take 320) = [(0x20000, 2)] := by
  decide +kernel

/-- The header, written last, does not reach the version's record. -/
theorem header_doubledRecord :
    lastWrite 0x20000 ((fxLibVersionRemove .mgmt doubledRecord.dev).wlog.drop 320) = none := by
  decide +kernel

theorem Memory.applyAll_append (m : Memory) (l l' : List MemOp) :
    Memory.applyAll m (l ++ l') = Memory.applyAll (Memory.applyAll m l) l' := by
  induction l generalizing m with
  | nil => rfl
  | cons o l ih => exact ih _

theorem Device.readByte_land (d : Device) (m : Memory) (a : Nat) :
    (d.land m).readByte a = Memory.get (Memory.applyAll m d.wlog) a := Device.readByte_of_quiet rfl a

/-- The first byte of the removed record reads 2. -/
theorem readByte_doubledRecord :
    ((fxLibVersionRemove .mgmt doubledRecord.dev).land doubledRecord.dev.mem).readByte 0x20000 = 2 := by
  rw [Device.readByte_land, ← List.take_append_drop 320 (fxLibVersionRemove .mgmt doubledRecord.dev).wlog, Memory.applyAll_append,
    cleared_doubledRecord, Memory.get_applyAll (by decide), header_doubledRecord]
  rfl

/-- Refutes O50: the clause of LIB_VERSION_REMOVE says that the version's record reads 0 afterwards, of every running state, while a
byte written is read back only where memory stands in its canonical form, which `Running` does not ask. `doubledRecord` lists a byte of
that record twice; clearing the record leaves 2 there. (After a command that started from a canonical memory the form stands, O4.) -/
theorem not_catalogueHoldsVersions : ¬ Obligations.CatalogueHoldsVersions := by
  intro h
  obtain ⟨-, -, hversion, -⟩ := h doubledRecord .mgmt removeFirst ⟨rfl, rfl, rfl⟩
  obtain ⟨-, hremove, -⟩ := hversion 0 (by decide) (by decide) (by decide) (by decide +kernel) (by decide) (by decide +kernel)
  obtain ⟨hcleared, -⟩ := (hremove (by decide +kernel) (by decide +kernel) (by decide +kernel)).of_exec (g := .runs)
    (f := fxLibVersionRemove .mgmt) rfl rfl
  have hkey : doubledRecord.dev.verKey 0 = 0x20000 := by decide +kernel
  rw [hkey, Device.readNat, Device.readBytes, leNat, readByte_doubledRecord] at hcleared
  exact absurd (Nat.eq_zero_of_add_eq_zero_right hcleared) (by decide)

end Sys2Proof.Machine
end

section
/-!
SUPPORT. Deployments: the start of a version's load, its reports, and what the end of a deployment releases (R665, R676, R677, R681).
-/
namespace Sys2Proof.Machine

/-! ### What the catalogue's reads depend on (R650 to R657) -/

section Congruence
variable {d e : Device}

theorem Device.readNat_congr (hmem : e.mem = d.mem) (hwlog : e.wlog = d.wlog) (a n : Nat) : e.readNat a n = d.readNat a n := by
  rw [Device.readNat, Device.readBytes_congr hmem hwlog, Device.readNat]

theorem Device.libKey_congr (hregs : e.regs = d.regs) : e.libKey = d.libKey := by
  simp only [Device.libKey, Device.reg64, Device.reg, hregs]

theorem Device.verKey_congr (hregs : e.regs = d.regs) (i : Nat) : e.verKey i = d.verKey i := by
  rw [Device.verKey, Device.libKey_congr hregs, Device.verKey]

theorem Device.findVersion_congr (hmem : e.mem = d.mem) (hwlog : e.wlog = d.wlog) (hregs : e.regs = d.regs) (m v : Nat) :
    e.findVersion m v = d.findVersion m v := by
  simp only [Device.findVersion, Device.readNat_congr hmem hwlog, Device.verKey_congr hregs]

theorem Device.shard_congr (hmem : e.mem = d.mem) (hwlog : e.wlog = d.wlog) (hregs : e.regs = d.regs) (i : Nat) :
    e.shard i = d.shard i := by
  rw [Device.shard, Device.readBytes_congr hmem hwlog, Device.shardKey, Device.libKey_congr hregs, Device.shard, Device.shardKey]

theorem Device.ownShards_congr (hmem : e.mem = d.mem) (hwlog : e.wlog = d.wlog) (hregs : e.regs = d.regs) (v : Nat) :
    e.ownShards v = d.ownShards v := by
  have hdomain : e.inDomain = d.inDomain := by simp only [Device.inDomain, Device.regField, Device.reg, hregs]
  have hindex : e.index = d.index := by simp only [Device.index, Device.regField, Device.reg, hregs]
  have hown (x : ShardRec) : e.own x = d.own x := by
    rw [Device.own, Device.ownDevice, hdomain, hindex, Device.own, Device.ownDevice]
  simp only [Device.ownShards, Device.versionShards, hown, Device.shard_congr hmem hwlog hregs, Device.readNat_congr hmem hwlog,
    Device.verKey_congr hregs]

end Congruence

/-! ### The start of a load (R665, R675, R677) -/

/-- R659: a check of shards adds long operations. -/
theorem Device.startChecks_frame (shards : List Nat) (attempt : Nat) (c : Option CmdRef) (d : Device) : ∃ longOps nextUid,
    d.startChecks shards attempt c = { d with longOps := longOps, nextUid := nextUid } := by
  rw [Device.startChecks]
  induction shards generalizing d with
  | nil => exact ⟨d.longOps, d.nextUid, rfl⟩
  | cons i l ih =>
    rw [List.foldl_cons]
    split
    · exact ih d
    · obtain ⟨longOps, nextUid, hframe⟩ := ih { d with
        nextUid := d.nextUid + 1
        longOps := d.longOps ++ [{ id := d.nextUid, kind := .shardFetch i, cls := 4, cmd := c
                                   attempt := if (({ d with nextUid := d.nextUid + 1 } : Device).shard i).addr = 0 then max 2 attempt
                                     else attempt }] }
      exact ⟨longOps, nextUid, hframe⟩

/-- R653: a change of the catalogue is written, and counted in LIB_STATUS. -/
theorem Device.setVersionState_frame (d : Device) (v st : Nat) : ∃ wlog regs,
    d.setVersionState v st = { d with wlog := wlog, regs := regs } := by
  rw [Device.setVersionState]
  split
  · exact ⟨d.wlog, d.regs, rfl⟩
  · exact ⟨_, _, rfl⟩

theorem Device.checkVersion_frame (d : Device) (v : Nat) (c : Option CmdRef) : ∃ wlog regs longOps nextUid,
    d.checkVersion v c = { d with wlog := wlog, regs := regs, longOps := longOps, nextUid := nextUid } := by
  obtain ⟨wlog, regs, hstate⟩ := d.setVersionState_frame v 1
  unfold Device.checkVersion
  extract_lets shards
  rw [hstate]
  obtain ⟨longOps, nextUid, hchecks⟩ := Device.startChecks_frame shards 0 c { d with wlog := wlog, regs := regs }
  exact ⟨wlog, regs, longOps, nextUid, hchecks⟩

/-- R670: the phase in which a load begins. -/
def Device.firstPhase (d : Device) (vi : Nat) : LoadPhase :=
  if (d.ownShards vi).all (fun i => (d.shard i).state == 2) then .placing else .fetching

theorem Device.firstPhase_congr {d e : Device} (hmem : e.mem = d.mem) (hwlog : e.wlog = d.wlog) (hregs : e.regs = d.regs) (vi : Nat) :
    e.firstPhase vi = d.firstPhase vi := by
  simp only [Device.firstPhase, Device.ownShards_congr hmem hwlog hregs, Device.shard_congr hmem hwlog hregs]

/-- The load with which a deployment begins. -/
def Device.newLoad (d : Device) (v vi : Nat) (drain : Bool) (c : CmdRef) : DeployLoad :=
  { version := v, phase := d.firstPhase vi, drain := drain, cmd := some c }

/-- R670: the load of a version begins, its shards checked where they have to be. -/
theorem Device.beginLoad_of_deploy {d : Device} {n : Nat} {y : Deploy} (hdeploy : d.deploy? n = some y) (v vi : Nat) (drain : Bool)
    (c : CmdRef) : ∃ wlog regs longOps nextUid, (∃ l ∈ longOps, l.kind = .versionLoad n v) ∧
    d.beginLoad n v vi drain c =
      { d with wlog := wlog, regs := regs, longOps := longOps, nextUid := nextUid
               deploys := Table.put d.deploys n { y with load := some (d.newLoad v vi drain c) } } := by
  unfold Device.beginLoad
  extract_lets good loading checked
  have hloading : loading = d.setDeploy n { y with load := some (d.newLoad v vi drain c) } := by
    simp only [loading, Device.modDeploy, hdeploy]
    rfl
  have hchecked : ∃ wlog regs longOps nextUid, checked =
      { d with wlog := wlog, regs := regs, longOps := longOps, nextUid := nextUid
               deploys := Table.put d.deploys n { y with load := some (d.newLoad v vi drain c) } } := by
    simp only [checked, hloading]
    split
    · exact ⟨d.wlog, d.regs, d.longOps, d.nextUid, rfl⟩
    · exact Device.checkVersion_frame _ _ _
  obtain ⟨wlog, regs, longOps, nextUid, hchecked⟩ := hchecked
  rw [hchecked]
  exact ⟨wlog, regs, longOps ++ [{ id := nextUid, kind := .versionLoad n v, cls := 4, cmd := none }], nextUid + 1,
    ⟨_, List.mem_append_right _ (List.mem_singleton_self _), rfl⟩, rfl⟩

/-- The device once the command that begins a load has ended. -/
theorem Device.beginLoad_land {d : Device} {n : Nat} {y : Deploy} (hquiet : d.wlog = []) (hdeploy : d.deploy? n = some y) (v vi : Nat)
    (drain : Bool) (c : CmdRef) (m : Memory) : ∃ mem regs longOps nextUid, (∃ l ∈ longOps, l.kind = .versionLoad n v) ∧
    (d.beginLoad n v vi drain c).land m =
      { d with mem := mem, regs := regs, longOps := longOps, nextUid := nextUid
               deploys := Table.put d.deploys n { y with load := some (d.newLoad v vi drain c) } } := by
  obtain ⟨wlog, regs, longOps, nextUid, hlong, hbegun⟩ := Device.beginLoad_of_deploy hdeploy v vi drain c
  refine ⟨Memory.applyAll m wlog, regs, longOps, nextUid, hlong, ?_⟩
  rw [hbegun, Device.land, hquiet]

section Commands
variable {d : Device} {o : Origin} {e : Staged} {n v : Nat} {y : Deploy}

/-- The deployment that a LIB_DEPLOY makes. -/
def Staged.newDeploy (e : Staged) : Deploy := { model := e.op 8 4, job := e.op 16 4, fn := e.op 26 1, map := mapOf (e.op 20 6) }

/-- R665: LIB_DEPLOY with good operands. -/
theorem fxLibDeploy_of_good (hnext : d.startable o 0x74 = some e) (hreserved : e.op 1 1 = 0) (haux : e.aux = 0)
    (hzero : allZero (sliceOf e.entry 27 37) = true) (hjob : e.op 16 4 ≠ 0) (hmap : mapBad (e.op 20 6) = false) (hfn : e.op 26 1 ≤ 63)
    (hon : d.libOn = true) (hversion : d.findVersion (e.op 8 4) (e.op 12 4) = some v) (hmodel : e.op 8 4 ≠ 0)
    (hfree : (List.range 256).find? (fun n => (d.deploy? n).isNone) = some n) :
    fxLibDeploy o d = ((d.start e).setDeploy n e.newDeploy).beginLoad n (e.op 12 4) v false e.cmd := by
  have hversion' : (d.start e).findVersion (e.op 8 4) (e.op 12 4) = some v :=
    (Device.findVersion_congr (d := d) (e := d.start e) rfl rfl rfl _ _).trans hversion
  have hfree' : (List.range 256).find? (fun n => ((d.start e).deploy? n).isNone) = some n := hfree
  have hon' : (d.start e).libOn = true := hon
  rw [fxLibDeploy, Device.run_of_startable _ hnext]
  rw [if_neg (by simp [hreserved, haux, hzero, hjob, hmap, hfn]), hon', if_neg (by decide), hversion']
  dsimp only
  rw [if_neg hmodel, hfree']
  rfl

/-- R677: LIB_VERSION_LOAD of a version that the catalogue has, for a deployment that stands. -/
theorem fxLibVersionLoad_of_found (hnext : d.startable o 0x75 = some e) (hreserved : e.op 1 1 = 0) (haux : e.aux = 0)
    (hflag : e.op 16 1 ≤ 1) (hzero : allZero (sliceOf e.entry 17 47) = true) (hon : d.libOn = true) (hhandle : 2 ^ 31 ≤ e.op 8 4) (hn : n = e.op 8 4 - 2 ^ 31)
    (hdeploy : d.deploy? n = some y) (hversion : d.findVersion y.model (e.op 12 4) = some v) :
    fxLibVersionLoad o d =
      if y.load.isSome then (d.start e).complete e.cmd 0x0B09 []
      else if y.current = e.op 12 4 then (d.start e).complete e.cmd 0 (leBytes 4 y.current)
      else (d.start e).beginLoad n (e.op 12 4) v (e.op 16 1 == 1) e.cmd := by
  have hversion' : (d.start e).findVersion y.model (e.op 12 4) = some v :=
    (Device.findVersion_congr (d := d) (e := d.start e) rfl rfl rfl _ _).trans hversion
  have hdeploy' : (d.start e).deploy? n = some y := hdeploy
  have hon' : (d.start e).libOn = true := hon
  rw [fxLibVersionLoad, Device.run_of_startable _ hnext]
  rw [if_neg (by simp [hreserved, haux, hzero]; omega), hon', if_neg (by decide)]
  dsimp only
  rw [← hn, if_neg (by omega), hdeploy']
  dsimp only
  rw [hversion']

/-- The images of a deployment: the current version's, and those that retire. -/
def Deploy.loaded (y : Deploy) : List Nat := (if y.image = 0 then [] else [y.image]) ++ y.olds.map (·.2)

theorem fxLibDeploy_land (hquiet : d.wlog = []) (hnext : d.startable o 0x74 = some e) (hreserved : e.op 1 1 = 0) (haux : e.aux = 0)
    (hzero : allZero (sliceOf e.entry 27 37) = true) (hjob : e.op 16 4 ≠ 0) (hmap : mapBad (e.op 20 6) = false) (hfn : e.op 26 1 ≤ 63)
    (hon : d.libOn = true) (hversion : d.findVersion (e.op 8 4) (e.op 12 4) = some v) (hmodel : e.op 8 4 ≠ 0)
    (hfree : (List.range 256).find? (fun n => (d.deploy? n).isNone) = some n) (m : Memory) : ∃ mem regs longOps nextUid,
    (∃ l ∈ longOps, l.kind = .versionLoad n (e.op 12 4)) ∧
    (fxLibDeploy o d).land m = { d.start e with
      mem := mem, regs := regs, longOps := longOps, nextUid := nextUid
      deploys := Table.put d.deploys n { e.newDeploy with load := some (d.newLoad (e.op 12 4) v false e.cmd) } } := by
  have hphase : ((d.start e).setDeploy n e.newDeploy).newLoad (e.op 12 4) v false e.cmd = d.newLoad (e.op 12 4) v false e.cmd := by
    rw [Device.newLoad, Device.firstPhase_congr (d := d) (e := (d.start e).setDeploy n e.newDeploy) rfl rfl rfl, Device.newLoad]
  obtain ⟨mem, regs, longOps, nextUid, hlong, hlanded⟩ := Device.beginLoad_land (d := (d.start e).setDeploy n e.newDeploy)
    (n := n) (y := e.newDeploy) hquiet (Table.find?_put_same _ _ _) (e.op 12 4) v false e.cmd m
  refine ⟨mem, regs, longOps, nextUid, hlong, ?_⟩
  rw [fxLibDeploy_of_good hnext hreserved haux hzero hjob hmap hfn hon hversion hmodel hfree, hlanded, hphase, Device.setDeploy,
    Table.put_put]
  rfl

theorem fxLibVersionLoad_land (hquiet : d.wlog = []) (hnext : d.startable o 0x75 = some e) (hreserved : e.op 1 1 = 0) (haux : e.aux = 0)
    (hflag : e.op 16 1 ≤ 1) (hzero : allZero (sliceOf e.entry 17 47) = true) (hon : d.libOn = true) (hhandle : 2 ^ 31 ≤ e.op 8 4)
    (hn : n = e.op 8 4 - 2 ^ 31) (hdeploy : d.deploy? n = some y) (hversion : d.findVersion y.model (e.op 12 4) = some v)
    (hload : y.load = none) (hother : y.current ≠ e.op 12 4) (m : Memory) : ∃ mem regs longOps nextUid,
    (∃ l ∈ longOps, l.kind = .versionLoad n (e.op 12 4)) ∧
    (fxLibVersionLoad o d).land m = { d.start e with
      mem := mem, regs := regs, longOps := longOps, nextUid := nextUid
      deploys := Table.put d.deploys n { y with load := some (d.newLoad (e.op 12 4) v (e.op 16 1 == 1) e.cmd) } } := by
  have hphase : (d.start e).newLoad (e.op 12 4) v (e.op 16 1 == 1) e.cmd = d.newLoad (e.op 12 4) v (e.op 16 1 == 1) e.cmd := by
    rw [Device.newLoad, Device.firstPhase_congr (d := d) (e := d.start e) rfl rfl rfl, Device.newLoad]
  obtain ⟨mem, regs, longOps, nextUid, hlong, hlanded⟩ := Device.beginLoad_land (d := d.start e) hquiet hdeploy (e.op 12 4) v
    (e.op 16 1 == 1) e.cmd m
  refine ⟨mem, regs, longOps, nextUid, hlong, ?_⟩
  rw [fxLibVersionLoad_of_found hnext hreserved haux hflag hzero hon hhandle hn hdeploy hversion, if_neg (by simp [hload]),
    if_neg hother, hlanded, hphase]
  rfl

/-- R681: LIB_UNDEPLOY of a deployment that stands. -/
theorem fxLibUndeploy_of_found (hnext : d.startable o 0x76 = some e) (hreserved : e.op 1 1 = 0) (haux : e.aux = 0)
    (hzero : allZero (sliceOf e.entry 12 52) = true) (hon : d.libOn = true) (hhandle : 2 ^ 31 ≤ e.op 8 4) (hn : n = e.op 8 4 - 2 ^ 31)
    (hdeploy : d.deploy? n = some y) :
    fxLibUndeploy o d =
      if y.load.isSome || y.loaded.any (fun h => d.pinned n h != 0 || d.imageHeld h) then
        (d.start e).complete e.cmd 0x0B0A []
      else ((y.loaded.foldl (fun (d : Device) h => d.libUnload h)
        { d.start e with deploys := Table.drop d.deploys n }).endJob y.job).complete e.cmd 0 [] := by
  have hdeploy' : (d.start e).deploy? n = some y := hdeploy
  have hon' : (d.start e).libOn = true := hon
  rw [fxLibUndeploy, Device.run_of_startable _ hnext]
  rw [if_neg (by simp [hreserved, haux, hzero]), hon', if_neg (by decide)]
  dsimp only
  rw [← hn, if_neg (by omega), hdeploy']
  rfl

end Commands

/-! ### What an unloaded version leaves (R267, R681) -/

/-- Memory, what is left to be written, the deployments and the images stand in `e` as in `d`. -/
structure SameLibrary (d e : Device) : Prop where
  mem : e.mem = d.mem
  wlog : e.wlog = d.wlog
  deploys : e.deploys = d.deploys
  images : e.images = d.images

namespace SameLibrary
variable {d e : Device}

theorem refl (d : Device) : SameLibrary d d := ⟨rfl, rfl, rfl, rfl⟩

theorem trans {f : Device} (h : SameLibrary d e) (h' : SameLibrary e f) : SameLibrary d f :=
  ⟨h'.mem.trans h.mem, h'.wlog.trans h.wlog, h'.deploys.trans h.deploys, h'.images.trans h.images⟩

theorem ite {f : Device} {c : Prop} [Decidable c] (he : SameLibrary d e) (hf : SameLibrary d f) :
    SameLibrary d (if c then e else f) := by
  split
  · exact he
  · exact hf

theorem foldl {α : Type} {f : Device → α → Device} (hf : ∀ d a, SameLibrary d (f d a)) :
    ∀ (l : List α) (d : Device), SameLibrary d (l.foldl f d)
  | [], d => refl d
  | a :: l, d => (hf d a).trans (foldl hf l (f d a))

theorem complete (d : Device) (c : CmdRef) (st : Nat) (v : List Byte) : SameLibrary d (d.complete c st v) := by
  rw [Device.complete_frame]
  exact ⟨rfl, rfl, rfl, rfl⟩

theorem removeQueue (d : Device) (p q : Nat) : SameLibrary d (d.removeQueue p q) := by
  rw [Device.removeQueue]
  split
  · exact refl d
  · exact trans (e := { d.modQpart p _ with regs := _ }) ⟨rfl, rfl, rfl, rfl⟩ (foldl (fun d w => complete d _ _ _) _ _)

theorem releasePart (d : Device) (j p : Nat) : SameLibrary d (d.releasePart j p) := by
  have hcarve (d : Device) : SameLibrary d (d.releaseCarve p) :=
    trans (foldl (fun d q => removeQueue d p q) _ d) ⟨rfl, rfl, rfl, rfl⟩
  unfold Device.releasePart
  extract_lets carved released
  have hcarved : SameLibrary d carved := ite (hcarve d) (refl d)
  exact ite hcarved (ite (hcarved.trans ⟨rfl, rfl, rfl, rfl⟩) (hcarved.trans ⟨rfl, rfl, rfl, rfl⟩))

theorem endJob (d : Device) (j : Nat) : SameLibrary d (d.endJob j) := by
  rw [Device.endJob]
  exact ite (refl d) ⟨rfl, rfl, rfl, rfl⟩

end SameLibrary

theorem Table.drop_of_not_found {α : Type} {t : Table α} {k : Nat} (h : Table.find? t k = none) : Table.drop t k = t := by
  induction t with
  | nil => rfl
  | cons a r ih =>
    obtain ⟨j, b⟩ := a
    rw [Table.find?] at h
    split at h
    · exact absurd h (by simp)
    · next hkey => rw [Table.drop, List.filter_cons_of_pos (by simpa using hkey), ← Table.drop, ih h]

theorem Device.complete_deploys (d : Device) (c : CmdRef) (st : Nat) (v : List Byte) : (d.complete c st v).deploys = d.deploys := by
  rw [Device.complete_frame]

/-- R681: with the last of a job's images and deployments go its sequences and prefixes. -/
theorem Device.endJob_frame (d : Device) (j : Nat) : ∃ jobs seqs prefixes readOnly,
    d.endJob j = { d with jobs := jobs, seqs := seqs, prefixes := prefixes, readOnly := readOnly } := by
  rw [Device.endJob]
  split
  · exact ⟨d.jobs, d.seqs, d.prefixes, d.readOnly, rfl⟩
  · exact ⟨_, _, _, _, rfl⟩

/-- R267: an unloaded image is gone; memory, the deployments and every other image stay. -/
theorem Device.libUnload_library (d : Device) (h : Nat) :
    SameLibrary { d with images := Table.drop d.images h } (d.libUnload h) := by
  have hsweep (d : Device) : SameLibrary d d.sweepRegions := ⟨rfl, rfl, rfl, rfl⟩
  refine SameLibrary.trans ?_ (hsweep _)
  unfold Device.releaseImage
  cases himage : d.image? h with
  | none =>
    have habsent : Table.drop d.images h = d.images := Table.drop_of_not_found himage
    exact ⟨rfl, rfl, rfl, habsent.symm⟩
  | some x =>
    refine SameLibrary.trans (SameLibrary.trans ?_ (SameLibrary.foldl (fun d p => ?_) x.parts _)) (SameLibrary.endJob _ _)
    · exact ⟨rfl, rfl, rfl, rfl⟩
    · have hqueues (d : Device) (l : List Nat) : SameLibrary d (l.foldl (fun d q => d.removeQueue p q) d) :=
        SameLibrary.foldl (fun d q => SameLibrary.removeQueue d p q) l d
      refine SameLibrary.trans ?_ (SameLibrary.releasePart _ _ _)
      exact SameLibrary.trans (SameLibrary.trans (e := d.modPart p _) ⟨rfl, rfl, rfl, rfl⟩ (hqueues _ _)) ⟨rfl, rfl, rfl, rfl⟩

/-- R681: the end of a deployment unloads its images one after another. -/
theorem Device.libUnload_foldl (l : List Nat) (d : Device) : ∃ images,
    SameLibrary { d with images := images } (l.foldl (fun (d : Device) h => d.libUnload h) d) ∧
    (∀ h ∈ l, Table.find? images h = none) ∧ (∀ h, Table.find? d.images h = none → Table.find? images h = none) := by
  induction l generalizing d with
  | nil => exact ⟨d.images, SameLibrary.refl d, by simp, fun _ h => h⟩
  | cons a l ih =>
    obtain ⟨images, hsame, hgone, hkept⟩ := ih (d.libUnload a)
    have hone := d.libUnload_library a
    rw [hone.images] at hkept
    refine ⟨images, ⟨hsame.mem.trans hone.mem, hsame.wlog.trans hone.wlog, hsame.deploys.trans hone.deploys, hsame.images⟩, ?_, ?_⟩
    · intro h hh
      obtain rfl | hh := List.mem_cons.mp hh
      · exact hkept h (Table.find?_drop_same _ _)
      · exact hgone h hh
    · intro h hnone
      refine hkept h ?_
      by_cases hha : h = a
      · rw [hha]
        exact Table.find?_drop_same _ _
      · rw [Table.find?_drop_other _ _ _ hha]
        exact hnone

/-! ### Reports and the breath of currency (R676) -/

section Reports
variable {d : Device} {n job model version device : Nat} {y : Deploy} {l : DeployLoad}

/-- The deployments with what the load of the only one of them becomes. -/
theorem Device.modVersionLoad_of_only (hdeploys : d.deploys = [(n, y)]) (hload : y.load = some l) (f : DeployLoad → DeployLoad) :
    d.modVersionLoad n f = { d with deploys := [(n, { y with load := some (f l) })] } := by
  have hfind : d.deploy? n = some y := by
    rw [Device.deploy?, hdeploys]
    simp [Table.find?]
  have hput (y' : Deploy) : Table.put [(n, y)] n y' = [(n, y')] := by simp [Table.put]
  rw [Device.modVersionLoad, Device.modDeploy, hfind]
  simp only [Device.setDeploy, hload, Option.map_some, hdeploys, hput]

theorem fxCurrencyBreathAnnounce_of_only (hdeploys : d.deploys = [(n, y)]) (hjob : y.job = job) (hmodel : y.model = model)
    (hload : y.load = some l) (hversion : l.version = version) (breath : Nat) :
    fxCurrencyBreathAnnounce job model version breath d =
      { d with deploys := [(n, { y with load := some { l with breath := some breath } })] } := by
  unfold fxCurrencyBreathAnnounce
  rw [hdeploys, List.find?_cons_of_pos]
  · exact Device.modVersionLoad_of_only hdeploys hload _
  · simp [hjob, hmodel, hload, hversion]

theorem fxVersionAvailableReport_of_only (hdeploys : d.deploys = [(n, y)]) (hjob : y.job = job) (hmodel : y.model = model)
    (hload : y.load = some l) (hversion : l.version = version) :
    fxVersionAvailableReport job model version device d =
      if d.lowestDevice job ≠ d.index then d
      else ({ d with deploys := [(n, { y with load := some { l with reports := (device :: l.reports).eraseDups } })] } :
        Device).announceVersion n := by
  unfold fxVersionAvailableReport
  rw [hdeploys, List.find?_cons_of_pos]
  · dsimp only
    rw [Device.modVersionLoad_of_only hdeploys hload]
  · simp [hjob, hmodel, hload, hversion]

/-- Messages to other devices are queued. -/
theorem Device.foldl_sendControl_frame (job code : Nat) (body : List Byte) (devs : List Nat) (d : Device) : ∃ txq nextUid,
    devs.foldl (fun d x => d.sendControl x job code body) d = { d with txq := txq, nextUid := nextUid } := by
  induction devs generalizing d with
  | nil => exact ⟨d.txq, d.nextUid, rfl⟩
  | cons x devs ih =>
    obtain ⟨txq, nextUid, hframe⟩ := ih (d.sendControl x job code body)
    exact ⟨txq, nextUid, hframe⟩

/-- R676: the lowest-indexed device fixes the breath once every device of the deployment has reported. -/
theorem Device.announceVersion_of_only (hdeploys : d.deploys = [(n, y)]) (hload : y.load = some l) (hbreath : l.breath = none)
    (hlowest : d.lowestDevice y.job = d.index) : ∃ txq nextUid,
    d.announceVersion n = { d with
      txq := txq, nextUid := nextUid
      deploys := [(n, { y with load := some { l with
        breath := if 1 < (d.jobDevices y.job).length ∧ (d.jobDevices y.job).all (fun x => l.reports.contains x) = true
          then some (d.breath + 2) else none } })] } := by
  have hfind : d.deploy? n = some y := by
    rw [Device.deploy?, hdeploys]
    simp [Table.find?]
  unfold Device.announceVersion
  rw [hfind]
  dsimp only
  rw [hload]
  dsimp only
  by_cases hall : 1 < (d.jobDevices y.job).length ∧ (d.jobDevices y.job).all (fun x => l.reports.contains x) = true
  · obtain ⟨hmany, hreported⟩ := hall
    rw [if_neg (by simp only [hbreath, hlowest, hreported]; simp; omega), if_pos ⟨hmany, hreported⟩]
    obtain ⟨txq, nextUid, hsent⟩ := Device.foldl_sendControl_frame y.job 5
      (leBytes 4 y.job ++ leBytes 4 y.model ++ leBytes 4 l.version ++ leBytes 8 (d.breath + 2))
      ((d.jobDevices y.job).filter (fun x => x != d.index)) d
    rw [hsent]
    exact ⟨txq, nextUid, Device.modVersionLoad_of_only (d := { d with txq := txq, nextUid := nextUid }) hdeploys hload _⟩
  · rw [if_pos, if_neg hall]
    · refine ⟨d.txq, d.nextUid, ?_⟩
      have hstands : ({ y with load := some { l with breath := none } } : Deploy) = y := by
        rw [← hbreath, ← hload]
      rw [hstands, ← hdeploys]
    · by_cases hmany : 1 < (d.jobDevices y.job).length
      · have hmissing : (d.jobDevices y.job).all (fun x => l.reports.contains x) = false := by
          simpa using fun h => hall ⟨hmany, h⟩
        simp only [hmissing]
        simp
      · simp
        omega

end Reports

/-- Settles O51: a load begins as the equation of `beginLoad` says, and its writes of the catalogue land; the end of a deployment
releases its images and touches no other deployment; reports and the announced breath change the load alone. That the breath announced
is the one two ahead is the model's choice (log entries 61, 70). -/
theorem deploymentsLoadVersions : Obligations.DeploymentsLoadVersions := by
  intro s o e hrun phase
  have ⟨_, _, hquiet⟩ := hrun
  refine ⟨fun v n hnext hreserved haux hzero hjob hmap hfn hon hversion hmodel hfree => ?deploy,
    fun n y hhandle hn hdeploy hon hreserved haux => ⟨fun v hnext hflag hzero hversion =>
      ⟨fun hload hother => ?load, fun hload hcurrent => ?current, fun hload => ?loading⟩,
      fun hnext hzero hload himages => ?undeploy, fun hnext hzero hload => ?undeployLoading⟩,
    fun n y l job model version device hdeploys hjob hmodel hload hversion =>
      ⟨fun hlowest hbreath => ?report, fun hlowest => ?reportElsewhere, fun breath => ?announce⟩⟩
  case deploy =>
    obtain ⟨mem, regs, longOps, nextUid, hlong, hlanded⟩ := fxLibDeploy_land hquiet hnext hreserved haux hzero hjob hmap hfn hon hversion
      hmodel hfree s.dev.mem
    exact Ends.of_landed hrun rfl hlanded ⟨Table.find?_put_same _ _ _, fun m hm => Table.find?_put_other _ _ _ _ hm, hlong, rfl⟩
  case load =>
    obtain ⟨mem, regs, longOps, nextUid, hlong, hlanded⟩ := fxLibVersionLoad_land hquiet hnext hreserved haux hflag hzero hon hhandle hn
      hdeploy hversion hload hother s.dev.mem
    exact Ends.of_landed hrun rfl hlanded ⟨Table.find?_put_same _ _ _, fun m hm => Table.find?_put_other _ _ _ _ hm, hlong, rfl⟩
  case current =>
    exact Ends.of_effect hrun rfl ((fxLibVersionLoad_of_found hnext hreserved haux hflag hzero hon hhandle hn hdeploy hversion).trans
      ((if_neg (by simp [hload])).trans (if_pos hcurrent))) (Device.complete_mem ..) (Device.complete_wlog ..) rfl
  case loading =>
    exact Ends.of_effect hrun rfl ((fxLibVersionLoad_of_found hnext hreserved haux hflag hzero hon hhandle hn hdeploy hversion).trans
      (if_pos (Option.isSome_iff_ne_none.mpr hload))) (Device.complete_mem ..) (Device.complete_wlog ..) rfl
  case undeploy =>
    have hfree : ¬ (y.load.isSome || y.loaded.any (fun h => s.dev.pinned n h != 0 || s.dev.imageHeld h)) = true := by
      simp only [hload, Option.isSome_none, Bool.false_or, List.any_eq_true, not_exists, not_and]
      intro h hh
      obtain ⟨hpinned, hheld⟩ := himages h hh
      simp [hpinned, hheld]
    have heffect := (fxLibUndeploy_of_found hnext hreserved haux hzero hon hhandle hn hdeploy).trans (if_neg hfree)
    obtain ⟨images, hunloaded, hgone, -⟩ := Device.libUnload_foldl y.loaded
      { s.dev.start e with deploys := Table.drop s.dev.deploys n }
    have hsame := (hunloaded.trans (SameLibrary.endJob _ y.job)).trans (SameLibrary.complete _ e.cmd 0 [])
    refine Ends.of_effect hrun rfl heffect hsame.mem hsame.wlog ⟨?_, fun m hm => ?_, fun h hh => ?_, fun hnone holds => ?_⟩
    · rw [Device.deploy?, hsame.deploys]
      exact Table.find?_drop_same _ _
    · rw [Device.deploy?, hsame.deploys]
      exact Table.find?_drop_other _ _ _ hm
    · rw [Device.image?, hsame.images]
      exact hgone h hh
    · obtain ⟨jobs, seqs, prefixes, readOnly, hended⟩ := Device.endJob_frame { s.dev.start e with deploys := Table.drop s.dev.deploys n } y.job
      have hloaded : y.loaded = [] := by simp [Deploy.loaded, hnone, holds]
      rw [hloaded, List.foldl_nil, hended, Device.complete_deploys, Device.complete_jobs, Device.complete_seqs, Device.complete_prefixes,
        Device.complete_readOnly]
  case undeployLoading =>
    exact Ends.of_effect hrun rfl ((fxLibUndeploy_of_found hnext hreserved haux hzero hon hhandle hn hdeploy).trans
      (if_pos (by rw [Option.isSome_iff_ne_none.mpr hload, Bool.true_or]))) (Device.complete_mem ..) (Device.complete_wlog ..) rfl
  case report =>
    subst hjob
    obtain ⟨txq, nextUid, hannounced⟩ := Device.announceVersion_of_only
      (d := { s.dev with deploys := [(n, { y with load := some { l with reports := (device :: l.reports).eraseDups } })] })
      rfl rfl hbreath hlowest
    exact Ends.of_effect hrun rfl ((fxVersionAvailableReport_of_only hdeploys rfl hmodel hload hversion).trans
      ((if_neg (not_not_intro hlowest)).trans hannounced)) rfl rfl ⟨rfl, rfl⟩
  case reportElsewhere =>
    exact Ends.of_effect hrun rfl ((fxVersionAvailableReport_of_only hdeploys hjob hmodel hload hversion).trans (if_pos hlowest)) rfl rfl rfl
  case announce =>
    exact Ends.of_effect hrun rfl (fxCurrencyBreathAnnounce_of_only hdeploys hjob hmodel hload hversion breath) rfl rfl ⟨rfl, rfl⟩

end Sys2Proof.Machine
end

section
/-!
SUPPORT. A CFG_STORE READ where memory does not stand in its canonical form (R810).
-/
namespace Sys2Proof.Machine

/-- CFG_STORE READ of four bytes to the start of T2 of this device. -/
def readFour : Staged :=
  { cmd := { origin := .mgmt, port := .mgmt, uid := 1, opcode := 0x7C, flags := 0, tag := 0, inst := 0 }
    entry := List.replicate 16 0 ++ leBytes 8 (selfAddr 1 0) ++ [4] ++ List.replicate 39 0 }

/-- A standing configuration whose length is 4 and whose first bytes are zeros. -/
def zeroConfig : CfgSlot := { bytes := List.replicate 12 0 ++ [4, 0, 0, 0] }

/-- The configuration stands, and memory lists the first byte of T2 twice. -/
def doubledTarget : State :=
  { dev := { boot := { stage := 10, done := true, cfgA := zeroConfig, cfgDefault := false, cfgUseB := false }, staged := [readFour]
             mem := [(memKey 1 0, 1), (memKey 1 0, 2)] } }

/-- The first byte reads 2 where 0 was written. -/
theorem readBytes_doubledTarget :
    ((fxCfgStoreRead .mgmt doubledTarget.dev).land doubledTarget.dev.mem).readBytes (localKey (selfAddr 1 0)) 4 = [2, 0, 0, 0] := by
  decide +kernel

/-- Refutes O52: the clause of CFG_STORE READ says that the configuration's bytes stand at the address given, of every running state,
while a byte written is read back only where memory stands in its canonical form, which `Running` does not ask. `doubledTarget` lists a
byte of that place twice; four zeros written leave 2 in the first. (After a command that started from a canonical memory the form
stands, O4.) -/
theorem not_configurationAndManagementCommands : ¬ Obligations.ConfigurationAndManagementCommands := by
  intro h
  obtain ⟨hread, -⟩ := h doubledTarget .mgmt readFour .mgmt ⟨rfl, rfl, rfl⟩
  obtain ⟨-, hstanding⟩ := hread (by decide +kernel) (by decide +kernel)
  obtain ⟨hwritten, -⟩ := (hstanding (by decide +kernel) (by decide +kernel) (by decide +kernel) (by decide +kernel)).of_exec
    (g := .runs) (f := fxCfgStoreRead .mgmt) rfl rfl
  have htaken : doubledTarget.dev.standing.take (cfgLength doubledTarget.dev.standing) = [0, 0, 0, 0] := by decide +kernel
  rw [htaken] at hwritten
  exact absurd (readBytes_doubledTarget.symm.trans hwritten) (by decide)

end Sys2Proof.Machine
end

section
/-!
SUPPORT. Plovlink and twin ports: their registers, how a port comes up and how it falls (R744, R750 to R758, R792, R795).
-/
namespace Sys2Proof.Machine

/-! ### Registers of ports -/

/-- Instances of registers at different offsets stand under different keys. -/
theorem regKey_ne_of_offset {off off' : Nat} (h : off % 2 ^ 26 ≠ off' % 2 ^ 26) (p q : Nat) : regKey off p ≠ regKey off' q := by
  rw [regKey, regKey]
  omega

/-- Different instances of a register stand under different keys. -/
theorem regKey_ne_of_inst {p q : Nat} (h : q ≠ p) (off : Nat) : regKey off q ≠ regKey off p := by
  rw [regKey, regKey]
  omega

section Registers
variable (d : Device) (p : Nat)

theorem Device.portState_setPortState_same (st : Nat) (hst : st < 8) : (d.setPortState p st).portState p = st := by
  rw [Device.portState, Device.setPortState, Device.regField_setRegField_same _ _ (by decide)]
  exact Nat.mod_eq_of_lt hst

theorem Device.portState_setPortState_other {q : Nat} (h : q ≠ p) (st : Nat) : (d.setPortState p st).portState q = d.portState q :=
  Device.regField_setRegField_other _ _ _ _ _ _ (regKey_ne_of_inst h _)

/-- A field of another register than PLV_PORT_STATUS. -/
theorem Device.portState_setRegField {off : Nat} (h : PLV_PORT_STATUS % 2 ^ 26 ≠ off % 2 ^ 26) (i hi lo v q : Nat) :
    (d.setRegField (regKey off i) hi lo v).portState q = d.portState q :=
  Device.regField_setRegField_other _ _ _ _ _ _ (regKey_ne_of_offset h _ _)

theorem Device.portState_setLocked (mask q : Nat) : (d.setLocked p mask).portState q = d.portState q := by
  by_cases hq : q = p
  · subst hq
    exact Device.regField_setRegField_above _ _ (by decide) (by decide) (by decide)
  · exact Device.regField_setRegField_other _ _ _ _ _ _ (regKey_ne_of_inst hq _)

theorem Device.locked_setLocked (mask : Nat) :
    (d.setLocked p mask).regField (regKey PLV_PORT_STATUS p) 28 21 = mask % 2 ^ 8 :=
  Device.regField_setRegField_same _ _ (by decide)

theorem Device.locked_setPortState (st : Nat) :
    (d.setPortState p st).regField (regKey PLV_PORT_STATUS p) 28 21 = d.regField (regKey PLV_PORT_STATUS p) 28 21 :=
  Device.regField_setRegField_below _ _ (by decide) (by decide)

theorem Device.portState_bump {off : Nat} (h : PLV_PORT_STATUS % 2 ^ 26 ≠ off % 2 ^ 26) (i n q : Nat) :
    (d.bump (regKey off i) n).portState q = d.portState q := by
  rw [Device.portState, Device.regField, Device.reg_bump_other _ _ (regKey_ne_of_offset h _ _), Device.portState, Device.regField]

theorem Device.portState_setReg {k : Nat} (q v : Nat) (h : regKey PLV_PORT_STATUS q ≠ k) :
    (d.setReg k v).portState q = d.portState q := by
  rw [Device.portState, Device.regField, Device.reg_setReg_other _ _ _ _ h, Device.portState, Device.regField]

end Registers

/-! ### A port that falls (R750, R792) -/

/-- What is left of a port's link once it is DOWN. -/
def LinkPort.fallen (x : LinkPort) : LinkPort :=
  { x with media := false, lanes := [], reports := [], teardowns := [], tick := false, nakPeriod := false, transit := [], live := 0 }

/-- The registers of a port that falls: its state, its lanes, its count of falls, its cause. -/
def Device.portFalls (d : Device) (p : Nat) (cause : Option Nat) : Device :=
  let d := ((d.setPortState p 0).setLocked p 0).bump (regKey PLV_DOWN_COUNT p) 1
  match cause with | some c => d.setRegField (regKey PLV_PORT_STATUS p) 3 0 c | none => d

/-- The fall of a Plovlink port that carries no circuit. -/
theorem Device.portDown_of_free {d : Device} {p : Nat} (hp : p < 16) (hfree : ∀ e ∈ d.circuits, e.1 / 64 ≠ p) (cause : Option Nat) :
    d.portDown p cause = (d.portFalls p cause).modLink p LinkPort.fallen := by
  unfold Device.portDown
  extract_lets counted caused failed torn
  have hcircuits : caused.circuits = d.circuits := by
    simp only [caused]
    cases cause <;> rfl
  have hnone : d.circuits.filter (fun e => e.1 / 64 == p) = [] := by
    rw [List.filter_eq_nil_iff]
    intro e he
    simpa using hfree e he
  have hfailed : failed = caused := if_neg (by omega)
  have htorn : torn = caused := by
    simp only [torn, hfailed, hcircuits, hnone]
    rfl
  rw [htorn]
  rfl

theorem Device.link_portDown (d : Device) (p : Nat) (cause : Option Nat) : ∃ x, (d.portDown p cause).link p = LinkPort.fallen x :=
  ⟨_, Device.link_modLink_same _ _ _⟩

section Falls
variable (d : Device) (p : Nat) (cause : Option Nat)

theorem Device.portFalls_frame : ∃ regs, d.portFalls p cause = { d with regs := regs } := by
  cases cause with
  | none => exact ⟨_, rfl⟩
  | some c => exact ⟨_, rfl⟩

theorem Device.portState_portFalls_same : (d.portFalls p cause).portState p = 0 := by
  have hcounted : (((d.setPortState p 0).setLocked p 0).bump (regKey PLV_DOWN_COUNT p) 1).portState p = 0 := by
    rw [Device.portState_bump _ (by decide), Device.portState_setLocked, Device.portState_setPortState_same _ _ _ (by decide)]
  cases cause with
  | none => exact hcounted
  | some c => exact (Device.regField_setRegField_above _ _ (by decide) (by decide) (by decide)).trans hcounted

theorem Device.portState_portFalls_other {q : Nat} (h : q ≠ p) : (d.portFalls p cause).portState q = d.portState q := by
  have hcounted : (((d.setPortState p 0).setLocked p 0).bump (regKey PLV_DOWN_COUNT p) 1).portState q = d.portState q := by
    rw [Device.portState_bump _ (by decide), Device.portState_setLocked, Device.portState_setPortState_other _ _ h]
  cases cause with
  | none => exact hcounted
  | some c => exact (Device.regField_setRegField_other _ _ _ _ _ _ (regKey_ne_of_inst h _)).trans hcounted

theorem Device.locked_portFalls : (d.portFalls p cause).regField (regKey PLV_PORT_STATUS p) 28 21 = 0 := by
  have hcounted : (((d.setPortState p 0).setLocked p 0).bump (regKey PLV_DOWN_COUNT p) 1).regField (regKey PLV_PORT_STATUS p) 28 21 =
      0 := by
    rw [Device.regField, Device.reg_bump_other _ _ (regKey_ne_of_offset (by decide) _ _)]
    exact Device.locked_setLocked _ _ _
  cases cause with
  | none => exact hcounted
  | some c => exact (Device.regField_setRegField_above _ _ (by decide) (by decide) (by decide)).trans hcounted

theorem Device.cause_portFalls (c : Nat) : (d.portFalls p (some c)).regField (regKey PLV_PORT_STATUS p) 3 0 = c % 16 :=
  Device.regField_setRegField_same _ _ (by decide)

theorem Device.count_portFalls :
    (d.portFalls p cause).reg (regKey PLV_DOWN_COUNT p) = satAdd 32 (d.reg (regKey PLV_DOWN_COUNT p)) 1 := by
  have hne : regKey PLV_DOWN_COUNT p ≠ regKey PLV_PORT_STATUS p := regKey_ne_of_offset (by decide) _ _
  have hcounted : (((d.setPortState p 0).setLocked p 0).bump (regKey PLV_DOWN_COUNT p) 1).reg (regKey PLV_DOWN_COUNT p) =
      satAdd 32 (d.reg (regKey PLV_DOWN_COUNT p)) 1 := by
    rw [Device.reg_bump_same, Device.setLocked, Device.reg_setRegField_other _ _ _ _ hne, Device.setPortState,
      Device.reg_setRegField_other _ _ _ _ hne]
  cases cause with
  | none => exact hcounted
  | some c => exact (Device.reg_setRegField_other _ _ _ _ hne).trans hcounted

end Falls

/-- What a command may have done before its port falls: the port's own registers and link, and free values taken. -/
structure Beside (s : State) (p : Nat) (d : Device) : Prop where
  frame : ∃ regs ports n, d = { s.dev with regs := regs, ports := ports, freeCounter := n }
  states : ∀ q, q ≠ p → d.portState q = s.dev.portState q
  links : ∀ q, q ≠ p → d.link q = s.dev.link q
  count : d.reg (regKey PLV_DOWN_COUNT p) = s.dev.reg (regKey PLV_DOWN_COUNT p)

theorem Beside.refl (s : State) (p : Nat) : Beside s p s.dev := ⟨⟨s.dev.regs, s.dev.ports, s.dev.freeCounter, rfl⟩, fun _ _ => rfl, fun _ _ => rfl, rfl⟩

theorem Device.regField_modLink (d : Device) (p : Nat) (f : LinkPort → LinkPort) (k hi lo : Nat) :
    (d.modLink p f).regField k hi lo = d.regField k hi lo := rfl

theorem Device.frame_modLink {d₀ d e : Device} (h : ∃ regs ports n, d = { d₀ with regs := regs, ports := ports, freeCounter := n })
    (he : ∃ regs, e = { d with regs := regs }) (p : Nat) (f : LinkPort → LinkPort) :
    e.modLink p f = { d₀ with regs := (e.modLink p f).regs, ports := (e.modLink p f).ports, freeCounter := (e.modLink p f).freeCounter } := by
  obtain ⟨regs, ports, n, rfl⟩ := h
  obtain ⟨regs', rfl⟩ := he
  rfl

/-- R750, R792: a port that falls has gone DOWN. -/
theorem Beside.wentDown {s : State} {p : Nat} {d : Device} (h : Beside s p d) (hrun : Running s) {cause cause' : Option Nat}
    (hcause : ∀ c, cause' = some c → cause = some c) : WentDown s p cause' ((d.portDown p cause).land s.dev.mem) := by
  have ⟨_, _, hquiet⟩ := hrun
  obtain ⟨x, hlink⟩ := d.link_portDown p cause
  have hlink' : ((d.portDown p cause).land s.dev.mem).link p = LinkPort.fallen x := hlink
  refine ⟨by rw [hlink']; rfl, by rw [hlink']; rfl, by rw [hlink']; rfl, by rw [hlink']; rfl, fun hp hfree => ?_⟩
  obtain ⟨hframe, hstates, hlinks, hcount⟩ := h
  obtain ⟨regs, hfalls⟩ := d.portFalls_frame p cause
  have hcircuits : d.circuits = s.dev.circuits ∧ d.wlog = s.dev.wlog ∧ d.mem = s.dev.mem := by
    obtain ⟨_, _, _, rfl⟩ := hframe
    exact ⟨rfl, rfl, rfl⟩
  obtain ⟨hcircuits, hwlog, hmem⟩ := hcircuits
  have hdown := Device.portDown_of_free hp (by rw [hcircuits]; exact hfree) cause
  have hland : (d.portDown p cause).land s.dev.mem = (d.portFalls p cause).modLink p LinkPort.fallen := by
    rw [hdown, hfalls]
    exact Device.land_of_quiet hmem (hwlog.trans hquiet)
  rw [hland]
  refine ⟨d.portState_portFalls_same p cause, d.locked_portFalls p cause, fun c hc => ?_, ?_, fun q hq => ⟨?_, ?_⟩, ?_⟩
  · rw [Device.regField_modLink, hcause c hc]
    exact d.cause_portFalls p c
  · exact (d.count_portFalls p cause).trans (by rw [hcount])
  · exact (d.portState_portFalls_other p cause hq).trans (hstates q hq)
  · refine (Device.link_modLink_other _ _ hq).trans ?_
    rw [hfalls]
    exact hlinks q hq
  · exact Device.frame_modLink hframe ⟨regs, hfalls⟩ p LinkPort.fallen

/-- A command whose port falls ends with the port DOWN. -/
theorem Ends.of_portDown {c : Instr} {s : State} {f : Device → Device} {p : Nat} {d : Device} {cause cause' : Option Nat} (hrun : Running s)
    (he : exec c s = onDev .runs f s) (hf : f s.dev = d.portDown p cause) (h : Beside s p d)
    (hcause : ∀ c, cause' = some c → cause = some c) : Ends c s (WentDown s p cause') :=
  Ends.of_landed hrun he (congrArg (Device.land · s.dev.mem) hf) (h.wentDown hrun hcause)

end Sys2Proof.Machine
end

section
/-!
SUPPORT. The events of the port state machine, one equation each (R750 to R758, R795).
-/
namespace Sys2Proof.Machine

section Events
variable {d : Device} {p : Nat}

theorem Device.portState_detect_same (d : Device) (p : Nat) : (d.detect p).portState p = 1 :=
  Device.portState_setPortState_same d p 1 (by decide)

theorem Device.portState_detect_other (d : Device) {p q : Nat} (h : q ≠ p) : (d.detect p).portState q = d.portState q :=
  Device.portState_setPortState_other d p h 1

theorem Device.link_congr {d e : Device} (h : e.ports = d.ports) (q : Nat) : e.link q = d.link q := by
  rw [Device.link, h, Device.link]

/-- R758: the presence line of a module, in the link and in PLV_MEDIA_STATUS. -/
def Device.moduleFound (d : Device) (p : Nat) : Device :=
  (d.modLink p (fun x => { x with present := true })).setRegField (regKey PLV_MEDIA_STATUS p) 31 31 1

theorem Device.portState_moduleFound (d : Device) (p q : Nat) : (d.moduleFound p).portState q = d.portState q :=
  Device.portState_setRegField _ (by decide) _ _ _ _ _

theorem Device.present_moduleFound (d : Device) (p : Nat) : ((d.moduleFound p).link p).present = true := by
  rw [Device.link_congr (d := d.modLink p (fun x => { x with present := true })) (e := d.moduleFound p) rfl, Device.link_modLink_same]

theorem Device.media_moduleFound (d : Device) (p : Nat) : (d.moduleFound p).regField (regKey PLV_MEDIA_STATUS p) 31 31 = 1 :=
  (Device.regField_setRegField_same _ _ (by decide)).trans (by decide)

/-- R750: DETECT changes no other register than PLV_PORT_STATUS. -/
theorem Device.regField_detect {off : Nat} (h : off % 2 ^ 26 ≠ PLV_PORT_STATUS % 2 ^ 26) (d : Device) (p i hi lo : Nat) :
    (d.detect p).regField (regKey off i) hi lo = d.regField (regKey off i) hi lo :=
  Device.regField_setRegField_other _ _ _ _ _ _ (regKey_ne_of_offset h _ _)

theorem Device.locked_detect (d : Device) (p : Nat) :
    (d.detect p).regField (regKey PLV_PORT_STATUS p) 28 21 = d.regField (regKey PLV_PORT_STATUS p) 28 21 :=
  Device.locked_setPortState d p 1

theorem Device.link_detect (d : Device) (p q : Nat) : (d.detect p).link q = d.link q := rfl

theorem fxPortDetectStart_of_run (hp : p ≤ 16) (hrun : d.portsRun = true) : fxPortDetectStart p d =
    if d.portState p = 0 ∧ d.portEnabled p = true then (d.moduleFound p).detect p else d.moduleFound p := by
  have henabled : (d.moduleFound p).portEnabled p = d.portEnabled p := by
    rw [Device.portEnabled, Device.moduleFound, Device.regField_setRegField_other _ _ _ _ _ _ (regKey_ne_of_offset (by decide) _ _)]
    rfl
  unfold fxPortDetectStart
  rw [if_neg (by simp [hrun]; omega)]
  dsimp only
  rw [← Device.moduleFound, Device.portState_moduleFound, henabled]
  by_cases h : d.portState p = 0 ∧ d.portEnabled p = true
  · rw [if_pos h, if_pos (by simp [h])]
  · rw [if_neg h, if_neg (by simpa using h)]

theorem Device.frame_detect (d : Device) (p : Nat) : ∃ regs out, d.detect p = { d with regs := regs, out := out } := ⟨_, _, rfl⟩

theorem Device.frame_moduleFound (d : Device) (p : Nat) : ∃ regs ports, d.moduleFound p = { d with regs := regs, ports := ports } := ⟨_, _, rfl⟩

/-- R758: what PORT_DETECT_START leaves. -/
theorem fxPortDetectStart_detects (hp : p ≤ 16) (hrun : d.portsRun = true) : ∃ e : Device, fxPortDetectStart p d = e ∧
    (e.link p).present = true ∧ e.regField (regKey PLV_MEDIA_STATUS p) 31 31 = 1 ∧
    (e.portState p = (if d.portState p = 0 ∧ d.portEnabled p = true then 1 else d.portState p) ∧ ∀ q, q ≠ p → e.portState q = d.portState q) ∧
    ∃ regs ports out, e = { d with regs := regs, ports := ports, out := out } := by
  refine ⟨_, fxPortDetectStart_of_run hp hrun, ?_⟩
  have hpresent := d.present_moduleFound p
  have hmedia := d.media_moduleFound p
  have hstate := d.portState_moduleFound p
  obtain ⟨regs, ports, hframe⟩ := d.frame_moduleFound p
  generalize d.moduleFound p = m at *
  split
  · obtain ⟨regs', out, hdetect⟩ := m.frame_detect p
    refine ⟨by rw [Device.link_detect]; exact hpresent, (Device.regField_detect (by decide) m p p 31 31).trans hmedia,
      ⟨Device.portState_detect_same _ _, fun q hq => (Device.portState_detect_other _ hq).trans (hstate q)⟩, ?_⟩
    rw [hdetect, hframe]
    exact ⟨_, _, _, rfl⟩
  · exact ⟨hpresent, hmedia, ⟨hstate p, fun q _ => hstate q⟩, _, _, _, hframe⟩

/-- R755: a module that is ready, of copper or of optics. -/
def Device.moduleTrained (d : Device) (p type : Nat) : Device :=
  (((d.modLink p (fun x => { x with media := true })).setRegField (regKey PLV_MEDIA_STATUS p) 30 29 type).emit
    (.land (1100 + p) false)).setPortState p 2

theorem Device.media_moduleTrained (d : Device) (p type : Nat) : ((d.moduleTrained p type).link p).media = true := by
  rw [Device.link_congr (d := d.modLink p (fun x => { x with media := true })) (e := d.moduleTrained p type) rfl, Device.link_modLink_same]

theorem fxModuleReady_of_media {t : Nat} (hp : p ≤ 16) (hst : d.portState p = 1) (ht : t = 1 ∨ t = 2) :
    fxModuleReady p t d = d.moduleTrained p t := by
  unfold fxModuleReady
  rw [if_neg (by simp [hst]; omega), if_neg (by simp; omega), Device.moduleTrained]

theorem fxModuleReady_of_none {t : Nat} (hp : p ≤ 16) (hst : d.portState p = 1) (h1 : t ≠ 1) (h2 : t ≠ 2) :
    fxModuleReady p t d = d.portDown p (some 7) := by
  unfold fxModuleReady
  rw [if_neg (by simp [hst]; omega), if_pos (by simp [h1, h2])]

theorem fxMediaTimeout_of_detect (hp : p ≤ 16) (hst : d.portState p = 1) : fxMediaTimeout p d = d.portDown p (some 7) :=
  if_neg (by simp [hst]; omega)

theorem fxEqualiseComplete_of_equalise (hp : p ≤ 16) (hst : d.portState p = 2) : fxEqualiseComplete p d = d.setPortState p 3 :=
  if_neg (by simp [hst]; omega)

theorem fxEqualiseTimeout_of_equalise (hp : p ≤ 16) (hst : d.portState p = 2) :
    fxEqualiseTimeout p d = (d.fresh 4).2.portDown p (some (d.fresh 4).1) :=
  if_neg (by simp [hst]; omega)

theorem fxLaneLockComplete_of_lock (hp : p ≤ 16) (hst : d.portState p = 3) :
    fxLaneLockComplete p d = (d.setLocked p (2 ^ laneCount p - 1)).setPortState p 4 :=
  if_neg (by simp [hst]; omega)

theorem fxLaneLockTimeout_of_lock (hp : p ≤ 16) (hst : d.portState p = 3) : fxLaneLockTimeout p d = (d.setLocked p 0).detect p :=
  if_neg (by simp [hst]; omega)

/-- PLV_TWIN_STATUS does not share its key with a register of another offset. -/
theorem twinStatus_ne_regKey {off : Nat} (h : PLV_TWIN_STATUS % 2 ^ 26 ≠ off % 2 ^ 26) (p : Nat) : PLV_TWIN_STATUS ≠ regKey off p := by
  rw [regKey]
  omega

/-- R753: the peer is the one expected. -/
def Device.peerAccepted (d : Device) (p index port : Nat) : Device :=
  (d.setReg (regKey PLV_PORT_PEER p) (index % 128 * 256 + port % 32)).setPortState p 5

theorem fxPeerIdentity_of_member {domain index port role : Nat} (hp : p < 16) (hst : d.portState p = 4)
    (hdomain : domain % 2 ^ 32 = d.reg PLV_DOMAIN_ID) (hindex : index ≤ 71) (hmember : bitOf d.memberMask index = true)
    (hself : index ≠ d.index) : fxPeerIdentity p domain index port role d = d.peerAccepted p index port := by
  unfold fxPeerIdentity
  rw [if_neg (by simp [hst]; omega)]
  dsimp only
  rw [if_neg (by omega), if_pos (by rw [hdomain]; simp [hindex, hmember, hself]), Device.peerAccepted]

theorem fxPeerIdentity_of_stranger {domain index port role : Nat} (hp : p < 16) (hst : d.portState p = 4)
    (hbad : domain % 2 ^ 32 ≠ d.reg PLV_DOMAIN_ID ∨ 71 < index ∨ bitOf d.memberMask index = false ∨ index = d.index) :
    fxPeerIdentity p domain index port role d = d.portDown p (some 5) := by
  unfold fxPeerIdentity
  rw [if_neg (by simp [hst]; omega)]
  dsimp only
  rw [if_neg (by omega), if_neg]
  simp only [Bool.and_eq_true, decide_eq_true_eq]
  rintro ⟨⟨⟨hdomain, hindex⟩, hmember⟩, hself⟩
  obtain h | h | h | h := hbad
  · exact h hdomain
  · omega
  · exact absurd (h.symm.trans hmember) (by decide)
  · exact hself h

theorem fxPeerIdentity_of_twin {domain index port role : Nat} (hst : d.portState 16 = 4)
    (hrole : d.regField PLV_TWIN_CFG 30 30 ≠ role % 2) :
    fxPeerIdentity 16 domain index port role d = (d.setRegField PLV_TWIN_STATUS 6 0 index).peerAccepted 16 index port := by
  unfold fxPeerIdentity
  rw [if_neg (by simp [hst])]
  dsimp only
  rw [if_pos rfl, if_neg hrole, Device.peerAccepted]

theorem fxPeerIdentity_of_sameRole {domain index port role : Nat} (hst : d.portState 16 = 4)
    (hrole : d.regField PLV_TWIN_CFG 30 30 = role % 2) : fxPeerIdentity 16 domain index port role d = d.portDown 16 (some 6) := by
  unfold fxPeerIdentity
  rw [if_neg (by simp [hst])]
  dsimp only
  rw [if_pos rfl, if_pos hrole]

/-- R752: the delay of a port, from the least round trip. -/
def Device.delaySet (d : Device) (p n : Nat) : Device := d.setReg (regKey PLV_PORT_DELAY p) (n / 2)

theorem Device.portBack_of_none (h : ∀ b ∈ d.blockResets, ¬(b.1 = 4 ∧ b.2.1 = p)) : d.portBack p = d := by
  have hnone : d.blockResets.find? (fun e => e.1 == 4 && e.2.1 == p) = none := by
    rw [List.find?_eq_none]
    intro b hb
    simpa using fun h4 => (not_and.mp (h b hb)) h4
  rw [Device.portBack, hnone]

theorem Device.askTwin_frame (d : Device) (p : Nat) : ∃ out, d.askTwin p = { d with out := out } := by
  rw [Device.askTwin]
  split
  · exact ⟨_, rfl⟩
  · exact ⟨d.out, rfl⟩

/-- R752: a port whose delay is kept is in CALIBRATE's next state, its lanes afresh. -/
def Device.delayKept (d : Device) (p n : Nat) : Device :=
  ((d.delaySet p n).modLink p (fun x => { x with lanes := [] })).setPortState p 6

theorem Device.portState_delayKept_same (d : Device) (p n : Nat) : (d.delayKept p n).portState p = 6 :=
  Device.portState_setPortState_same _ _ _ (by decide)

theorem Device.portState_delayKept_other (d : Device) {p q : Nat} (n : Nat) (h : q ≠ p) : (d.delayKept p n).portState q = d.portState q := by
  have hset : ((d.delaySet p n).modLink p (fun x => { x with lanes := [] })).portState q = d.portState q :=
    Device.portState_setReg _ _ _ (regKey_ne_of_offset (by decide) _ _)
  exact (Device.portState_setPortState_other _ _ h _).trans hset

theorem Device.delay_delayKept (d : Device) (p n : Nat) : (d.delayKept p n).reg (regKey PLV_PORT_DELAY p) = n / 2 % 2 ^ 32 := by
  have hset : ((d.delaySet p n).modLink p (fun x => { x with lanes := [] })).reg (regKey PLV_PORT_DELAY p) = n / 2 % 2 ^ 32 :=
    Device.reg_setReg_same d _ _
  exact (Device.reg_setRegField_other _ _ _ _ (regKey_ne_of_offset (by decide) _ _)).trans hset

theorem Device.lanes_delayKept (d : Device) (p n : Nat) : ((d.delayKept p n).link p).lanes = [] := by
  rw [Device.link_congr (d := (d.delaySet p n).modLink p (fun x => { x with lanes := [] })) (e := d.delayKept p n) rfl,
    Device.link_modLink_same]

theorem Device.frame_delayKept (d : Device) (p n : Nat) : ∃ regs ports, d.delayKept p n = { d with regs := regs, ports := ports } :=
  ⟨_, _, rfl⟩

/-- R752: what DELAY_CALIBRATION leaves, the least round trip being short enough. -/
theorem fxDelayCalibration_of_short {l : List Nat} {n : Nat} (hp : p ≤ 16) (hst : d.portState p = 5) (hleast : leastOf l = some n)
    (hn : n ≤ 180) (hfree : ∀ b ∈ d.blockResets, ¬(b.1 = 4 ∧ b.2.1 = p)) : ∃ out,
    fxDelayCalibration p l d = { d.delayKept p n with out := out } := by
  unfold fxDelayCalibration
  rw [if_neg (by simp [hst]; omega), hleast]
  dsimp only
  rw [Option.getD_some, if_neg (by omega), ← Device.delaySet, Device.portBack_of_none]
  · exact Device.askTwin_frame _ _
  · exact hfree

theorem fxDelayCalibration_of_long {l : List Nat} {n : Nat} (hp : p ≤ 16) (hst : d.portState p = 5) (hleast : leastOf l = some n)
    (hn : 180 < n) : fxDelayCalibration p l d = (d.delaySet p n).portDown p (some 4) := by
  unfold fxDelayCalibration
  rw [if_neg (by simp [hst]; omega), hleast]
  dsimp only
  rw [Option.getD_some, if_pos hn, Device.delaySet]

theorem fxPortRetryTimer_of_enabled (hp : p ≤ 16) (hrun : d.portsRun = true) (hst : d.portState p = 0) (henabled : d.portEnabled p = true)
    (hpresent : (d.link p).present = true) : fxPortRetryTimer p d = d.detect p :=
  if_neg (by simp [hrun, hst, henabled, hpresent]; omega)

theorem fxPortLossTimeout_of_up (hp : p ≤ 16) (hst : d.portState p = 6) : fxPortLossTimeout p d = d.portDown p (some 1) :=
  if_neg (by simp [Device.portUp, hst]; omega)

/-- R757: a module that is taken out. -/
def Device.moduleGone (d : Device) (p : Nat) : Device :=
  (d.modLink p (fun x => { x with present := false })).modReg (regKey PLV_MEDIA_STATUS p) (fun v => v % 2 ^ 29)

theorem Device.portState_moduleGone (d : Device) (p q : Nat) : (d.moduleGone p).portState q = d.portState q :=
  Device.portState_setReg _ _ _ (regKey_ne_of_offset (by decide) _ _)

theorem Device.present_moduleGone (d : Device) (p : Nat) : ((d.moduleGone p).link p).present = false := by
  rw [Device.link_congr (d := d.modLink p (fun x => { x with present := false })) (e := d.moduleGone p) rfl, Device.link_modLink_same]

theorem Device.link_moduleGone_other (d : Device) {p q : Nat} (h : q ≠ p) : (d.moduleGone p).link q = d.link q := by
  rw [Device.link_congr (d := d.modLink p (fun x => { x with present := false })) (e := d.moduleGone p) rfl, Device.link_modLink_other _ _ h]

theorem Device.media_moduleGone (d : Device) (p : Nat) : (d.moduleGone p).regField (regKey PLV_MEDIA_STATUS p) 31 29 = 0 := by
  rw [Device.regField, Device.moduleGone, Device.modReg, Device.reg_setReg_same, bitsOf]
  omega

/-- A module stays where it is as its port falls. -/
theorem Device.present_portDown (hp : p < 16) (hfree : ∀ e ∈ d.circuits, e.1 / 64 ≠ p) (cause : Option Nat) :
    ((d.portDown p cause).link p).present = (d.link p).present := by
  obtain ⟨regs, hfalls⟩ := d.portFalls_frame p cause
  rw [Device.portDown_of_free hp hfree, Device.link_modLink_same, hfalls]
  rfl

theorem fxModuleRemoved_of_down (hp : p ≤ 16) (hst : d.portState p = 0 ∨ d.portState p = 7) : fxModuleRemoved p d = d.moduleGone p := by
  unfold fxModuleRemoved
  rw [if_neg (by omega)]
  dsimp only
  rw [← Device.moduleGone, Device.portState_moduleGone, if_pos (by simpa using hst)]

theorem fxModuleRemoved_of_other (hp : p ≤ 16) (h0 : d.portState p ≠ 0) (h7 : d.portState p ≠ 7) :
    fxModuleRemoved p d = (d.moduleGone p).portDown p (some 3) := by
  unfold fxModuleRemoved
  rw [if_neg (by omega)]
  dsimp only
  rw [← Device.moduleGone, Device.portState_moduleGone, if_neg (by simp [h0, h7])]

/-! ### The test modes (R754, R795) -/

/-- PLV_PORT_CTRL with its two fields written. -/
def Device.ctrlWritten (d : Device) (p word : Nat) : Device :=
  (d.setRegField (regKey PLV_PORT_CTRL p) 31 31 (bitsOf word 31 31)).setRegField (regKey PLV_PORT_CTRL p) 2 0 (bitsOf word 2 0)

theorem Device.portState_ctrlWritten (d : Device) (p word q : Nat) : (d.ctrlWritten p word).portState q = d.portState q :=
  (Device.portState_setRegField _ (by decide) _ _ _ _ _).trans (Device.portState_setRegField _ (by decide) _ _ _ _ _)

theorem Device.portTest_ctrlWritten (d : Device) (p word : Nat) : (d.ctrlWritten p word).portTest p = bitsOf word 2 0 :=
  (Device.regField_setRegField_same _ _ (by decide)).trans (Nat.mod_eq_of_lt (bitsOf_lt word 2 0))

theorem Device.enable_ctrlWritten (d : Device) (p word : Nat) :
    (d.ctrlWritten p word).regField (regKey PLV_PORT_CTRL p) 31 31 = bitsOf word 31 31 :=
  (Device.regField_setRegField_above _ _ (by decide) (by decide) (by decide)).trans
    ((Device.regField_setRegField_same _ _ (by decide)).trans (Nat.mod_eq_of_lt (bitsOf_lt word 31 31)))

theorem fxPortTestSelect_of_port {port : Port} (hport : port = .pf ∨ port = .mgmt ∨ port = .jtag)
    (hsel : bitsOf (d.portReg port PLV_PORT_SEL) 4 0 = p) (word : Nat) : fxPortTestSelect port word d = d.portCtrlWrite p word := by
  subst hsel
  obtain rfl | rfl | rfl := hport <;> rfl

theorem Device.portCtrlWrite_of_carrying {word : Nat} (hmin : 1 ≤ bitsOf word 2 0) (hmax : bitsOf word 2 0 ≤ 4)
    (hcarries : ∃ e ∈ d.circuits, e.1 / 64 = p) : d.portCtrlWrite p word = d := by
  obtain ⟨e, he, hep⟩ := hcarries
  have hany : d.circuits.any (fun e => e.1 / 64 == p) = true := List.any_eq_true.mpr ⟨e, he, by simpa using hep⟩
  exact if_pos (by simp [hmin, hmax, hany])

theorem Device.portCtrlWrite_of_test {word : Nat} (hp : p < 16) (hmin : 1 ≤ bitsOf word 2 0) (hmax : bitsOf word 2 0 ≤ 4)
    (hfree : ∀ e ∈ d.circuits, e.1 / 64 ≠ p) : d.portCtrlWrite p word =
      if d.portState p = 7 then d.ctrlWritten p word else (d.ctrlWritten p word).setPortState p 7 := by
  have hnone : d.circuits.any (fun e => e.1 / 64 == p) = false := by
    rw [List.any_eq_false]
    intro e he
    simpa using hfree e he
  unfold Device.portCtrlWrite
  dsimp only
  rw [if_neg (by simp [hnone]; omega), if_neg (show ¬ 4 < bitsOf word 2 0 by omega), if_pos (show bitsOf word 2 0 ≠ 0 by omega),
    ← Device.ctrlWritten, Device.portState_ctrlWritten, if_neg (show ¬ p = 16 by omega)]

theorem Device.portCtrlWrite_of_normal {word : Nat} (hp : p ≤ 16) (htest : bitsOf word 2 0 = 0) : d.portCtrlWrite p word =
      if d.portState p = 7 then (d.ctrlWritten p word).portDown p none else d.ctrlWritten p word := by
  unfold Device.portCtrlWrite
  dsimp only
  rw [if_neg (by simp [htest]; omega), if_neg (by omega), if_neg (by omega), ← Device.ctrlWritten, Device.portState_ctrlWritten]

end Events

/-! ### Modules (R756, R758) -/

/-- What a reading of a module keeps once its temperature and powers are in place: the port states, the temperature, the powers, and
all else of the device but registers, links and free values. -/
structure Monitored (p : Nat) (d e : Device) : Prop where
  frame : ∃ regs ports n, e = { d with regs := regs, ports := ports, freeCounter := n }
  states : ∀ q, e.portState q = d.portState q
  temp : e.regField (regKey PLV_MEDIA_STATUS p) 7 0 = d.regField (regKey PLV_MEDIA_STATUS p) 7 0
  power : (e.link p).txPower = (d.link p).txPower

namespace Monitored
variable {p : Nat} {d e : Device}

theorem refl (p : Nat) (d : Device) : Monitored p d d := ⟨⟨d.regs, d.ports, d.freeCounter, rfl⟩, fun _ => rfl, rfl, rfl⟩

theorem trans {f : Device} (h : Monitored p d e) (h' : Monitored p e f) : Monitored p d f := by
  obtain ⟨⟨_, _, _, rfl⟩, hstates, htemp, hpower⟩ := h
  obtain ⟨⟨regs, ports, n, hframe⟩, hstates', htemp', hpower'⟩ := h'
  exact ⟨⟨regs, ports, n, hframe⟩, fun q => (hstates' q).trans (hstates q), htemp'.trans htemp, hpower'.trans hpower⟩

theorem ite {f : Device} {c : Prop} [Decidable c] (he : Monitored p d e) (hf : Monitored p d f) : Monitored p d (if c then e else f) := by
  split
  · exact he
  · exact hf

theorem modLink (d : Device) {f : LinkPort → LinkPort} (hf : (f (d.link p)).txPower = (d.link p).txPower) :
    Monitored p d (d.modLink p f) :=
  ⟨⟨_, _, _, rfl⟩, fun _ => rfl, rfl, by rw [Device.link_modLink_same, hf]⟩

/-- The marks of a module stand above its temperature. -/
theorem setMark (d : Device) (i v : Nat) (h : 7 < i) : Monitored p d (d.setRegField (regKey PLV_MEDIA_STATUS p) i i v) :=
  ⟨⟨_, _, _, rfl⟩, fun _ => Device.portState_setRegField _ (by decide) _ _ _ _ _,
    Device.regField_setRegField_below _ _ (by decide) h, rfl⟩

/-- A mark that is set, cleared or left. -/
theorem mark (h : Monitored p d e) (c c' : Prop) [Decidable c] [Decidable c'] {i : Nat} (hi : 7 < i) : Monitored p d
    (if c then e.raise (regKey PLV_MEDIA_STATUS p) i else if c' then e.setRegField (regKey PLV_MEDIA_STATUS p) i i 0 else e) :=
  ite (h.trans (setMark e i 1 hi)) (ite (h.trans (setMark e i 0 hi)) h)

theorem setLane (d : Device) (l v : Nat) (hl : l < 8) : Monitored p d (d.setReg (regKey (PLV_MEDIA_LANE + 4 * l) p) v) := by
  have hstatus (q : Nat) : regKey PLV_PORT_STATUS q ≠ regKey (PLV_MEDIA_LANE + 4 * l) p := by
    rw [regKey, regKey, PLV_PORT_STATUS, PLV_MEDIA_LANE]
    omega
  have hmedia : regKey PLV_MEDIA_STATUS p ≠ regKey (PLV_MEDIA_LANE + 4 * l) p := by
    rw [regKey, regKey, PLV_MEDIA_STATUS, PLV_MEDIA_LANE]
    omega
  exact ⟨⟨_, _, _, rfl⟩, fun q => Device.portState_setReg _ _ _ (hstatus q), by
    rw [Device.regField, Device.reg_setReg_other _ _ _ _ hmedia, Device.regField], rfl⟩

theorem laneLoss (d : Device) (optical : Bool) (far rx : Nat) : Monitored p d (d.laneLoss optical far rx).2 := by
  unfold Device.laneLoss
  split
  · exact refl p d
  · dsimp only
    split
    · exact ⟨⟨_, _, _, rfl⟩, fun _ => rfl, rfl, rfl⟩
    · exact refl p d

theorem readLanes (optical : Bool) : ∀ (lanes : List (Nat × Nat)) (l : Nat) (d : Device), l + lanes.length ≤ 8 →
    Monitored p d (d.readLanes p optical l lanes).1
  | [], _, d, _ => refl p d
  | (far, rx) :: rest, l, d, hlen => by
    rw [List.length_cons] at hlen
    exact ((laneLoss d optical far rx).trans (setLane _ l _ (by omega))).trans (readLanes optical rest (l + 1) _ (by omega))

end Monitored

/-- R756: the temperature and the powers of a reading. -/
theorem fxMediaMonitor_monitored {d : Device} {p temp : Nat} {tx far rx : List Nat} (hp : p ≤ 16) (hpresent : (d.link p).present = true) :
    ∃ d1 d2, Monitored p (d.setRegField (regKey PLV_MEDIA_STATUS p) 7 0 temp) d1 ∧
      d2 = d1.modLink p (fun x => { x with txPower := tx.take (laneCount p) }) ∧ Monitored p d2 (fxMediaMonitor p temp tx far rx d) := by
  have hlanes : 0 + ((List.zip far rx).take (laneCount p)).length ≤ 8 := by
    have hcount : laneCount p ≤ 8 := by
      rw [laneCount]
      split <;> omega
    rw [List.length_take]
    omega
  have hread := Monitored.readLanes (p := p) (d.regField (regKey PLV_MEDIA_STATUS p) 30 29 == 2) _ 0
    (d.setRegField (regKey PLV_MEDIA_STATUS p) 7 0 temp) hlanes
  unfold fxMediaMonitor
  rw [if_neg (by simp [hpresent]; omega)]
  dsimp only
  generalize (d.setRegField (regKey PLV_MEDIA_STATUS p) 7 0 temp).readLanes p
    (d.regField (regKey PLV_MEDIA_STATUS p) 30 29 == 2) 0 ((List.zip far rx).take (laneCount p)) = r at hread
  obtain ⟨d1, losses⟩ := r
  refine ⟨d1, _, hread, rfl, ?_⟩
  dsimp only
  generalize d1.modLink p (fun x => { x with txPower := tx.take (laneCount p) }) = d2
  exact ((Monitored.modLink d2 rfl).mark _ _ (by decide)).mark _ _ (by decide)

/-! ### A module's registers (R758) -/

section Cmis
variable {d : Device} {p : Nat} {port : Port} {word : Nat}

theorem Device.portState_cmisFields (d : Device) (p word q : Nat) : (d.cmisFields p word).portState q = d.portState q :=
  (Device.portState_setRegField _ (by decide) _ _ _ _ _).trans (Device.portState_setRegField _ (by decide) _ _ _ _ _)

theorem Port.steward_of_eq (h : port = .mgmt ∨ port = .jtag) : port.steward = true := by
  obtain rfl | rfl := h <;> rfl

theorem fxCmisRead_of_steward (hport : port = .mgmt ∨ port = .jtag) (hsel : bitsOf (d.portReg port PLV_PORT_SEL) 4 0 = p) (hp : p ≤ 16)
    (value : Option Nat) : fxCmisRead port word value d =
      match (if (d.link p).present then value else none) with
      | some v => (d.cmisFields p (putBits word 30 30 0)).setRegField (regKey PLV_CMIS p) 7 0 v
      | none => (d.cmisFields p (putBits word 30 30 0)).raise (regKey PLV_CMIS p) 28 := by
  subst hsel
  unfold fxCmisRead
  dsimp only
  rw [if_neg (by simp [Port.steward_of_eq hport]; omega)]
  rfl

/-- The page and byte of an access lie within its low three bytes. -/
theorem bitsOf_access (n : Nat) : bitsOf n 23 8 = bitsOf n 23 0 / 2 ^ 8 := by
  simp only [bitsOf]
  omega

/-- The page and byte of an access stay under the value read. -/
theorem Device.access_cmisRead (d : Device) (p word v : Nat) :
    ((d.cmisFields p (putBits word 30 30 0)).setRegField (regKey PLV_CMIS p) 7 0 v).regField (regKey PLV_CMIS p) 23 8 =
      bitsOf word 23 8 := by
  rw [Device.regField_setRegField_above _ _ (by decide) (by decide) (by decide), Device.regField, Device.cmisFields,
    Device.reg_setRegField_same, bitsOf_mod_two_pow (by decide), bitsOf_access, bitsOf_putBits_same, bitsOf_access word,
    ← bitsOf_putBits_below (n := word) (hi := 30) (lo := 30) (v := 0) (hi' := 23) (lo' := 0) (by decide)]
  simp [bitsOf]

theorem fxCmisWrite_of_steward (hport : port = .mgmt ∨ port = .jtag) (hsel : bitsOf (d.portReg port PLV_PORT_SEL) 4 0 = p) (hp : p ≤ 16)
    (ok : Bool) : fxCmisWrite port word ok d =
      if d.portState p = 6 ∧ (bitsOf word 23 16 < 0x10 ∨ 0x1F < bitsOf word 23 16) then d.cmisFields p (putBits word 30 30 1)
      else if ok = true ∧ (d.link p).present = true then
        (d.cmisFields p (putBits word 30 30 1)).emit (.cmis p (bitsOf word 23 16) (bitsOf word 15 8) (bitsOf word 7 0))
      else (d.cmisFields p (putBits word 30 30 1)).raise (regKey PLV_CMIS p) 28 := by
  subst hsel
  have hup (q : Nat) : (d.cmisFields q (putBits word 30 30 1)).portUp q = d.portUp q := by
    rw [Device.portUp, Device.portState_cmisFields, Device.portUp]
  have hlink (q : Nat) : (d.cmisFields q (putBits word 30 30 1)).link q = d.link q := rfl
  unfold fxCmisWrite
  dsimp only
  rw [if_neg (by simp [Port.steward_of_eq hport]; omega), hup, hlink]
  refine if_congr ?_ rfl (if_congr ?_ rfl rfl)
  · simp [Device.portUp]
  · simp

end Cmis

/-- Settles O53: each event's effect is the device of its equation above, and a port that falls is DOWN with its lanes and link afresh
(`Beside.wentDown`). That an equaliser that times out takes the port DOWN under a free cause, and one whose lanes do not lock goes back
to DETECT, are the model's choices (log entries 66, 67). -/
theorem portsComeUpAndGoDown : Obligations.PortsComeUpAndGoDown := by
  intro s p hrun hp status st moved
  refine ⟨fun hports => ?detect, fun t hst ht => ?ready, fun t hst h1 h2 => ?notReady, fun hst => ?mediaTimeout, fun hst => ?equalised,
    fun hst => ?equaliseTimeout, fun hst => ?locked, fun hst => ?lockTimeout,
    fun domain index port role hst hp16 => ⟨fun hdomain hindex hmember hself => ?peer, fun hbad => ?stranger⟩,
    fun domain index port role hst hp16 => ⟨fun hrole => ?twin, fun hrole => ?sameRole⟩,
    fun l n hst hleast => ⟨fun hn hfree => ?delay, fun hn => ?tooLong⟩, fun hports hst henabled hpresent => ?retry, fun hst => ?loss,
    fun hst => ?removedDown, fun h0 h7 => ?removed,
    fun port word hport hsel => ⟨fun hmin hmax hp16 hfree => ?test, fun hmin hmax hcarries => ?carrying, fun htest h7 => ?normal,
      fun htest h7 => ?leaveTest⟩,
    fun temp tx far rx hpresent => ?monitor,
    fun port word hport hsel => ⟨fun v hpresent => ?read, ?readFails, fun hmay => ⟨fun hpresent => ?write, ?writeFails⟩,
      fun hst hpage ok => ?ignored⟩⟩
  case detect =>
    obtain ⟨d, heffect, hpresent, hmedia, hmoved, regs, ports, out, hframe⟩ := fxPortDetectStart_detects hp hports
    exact Ends.of_effect hrun rfl heffect (by rw [hframe]) (by rw [hframe]) ⟨hpresent, hmedia, hmoved, by rw [hframe]⟩
  case ready =>
    refine Ends.of_effect hrun rfl (fxModuleReady_of_media hp hst ht) rfl rfl
      ⟨⟨Device.portState_setPortState_same _ _ _ (by decide), fun q hq => (Device.portState_setPortState_other _ _ hq _).trans
        (Device.portState_setRegField _ (by decide) _ _ _ _ _)⟩, ?_, ?_, rfl⟩
    · exact s.dev.media_moduleTrained p t
    · refine (Device.regField_setRegField_other _ _ _ _ _ _ (regKey_ne_of_offset (by decide) _ _)).trans
        ((Device.regField_setRegField_same _ _ (by decide)).trans (Nat.mod_eq_of_lt ?_))
      obtain rfl | rfl := ht <;> decide
  case notReady =>
    exact Ends.of_portDown hrun rfl (fxModuleReady_of_none hp hst h1 h2) (Beside.refl s p) (fun _ h => h)
  case mediaTimeout =>
    exact Ends.of_portDown hrun rfl (fxMediaTimeout_of_detect hp hst) (Beside.refl s p) (fun _ h => h)
  case equalised =>
    exact Ends.of_effect hrun rfl (fxEqualiseComplete_of_equalise hp hst) rfl rfl
      ⟨⟨Device.portState_setPortState_same _ _ _ (by decide), fun q hq => Device.portState_setPortState_other _ _ hq _⟩, rfl⟩
  case equaliseTimeout =>
    exact Ends.of_portDown hrun rfl (fxEqualiseTimeout_of_equalise hp hst) ⟨⟨_, _, _, rfl⟩, fun _ _ => rfl, fun _ _ => rfl, rfl⟩
      (fun _ h => absurd h (by simp))
  case locked =>
    refine Ends.of_effect hrun rfl (fxLaneLockComplete_of_lock hp hst) rfl rfl
      ⟨⟨Device.portState_setPortState_same _ _ _ (by decide), fun q hq => (Device.portState_setPortState_other _ _ hq _).trans
        (Device.portState_setLocked _ _ _ _)⟩, ?_, rfl⟩
    refine (Device.locked_setPortState _ _ _).trans ((Device.locked_setLocked _ _ _).trans (Nat.mod_eq_of_lt ?_))
    rw [laneCount]
    split <;> decide
  case lockTimeout =>
    have heffect := fxLaneLockTimeout_of_lock hp hst
    have hstate := Device.portState_setLocked s.dev p 0
    have hlocked := (Device.locked_setLocked s.dev p 0).trans (Nat.zero_mod _)
    obtain ⟨regs, hframe⟩ : ∃ regs, s.dev.setLocked p 0 = { s.dev with regs := regs } := ⟨_, rfl⟩
    generalize s.dev.setLocked p 0 = m at *
    obtain ⟨regs', out, hdetect⟩ := m.frame_detect p
    exact Ends.of_effect hrun rfl heffect (by rw [hdetect, hframe]) (by rw [hdetect, hframe])
      ⟨⟨m.portState_detect_same p, fun q hq => (m.portState_detect_other hq).trans (hstate q)⟩,
        (m.locked_detect p).trans hlocked, by rw [hdetect, hframe]⟩
  case peer =>
    refine Ends.of_effect hrun rfl (fxPeerIdentity_of_member hp16 hst hdomain hindex hmember hself) rfl rfl
      ⟨⟨Device.portState_setPortState_same _ _ _ (by decide), fun q hq => (Device.portState_setPortState_other _ _ hq _).trans
        (Device.portState_setReg _ _ _ (regKey_ne_of_offset (by decide) _ _))⟩, ?_, rfl⟩
    rw [Device.peerAccepted, Device.setPortState, Device.reg_setRegField_other _ _ _ _ (regKey_ne_of_offset (by decide) _ _),
      Device.reg_setReg_same]
    omega
  case stranger =>
    exact Ends.of_portDown hrun rfl (fxPeerIdentity_of_stranger hp16 hst hbad) (Beside.refl s p) (fun _ h => h)
  case twin =>
    subst hp16
    refine Ends.of_effect hrun rfl (fxPeerIdentity_of_twin hst hrole) rfl rfl
      ⟨⟨Device.portState_setPortState_same _ _ _ (by decide), fun q hq => (Device.portState_setPortState_other _ _ hq _).trans
        ((Device.portState_setReg _ _ _ (regKey_ne_of_offset (by decide) _ _)).trans ?_)⟩, ?_, rfl⟩
    · exact Device.regField_setRegField_other _ _ _ _ _ _ (twinStatus_ne_regKey (by decide) _).symm
    · refine (Device.regField_setRegField_other _ _ _ _ _ _ (twinStatus_ne_regKey (by decide) _)).trans ?_
      rw [Device.regField, Device.reg_setReg_other _ _ _ _ (twinStatus_ne_regKey (by decide) _)]
      exact Device.regField_setRegField_same _ _ (by decide)
  case sameRole =>
    subst hp16
    exact Ends.of_portDown hrun rfl (fxPeerIdentity_of_sameRole hst hrole) (Beside.refl s 16) (fun _ h => h)
  case delay =>
    obtain ⟨out, heffect⟩ := fxDelayCalibration_of_short hp hst hleast hn hfree
    have hsame := s.dev.portState_delayKept_same p n
    have hother := fun q (hq : q ≠ p) => s.dev.portState_delayKept_other n hq
    have hdelay := (s.dev.delay_delayKept p n).trans (Nat.mod_eq_of_lt (by omega))
    have hlanes := s.dev.lanes_delayKept p n
    obtain ⟨regs, ports, hframe⟩ := s.dev.frame_delayKept p n
    generalize s.dev.delayKept p n = m at *
    exact Ends.of_effect hrun rfl heffect (by rw [hframe]) (by rw [hframe]) ⟨⟨hsame, hother⟩, hdelay, hlanes, by rw [hframe]⟩
  case tooLong =>
    refine Ends.of_portDown hrun rfl (fxDelayCalibration_of_long hp hst hleast hn) ⟨⟨_, _, _, rfl⟩, fun q _ => ?_, fun _ _ => rfl, ?_⟩
      (fun _ h => h)
    · exact Device.portState_setReg _ _ _ (regKey_ne_of_offset (by decide) _ _)
    · exact Device.reg_setReg_other _ _ _ _ (regKey_ne_of_offset (by decide) _ _)
  case retry =>
    exact Ends.of_effect hrun rfl (fxPortRetryTimer_of_enabled hp hports hst henabled hpresent) rfl rfl
      ⟨⟨Device.portState_detect_same _ _, fun q hq => Device.portState_detect_other _ hq⟩, rfl⟩
  case loss =>
    exact Ends.of_portDown hrun rfl (fxPortLossTimeout_of_up hp hst) (Beside.refl s p) (fun _ h => h)
  case removedDown =>
    have ⟨_, _, hquiet⟩ := hrun
    have heffect := fxModuleRemoved_of_down hp hst
    refine Ends.of_quiet .reset (fxModuleRemoved p) rfl hrun.reset (by rw [heffect]; rfl) (by rw [heffect]; exact hquiet) ?_
    rw [heffect]
    exact ⟨⟨Device.portState_moduleGone _ _ _, fun q _ => Device.portState_moduleGone _ _ _⟩, s.dev.present_moduleGone p,
      s.dev.media_moduleGone p, rfl⟩
  case removed =>
    have hbeside : Beside s p (s.dev.moduleGone p) := ⟨⟨_, _, _, rfl⟩, fun q _ => Device.portState_moduleGone _ _ _,
      fun q hq => Device.link_moduleGone_other _ hq, Device.reg_setReg_other _ _ _ _ (regKey_ne_of_offset (by decide) _ _)⟩
    have heffect := fxModuleRemoved_of_other hp h0 h7
    refine Ends.of_onDev .reset (fxModuleRemoved p) rfl hrun.reset ?_
    rw [heffect]
    refine ⟨hbeside.wentDown hrun (fun _ h => h), fun hp16 hfree => ?_⟩
    exact (Device.present_portDown (d := s.dev.moduleGone p) hp16 hfree (some 3)).trans (s.dev.present_moduleGone p)
  case test =>
    have heffect := (fxPortTestSelect_of_port hport hsel word).trans (Device.portCtrlWrite_of_test hp16 hmin hmax hfree)
    by_cases h7 : s.dev.portState p = 7
    · rw [if_pos h7] at heffect
      exact Ends.of_effect hrun rfl heffect rfl rfl
        ⟨⟨(Device.portState_ctrlWritten _ _ _ _).trans h7, fun q _ => Device.portState_ctrlWritten _ _ _ _⟩,
          Device.portTest_ctrlWritten _ _ _, Device.enable_ctrlWritten _ _ _, rfl⟩
    · rw [if_neg h7] at heffect
      refine Ends.of_effect hrun rfl heffect rfl rfl
        ⟨⟨Device.portState_setPortState_same _ _ _ (by decide), fun q hq => (Device.portState_setPortState_other _ _ hq _).trans
          (Device.portState_ctrlWritten _ _ _ _)⟩, ?_, ?_, rfl⟩
      · exact (Device.regField_setRegField_other _ _ _ _ _ _ (regKey_ne_of_offset (by decide) _ _)).trans
          (Device.portTest_ctrlWritten _ _ _)
      · exact (Device.regField_setRegField_other _ _ _ _ _ _ (regKey_ne_of_offset (by decide) _ _)).trans
          (Device.enable_ctrlWritten _ _ _)
  case carrying =>
    exact Ends.of_effect hrun rfl ((fxPortTestSelect_of_port hport hsel word).trans (Device.portCtrlWrite_of_carrying hmin hmax hcarries))
      rfl rfl rfl
  case normal =>
    exact Ends.of_effect hrun rfl ((fxPortTestSelect_of_port hport hsel word).trans ((Device.portCtrlWrite_of_normal hp htest).trans
      (if_neg h7))) rfl rfl ⟨⟨Device.portState_ctrlWritten _ _ _ _, fun q _ => Device.portState_ctrlWritten _ _ _ _⟩,
        (Device.portTest_ctrlWritten _ _ _).trans htest, Device.enable_ctrlWritten _ _ _, rfl⟩
  case leaveTest =>
    refine Ends.of_portDown hrun rfl ((fxPortTestSelect_of_port hport hsel word).trans ((Device.portCtrlWrite_of_normal hp htest).trans
      (if_pos h7))) ⟨⟨_, _, _, rfl⟩, fun q _ => Device.portState_ctrlWritten _ _ _ _, fun _ _ => rfl, ?_⟩ (fun _ h => h)
    rw [Device.ctrlWritten, Device.reg_setRegField_other _ _ _ _ (regKey_ne_of_offset (by decide) _ _),
      Device.reg_setRegField_other _ _ _ _ (regKey_ne_of_offset (by decide) _ _)]
  case monitor =>
    obtain ⟨d1, d2, hread, rfl, hmarked⟩ := fxMediaMonitor_monitored (temp := temp) (tx := tx) (far := far) (rx := rx) hp hpresent
    obtain ⟨⟨regs, ports, n, hframe⟩, hstates, htemp, hpower⟩ := hmarked
    obtain ⟨⟨regs', ports', n', rfl⟩, hstates', htemp', -⟩ := hread
    rw [Device.link_modLink_same] at hpower
    refine Ends.of_effect hrun rfl rfl (by rw [hframe]; rfl) (by rw [hframe]; rfl) ⟨hpower, ?_, ⟨?_, fun q _ => ?_⟩, by rw [hframe]; rfl⟩
    · exact htemp.trans (htemp'.trans (Device.regField_setRegField_same _ _ (by decide)))
    · exact (hstates p).trans ((hstates' p).trans (Device.portState_setRegField _ (by decide) _ _ _ _ _))
    · exact (hstates q).trans ((hstates' q).trans (Device.portState_setRegField _ (by decide) _ _ _ _ _))
  case read =>
    have heffect := fxCmisRead_of_steward (word := word) hport hsel hp (some v)
    rw [if_pos hpresent] at heffect
    exact Ends.of_effect hrun rfl heffect rfl rfl
      ⟨Device.regField_setRegField_same _ _ (by decide), Device.access_cmisRead _ _ _ _, rfl⟩
  case readFails =>
    have heffect := fxCmisRead_of_steward (word := word) hport hsel hp none
    rw [ite_self] at heffect
    exact Ends.of_effect hrun rfl heffect rfl rfl ⟨Device.regField_setRegField_same _ _ (by decide), rfl⟩
  case write =>
    exact Ends.of_effect hrun rfl ((fxCmisWrite_of_steward hport hsel hp true).trans ((if_neg (fun h => by omega)).trans
      (if_pos ⟨rfl, hpresent⟩))) rfl rfl rfl
  case writeFails =>
    exact Ends.of_effect hrun rfl ((fxCmisWrite_of_steward hport hsel hp false).trans ((if_neg (fun h => by omega)).trans
      (if_neg (by simp)))) rfl rfl ⟨Device.regField_setRegField_same _ _ (by decide), rfl⟩
  case ignored =>
    exact Ends.of_effect hrun rfl ((fxCmisWrite_of_steward hport hsel hp ok).trans (if_pos ⟨hst, hpage⟩)) rfl rfl ⟨rfl, rfl⟩

end Sys2Proof.Machine
end

section
/-!
SUPPORT. Blocks: received, asked for again, sent slot by slot, forwarded; the flood of live members (R746 to R749, R765 to R768, R774).
-/
namespace Sys2Proof.Machine

/-! ### A lane of a port -/

def Device.lane (d : Device) (p l : Nat) : Lane := Table.getD (d.link p).lanes l {}

def Device.putLane (d : Device) (p l : Nat) (y : Lane) : Device := d.modLink p (fun q => { q with lanes := Table.put q.lanes l y })

section Lanes
variable (d : Device) (p l : Nat) (y : Lane)

theorem Device.lane_putLane_same : (d.putLane p l y).lane p l = y := by
  rw [Device.lane, Device.putLane, Device.link_modLink_same]
  exact Table.getD_put_same _ _ _ _

theorem Device.lane_setReg (k v : Nat) : (d.setReg k v).lane p l = d.lane p l := rfl

end Lanes

/-- A register of the port that a command counted before the port falls. -/
theorem Beside.bumped (s : State) (p : Nat) {off : Nat} (hstate : PLV_PORT_STATUS % 2 ^ 26 ≠ off % 2 ^ 26)
    (hcount : PLV_DOWN_COUNT % 2 ^ 26 ≠ off % 2 ^ 26) (i n : Nat) : Beside s p (s.dev.bump (regKey off i) n) :=
  ⟨⟨_, s.dev.ports, s.dev.freeCounter, rfl⟩, fun _ _ => Device.portState_bump _ hstate _ _ _, fun _ _ => rfl,
    Device.reg_bump_other _ _ (regKey_ne_of_offset hcount _ _)⟩

/-! ### Blocks received and asked for again (R749, R754) -/

section Receives
variable {d : Device} {p l n : Nat} {wire b : List Byte} (hp : p ≤ 16) (hl : l < laneCount p)
include hp hl

/-- R749: a block that passes its checks and is the one expected moves the lane on. -/
theorem fxBlockReceive_of_good (hst : d.portState p = 6) (hwire : unwireBlock wire = some (b, n)) (hcrc : leAt b 28 4 = blockCrc b)
    (hseq : leAt b 4 4 = (d.lane p l).expect) (htype : leAt b 0 1 % 4 ≠ 3) : fxBlockReceive p l wire d =
      (d.bump64 (regKey PLV_FEC_CORR_LO p) n).putLane p l
        { d.lane p l with expect := ((d.lane p l).expect + 1) % 2 ^ 32, fails := 0, nak := false } := by
  unfold fxBlockReceive
  rw [if_neg (by simp; omega), if_neg (by omega), if_neg (by simp [Device.portUp, hst]), hwire]
  dsimp only
  rw [if_neg (not_not.mpr hcrc), if_neg (by rw [Device.lane] at hseq; simp [hseq, htype])]
  rfl

/-- R749: a block that passes its checks and is not the one expected is discarded. -/
theorem fxBlockReceive_of_unexpected (hst : d.portState p = 6) (hwire : unwireBlock wire = some (b, n)) (hcrc : leAt b 28 4 = blockCrc b)
    (hseq : leAt b 4 4 ≠ (d.lane p l).expect) : fxBlockReceive p l wire d = d.bump64 (regKey PLV_FEC_CORR_LO p) n := by
  unfold fxBlockReceive
  rw [if_neg (by simp; omega), if_neg (by omega), if_neg (by simp [Device.portUp, hst]), hwire]
  dsimp only
  rw [if_neg (not_not.mpr hcrc), if_pos (by rw [Device.lane] at hseq; simp [hseq])]

/-- R749: the first two failures in a row are counted and asked for again. -/
theorem fxBlockReceive_of_bad (hst : d.portState p = 6) (hwire : unwireBlock wire = none) (hfails : (d.lane p l).fails < 2) :
    fxBlockReceive p l wire d =
      (d.bump (regKey PLV_FEC_UNCORR p) 1).putLane p l { d.lane p l with fails := (d.lane p l).fails + 1, nak := true } := by
  unfold fxBlockReceive
  rw [if_neg (by simp; omega), if_neg (by omega), if_neg (by simp [Device.portUp, hst]), hwire]
  dsimp only
  rw [if_neg (by rw [Device.lane] at hfails; omega)]
  rfl

/-- R749: the third failure in a row takes the port DOWN. -/
theorem fxBlockReceive_of_third (hst : d.portState p = 6) (hwire : unwireBlock wire = none) (hfails : 2 ≤ (d.lane p l).fails) :
    fxBlockReceive p l wire d = (d.bump (regKey PLV_FEC_UNCORR p) 1).portDown p (some 2) := by
  unfold fxBlockReceive
  rw [if_neg (by simp; omega), if_neg (by omega), if_neg (by simp [Device.portUp, hst]), hwire]
  dsimp only
  rw [if_pos (by rw [Device.lane] at hfails; exact hfails)]

theorem fxBlockReceive_of_test (hst : d.portState p = 7) (htest : d.portTest p < 3) : fxBlockReceive p l wire d = d := by
  unfold fxBlockReceive
  rw [if_neg (by simp; omega), if_pos hst, if_neg (by omega)]

/-- R749: the blocks of a lane that are sent again. -/
def Device.sendAgain (d : Device) (p l : Nat) (again : List SentBlock) : Device :=
  again.foldl (fun d b => d.emit (.block p l (leAt b.data 0 1 % 4) (wireBlock b.data))) d

omit hp hl in
theorem Device.sendAgain_frame (d : Device) (p l : Nat) (again : List SentBlock) :
    d.sendAgain p l again =
      { d with out := d.out ++ again.map (fun b => .block p l (leAt b.data 0 1 % 4) (wireBlock b.data)) } := by
  induction again generalizing d with
  | nil => simp [Device.sendAgain]
  | cons b again ih =>
    rw [Device.sendAgain, List.foldl_cons, ← Device.sendAgain, ih, List.map_cons, Device.emit]
    simp

theorem fxBlockNak_of_kept {seq : Nat} {b : SentBlock} (hst : d.portState p = 6) (hkept : (d.lane p l).sent.find? (fun b => b.seq == seq) = some b)
    (hresends : b.resends < 2) : ∃ sent, fxBlockNak p l seq d =
      ((d.sendAgain p l ((d.lane p l).sent.dropWhile (fun b => b.seq != seq))).putLane p l { d.lane p l with sent := sent }).bump
        (regKey PLV_REPLAY_COUNT p) ((d.lane p l).sent.dropWhile (fun b => b.seq != seq)).length := by
  unfold fxBlockNak
  rw [if_neg (by simp [Device.portUp, hst]; omega)]
  rw [Device.lane] at hkept
  dsimp only
  rw [hkept]
  dsimp only
  rw [if_neg (by omega)]
  exact ⟨_, rfl⟩

theorem fxBlockNak_again {seq : Nat} {b : SentBlock} (hst : d.portState p = 6) (hkept : (d.lane p l).sent.find? (fun b => b.seq == seq) = some b)
    (hresends : b.resends < 2) : ∃ e : Device, fxBlockNak p l seq d = e ∧
      e.out = d.out ++ ((d.lane p l).sent.dropWhile (fun b => b.seq != seq)).map
        (fun b => .block p l (leAt b.data 0 1 % 4) (wireBlock b.data)) ∧
      e.reg (regKey PLV_REPLAY_COUNT p) =
        satAdd 32 (d.reg (regKey PLV_REPLAY_COUNT p)) ((d.lane p l).sent.dropWhile (fun b => b.seq != seq)).length ∧
      (e.lane p l).next = (d.lane p l).next ∧ ∃ regs ports, e = { d with regs := regs, ports := ports, out := e.out } := by
  obtain ⟨sent, heffect⟩ := fxBlockNak_of_kept hp hl hst hkept hresends
  rw [Device.sendAgain_frame] at heffect
  refine ⟨_, heffect, rfl, Device.reg_bump_same _ _ _, ?_, _, _, rfl⟩
  rw [Device.bump, Device.modReg, Device.lane_setReg, Device.lane_putLane_same]

theorem fxBlockNak_of_third {seq : Nat} {b : SentBlock} (hst : d.portState p = 6) (hkept : (d.lane p l).sent.find? (fun b => b.seq == seq) = some b)
    (hresends : 2 ≤ b.resends) : fxBlockNak p l seq d = d.portDown p (some 2) := by
  unfold fxBlockNak
  rw [if_neg (by simp [Device.portUp, hst]; omega)]
  rw [Device.lane] at hkept
  dsimp only
  rw [hkept]
  dsimp only
  rw [if_pos hresends]

end Receives

/-! ### Slots (R747, R765 to R767) -/

theorem LinkPort.notice_keeps (x : LinkPort) :
    x.notice.2.lanes = x.lanes ∧ x.notice.2.transit = x.transit := by
  unfold LinkPort.notice
  split <;> exact ⟨rfl, rfl⟩

/-- What `n` lanes' blocks of a slot leave of a device: `n` blocks sent, the lanes' sequence moved on, the transit blocks kept. -/
structure SentLanes (d e : Device) (p n : Nat) : Prop where
  sent : e.out.length = d.out.length + n
  moved : ∀ l, l < n → (e.lane p l).next = ((d.lane p l).next + 1) % 2 ^ 32
  still : ∀ l, n ≤ l → e.lane p l = d.lane p l
  transit : (e.link p).transit = (d.link p).transit
  frame : ∃ ports out, e = { d with ports := ports, out := out }

theorem Device.sendBlock_sends (d : Device) (p k l type circ : Nat) (tick : Bool) (payload : List Byte) :
    ∃ (q : LinkPort) (y : Lane) (data : List Byte), d.sendBlock p k l type circ tick payload =
        (d.modLink p (fun _ => { q with lanes := Table.put q.lanes l y })).emit (.block p l type data) ∧
      q.lanes = (d.link p).lanes ∧ q.transit = (d.link p).transit ∧ y.next = ((d.lane p l).next + 1) % 2 ^ 32 := by
  obtain ⟨hlanes, htransit⟩ := (d.link p).notice_keeps
  exact ⟨(d.link p).notice.2, _, _, rfl, hlanes, htransit, rfl⟩

theorem Device.link_emit (d : Device) (o : Out) (p : Nat) : (d.emit o).link p = d.link p := rfl

theorem SentLanes.succ {d e : Device} {p n : Nat} (h : SentLanes d e p n) (k type circ : Nat) (tick : Bool) (payload : List Byte) :
    SentLanes d (e.sendBlock p k n type circ tick payload) p (n + 1) := by
  obtain ⟨q, y, data, hblock, hlanes, htransit, hnext⟩ := e.sendBlock_sends p k n type circ tick payload
  have hlink : (e.sendBlock p k n type circ tick payload).link p = { q with lanes := Table.put q.lanes n y } := by
    rw [hblock, Device.link_emit, Device.link_modLink_same]
  have hsame : (e.sendBlock p k n type circ tick payload).lane p n = y := by
    rw [Device.lane, hlink]
    exact Table.getD_put_same _ _ _ _
  have hother : ∀ l, l ≠ n → (e.sendBlock p k n type circ tick payload).lane p l = e.lane p l := by
    intro l hl
    rw [Device.lane, hlink, Device.lane, ← hlanes]
    exact Table.getD_put_other _ _ _ _ _ hl
  refine ⟨?_, fun l hl => ?_, fun l hl => ?_, ?_, ?_⟩
  · rw [hblock, Device.emit, List.length_append, ← Nat.add_assoc, ← h.sent]
    rfl
  · by_cases hln : l = n
    · rw [hln, hsame, hnext, h.still n le_rfl]
    · rw [hother l hln, h.moved l (by omega)]
  · rw [hother l (by omega), h.still l (by omega)]
  · rw [hlink, ← h.transit, ← htransit]
  · obtain ⟨ports, out, hframe⟩ := h.frame
    rw [hblock, hframe]
    exact ⟨_, _, rfl⟩

theorem sentLanes_foldl (d : Device) (p k type circ : Nat) (tick : Bool) (payload : List Byte) (n : Nat) :
    SentLanes d ((List.range n).foldl (fun d l => d.sendBlock p k l type circ tick (sliceOf payload (800 * l) 800)) d) p n := by
  induction n with
  | zero => exact ⟨rfl, fun l hl => absurd hl (by omega), fun _ _ => rfl, rfl, d.ports, d.out, rfl⟩
  | succ n ih =>
    rw [List.range_succ, List.foldl_append]
    exact ih.succ k type circ tick _

/-- R767: a slot sends one block on every lane and carries no further tick. -/
theorem Device.sendSlot_sends (d : Device) (p k type circ : Nat) (payload : List Byte) :
    SentLanes d (d.sendSlot p k type circ payload) p (laneCount p) ∧ ((d.sendSlot p k type circ payload).link p).tick = false := by
  unfold Device.sendSlot
  have h := sentLanes_foldl d p k type circ (d.link p).tick payload (laneCount p)
  dsimp only
  generalize (List.range (laneCount p)).foldl _ d = e at h
  obtain ⟨hsent, hmoved, hstill, htransit, ports, out, hframe⟩ := h
  have hlane : ∀ l, (e.modLink p (fun x => { x with tick := false })).lane p l = e.lane p l := by
    intro l
    rw [Device.lane, Device.link_modLink_same, Device.lane]
  refine ⟨⟨hsent, fun l hl => by rw [hlane, hmoved l hl], fun l hl => by rw [hlane, hstill l hl], ?_, ?_⟩, ?_⟩
  · rw [Device.link_modLink_same]
    exact htransit
  · rw [hframe]
    exact ⟨_, _, rfl⟩
  · rw [Device.link_modLink_same]

/-! ### What a route's packets leave of the queue (R747) -/

theorem mem_insertBy {α : Type} (before : α → α → Bool) (b x : α) (l : List α) (h : x ∈ insertBy before b l) : x = b ∨ x ∈ l := by
  induction l with
  | nil => exact .inl (by simpa [insertBy] using h)
  | cons a l ih =>
    rw [insertBy] at h
    split at h
    · simpa using h
    · rcases List.mem_cons.mp h with h | h
      · exact .inr (h ▸ List.mem_cons_self)
      · exact (ih h).imp_right (List.mem_cons_of_mem a)

theorem mem_of_mem_sortBy {α : Type} (before : α → α → Bool) (x : α) (l : List α) (h : x ∈ sortBy before l) : x ∈ l := by
  induction l with
  | nil => exact h
  | cons a l ih =>
    rcases mem_insertBy before a x (sortBy before l) h with h | h
    · exact h ▸ List.mem_cons_self
    · exact List.mem_cons_of_mem a (ih h)

theorem pickPackets_of_empty {fuel room : Nat} {l : List (Nat × TxItem)} (hfuel : 0 < fuel) (h : (pickPackets fuel room l).1 = []) :
    (pickPackets fuel room l).2 = l := by
  cases fuel with
  | zero => exact absurd hfuel (by omega)
  | succ fuel =>
    cases l with
    | nil => rfl
    | cons e l =>
      rw [pickPackets] at h ⊢
      dsimp only at h ⊢
      split at h
      · next hroom => rw [if_pos hroom]
      · exact absurd h (by simp)

/-- A queue whose items, found by their place, are as they were is the queue itself. -/
theorem filterMap_places {α : Type} (l : List α) (mine : List (Nat × α)) (h : ∀ m ∈ mine, m ∈ l.mapIdx (fun i t => (i, t))) :
    (l.mapIdx (fun i t => (i, t))).filterMap (fun e =>
      if mine.any (fun m => m.1 == e.1) then (mine.find? (fun m => m.1 == e.1)).map (·.2) else some e.2) = l := by
  have hplace : ∀ e ∈ l.mapIdx (fun i t => (i, t)), (if mine.any (fun m => m.1 == e.1) then
      (mine.find? (fun m => m.1 == e.1)).map (·.2) else some e.2) = some e.2 := by
    intro e he
    split
    · next hany =>
      obtain ⟨m, hm, hme⟩ := List.any_eq_true.mp hany
      obtain ⟨f, hf⟩ := Option.isSome_iff_exists.mp ((List.find?_isSome (p := fun m : Nat × α => m.1 == e.1)).mpr ⟨m, hm, hme⟩)
      have hfe : f.1 = e.1 := by simpa using List.find?_some hf
      obtain ⟨i, hi, rfl⟩ := List.mem_mapIdx.mp he
      obtain ⟨j, hj, rfl⟩ := List.mem_mapIdx.mp (h f (List.mem_of_find?_eq_some hf))
      obtain rfl : j = i := hfe
      rw [hf]
      rfl
    · rfl
  rw [List.filterMap_congr hplace]
  have hmap : (l.mapIdx (fun i t => (i, t))).map (·.2) = l := by
    refine List.ext_getElem (by simp) fun i _ _ => by simp
  simpa using hmap

theorem Device.pickRoute_of_empty (d : Device) (p rt : Nat) {room : Nat} (hroom : 0 < room) (h : (d.pickRoute p rt room).1 = []) :
    (d.pickRoute p rt room).2 = d.txq := by
  rw [Device.pickRoute] at h ⊢
  dsimp only at h ⊢
  rw [pickPackets_of_empty hroom h]
  exact filterMap_places _ _ fun m hm => List.mem_of_mem_filter (mem_of_mem_sortBy _ _ _ hm)

/-- What the packets of a slot leave behind beside their bytes. -/
theorem Device.packSlot_frame (d : Device) (rt : Nat) (l : List TxItem) : ∃ flight requests n,
    (d.packSlot rt l).1 = { d with flight := flight, requests := requests, nextUid := n } := by
  induction l generalizing d with
  | nil => exact ⟨d.flight, d.requests, d.nextUid, rfl⟩
  | cons t l ih =>
    rw [Device.packSlot]
    dsimp only
    have hleaves : ∀ (e : Device) (req : Nat), ∃ flight requests,
        e.packetLeaves rt t req = { e with flight := flight, requests := requests } := by
      intro e req
      rw [Device.packetLeaves]
      split
      · exact ⟨_, _, rfl⟩
      · split
        · exact ⟨_, _, rfl⟩
        · exact ⟨e.flight, e.requests, rfl⟩
    obtain ⟨flight, requests, hleave⟩ := hleaves { d with nextUid := d.nextUid + 1 } (if t.kind = 2 then t.arg else d.nextUid % 2 ^ 32)
    rw [Device.uid]
    dsimp only
    rw [hleave]
    obtain ⟨flight', requests', n, hrest⟩ := ih
      { d with nextUid := d.nextUid + 1, flight := flight, requests := requests }
    rw [hrest]
    exact ⟨_, _, _, rfl⟩

/-- R621: the sectors sent count at the port's arbiter; its lanes and transit blocks stay. -/
theorem Device.countSectors_frame (d : Device) (p c : Nat) (l : List TxItem) : ∃ ports,
    l.foldl (fun d t => d.modLink p (fun x => { x with used := Table.modify x.used (8 * c + t.cls) 0 (· + t.sectors) })) d =
      { d with ports := ports } ∧
    ∀ i, ({ d with ports := ports } : Device).lane p i = d.lane p i := by
  induction l generalizing d with
  | nil => exact ⟨d.ports, rfl, fun _ => rfl⟩
  | cons t l ih =>
    rw [List.foldl_cons]
    obtain ⟨ports, hfold, hlane⟩ := ih (d.modLink p (fun x => { x with used := Table.modify x.used (8 * c + t.cls) 0 (· + t.sectors) }))
    refine ⟨ports, hfold, fun i => (hlane i).trans ?_⟩
    rw [Device.lane, Device.link_modLink_same, Device.lane]

/-! ### SLOT_SEND -/

section Slots
variable {d : Device} {p k : Nat}

/-- What SLOT_SEND says of the port: a block on every lane, no further tick. -/
def SlotSent (d e : Device) (p : Nat) : Prop :=
  e.out.length = d.out.length + laneCount p ∧ (e.link p).tick = false ∧
    ∀ l, l < laneCount p → (e.lane p l).next = ((d.lane p l).next + 1) % 2 ^ 32

theorem SlotSent.of_sendSlot {d e : Device} (hout : e.out = d.out) (hlane : ∀ l, e.lane p l = d.lane p l) (type circ : Nat)
    (payload : List Byte) : SlotSent d (e.sendSlot p k type circ payload) p := by
  obtain ⟨⟨hsent, hmoved, _, _, _⟩, htick⟩ := e.sendSlot_sends p k type circ payload
  exact ⟨by rw [hsent, hout], htick, fun l hl => by rw [hmoved l hl, hlane l]⟩

theorem Device.sendSlot_frame (e : Device) (type circ : Nat) (payload : List Byte) : ∃ ports out,
    e.sendSlot p k type circ payload = { e with ports := ports, out := out } :=
  (e.sendSlot_sends p k type circ payload).1.frame

theorem fxSlotSend_of_transit {b : Nat × Nat × List Byte} (hp : p ≤ 16) (hst : d.portState p = 6)
    (hb : Table.find? (d.link p).transit k = some b) : ∃ e : Device, fxSlotSend p k d = e ∧ SlotSent d e p ∧
      Table.find? (e.link p).transit k = none ∧ ∃ regs ports out, e = { d with regs := regs, ports := ports, out := out } := by
  obtain ⟨from_, c, body⟩ := b
  let left := d.modLink p (fun x => { x with transit := Table.drop x.transit k })
  let counted := if (left.slotCircuit p k).isSome then left.bump (regKey PLV_SLOT_CONFLICT p) 1 else left
  have heffect : fxSlotSend p k d = counted.sendSlot p k 1 c body := by
    unfold fxSlotSend
    rw [if_neg (by simp [Device.portUp, hst]; omega), hb]
  obtain ⟨regs, hcounted⟩ : ∃ regs, counted = { left with regs := regs } := by
    by_cases h : (left.slotCircuit p k).isSome
    · exact ⟨_, if_pos h⟩
    · exact ⟨left.regs, if_neg h⟩
  have hlink : counted.link p = { d.link p with transit := Table.drop (d.link p).transit k } := by
    rw [Device.link_congr (d := left) (by rw [hcounted]), Device.link_modLink_same]
  refine ⟨_, heffect, SlotSent.of_sendSlot (by rw [hcounted]; rfl) (fun l => by rw [Device.lane, hlink, Device.lane]) _ _ _, ?_, ?_⟩
  · rw [(counted.sendSlot_sends p k 1 c body).1.transit, hlink]
    exact Table.find?_drop_same _ _
  · obtain ⟨ports, out, hframe⟩ := counted.sendSlot_frame (p := p) (k := k) 1 c body
    rw [hframe, hcounted]
    exact ⟨_, _, _, rfl⟩

theorem fxSlotSend_of_idle (hp : p < 16) (hst : d.portState p = 6) (hb : Table.find? (d.link p).transit k = none)
    (hcircuit : d.slotCircuit p k = none) : fxSlotSend p k d = d.sendSlot p k 0 0 (d.idlePayload p) := by
  unfold fxSlotSend
  rw [if_neg (by simp [Device.portUp, hst]; omega), hb]
  dsimp only
  rw [if_neg (by omega), hcircuit]

/-- R747, R621: the device as the packets `r.1` of a route leave its queue `r.2`, before the slot's blocks are sent. -/
def Device.packetsLeave (d : Device) (p rt : Nat) (r : List TxItem × List TxItem) : Device :=
  let packed := ({ d with txq := r.2 } : Device).packSlot rt r.1
  let counted := r.1.foldl (fun d t => d.modLink p (fun x =>
    { x with used := Table.modify x.used (8 * (rt % 64) + t.cls) 0 (· + t.sectors) })) packed.1
  if p = 16 then counted else counted.bump64 (regKey PLV_CIRC_BYTES_LO rt) packed.2.length

theorem Device.packetsLeave_frame (d : Device) (p rt : Nat) (r : List TxItem × List TxItem) :
    (∃ regs ports flight requests n, d.packetsLeave p rt r =
      { d with regs := regs, ports := ports, txq := r.2, flight := flight, requests := requests, nextUid := n }) ∧
    ∀ i, (d.packetsLeave p rt r).lane p i = d.lane p i := by
  unfold Device.packetsLeave
  obtain ⟨flight, requests, n, hpack⟩ := ({ d with txq := r.2 } : Device).packSlot_frame rt r.1
  dsimp only
  generalize (({ d with txq := r.2 } : Device).packSlot rt r.1).2 = bytes
  rw [hpack]
  obtain ⟨ports, hcount, hlane⟩ :=
    ({ d with txq := r.2, flight := flight, requests := requests, nextUid := n } : Device).countSectors_frame p (rt % 64) r.1
  rw [hcount]
  split
  · exact ⟨⟨d.regs, ports, flight, requests, n, rfl⟩, hlane⟩
  · exact ⟨⟨_, ports, flight, requests, n, rfl⟩, hlane⟩

theorem fxSlotSend_of_route {rt : Nat} (hp : p ≤ 16) (hst : d.portState p = 6) (hb : Table.find? (d.link p).transit k = none)
    (hroute : (if p = 16 then some twinRoute else d.slotCircuit p k) = some rt) : ∃ e : Device, fxSlotSend p k d = e ∧
      SlotSent d e p ∧ e.txq = (d.pickRoute p rt (25 * laneCount p)).2 ∧ ∃ regs ports out flight requests n,
        e = { d with regs := regs, ports := ports, out := out, txq := e.txq, flight := flight, requests := requests, nextUid := n } := by
  unfold fxSlotSend
  rw [if_neg (by simp [Device.portUp, hst]; omega), hb]
  dsimp only
  rw [hroute]
  dsimp only
  by_cases hempty : (d.pickRoute p rt (25 * laneCount p)).1 = []
  · rw [if_pos (by simp [hempty])]
    refine ⟨_, rfl, SlotSent.of_sendSlot rfl (fun _ => rfl) _ _ _, ?_, ?_⟩
    · obtain ⟨ports, out, hframe⟩ := d.sendSlot_frame (p := p) (k := k) 0 0 (d.idlePayload p)
      rw [hframe, d.pickRoute_of_empty p rt (by rw [laneCount]; split <;> omega) hempty]
    · obtain ⟨ports, out, hframe⟩ := d.sendSlot_frame (p := p) (k := k) 0 0 (d.idlePayload p)
      rw [hframe]
      exact ⟨d.regs, ports, out, d.flight, d.requests, d.nextUid, rfl⟩
  · rw [if_neg (by simpa using hempty)]
    generalize d.pickRoute p rt (25 * laneCount p) = r
    obtain ⟨⟨regs, ports, flight, requests, n, hleave⟩, hlane⟩ := d.packetsLeave_frame p rt r
    generalize hbytes : (({ d with txq := r.2 } : Device).packSlot rt r.1).2 = bytes
    refine ⟨(d.packetsLeave p rt r).sendSlot p k 1 (rt % 64) bytes, by rw [← hbytes]; rfl, ?_⟩
    generalize d.packetsLeave p rt r = e at *
    obtain ⟨ports', out, hframe⟩ := e.sendSlot_frame (p := p) (k := k) 1 (rt % 64) bytes
    refine ⟨SlotSent.of_sendSlot (by rw [hleave]) hlane _ _ _, by rw [hframe, hleave], ?_⟩
    rw [hframe, hleave]
    exact ⟨_, _, _, _, _, _, rfl⟩

end Slots

/-! ### Transit and the flood of live members (R768, R774) -/

section Transit
variable {d : Device} {p c n : Nat} {payload : List Byte} {x : Circuit} (hx : d.circuit? (circKey p c) = some x) (hends : x.ends = false)
  (hc : c ≤ 63) (hin : d.portState p = 6) (hout : d.portState x.outPort = 6)
include hx hends hc hin hout

theorem fxTransitForward_of_free (hfree : Table.find? (d.link x.outPort).transit (n + 3) = none) : fxTransitForward p c n payload d =
    d.modLink x.outPort (fun q => { q with transit := Table.put (d.link x.outPort).transit (n + 3) (p, x.outCircuit, payload) }) := by
  unfold fxTransitForward
  rw [hx]
  dsimp only
  rw [if_neg (by simp [hends, Device.portUp, hin, hout]; omega), hfree]

/-- R768: of two transit blocks for a slot that of the lower port leaves in it. -/
theorem fxTransitForward_of_taken {b : Nat × Nat × List Byte} (hb : Table.find? (d.link x.outPort).transit (n + 3) = some b) :
    ∃ t, fxTransitForward p c n payload d =
      (d.modLink x.outPort (fun q => { q with transit := t })).bump (regKey PLV_SLOT_CONFLICT x.outPort) 1 ∧
      (p < b.1 → Table.find? t (n + 3) = some (p, x.outCircuit, payload)) := by
  unfold fxTransitForward
  rw [hx]
  dsimp only
  rw [if_neg (by simp [hends, Device.portUp, hin, hout]; omega), hb]
  refine ⟨_, rfl, fun hlt => ?_⟩
  rw [if_pos hlt]
  exact Table.find?_put_same _ _ _

end Transit

/-- The live members that a device floods: those of its UP ports, and itself. -/
def Device.heard (d : Device) : Nat :=
  (List.range 17).foldl (fun v q => if d.portUp q then Nat.lor v (d.link q).live else v) (if d.inDomain then 2 ^ d.index else 0)

/-- R774: what LIVE_FLOOD writes of a set. -/
def Device.showLive (d : Device) (all : Nat) : Device :=
  ((d.setReg PLV_LIVE all).setReg (PLV_LIVE + 4) (all / 2 ^ 32)).setReg (PLV_LIVE + 8) (all / 2 ^ 64)

theorem Device.liveSet_showLive (d : Device) (all : Nat) : (d.showLive all).liveSet = all % 2 ^ 96 := by
  rw [Device.liveSet, Device.showLive, Device.reg_setReg_same, Device.reg_setReg_other _ _ _ _ (by decide),
    Device.reg_setReg_other _ _ _ _ (by decide), Device.reg_setReg_same, Device.reg_setReg_other _ _ _ _ (by decide),
    Device.reg_setReg_same]
  omega

/-- The set last received on an UP port. -/
def Device.hear (d : Device) (p set : Nat) : Device :=
  if p ≤ 16 && d.portUp p then d.modLink p (fun x => { x with live := set % 2 ^ 72 }) else d

theorem fxLiveFlood_eq (d : Device) (p set : Nat) : fxLiveFlood p set d = (d.hear p set).showLive (d.hear p set).heard := rfl

theorem Device.hear_frame (d : Device) (p set : Nat) : ∃ ports, d.hear p set = { d with ports := ports } := by
  rw [Device.hear]
  split
  · exact ⟨_, rfl⟩
  · exact ⟨d.ports, rfl⟩

theorem Device.live_hear (d : Device) {p : Nat} (set : Nat) (hp : p ≤ 16) (hst : d.portState p = 6) :
    ((d.hear p set).link p).live = set % 2 ^ 72 := by
  rw [Device.hear, if_pos (by simp [Device.portUp, hst, hp]), Device.link_modLink_same]

theorem Device.heard_eq {d e : Device} (hregs : e.regs = d.regs) : e.heard =
    (List.range 17).foldl (fun v q => if d.portState q = 6 then Nat.lor v (e.link q).live else v)
      (if d.inDomain then 2 ^ d.index else 0) := by
  rw [Device.heard, Device.inDomain, Device.index, Device.regField_congr hregs, Device.regField_congr hregs]
  refine congrArg (fun f => (List.range 17).foldl f _) (funext fun v => funext fun q => ?_)
  rw [Device.portUp, Device.portState, Device.regField_congr hregs, ← Device.portState]
  by_cases h : d.portState q = 6
  · rw [if_pos h, if_pos (by simp [h])]
  · rw [if_neg h, if_neg (by simp [h])]

theorem fxLiveFlood_floods (d : Device) {p : Nat} (set : Nat) (hp : p ≤ 16) : ∃ e : Device, fxLiveFlood p set d = e ∧
    e.liveSet = (List.range 17).foldl (fun v q => if d.portState q = 6 then Nat.lor v (e.link q).live else v)
      (if d.inDomain then 2 ^ d.index else 0) % 2 ^ 96 ∧
    (d.portState p = 6 → (e.link p).live = set % 2 ^ 72) ∧ ∃ regs ports, e = { d with regs := regs, ports := ports } := by
  obtain ⟨ports, hframe⟩ := d.hear_frame p set
  have hlive := d.live_hear (p := p) set hp
  rw [fxLiveFlood_eq]
  generalize d.hear p set = m at *
  refine ⟨_, rfl, ?_, hlive, ?_⟩
  · rw [Device.liveSet_showLive, Device.heard_eq (d := d) (by rw [hframe])]
    rfl
  · rw [hframe]
    exact ⟨_, _, rfl⟩

/-- A command that writes no memory ends in the device of its effect. -/
theorem Running.land_eq {s : State} (hrun : Running s) {d e : Device} (he : e = d) (hm : d.mem = s.dev.mem) (hw : d.wlog = s.dev.wlog) :
    e.land s.dev.mem = d := by
  have ⟨_, _, hquiet⟩ := hrun
  rw [he]
  exact Device.land_of_quiet hm (hw.trans hquiet)

theorem Device.link_bump (d : Device) (k n q : Nat) : (d.bump k n).link q = d.link q := rfl

/-- Settles O54: a command is the device of its equation above. That a slot's packets and a lane's replay are as these equations say is
the model's choice (log entries 66, 55). -/
theorem blocksAndSlots : Obligations.BlocksAndSlots := by
  unfold Obligations.BlocksAndSlots
  intro s p hrun hp lane
  refine ⟨fun l wire hl hst => ?receive, fun l wire hl hst htest => ?test, fun l seq b hl hst hkept => ⟨fun hb => ?again, fun hb => ?third⟩,
    fun k hst => ⟨fun b hb => ?transit, fun hp16 hb hcircuit => ?idle, fun rt hb hroute => ?route⟩,
    fun c n payload x hx hends hc hin hout => ⟨fun hfree => ?forward, fun b hb => ?conflict⟩, fun set => ?flood⟩
  case receive =>
    refine Ends.of_landed hrun rfl rfl ⟨fun b n hwire hcrc hseq htype => ?_, fun b n hwire hcrc hseq => ?_, fun hwire hfails => ?_,
      fun hwire hfails => ?_⟩
    · rw [hrun.land_eq (fxBlockReceive_of_good hp hl hst hwire hcrc hseq htype) rfl rfl]
      exact ⟨Device.lane_putLane_same _ _ _ _, rfl⟩
    · rw [hrun.land_eq (fxBlockReceive_of_unexpected hp hl hst hwire hcrc hseq) rfl rfl]
      rfl
    · rw [hrun.land_eq (fxBlockReceive_of_bad hp hl hst hwire hfails) rfl rfl]
      exact ⟨Device.lane_putLane_same _ _ _ _, Device.reg_bump_same _ _ _, rfl⟩
    · rw [fxBlockReceive_of_third hp hl hst hwire hfails]
      exact (Beside.bumped s p (by decide) (by decide) _ _).wentDown hrun (fun _ h => h)
  case test =>
    exact Ends.of_effect hrun rfl (fxBlockReceive_of_test hp hl hst htest) rfl rfl rfl
  case again =>
    obtain ⟨e, heffect, hout, hcount, hnext, regs, ports, hframe⟩ := fxBlockNak_again hp hl hst hkept hb
    exact Ends.of_effect hrun rfl heffect (by rw [hframe]) (by rw [hframe]) ⟨⟨hout, hcount⟩, hnext, by rw [hframe]⟩
  case third =>
    exact Ends.of_portDown hrun rfl (fxBlockNak_of_third hp hl hst hkept hb) (Beside.refl s p) (fun _ h => h)
  case transit =>
    obtain ⟨e, heffect, hsent, hgone, regs, ports, out, hframe⟩ := fxSlotSend_of_transit hp hst hb
    exact Ends.of_effect hrun rfl heffect (by rw [hframe]) (by rw [hframe]) ⟨hsent, hgone, by rw [hframe]⟩
  case idle =>
    have hsent := SlotSent.of_sendSlot (k := k) (p := p) (d := s.dev) (e := s.dev) rfl (fun _ => rfl) 0 0 (s.dev.idlePayload p)
    obtain ⟨ports, out, hframe⟩ := s.dev.sendSlot_frame (p := p) (k := k) 0 0 (s.dev.idlePayload p)
    have heffect := fxSlotSend_of_idle hp16 hst hb hcircuit
    generalize s.dev.sendSlot p k 0 0 (s.dev.idlePayload p) = e at *
    exact Ends.of_effect hrun rfl heffect (by rw [hframe]) (by rw [hframe]) ⟨hsent, by rw [hframe]⟩
  case route =>
    obtain ⟨e, heffect, hsent, htxq, regs, ports, out, flight, requests, n, hframe⟩ := fxSlotSend_of_route hp hst hb hroute
    exact Ends.of_effect hrun rfl heffect (by rw [hframe]) (by rw [hframe]) ⟨hsent, htxq, by rw [hframe]⟩
  case forward =>
    refine Ends.of_effect hrun rfl (fxTransitForward_of_free hx hends hc hin hout hfree) rfl rfl ⟨?_, fun q hq => ?_, rfl⟩
    · rw [Device.link_modLink_same]
      exact Table.find?_put_same _ _ _
    · exact Device.link_modLink_other _ _ hq
  case conflict =>
    obtain ⟨t, heffect, hlower⟩ := fxTransitForward_of_taken (payload := payload) hx hends hc hin hout hb
    refine Ends.of_effect hrun rfl heffect rfl rfl ⟨fun hlt => ?_, ?_, rfl⟩
    · rw [Device.link_bump, Device.link_modLink_same]
      exact hlower hlt
    · exact Device.reg_bump_same _ _ _
  case flood =>
    obtain ⟨e, heffect, hset, hlive, regs, ports, hframe⟩ := fxLiveFlood_floods s.dev set hp
    exact Ends.of_effect hrun rfl heffect (by rw [hframe]) (by rw [hframe]) ⟨hset, hlive, by rw [hframe]⟩

end Sys2Proof.Machine
end

section
/-!
SUPPORT. Packets at the end of a circuit, notices, and circuits set up and torn down (R748, R760, R761, R764, R776 to R778, R792).
-/
namespace Sys2Proof.Machine

/-! ### Packets that arrive (R748, R764) -/

/-- R778: what a target's answer leaves is counted in registers alone. -/
theorem Device.targetAnswer_frame {d d₁ : Device} {a n st : Nat} {write miss : Bool} (h : d.targetAnswer a n write miss = (st, d₁)) :
    ∃ regs, d₁ = { d with regs := regs } := by
  unfold Device.targetAnswer at h
  extract_lets s refused maps counted first last at h
  obtain ⟨regs, hcounted⟩ : ∃ regs, counted = { d with regs := regs } := by
    by_cases hmiss : (maps && miss) = true
    · exact ⟨_, if_pos hmiss⟩
    · exact ⟨d.regs, if_neg hmiss⟩
  rw [hcounted] at h
  split at h
  · exact ⟨d.regs, (Prod.mk.inj h).2.symm⟩
  split at h
  · exact ⟨_, (Prod.mk.inj h).2.symm⟩
  split at h
  · exact ⟨regs, (Prod.mk.inj h).2.symm⟩
  · exact ⟨regs, (Prod.mk.inj h).2.symm⟩

/-- The reports that a port owes a circuit. -/
def Device.owed (d : Device) (p c : Nat) : Nat := Table.getD (d.link p).reports c 0

theorem Device.owed_modLink (d : Device) (p c n : Nat) :
    (d.modLink p (fun q => { q with reports := Table.modify q.reports c 0 (· + n) })).owed p c = d.owed p c + n := by
  rw [Device.owed, Device.link_modLink_same, Device.owed]
  exact Table.getD_modify_same _ _ _ (· + n)

theorem Device.owed_reportLanded (d : Device) (p c : Nat) : (d.reportLanded p c).owed p c = d.owed p c + 1 := d.owed_modLink p c 1

section Arrives
variable {d d₁ : Device} {p c req cls addr : Nat} {miss : Bool} (harr : d.arrives p c = true)
include harr

theorem fxPlvWritePacket_of_served {data : List Byte} (hlen : data.length ≤ 2048)
    (hserved : d.targetAnswer addr data.length true miss = (0, d₁)) (hspace : addrSpace addr ≠ 6) :
    fxPlvWritePacket p c req cls addr data miss d = (d₁.store (localKey addr) data).reportLanded p c := by
  unfold fxPlvWritePacket
  rw [if_neg (by simp [harr, hlen]), hserved]
  simp only
  rw [if_neg hspace]

theorem fxPlvWritePacket_of_refused {data : List Byte} {st : Nat} (hlen : data.length ≤ 2048)
    (hrefused : d.targetAnswer addr data.length true miss = (st, d₁)) (hst : st ≠ 0) :
    fxPlvWritePacket p c req cls addr data miss d = d₁.respond p c req cls st [] := by
  unfold fxPlvWritePacket
  rw [if_neg (by simp [harr, hlen]), hrefused]
  cases st with
  | zero => exact absurd rfl hst
  | succ st => rfl

section Queue
variable {src producer level seq : Nat} {words : List (List Byte)} (hwords : words ≠ [])
  (hserved : d.targetAnswer addr 64 true miss = (0, d₁))
include hwords hserved

theorem fxPlvQueuePacket_of_no_queue
    (hnone : addrSpace addr ≠ 4 ∨ d₁.queue? (partOf 4 (addrOffset addr)) (addrOffset addr % 0x400000 % 256) = none) :
    fxPlvQueuePacket p c req cls src addr producer level seq words miss d = d₁.respond p c req cls 2 [] := by
  unfold fxPlvQueuePacket
  rw [if_neg (by simp [harr, hwords]), hserved]
  simp only
  rw [if_pos (by simpa using hnone)]

/-- R491: what a QUEUE packet leaves: its words in the queue, a report owed, the Gale engines' notes. -/
theorem fxPlvQueuePacket_of_queue (hspace : addrSpace addr = 4)
    (hqueue : d₁.queue? (partOf 4 (addrOffset addr)) (addrOffset addr % 0x400000 % 256) ≠ none) : ∃ e : Device,
    fxPlvQueuePacket p c req cls src addr producer level seq words miss d = e.reportLanded p c ∧ ∃ regs routes txq n, e =
      { d₁ with queues := (d₁.pushPacket (partOf 4 (addrOffset addr)) (addrOffset addr % 0x400000 % 256) producer level (some seq) words).queues
                regs := regs, routes := routes, txq := txq, nextUid := n } := by
  unfold fxPlvQueuePacket
  rw [if_neg (by simp [harr, hwords]), hserved]
  simp only
  rw [if_neg (by rw [Bool.or_eq_true, not_or, Option.isNone_iff_eq_none]; exact ⟨by simp [hspace], hqueue⟩)]
  obtain ⟨queues, regs, hpush⟩ := d₁.pushPacket_frame (partOf 4 (addrOffset addr)) (addrOffset addr % 0x400000 % 256) producer level
    (some seq) words
  rw [hpush]
  refine ⟨_, rfl, ?_⟩
  split
  · exact ⟨_, _, _, _, rfl⟩
  split
  · exact ⟨_, _, _, _, rfl⟩
  · exact ⟨_, _, _, _, rfl⟩

end Queue

/-- A read without error of bytes that a target serves is answered with them. -/
theorem fxPlvReadReq_of_served {n : Nat} (hlen : n ≤ 2048) (hserved : d.targetAnswer addr n false miss = (0, d₁)) (hspace : addrSpace addr ≠ 6)
    (hclean : d₁.poisonIn (localKey addr) n = none) : ∃ regs, fxPlvReadReq p c req cls addr n 0 none miss d =
      ({ d₁ with regs := regs } : Device).respond p c req cls 0 (d₁.readBytes (localKey addr) n) := by
  unfold fxPlvReadReq
  rw [if_neg (by simp [harr, hlen]), hserved]
  simp only
  rw [if_neg hspace, hclean]
  dsimp only
  obtain ⟨regs, hread⟩ : ∃ regs, d₁.secded addr 0 none = { d₁ with regs := regs } := by
    rw [Device.secded]
    split
    · exact ⟨_, rfl⟩
    · exact ⟨d₁.regs, rfl⟩
  rw [hread, if_neg (by simp [Device.ueIn]), Device.readBytes_congr (d := d₁) (e := { d₁ with regs := regs }) rfl rfl]
  exact ⟨regs, rfl⟩

theorem fxPlvResponse_of_asked {t : TxItem} {data : List Byte} (ht : Table.find? d.requests req = some t)
    (hhost : ∀ r ∈ d.hostReads, r.uid ≠ t.uid) : fxPlvResponse p c req 0 data d =
      { d with requests := Table.drop d.requests req, arrived := d.arrived ++ [(t.uid, t.arg, data)] } := by
  have hnone : d.hostReads.find? (fun r => r.uid == t.uid) = none := by
    rw [List.find?_eq_none]
    intro r hr
    simpa using hhost r hr
  unfold fxPlvResponse
  rw [if_neg (by simp [harr]), ht]
  dsimp only
  rw [if_pos rfl, Device.hostReadDone]
  dsimp only
  rw [hnone]

theorem fxPlvResponse_of_stray {st : Nat} {data : List Byte} (hnone : Table.find? d.requests req = none) (hflight : d.flight = []) :
    fxPlvResponse p c req st data d = d := by
  unfold fxPlvResponse
  rw [if_neg (by simp [harr]), hnone, hflight]
  rfl

end Arrives

/-! ### Notices (R764, R792) -/

section Notices
variable {d : Device} {p c n : Nat} {x : Circuit}

theorem fxReportNotice_of_end (hp : p < 16) (hc : c ≤ 63) (hst : d.portState p = 6) (hx : d.circuit? (circKey p c) = some x)
    (hends : x.ends = true) : fxReportNotice p c n d = { d with flight := dropLanded (circKey p c) n d.flight } := by
  unfold fxReportNotice
  rw [if_neg (by simp [Device.portUp, hst]; omega), if_neg (by omega), hx]
  exact if_pos hends

theorem fxReportNotice_of_transit (hp : p < 16) (hc : c ≤ 63) (hst : d.portState p = 6) (hx : d.circuit? (circKey p c) = some x)
    (hends : x.ends = false) : fxReportNotice p c n d =
      d.modLink x.outPort (fun q => { q with reports := Table.modify q.reports x.outCircuit 0 (· + n) }) := by
  unfold fxReportNotice
  rw [if_neg (by simp [Device.portUp, hst]; omega), if_neg (by omega), hx]
  exact if_neg (by simp [hends])

theorem fxReportNotice_of_twin (hc : c ≤ 63) (hst : d.portState 16 = 6) :
    fxReportNotice 16 c n d = { d with flight := dropLanded twinRoute n d.flight } := by
  unfold fxReportNotice
  rw [if_neg (by simp [Device.portUp, hst]; omega), if_pos rfl]

end Notices

/-! ### Records dropped (R760, R792) -/

theorem Device.failRoute_of_idle {d : Device} (htxq : d.txq = []) (hrequests : d.requests = []) (hflight : d.flight = []) (rt : Nat) :
    d.failRoute rt = d := by
  unfold Device.failRoute
  extract_lets waiting asked flying left all once
  have honce : once = [] := by
    simp only [once, all, flying, asked, waiting, htxq, hrequests, hflight]
    rfl
  have hleft : left = { d with txq := [], requests := [], flight := [] } := by
    simp only [left, htxq, hrequests, hflight]
    rfl
  rw [honce, List.foldl_nil, hleft, ← htxq, ← hrequests, ← hflight]

theorem Device.dropRecord_of_none {d : Device} {k : Nat} (h : d.circuit? k = none) : d.dropRecord k = d := by
  rw [Device.dropRecord, h]

theorem Device.dropRecord_of_transit {d : Device} {k : Nat} {x : Circuit} (h : d.circuit? k = some x) (hends : x.ends = false) :
    d.dropRecord k = { d with circuits := Table.drop d.circuits k } := by
  rw [Device.dropRecord, h]
  dsimp only
  rw [if_neg (by simp [hends])]

/-- With nothing on its way a record is dropped and nothing else. -/
theorem Device.dropRecord_of_idle {d : Device} (htxq : d.txq = []) (hrequests : d.requests = []) (hflight : d.flight = []) (k : Nat) :
    d.dropRecord k = { d with circuits := Table.drop d.circuits k } := by
  cases h : d.circuit? k with
  | none => rw [Device.dropRecord_of_none h, Table.drop_of_not_found h]
  | some x =>
    rw [Device.dropRecord, h]
    dsimp only
    rw [Device.failRoute_of_idle htxq hrequests hflight, ite_self]

/-- Two records dropped: neither stands, and the others stay. -/
theorem find?_drop_drop {α : Type} (t : Table α) (k j : Nat) :
    Table.find? (Table.drop (Table.drop t k) j) k = none ∧ Table.find? (Table.drop (Table.drop t k) j) j = none := by
  refine ⟨?_, Table.find?_drop_same _ _⟩
  by_cases h : k = j
  · rw [h]
    exact Table.find?_drop_same _ _
  · rw [Table.find?_drop_other _ _ _ h]
    exact Table.find?_drop_same _ _

/-- R792: a transit record goes with its twin, and TEARDOWN is owed on the twin's port. -/
theorem Device.tearDown_of_transit {d : Device} {k : Nat} {x : Circuit} (h : d.circuit? k = some x) (hends : x.ends = false)
    (htwin : ∀ y, d.circuit? (circKey x.outPort x.outCircuit) = some y → y.ends = false) : d.tearDown [k] =
      ({ d with circuits := Table.drop (Table.drop d.circuits k) (circKey x.outPort x.outCircuit) } : Device).modLink x.outPort
        (fun q => { q with teardowns := q.teardowns ++ [x.outCircuit] }) := by
  have hpartner : ({ d with circuits := Table.drop d.circuits k } : Device).dropRecord (circKey x.outPort x.outCircuit) =
      { d with circuits := Table.drop (Table.drop d.circuits k) (circKey x.outPort x.outCircuit) } := by
    cases hy : ({ d with circuits := Table.drop d.circuits k } : Device).circuit? (circKey x.outPort x.outCircuit) with
    | none =>
      have hnone : Table.find? (Table.drop d.circuits k) (circKey x.outPort x.outCircuit) = none := hy
      rw [Device.dropRecord_of_none hy, Table.drop_of_not_found hnone]
    | some y =>
      refine Device.dropRecord_of_transit hy (htwin y ?_)
      rw [← hy]
      refine (Table.find?_drop_other _ _ _ fun heq => ?_).symm
      rw [heq] at hy
      have hgone : Table.find? (Table.drop d.circuits k) k = some y := hy
      rw [Table.find?_drop_same] at hgone
      exact absurd hgone (by simp)
  rw [Device.tearDown, List.filterMap_cons, h]
  dsimp only [Option.map_some, List.filterMap_nil, List.foldl_cons, List.foldl_nil]
  rw [Device.dropRecord_of_transit h hends, if_neg (by simp [hends]), hpartner, Device.circuitFault, if_pos (by simp [hends])]

/-- R792: an end of a circuit with nothing on its way, whose job has gone. -/
theorem Device.tearDown_of_idle {d : Device} {k : Nat} {x : Circuit} (h : d.circuit? k = some x) (hends : x.ends = true)
    (htxq : d.txq = []) (hrequests : d.requests = []) (hflight : d.flight = []) (hjob : (d.job x.job).state = .none) :
    d.tearDown [k] = { d with circuits := Table.drop d.circuits k } := by
  rw [Device.tearDown, List.filterMap_cons, h]
  dsimp only [Option.map_some, List.filterMap_nil, List.foldl_cons, List.foldl_nil]
  rw [Device.dropRecord_of_idle htxq hrequests hflight, if_pos hends, Device.circuitFault]
  split
  · rfl
  · exact if_pos hjob

/-! ### Circuits set up (R760, R761) -/

section SetUp
variable {d : Device} {port : Port} (hport : port.circuits = true)
include hport

theorem fxCircuitSetup_of_refused (hr : d.circSetupResult port (d.circSel port) ≠ 0) :
    fxCircuitSetup port d = d.circResult (d.circSel port) (d.circSetupResult port (d.circSel port)) := by
  unfold fxCircuitSetup
  rw [if_neg (by simp [hport])]
  exact if_pos hr

theorem fxCircuitTeardown_of_refused (hr : d.circTeardownResult port (d.circSel port) ≠ 0) :
    fxCircuitTeardown port d = d.circResult (d.circSel port) (d.circTeardownResult port (d.circSel port)) := by
  unfold fxCircuitTeardown
  rw [if_neg (by simp [hport])]
  exact if_pos hr

omit hport in
/-- The result of a command says nothing of what its circuit's registers describe. -/
theorem Device.circConfig_circResult (k r : Nat) : (d.circResult k r).circConfig k = d.circConfig k := by
  have hcfg : (d.circResult k r).reg (regKey PLV_CIRC_CFG k) = d.reg (regKey PLV_CIRC_CFG k) :=
    Device.reg_setRegField_other _ _ _ _ (regKey_ne_of_offset (by decide) _ _)
  have hjob : (d.circResult k r).reg (regKey PLV_CIRC_JOB k) = d.reg (regKey PLV_CIRC_JOB k) :=
    Device.reg_setRegField_other _ _ _ _ (regKey_ne_of_offset (by decide) _ _)
  rw [Device.circConfig, hcfg, hjob, Device.circConfig]

/-- R760: the records that a set-up writes. -/
def Device.circuitsSet (d : Device) (k : Nat) : Table Circuit :=
  let x := (d.circConfig k).2
  let t := Table.put d.circuits k x
  if (d.circConfig k).1 = 2 then
    Table.put t (circKey x.outPort x.outCircuit) { x with outPort := k / 64, outCircuit := k % 64 }
  else t

theorem fxCircuitSetup_of_good (hr : d.circSetupResult port (d.circSel port) = 0) : fxCircuitSetup port d =
    { d.circResult (d.circSel port) 0 with circuits := d.circuitsSet (d.circSel port) } := by
  unfold fxCircuitSetup
  rw [if_neg (by simp [hport]), hr, if_neg (by simp), Device.circConfig_circResult, Device.circuitsSet]
  dsimp only
  split <;> rfl

omit hport in
/-- R760: a set-up that may be done joins two different records. -/
theorem Device.circSetupResult_ne {k : Nat} (hr : d.circSetupResult port k = 0) (hrole : (d.circConfig k).1 = 2) :
    circKey (d.circConfig k).2.outPort (d.circConfig k).2.outCircuit ≠ k := by
  intro heq
  unfold Device.circSetupResult at hr
  dsimp only at hr
  rw [hrole, heq] at hr
  simp at hr
  split at hr
  · omega
  · split at hr <;> omega

omit hport in
theorem Device.circuit_circuitsSet {k : Nat} (hr : d.circSetupResult port k = 0) :
    Table.find? (d.circuitsSet k) k = some (d.circConfig k).2 ∧
    ((d.circConfig k).1 = 2 → Table.find? (d.circuitsSet k) (circKey (d.circConfig k).2.outPort (d.circConfig k).2.outCircuit) =
      some { (d.circConfig k).2 with outPort := k / 64, outCircuit := k % 64 }) := by
  rw [Device.circuitsSet]
  by_cases hrole : (d.circConfig k).1 = 2
  · have hne := Device.circSetupResult_ne hr hrole
    rw [if_pos hrole]
    exact ⟨(Table.find?_put_other _ _ _ _ hne.symm).trans (Table.find?_put_same _ _ _), fun _ => Table.find?_put_same _ _ _⟩
  · rw [if_neg hrole]
    exact ⟨Table.find?_put_same _ _ _, fun h => absurd h hrole⟩

omit hport in
theorem Device.circSetupResult_le (d : Device) (port : Port) (k : Nat) : d.circSetupResult port k ≤ 6 := by
  unfold Device.circSetupResult
  dsimp only
  repeat' split
  all_goals omega

omit hport in
theorem Device.circTeardownResult_le (d : Device) (port : Port) (k : Nat) : d.circTeardownResult port k ≤ 6 := by
  unfold Device.circTeardownResult
  dsimp only
  repeat' split
  all_goals omega

/-- R760: with nothing on its way a record is torn down, a transit record with its twin. -/
theorem fxCircuitTeardown_of_idle (hr : d.circTeardownResult port (d.circSel port) = 0) (htxq : d.txq = []) (hrequests : d.requests = [])
    (hflight : d.flight = []) : ∃ circuits, fxCircuitTeardown port d = { d.circResult (d.circSel port) 0 with circuits := circuits } ∧
      Table.find? circuits (d.circSel port) = none ∧
      ∀ x, d.circuit? (d.circSel port) = some x → x.ends = false → Table.find? circuits (circKey x.outPort x.outCircuit) = none := by
  unfold fxCircuitTeardown
  rw [if_neg (by simp [hport]), hr]
  dsimp only
  rw [if_neg (by simp)]
  cases hx : d.circuit? (d.circSel port) with
  | none =>
    have hx' : (d.circResult (d.circSel port) 0).circuit? (d.circSel port) = none := hx
    rw [hx']
    exact ⟨d.circuits, rfl, hx, fun x h => absurd h (by simp)⟩
  | some x =>
    have hx' : (d.circResult (d.circSel port) 0).circuit? (d.circSel port) = some x := hx
    rw [hx']
    dsimp only
    rw [Device.dropRecord_of_idle (d := d.circResult (d.circSel port) 0) htxq hrequests hflight]
    by_cases hends : x.ends = true
    · rw [if_pos hends]
      refine ⟨_, rfl, Table.find?_drop_same _ _, fun y hy htransit => ?_⟩
      rw [← Option.some.inj hy, hends] at htransit
      exact absurd htransit (by simp)
    · rw [if_neg hends, Device.dropRecord_of_idle (d := { d.circResult (d.circSel port) 0 with circuits := _ }) htxq hrequests hflight]
      obtain ⟨hgone, htwin⟩ := find?_drop_drop d.circuits (d.circSel port) (circKey x.outPort x.outCircuit)
      refine ⟨_, rfl, hgone, fun y hy _ => ?_⟩
      rw [← Option.some.inj hy]
      exact htwin

end SetUp

/-! ### The obligation -/

section Ended
variable {s : State} {p c req cls addr : Nat} {miss : Bool} (hrun : Running s) (harr : s.dev.arrives p c = true)
include hrun harr

/-- A WRITE that the target serves: its bytes land and its report is owed. -/
theorem plvWritePacket_serves {data : List Byte} {d₁ : Device} (hlen : data.length ≤ 2048)
    (hserved : s.dev.targetAnswer addr data.length true miss = (0, d₁)) (hspace : addrSpace addr ≠ 6) :
    Ends (.plvWritePacket p c req cls addr data miss) s (fun d =>
      d.mem = Memory.applyAll s.dev.mem (cellsOf (localKey addr) data) ∧ d.owed p c = s.dev.owed p c + 1 ∧
      d = { s.dev with regs := d.regs, ports := d.ports, mem := d.mem, poison := d.poison }) := by
  have ⟨_, _, hquiet⟩ := hrun
  obtain ⟨regs₁, rfl⟩ := Device.targetAnswer_frame hserved
  obtain ⟨regs, poison, hland⟩ := Device.land_store (d := { s.dev with regs := regs₁ }) s.dev.mem (localKey addr) data hquiet
  have heffect := fxPlvWritePacket_of_served (req := req) (cls := cls) harr hlen hserved hspace
  have hlanded := (congrArg (Device.land · s.dev.mem) heffect).trans (congrArg (Device.reportLanded · p c) hland)
  exact Ends.of_landed hrun rfl hlanded ⟨rfl, Device.owed_reportLanded _ _ _, rfl⟩

theorem plvQueuePacket_stores {src producer level seq : Nat} {words : List (List Byte)} {d₁ : Device} (hwords : words ≠ [])
    (hserved : s.dev.targetAnswer addr 64 true miss = (0, d₁)) (hspace : addrSpace addr = 4)
    (hqueue : s.dev.queue? (partOf 4 (addrOffset addr)) (addrOffset addr % 0x400000 % 256) ≠ none) :
    Ends (.plvQueuePacket p c req cls src addr producer level seq words miss) s (fun d =>
      d.queues = (d₁.pushPacket (partOf 4 (addrOffset addr)) (addrOffset addr % 0x400000 % 256) producer level (some seq) words).queues ∧
      d.owed p c = s.dev.owed p c + 1 ∧
      d = { s.dev with queues := d.queues, ports := d.ports, regs := d.regs, routes := d.routes, txq := d.txq, nextUid := d.nextUid }) := by
  obtain ⟨regs₁, rfl⟩ := Device.targetAnswer_frame hserved
  obtain ⟨e, heffect, regs, routes, txq, n, hframe⟩ :=
    fxPlvQueuePacket_of_queue (req := req) (cls := cls) (src := src) (producer := producer) (level := level) (seq := seq) harr hwords
      hserved hspace hqueue
  generalize Device.queues _ = queues at *
  subst hframe
  exact Ends.of_effect hrun rfl heffect rfl rfl ⟨rfl, Device.owed_reportLanded _ _ _, rfl⟩

end Ended

/-- Settles O55: each packet, notice and command of circuits is the device of its equation above. What a notice and a tear-down of two
records take with them is the model's choice (log entry 68). -/
theorem packetsAndCircuits : Obligations.PacketsAndCircuits := by
  unfold Obligations.PacketsAndCircuits
  intro s p c hrun
  refine ⟨fun harr => ⟨fun req cls addr data miss d₁ hlen hserved hspace => plvWritePacket_serves hrun harr hlen hserved hspace,
      fun req cls addr data miss st d₁ hlen hrefused hst => ?refused,
      fun req cls src addr producer level seq words miss d₁ hwords hserved => ⟨fun hnone => ?noQueue, fun hspace hqueue =>
        plvQueuePacket_stores hrun harr hwords hserved hspace hqueue⟩,
      fun req cls addr n miss d₁ hlen hserved hspace hclean => ?read, fun req data t ht hhost => ?asked,
      fun req st data hnone hflight => ?stray⟩,
    fun x n hp hc hst hx => ⟨fun hends => ?reportEnd, fun hends => ?reportTransit⟩, fun n hc hst => ?reportTwin,
    fun x hp hc hx hends htwin => ?tornTransit, fun x hp hc hx hends htxq hrequests hflight hjob => ?tornEnd, fun port hport => ?_⟩
  case refused =>
    have heffect := fxPlvWritePacket_of_refused (req := req) (cls := cls) harr hlen hrefused hst
    obtain ⟨regs₁, rfl⟩ := Device.targetAnswer_frame hrefused
    exact Ends.of_effect hrun rfl heffect rfl rfl rfl
  case noQueue =>
    obtain ⟨regs₁, rfl⟩ := Device.targetAnswer_frame hserved
    exact Ends.of_effect hrun rfl (fxPlvQueuePacket_of_no_queue harr hwords hserved hnone) rfl rfl rfl
  case read =>
    obtain ⟨regs₁, rfl⟩ := Device.targetAnswer_frame hserved
    obtain ⟨regs, heffect⟩ := fxPlvReadReq_of_served (req := req) (cls := cls) harr hlen hserved hspace hclean
    rw [Device.readBytes_congr (d := s.dev) (e := { s.dev with regs := regs₁ }) rfl rfl] at heffect
    refine Ends.of_effect hrun rfl heffect rfl rfl ⟨?_, rfl⟩
    rw [Device.respond, Device.readBytes_length]
    rfl
  case asked =>
    exact Ends.of_effect hrun rfl (fxPlvResponse_of_asked harr ht hhost) rfl rfl ⟨Table.find?_drop_same _ _, rfl, rfl⟩
  case stray =>
    exact Ends.of_effect hrun rfl (fxPlvResponse_of_stray harr hnone hflight) rfl rfl rfl
  case reportEnd =>
    exact Ends.of_effect hrun rfl (fxReportNotice_of_end hp hc hst hx hends) rfl rfl rfl
  case reportTransit =>
    exact Ends.of_effect hrun rfl (fxReportNotice_of_transit hp hc hst hx hends) rfl rfl
      ⟨s.dev.owed_modLink _ _ _, fun q hq => Device.link_modLink_other _ _ hq, rfl⟩
  case reportTwin =>
    exact Ends.of_effect hrun rfl (fxReportNotice_of_twin hc hst) rfl rfl rfl
  case tornTransit =>
    have heffect : fxTeardownNotice p c s.dev = s.dev.tearDown [circKey p c] := if_neg (by simp; omega)
    obtain ⟨hgone, htwinGone⟩ := find?_drop_drop s.dev.circuits (circKey p c) (circKey x.outPort x.outCircuit)
    refine Ends.of_effect hrun rfl (heffect.trans (Device.tearDown_of_transit hx hends htwin)) rfl rfl ⟨hgone, htwinGone, ?_, rfl⟩
    rw [Device.link_modLink_same]
    exact List.mem_append_right _ List.mem_cons_self
  case tornEnd =>
    have heffect : fxTeardownNotice p c s.dev = s.dev.tearDown [circKey p c] := if_neg (by simp; omega)
    exact Ends.of_effect hrun rfl (heffect.trans (Device.tearDown_of_idle hx hends htxq hrequests hflight hjob)) rfl rfl
      ⟨Table.find?_drop_same _ _, fun k hk => Table.find?_drop_other _ _ _ hk, rfl⟩
  have hshown : ∀ (d : Device) (k r : Nat), r < 256 → (d.circResult k r).regField (regKey PLV_CIRC_CMD k) 7 0 = r := fun d k r hr =>
    (Device.regField_setRegField_same _ _ (by decide)).trans (Nat.mod_eq_of_lt hr)
  refine ⟨fun r hr => ?setUp, fun r hr hne => ?kept, fun hr htxq hrequests hflight => ?tornDown⟩
  case setUp =>
    by_cases h0 : r = 0
    · rw [h0] at hr
      obtain ⟨hone, htwo⟩ := Device.circuit_circuitsSet hr
      exact Ends.of_effect hrun rfl (fxCircuitSetup_of_good hport hr) rfl rfl
        ⟨(hshown _ _ 0 (by decide)).trans h0.symm, rfl, fun h => absurd h0 h, fun _ => ⟨hone, htwo⟩⟩
    · have hbound := s.dev.circSetupResult_le port (s.dev.circSel port)
      subst hr
      exact Ends.of_effect hrun rfl (fxCircuitSetup_of_refused hport h0) rfl rfl
        ⟨hshown _ _ _ (by omega), rfl, fun _ => rfl, fun h => absurd h h0⟩
  case kept =>
    have hbound := s.dev.circTeardownResult_le port (s.dev.circSel port)
    subst hr
    exact Ends.of_effect hrun rfl (fxCircuitTeardown_of_refused hport hne) rfl rfl ⟨hshown _ _ _ (by omega), rfl⟩
  case tornDown =>
    obtain ⟨circuits, heffect, hgone, htwin⟩ := fxCircuitTeardown_of_idle hport hr htxq hrequests hflight
    exact Ends.of_effect hrun rfl heffect rfl rfl ⟨hshown _ _ 0 (by decide), hgone, htwin, rfl⟩

end Sys2Proof.Machine
end

section
/-!
SUPPORT. The power manager's events and levels, and the sensors (R743, R826 to R834).
-/
namespace Sys2Proof.Machine

/-! ### Events and the level 12 (R826, R827, R834) -/

/-- R834: the message that an event becoming set raises. -/
def Device.toldOf (d : Device) (i : Nat) : List Out :=
  if d.regField PMU_EVENTS i i ≠ 1 ∧ d.regField PMU_IRQ 31 31 = 1 then [Out.msix 0 (d.regField PMU_IRQ 10 0)] else []

theorem Device.toldOf_congr {d e : Device} (hevents : e.reg PMU_EVENTS = d.reg PMU_EVENTS) (hirq : e.reg PMU_IRQ = d.reg PMU_IRQ) (i : Nat) :
    e.toldOf i = d.toldOf i := by
  rw [Device.toldOf, Device.regField, hevents, Device.regField, Device.regField, hirq, Device.toldOf, Device.regField, Device.regField,
    Device.regField]

/-- What an event leaves: the event set, its message, every other register. -/
structure EventSet (d e : Device) (i : Nat) : Prop where
  shown : e.regField PMU_EVENTS i i = 1
  others : ∀ k, k ≠ PMU_EVENTS → e.reg k = d.reg k
  frame : ∃ regs, e = { d with regs := regs, out := d.out ++ d.toldOf i }

theorem Device.pmuEvent_sets (d : Device) {i : Nat} (hi : i < 32) : EventSet d (d.pmuEvent i) i := by
  rw [Device.pmuEvent]
  by_cases hset : d.regField PMU_EVENTS i i = 1
  · rw [if_pos hset]
    refine ⟨hset, fun _ _ => rfl, d.regs, ?_⟩
    rw [Device.toldOf, if_neg (by simp [hset]), List.append_nil]
  · rw [if_neg hset]
    have hraised : (d.raise PMU_EVENTS i).regField PMU_EVENTS i i = 1 :=
      (Device.regField_setRegField_same _ _ hi).trans (by rw [show i + 1 - i = 1 by omega]; decide)
    have hothers : ∀ k, k ≠ PMU_EVENTS → (d.raise PMU_EVENTS i).reg k = d.reg k := fun k hk => Device.reg_setRegField_other _ _ _ _ hk
    have hirq : ∀ hi lo, (d.raise PMU_EVENTS i).regField PMU_IRQ hi lo = d.regField PMU_IRQ hi lo := fun hi lo => by
      rw [Device.regField, hothers _ (by decide), Device.regField]
    dsimp only
    rw [hirq, hirq]
    by_cases hon : d.regField PMU_IRQ 31 31 = 1
    · rw [if_pos hon]
      refine ⟨hraised, hothers, (d.raise PMU_EVENTS i).regs, ?_⟩
      rw [Device.toldOf, if_pos ⟨hset, hon⟩]
      rfl
    · rw [if_neg hon]
      refine ⟨hraised, hothers, (d.raise PMU_EVENTS i).regs, ?_⟩
      rw [Device.toldOf, if_neg (fun h => hon h.2), List.append_nil]
      rfl

/-- What a demand of level 12 leaves: the level, the clocks, every other register. -/
structure AtTwelve (d e : Device) : Prop where
  level : e.regField PMU_STATUS 19 16 = 12 ∧ e.regField PMU_STATUS 29 29 = 1 ∧ e.reg PMU_FCLK_KHZ = 760000 ∧ e.reg PMU_DCLK_KHZ = 480000
  temperature : e.regField PMU_STATUS 7 0 = d.regField PMU_STATUS 7 0
  others : ∀ k, k ≠ PMU_STATUS → k ≠ PMU_FCLK_KHZ → k ≠ PMU_DCLK_KHZ → e.reg k = d.reg k
  frame : ∃ regs, e = { d with regs := regs }

theorem Device.urgentLevel_at (d : Device) (h : d.power.urgent = true) : AtTwelve d d.urgentLevel := by
  rw [Device.urgentLevel, Device.setLevel, h]
  have hkept : ∀ (e : Device) (u v hi lo : Nat),
      ((e.setReg PMU_FCLK_KHZ u).setReg PMU_DCLK_KHZ v).regField PMU_STATUS hi lo = e.regField PMU_STATUS hi lo := fun e u v hi lo => by
    rw [Device.regField, Device.reg_setReg_other _ _ _ _ (by decide), Device.reg_setReg_other _ _ _ _ (by decide), Device.regField]
  refine ⟨⟨?_, ?_, ?_, ?_⟩, ?_, fun k hstatus hfclk hdclk => ?_, _, rfl⟩
  · rw [hkept, Device.regField_setRegField_below _ _ (by decide) (by decide), Device.regField_setRegField_same _ _ (by decide)]
    decide
  · rw [hkept, Device.regField_setRegField_same _ _ (by decide)]
    rfl
  · rw [Device.reg_setReg_other _ _ _ _ (by decide), Device.reg_setReg_same]
    decide
  · rw [Device.reg_setReg_same]
    decide
  · rw [hkept, Device.regField_setRegField_below _ _ (by decide) (by decide), Device.regField_setRegField_below _ _ (by decide) (by decide)]
  · rw [Device.reg_setReg_other _ _ _ _ hdclk, Device.reg_setReg_other _ _ _ _ hfclk, Device.reg_setRegField_other _ _ _ _ hstatus,
      Device.reg_setRegField_other _ _ _ _ hstatus]

/-- What an event with a demand of level 12 leaves. -/
structure Urgent (d e : Device) (i : Nat) : Prop where
  level : e.regField PMU_STATUS 19 16 = 12 ∧ e.regField PMU_STATUS 29 29 = 1 ∧ e.reg PMU_FCLK_KHZ = 760000 ∧ e.reg PMU_DCLK_KHZ = 480000
  event : e.regField PMU_EVENTS i i = 1
  temperature : e.regField PMU_STATUS 7 0 = d.regField PMU_STATUS 7 0
  others : ∀ k, k ≠ PMU_STATUS → k ≠ PMU_FCLK_KHZ → k ≠ PMU_DCLK_KHZ → k ≠ PMU_EVENTS → e.reg k = d.reg k
  frame : ∃ regs, e = { d with regs := regs, out := d.out ++ d.toldOf i }

theorem Device.urgent_pmuEvent (d : Device) {i : Nat} (hi : i < 32) (h : d.power.urgent = true) : Urgent d (d.pmuEvent i).urgentLevel i := by
  obtain ⟨hshown, hothers, regs, hframe⟩ := d.pmuEvent_sets hi
  obtain ⟨hlevel, htemperature, hkept, regs', hframe'⟩ := (d.pmuEvent i).urgentLevel_at (by rw [hframe]; exact h)
  refine ⟨hlevel, ?_, ?_, fun k hstatus hfclk hdclk hevents => (hkept k hstatus hfclk hdclk).trans (hothers k hevents), regs', ?_⟩
  · rw [Device.regField, hkept _ (by decide) (by decide) (by decide), ← Device.regField]
    exact hshown
  · rw [htemperature, Device.regField, hothers _ (by decide), Device.regField]
  · rw [hframe', hframe]

/-! ### Sensors (R743) -/

/-- Values written one after another from a place on. -/
def putFrom (b : Nat) (v : List Nat) (t : Table Nat) : Table Nat :=
  (v.mapIdx (fun i x => (b + i, x))).foldl (fun t e => Table.put t e.1 (e.2 % 2 ^ 32)) t

theorem putFrom_concat (b : Nat) (v : List Nat) (x : Nat) (t : Table Nat) :
    putFrom b (v ++ [x]) t = Table.put (putFrom b v t) (b + v.length) (x % 2 ^ 32) := by
  rw [putFrom, List.mapIdx_concat, List.foldl_append, ← putFrom]
  rfl

theorem getD_putFrom_outside (b : Nat) (t : Table Nat) {k : Nat} (v : List Nat) (h : k < b ∨ b + v.length ≤ k) :
    Table.getD (putFrom b v t) k 0 = Table.getD t k 0 := by
  induction v using List.reverseRecOn with
  | nil => rfl
  | append_singleton v x ih =>
    rw [List.length_append, List.length_singleton] at h
    rw [putFrom_concat, Table.getD_put_other _ _ _ _ _ (by omega), ih (by omega)]

theorem getD_putFrom (b : Nat) (t : Table Nat) {i : Nat} (v : List Nat) (h : i < v.length) :
    Table.getD (putFrom b v t) (b + i) 0 = v.getD i 0 % 2 ^ 32 := by
  induction v using List.reverseRecOn with
  | nil => exact absurd h (by simp)
  | append_singleton v x ih =>
    rw [List.length_append, List.length_singleton] at h
    rw [putFrom_concat]
    by_cases hi : i = v.length
    · rw [hi, Table.getD_put_same, List.getD_append_right _ _ _ _ le_rfl, Nat.sub_self]
      rfl
    · rw [Table.getD_put_other _ _ _ _ _ (by omega), ih (by omega), List.getD_append _ _ _ _ (by omega)]

/-- Registers of consecutive instances written one after another. -/
def Device.setRegsFrom (d : Device) (off : Nat) (v : List Nat) : Device :=
  (v.mapIdx (fun i x => (i, x))).foldl (fun d e => d.setReg (regKey off e.1) e.2) d

theorem Device.setRegsFrom_concat (d : Device) (off : Nat) (v : List Nat) (x : Nat) :
    d.setRegsFrom off (v ++ [x]) = (d.setRegsFrom off v).setReg (regKey off v.length) x := by
  rw [Device.setRegsFrom, List.mapIdx_concat, List.foldl_append, ← Device.setRegsFrom]
  rfl

theorem Device.setRegsFrom_frame (d : Device) (off : Nat) (v : List Nat) : ∃ regs, d.setRegsFrom off v = { d with regs := regs } :=
  Device.foldl_setReg_frame (fun e : Nat × Nat => regKey off e.1) (·.2) _ d

theorem Device.reg_setRegsFrom (d : Device) (off : Nat) {i : Nat} (v : List Nat) (h : i < v.length) :
    (d.setRegsFrom off v).reg (regKey off i) = v.getD i 0 % 2 ^ 32 := by
  induction v using List.reverseRecOn with
  | nil => exact absurd h (by simp)
  | append_singleton v x ih =>
    rw [List.length_append, List.length_singleton] at h
    rw [Device.setRegsFrom_concat]
    by_cases hi : i = v.length
    · rw [hi, Device.reg_setReg_same, List.getD_append_right _ _ _ _ le_rfl, Nat.sub_self]
      rfl
    · rw [Device.reg_setReg_other _ _ _ _ (regKey_ne_of_inst hi off), ih (by omega), List.getD_append _ _ _ _ (by omega)]

theorem getD_take (n : Nat) {i : Nat} (v : List Nat) (h : i < n) : (v.take n).getD i 0 = v.getD i 0 := by
  rw [List.getD_eq_getElem?_getD, List.getElem?_take_of_lt h, List.getD_eq_getElem?_getD]

/-- R743: the sensors that SENSOR_UPDATE leaves. -/
def Device.sensed (d : Device) (tj tm : List Nat) (vin watts : Nat) : Table Nat :=
  let t := putFrom 0x10 (tm.take 12) (putFrom 1 (tj.take 5) d.sensors)
  let t := if d.standby then t else Table.put (Table.put t 0x20 (vin % 2 ^ 32)) 0x21 (watts % 2 ^ 32)
  Table.put (Table.put (Table.put t 0x22 (d.regField PMU_CAP 11 0 % 2 ^ 32)) 0x30 (d.since.jobsFaulted % 2 ^ 32)) 0x31
    (d.since.tokens % 2 ^ 32)

theorem fxSensorUpdate_eq (tj tm : List Nat) (vin watts : Nat) (vr : List Nat) (d : Device) : fxSensorUpdate tj tm vin watts vr d =
    ({ d with sensors := d.sensed tj tm vin watts } : Device).setRegsFrom PMU_VR_STATUS (vr.take 25) := rfl

section Sensed
variable (d : Device) (tj tm : List Nat) (vin watts : Nat)

/-- The measured sensors stand below those that the device answers itself. -/
theorem Device.sensed_measured {k : Nat} (hk : k < 0x20) : Table.getD (d.sensed tj tm vin watts) k 0 =
    Table.getD (putFrom 0x10 (tm.take 12) (putFrom 1 (tj.take 5) d.sensors)) k 0 := by
  rw [Device.sensed]
  rw [Table.getD_put_other _ _ _ _ _ (by omega), Table.getD_put_other _ _ _ _ _ (by omega), Table.getD_put_other _ _ _ _ _ (by omega)]
  split
  · rfl
  · rw [Table.getD_put_other _ _ _ _ _ (by omega), Table.getD_put_other _ _ _ _ _ (by omega)]

theorem Device.sensed_dies {i : Nat} (hi : i < 5) (hlen : i < tj.length) :
    Table.getD (d.sensed tj tm vin watts) (1 + i) 0 = tj.getD i 0 % 2 ^ 32 := by
  rw [Device.sensed_measured _ _ _ _ _ (by omega), getD_putFrom_outside _ _ _ (by omega), getD_putFrom _ _ _ (by simp; omega),
    getD_take _ _ hi]

theorem Device.sensed_stacks {i : Nat} (hi : i < 12) (hlen : i < tm.length) :
    Table.getD (d.sensed tj tm vin watts) (0x10 + i) 0 = tm.getD i 0 % 2 ^ 32 := by
  rw [Device.sensed_measured _ _ _ _ _ (by omega), getD_putFrom _ _ _ (by simp; omega), getD_take _ _ hi]

theorem Device.sensed_supply (h : d.standby = false) : Table.getD (d.sensed tj tm vin watts) 0x20 0 = vin % 2 ^ 32 ∧
    Table.getD (d.sensed tj tm vin watts) 0x21 0 = watts % 2 ^ 32 := by
  rw [Device.sensed, h]
  constructor
  · rw [Table.getD_put_other _ _ _ _ _ (by decide), Table.getD_put_other _ _ _ _ _ (by decide), Table.getD_put_other _ _ _ _ _ (by decide)]
    rw [if_neg (by decide), Table.getD_put_other _ _ _ _ _ (by decide), Table.getD_put_same]
  · rw [Table.getD_put_other _ _ _ _ _ (by decide), Table.getD_put_other _ _ _ _ _ (by decide), Table.getD_put_other _ _ _ _ _ (by decide)]
    rw [if_neg (by decide), Table.getD_put_same]

theorem Device.sensed_standby (h : d.standby = true) : Table.getD (d.sensed tj tm vin watts) 0x20 0 = Table.getD d.sensors 0x20 0 := by
  have hlen : (tm.take 12).length ≤ 12 := by simp
  have hlen' : (tj.take 5).length ≤ 5 := by simp
  rw [Device.sensed, if_pos h]
  rw [Table.getD_put_other _ _ _ _ _ (by decide), Table.getD_put_other _ _ _ _ _ (by decide), Table.getD_put_other _ _ _ _ _ (by decide),
    getD_putFrom_outside _ _ _ (by omega), getD_putFrom_outside _ _ _ (by omega)]

theorem Device.sensed_own : Table.getD (d.sensed tj tm vin watts) 0x22 0 = d.regField PMU_CAP 11 0 ∧
    Table.getD (d.sensed tj tm vin watts) 0x30 0 = d.since.jobsFaulted % 2 ^ 32 ∧
    Table.getD (d.sensed tj tm vin watts) 0x31 0 = d.since.tokens % 2 ^ 32 := by
  rw [Device.sensed]
  refine ⟨?_, ?_, Table.getD_put_same _ _ _ _⟩
  · rw [Table.getD_put_other _ _ _ _ _ (by decide), Table.getD_put_other _ _ _ _ _ (by decide), Table.getD_put_same]
    exact Nat.mod_eq_of_lt ((bitsOf_lt _ 11 0).trans (by decide))
  · rw [Table.getD_put_other _ _ _ _ _ (by decide), Table.getD_put_same]

end Sensed

/-! ### Demands of level 12 (R828, R829, R832) -/

/-- What is seen of a demand of level 12 with its event. -/
def Device.Met (d e : Device) (i : Nat) : Prop :=
  (e.regField PMU_STATUS 19 16 = 12 ∧ e.regField PMU_STATUS 29 29 = 1 ∧ e.reg PMU_FCLK_KHZ = 760000 ∧ e.reg PMU_DCLK_KHZ = 480000) ∧
    e.regField PMU_EVENTS i i = 1 ∧ e.out = d.out ++ d.toldOf i ∧ e = { d with regs := e.regs, power := e.power, out := e.out }

section Demands
variable {d e : Device} {i : Nat}

theorem Device.met_of_urgent (hi : i < 32) (hpower : e.power.urgent = true) (hframe : ∃ regs, e = { d with regs := regs, power := e.power })
    (hevents : e.reg PMU_EVENTS = d.reg PMU_EVENTS) (hirq : e.reg PMU_IRQ = d.reg PMU_IRQ) :
    d.Met ((e.pmuEvent i).urgentLevel) i ∧ ((e.pmuEvent i).urgentLevel).power = e.power := by
  have ⟨hlevel, hevent, _, _, regs, hafter⟩ := e.urgent_pmuEvent hi hpower
  have htold := Device.toldOf_congr hevents hirq i
  rw [htold] at hafter
  generalize (e.pmuEvent i).urgentLevel = f at *
  obtain ⟨regs₀, hframe⟩ := hframe
  generalize e.power = power at *
  subst hframe
  subst hafter
  exact ⟨⟨hlevel, hevent, rfl, rfl⟩, rfl⟩

/-- R828: a droop of VIN. -/
def Device.drooped (d : Device) : Device :=
  { d with power := { d.power with droop := true, droopEnds := false } }.bump PMU_DROOP_COUNT 1

theorem Device.reg_drooped {k : Nat} (hk : k ≠ PMU_DROOP_COUNT) : d.drooped.reg k = d.reg k :=
  Device.reg_bump_other { d with power := { d.power with droop := true, droopEnds := false } } 1 hk

theorem fxVinDroop_meets (d : Device) : d.Met (fxVinDroop d) 0 ∧
    (fxVinDroop d).power = { d.power with droop := true, droopEnds := false } ∧
    (fxVinDroop d).reg PMU_DROOP_COUNT = satAdd 32 (d.reg PMU_DROOP_COUNT) 1 := by
  have heffect : fxVinDroop d = (d.drooped.pmuEvent 0).urgentLevel := rfl
  have hpower : d.drooped.power.urgent = true := rfl
  obtain ⟨hmet, hkept⟩ := Device.met_of_urgent (d := d) (i := 0) (by decide) hpower ⟨_, rfl⟩ (Device.reg_drooped (by decide))
    (Device.reg_drooped (by decide))
  have hcount := (d.drooped.urgent_pmuEvent (i := 0) (by decide) hpower).others PMU_DROOP_COUNT (by decide) (by decide) (by decide) (by decide)
  rw [heffect]
  exact ⟨hmet, hkept, hcount.trans (Device.reg_bump_same _ _ _)⟩

/-- R829: the hottest Tj, as PMU_STATUS keeps it. -/
def Device.heated (d : Device) (tj : Nat) : Device := d.setRegField PMU_STATUS 7 0 (min 255 tj)

theorem Device.reading_heated (d : Device) (tj : Nat) : (d.heated tj).regField PMU_STATUS 7 0 = min 255 tj :=
  (Device.regField_setRegField_same _ _ (by decide)).trans (Nat.mod_eq_of_lt (by omega))

/-- R829: an emergency. -/
def Device.overheated (d : Device) (tj : Nat) : Device :=
  { d.heated tj with power := { d.power with emergency := true } }.bump PMU_EMERG_COUNT 1

theorem Device.reg_overheated {tj k : Nat} (hk : k ≠ PMU_EMERG_COUNT) (hk' : k ≠ PMU_STATUS) : (d.overheated tj).reg k = d.reg k :=
  (Device.reg_bump_other { d.heated tj with power := { d.power with emergency := true } } 1 hk).trans (Device.reg_setRegField_other d _ _ _ hk')

theorem fxTjSample_of_hot {tj : Nat} (hhot : 105 ≤ tj) (hx : d.power.emergency = false) : d.Met (fxTjSample tj d) 1 ∧
    (fxTjSample tj d).power = { d.power with emergency := true } ∧ (fxTjSample tj d).regField PMU_STATUS 7 0 = min 255 tj ∧
    (fxTjSample tj d).reg PMU_EMERG_COUNT = satAdd 32 (d.reg PMU_EMERG_COUNT) 1 := by
  have heffect : fxTjSample tj d = ((d.overheated tj).pmuEvent 1).urgentLevel := if_pos (by simp [hhot]; exact hx)
  have hpower : (d.overheated tj).power.urgent = true := by
    rw [show (d.overheated tj).power = { d.power with emergency := true } from rfl, Power.urgent]
    simp
  obtain ⟨hmet, hkept⟩ := Device.met_of_urgent (d := d) (i := 1) (by decide) hpower ⟨_, rfl⟩
    (Device.reg_overheated (by decide) (by decide)) (Device.reg_overheated (by decide) (by decide))
  have ⟨_, _, htemperature, hothers, _⟩ := (d.overheated tj).urgent_pmuEvent (i := 1) (by decide) hpower
  have hcount : (d.overheated tj).reg PMU_EMERG_COUNT = satAdd 32 (d.reg PMU_EMERG_COUNT) 1 :=
    (Device.reg_bump_same { d.heated tj with power := { d.power with emergency := true } } _ _).trans
      (congrArg (satAdd 32 · 1) (Device.reg_setRegField_other d _ _ _ (by decide)))
  have hreading : (d.overheated tj).regField PMU_STATUS 7 0 = min 255 tj :=
    (congrArg (bitsOf · 7 0) (Device.reg_bump_other { d.heated tj with power := { d.power with emergency := true } } 1 (by decide))).trans
      (d.reading_heated tj)
  rw [heffect]
  exact ⟨hmet, hkept, htemperature.trans hreading, (hothers _ (by decide) (by decide) (by decide) (by decide)).trans hcount⟩

theorem fxTjSample_of_cold {tj : Nat} (hcold : tj < 100) :
    fxTjSample tj d = { d.heated tj with power := { d.power with emergency := false } } :=
  (if_neg (by simp; omega)).trans (if_pos hcold)

theorem fxTjSample_of_warm {tj : Nat} (hwarm : 100 ≤ tj) (hx : tj < 105 ∨ d.power.emergency = true) : fxTjSample tj d = d.heated tj := by
  refine (if_neg ?_).trans (if_neg (by omega))
  rw [Bool.and_eq_true, not_and]
  intro h
  have hhot : 105 ≤ tj := of_decide_eq_true h
  rcases hx with hx | hx
  · omega
  · have hheated : (d.setRegField PMU_STATUS 7 0 (min 255 tj)).power.emergency = true := hx
    exact fun hnot => absurd hheated (by simpa using hnot)

theorem fxAlertAssert_meets (d : Device) (cool : Bool) : d.Met (fxAlertAssert cool d) (if cool then 3 else 2) ∧
    (fxAlertAssert cool d).power =
      if cool then { d.power with cool := true, coolLow := true } else { d.power with shelf := true, shelfLow := true } := by
  refine Device.met_of_urgent (d := d) (e := { d with power := if cool then { d.power with cool := true, coolLow := true }
    else { d.power with shelf := true, shelfLow := true } }) (by split <;> decide) ?_ ⟨d.regs, rfl⟩ rfl rfl
  cases cool <;> simp [Power.urgent]

/-- R833: the rack manager has been silent too long. -/
theorem fxRmTimeout_tells (d : Device) : (fxRmTimeout d).regField PMU_STATUS 27 27 = 1 ∧ (fxRmTimeout d).regField PMU_EVENTS 4 4 = 1 ∧
    (fxRmTimeout d).out = d.out ++ d.toldOf 4 ∧ ∃ regs out, fxRmTimeout d = { d with regs := regs, out := out } := by
  obtain ⟨hevent, hothers, regs, hframe⟩ := (d.setRegField PMU_STATUS 27 27 1).pmuEvent_sets (i := 4) (by decide)
  have htold := Device.toldOf_congr (d := d) (e := d.setRegField PMU_STATUS 27 27 1)
    (Device.reg_setRegField_other _ _ _ _ (by decide)) (Device.reg_setRegField_other _ _ _ _ (by decide)) 4
  rw [htold] at hframe
  rw [fxRmTimeout]
  refine ⟨?_, hevent, by rw [hframe]; rfl, _, _, hframe⟩
  rw [Device.regField, hothers _ (by decide), ← Device.regField, Device.regField_setRegField_same _ _ (by decide)]
  decide

/-- R831: an average below 95 % of a cap counts, another starts the count again. -/
theorem fxPowerAverage_counts (d : Device) (w : Nat) :
    (d.regField PMU_CAP 11 0 ≠ 0 → 100 * w < 95 * d.regField PMU_CAP 11 0 →
      (fxPowerAverage w d).power = { d.power with watts := w, capBelow := d.power.capBelow + 1 }) ∧
    (d.regField PMU_CAP 11 0 = 0 ∨ 95 * d.regField PMU_CAP 11 0 ≤ 100 * w →
      (fxPowerAverage w d).power = { d.power with watts := w, capBelow := 0 }) := by
  have hpower : (fxPowerAverage w d).power = { d.power with watts := w, capBelow :=
    if (decide (d.regField PMU_CAP 11 0 ≠ 0) && decide (100 * w < 95 * d.regField PMU_CAP 11 0)) = true then d.power.capBelow + 1 else 0 } := rfl
  rw [hpower]
  refine ⟨fun hcap hlow => ?_, fun hhigh => ?_⟩
  · rw [if_pos (by simp [hcap, hlow])]
  · rw [if_neg (by rw [Bool.and_eq_true, decide_eq_true_eq, decide_eq_true_eq]; omega)]

end Demands

/-! ### The obligation -/

/-- A command that acts in reset too and ends in a device that memory is quiet in. -/
theorem Ends.of_power {c : Instr} {s : State} {f : Device → Device} {P : Device → Prop} (hreset : Gate.reset.isOpen s.dev = true)
    (hquiet : s.dev.wlog = []) (he : exec c s = onDev .reset f s) (hframe : ∃ regs power out supplies sensors,
      f s.dev = { s.dev with regs := regs, power := power, out := out, supplies := supplies, sensors := sensors }) (hP : P (f s.dev)) :
    Ends c s P := by
  obtain ⟨regs, power, out, supplies, sensors, hframe⟩ := hframe
  exact Ends.of_quiet .reset f he hreset (by rw [hframe]) (by rw [hframe]; exact hquiet) hP

theorem Device.Met.frame {d e : Device} {i : Nat} (h : d.Met e i) : ∃ regs power out supplies sensors,
    e = { d with regs := regs, power := power, out := out, supplies := supplies, sensors := sensors } := by
  obtain ⟨_, _, _, hframe⟩ := h
  exact ⟨e.regs, e.power, e.out, d.supplies, d.sensors, hframe⟩

/-- What SENSOR_UPDATE leaves, sensor by sensor. -/
theorem sensorUpdate_ends {s : State} (hreset : Gate.reset.isOpen s.dev = true) (hquiet : s.dev.wlog = []) (tj tm : List Nat)
    (vin w : Nat) (vr : List Nat) : Ends (.sensorUpdate tj tm vin w vr) s (fun d =>
      (∀ i, i < 5 → i < tj.length → Table.getD d.sensors (1 + i) 0 = tj.getD i 0 % 2 ^ 32) ∧
      (∀ i, i < 12 → i < tm.length → Table.getD d.sensors (0x10 + i) 0 = tm.getD i 0 % 2 ^ 32) ∧
      (s.dev.standby = false → Table.getD d.sensors 0x20 0 = vin % 2 ^ 32 ∧ Table.getD d.sensors 0x21 0 = w % 2 ^ 32) ∧
      (s.dev.standby = true → Table.getD d.sensors 0x20 0 = Table.getD s.dev.sensors 0x20 0) ∧
      Table.getD d.sensors 0x22 0 = s.dev.regField PMU_CAP 11 0 ∧ Table.getD d.sensors 0x30 0 = s.dev.since.jobsFaulted % 2 ^ 32 ∧
      Table.getD d.sensors 0x31 0 = s.dev.since.tokens % 2 ^ 32 ∧
      (∀ i, i < 25 → i < vr.length → d.reg (regKey PMU_VR_STATUS i) = vr.getD i 0 % 2 ^ 32) ∧
      d = { s.dev with sensors := d.sensors, regs := d.regs }) := by
  have heffect := fxSensorUpdate_eq tj tm vin w vr s.dev
  have hregs : ∀ i, i < 25 → i < vr.length →
      (fxSensorUpdate tj tm vin w vr s.dev).reg (regKey PMU_VR_STATUS i) = vr.getD i 0 % 2 ^ 32 := fun i hi hlen => by
    rw [heffect, Device.reg_setRegsFrom _ _ _ (by simp; omega), getD_take _ _ hi]
  obtain ⟨hcap, hjobs, htokens⟩ := s.dev.sensed_own tj tm vin w
  have hdies := fun i => s.dev.sensed_dies tj tm vin w (i := i)
  have hstacks := fun i => s.dev.sensed_stacks tj tm vin w (i := i)
  have hsupply := s.dev.sensed_supply tj tm vin w
  have hstandby := s.dev.sensed_standby tj tm vin w
  obtain ⟨regs, hframe⟩ := ({ s.dev with sensors := s.dev.sensed tj tm vin w } : Device).setRegsFrom_frame PMU_VR_STATUS (vr.take 25)
  rw [hframe] at heffect
  generalize s.dev.sensed tj tm vin w = sensors at *
  refine Ends.of_power hreset hquiet rfl ⟨regs, s.dev.power, s.dev.out, s.dev.supplies, sensors, heffect⟩ ?_
  rw [heffect] at hregs ⊢
  exact ⟨hdies, hstacks, hsupply, hstandby, hcap, hjobs, htokens, hregs, rfl⟩

/-- Settles O58: each command's effect is the device of its equation above. A cap of 0 asks for no level and its average counts nothing
as below it: the model's choice (log entry 72). -/
theorem powerDemands : Obligations.PowerDemands := by
  unfold Obligations.PowerDemands
  intro s htripped hquiet x told twelve urgent
  have hreset : Gate.reset.isOpen s.dev = true := by simp [Gate.isOpen, htripped]
  refine ⟨fun hrun => ?runs, fun tj => ⟨fun hhot hx => ?hot, fun hcold => ?cold, fun hwarm hx => ?warm⟩, ?trip, ?shelf, ?cool,
    Ends.of_quiet .reset (fxAlertDeassert false) rfl hreset rfl hquiet rfl, Ends.of_quiet .reset (fxAlertDeassert true) rfl hreset rfl hquiet rfl,
    Ends.of_quiet .reset (fxAlertReleaseExpiry false) rfl hreset rfl hquiet rfl,
    Ends.of_quiet .reset (fxAlertReleaseExpiry true) rfl hreset rfl hquiet rfl, fun tj tm vin w vr => sensorUpdate_ends hreset hquiet tj tm vin w vr⟩
  case runs =>
    have hruns : Running s := ⟨htripped, hrun, hquiet⟩
    refine ⟨?droop, Ends.of_effect hruns rfl rfl rfl rfl rfl, fun w => ?average, ?timeout⟩
    case droop =>
      obtain ⟨hmet, hpower, hcount⟩ := fxVinDroop_meets s.dev
      obtain ⟨regs, power, out, supplies, sensors, hframe⟩ := hmet.frame
      exact Ends.of_effect hruns rfl rfl (by rw [hframe]) (by rw [hframe]) ⟨hmet, hpower, hcount⟩
    case average =>
      obtain ⟨hlow, hhigh⟩ := fxPowerAverage_counts s.dev w
      exact Ends.of_effect hruns rfl rfl rfl rfl ⟨hlow, hhigh, rfl⟩
    case timeout =>
      obtain ⟨hstatus, hevent, hout, regs, out, hframe⟩ := fxRmTimeout_tells s.dev
      exact Ends.of_effect hruns rfl rfl (by rw [hframe]) (by rw [hframe]) ⟨hstatus, hevent, hout, by rw [hframe]⟩
  case hot =>
    obtain ⟨hmet, hpower, hreading, hcount⟩ := fxTjSample_of_hot hhot hx
    exact Ends.of_power hreset hquiet rfl hmet.frame ⟨hmet, hpower, hreading, hcount⟩
  case cold =>
    refine Ends.of_power hreset hquiet rfl ⟨_, _, s.dev.out, s.dev.supplies, s.dev.sensors, fxTjSample_of_cold hcold⟩ ?_
    rw [fxTjSample_of_cold hcold]
    exact ⟨(s.dev.reading_heated tj).trans (by omega), rfl⟩
  case warm =>
    refine Ends.of_power hreset hquiet rfl ⟨_, s.dev.power, s.dev.out, s.dev.supplies, s.dev.sensors, fxTjSample_of_warm hwarm hx⟩ ?_
    rw [fxTjSample_of_warm hwarm hx]
    exact ⟨s.dev.reading_heated tj, rfl⟩
  case trip =>
    refine Ends.of_quiet .reset fxThermtrip rfl hreset rfl hquiet ⟨?_, rfl⟩
    exact (Device.regField_setRegField_same { s.dev with supplies := { s.dev.supplies with tripped := true } } 2 (by decide)).trans (by decide)
  case shelf =>
    obtain ⟨hmet, hpower⟩ := fxAlertAssert_meets s.dev false
    exact Ends.of_power hreset hquiet rfl hmet.frame ⟨hmet, hpower⟩
  case cool =>
    obtain ⟨hmet, hpower⟩ := fxAlertAssert_meets s.dev true
    exact Ends.of_power hreset hquiet rfl hmet.frame ⟨hmet, hpower⟩

end Sys2Proof.Machine
end

section
/-!
SUPPORT. The messages of the rack manager: MCTP control, PLDM discovery, sensors and firmware, the dynamic address (R740, R743, R811, R890).
-/
namespace Sys2Proof.Machine

/-! ### Bytes of a message -/

theorem leAt_cons_zero (b : Byte) (l : List Byte) : leAt (b :: l) 0 1 = b.toNat := by
  simp [leAt, sliceOf, leNat]

theorem leAt_cons_succ (b : Byte) (l : List Byte) (n k : Nat) : leAt (b :: l) (n + 1) k = leAt l n k := rfl

theorem toNat_ofNat_byte {n : Nat} (h : n < 256) : (BitVec.ofNat 8 n).toNat = n := by
  rw [BitVec.toNat_ofNat]
  exact Nat.mod_eq_of_lt h

theorem Device.freshBytes_frame (d : Device) (n : Nat) : ∃ k, (d.freshBytes n).2 = { d with freeCounter := k } := by
  induction n generalizing d with
  | zero => exact ⟨d.freeCounter, rfl⟩
  | succ n ih =>
    obtain ⟨k, hframe⟩ := ih (d.fresh 8).2
    exact ⟨k, hframe⟩

/-! ### A message that is heard (R740, R833) -/

/-- What a message of the rack manager can have changed: the sign of its loss, and what its answer needs. -/
def Device.HeardAs (d e : Device) : Prop :=
  e.regField PMU_STATUS 27 27 = 0 ∧
    e = { d with regs := e.regs, mgmt := e.mgmt, out := e.out, freeCounter := e.freeCounter, boot := e.boot }

theorem Device.heardAs (d : Device) (mgmt : Mgmt) (out : List Out) (n : Nat) (boot : Boot) :
    d.HeardAs { d.rmHeard with mgmt := mgmt, out := out, freeCounter := n, boot := boot } :=
  ⟨(Device.regField_setRegField_same d 0 (by decide)).trans (by decide), rfl⟩

/-- An answer of one message. -/
theorem Device.HeardAs.emit {d e : Device} (h : d.HeardAs e) (o : Out) : d.HeardAs (e.emit o) := by
  obtain ⟨hclear, hframe⟩ := h
  refine ⟨hclear, ?_⟩
  rw [hframe]
  rfl

theorem Device.heardAs_rmHeard (d : Device) : d.HeardAs d.rmHeard := d.heardAs d.mgmt d.out d.freeCounter d.boot

theorem Device.HeardAs.freshBytes {d e : Device} (h : d.HeardAs e) (n : Nat) : d.HeardAs (e.freshBytes n).2 := by
  obtain ⟨k, hframe⟩ := e.freshBytes_frame n
  obtain ⟨hclear, hheard⟩ := h
  rw [hframe]
  refine ⟨hclear, ?_⟩
  rw [hheard]

/-- A command that acts on standby power too and ends in a device that has heard the rack manager. -/
theorem Ends.of_heard {c : Instr} {s : State} {f : Device → Device} {e : Device} {P : Device → Prop}
    (hopen : Gate.standby.isOpen s.dev = true) (hquiet : s.dev.wlog = []) (he : exec c s = onDev .standby f s) (hf : f s.dev = e)
    (hheard : s.dev.HeardAs e) (hP : s.dev.HeardAs e → P e) : Ends c s P := by
  have ⟨_, hframe⟩ := hheard
  subst hf
  exact Ends.of_quiet .standby f he hopen (by rw [hframe]) (by rw [hframe]; exact hquiet) (hP hheard)

/-! ### MCTP control messages (R740) -/

section Mctp
variable {d : Device} {h c : Nat} {data : List Byte} (hh : h < 256) (hc : c < 256)
include hh hc

/-- The bytes of a control message. -/
theorem mctp_fields : leAt (BitVec.ofNat 8 h :: BitVec.ofNat 8 c :: data) 0 1 = h ∧
    leAt (BitVec.ofNat 8 h :: BitVec.ofNat 8 c :: data) 1 1 = c := by
  rw [leAt_cons_succ, leAt_cons_zero, leAt_cons_zero, toNat_ofNat_byte hh, toNat_ofNat_byte hc]
  exact ⟨rfl, rfl⟩

theorem fxMctpControlMessage_of_response (hresponse : h < 128) :
    fxMctpControlMessage (BitVec.ofNat 8 h :: BitVec.ofNat 8 c :: data) d = d.rmHeard := by
  obtain ⟨hhead, hcmd⟩ := mctp_fields (data := data) hh hc
  rw [fxMctpControlMessage, hhead]
  exact if_pos (by simp [hresponse])

/-- What a request is answered with, by its command. -/
theorem fxMctpControlMessage_of_request (hrequest : 128 ≤ h) :
    (c = 1 → fxMctpControlMessage (BitVec.ofNat 8 h :: BitVec.ofNat 8 c :: data) d = d.rmHeard.setEndpoint h data) ∧
    (c = 2 → fxMctpControlMessage (BitVec.ofNat 8 h :: BitVec.ofNat 8 c :: data) d =
      d.rmHeard.mctpAnswer h 2 0 [BitVec.ofNat 8 d.mgmt.eid, 0, 0]) ∧
    (c = 4 ∨ c = 6 → ∃ e o, fxMctpControlMessage (BitVec.ofNat 8 h :: BitVec.ofNat 8 c :: data) d = e.emit o ∧
      (e = d.rmHeard ∨ ∃ n, e = (d.rmHeard.freshBytes n).2)) ∧
    (c = 5 → fxMctpControlMessage (BitVec.ofNat 8 h :: BitVec.ofNat 8 c :: data) d = d.rmHeard.mctpAnswer h 5 0 [2, 0x01, 0x7E]) ∧
    (c = 0 ∨ c = 3 ∨ 6 < c → fxMctpControlMessage (BitVec.ofNat 8 h :: BitVec.ofNat 8 c :: data) d = d.rmHeard.mctpAnswer h c 5 []) := by
  obtain ⟨hhead, hcmd⟩ := mctp_fields (data := data) hh hc
  rw [fxMctpControlMessage, hhead, hcmd, if_neg (by simp; omega)]
  refine ⟨fun h1 => ?_, fun h2 => ?_, fun h46 => ?_, fun h5 => ?_, fun hno => ?_⟩
  · rw [h1]
    rfl
  · rw [h2]
    rfl
  · rcases h46 with h4 | h6
    · rw [h4]
      simp only
      split
      · exact ⟨_, _, rfl, .inr ⟨4, rfl⟩⟩
      · exact ⟨_, _, rfl, .inl rfl⟩
    · rw [h6]
      simp only
      split
      · exact ⟨_, _, rfl, .inr ⟨2, rfl⟩⟩
      · exact ⟨_, _, rfl, .inl rfl⟩
  · rw [h5]
    rfl
  · split <;> [omega; omega; omega; omega; omega; rfl]

end Mctp

/-- R740: an endpoint ID is taken where it is one that may be assigned. -/
theorem Device.setEndpoint_of_good (d : Device) (h : Nat) {o e : Byte} (ho : o.toNat % 4 ≤ 1) (he : 8 ≤ e.toNat) (he' : e.toNat ≠ 255) :
    d.setEndpoint h [o, e] = ({ d with mgmt := { d.mgmt with eid := e.toNat } } : Device).mctpAnswer h 1 0 [0, e, 0] := by
  have heid : leAt [o, e] 1 1 = e.toNat := leAt_cons_zero e []
  rw [Device.setEndpoint, heid, leAt_cons_zero]
  refine (if_neg ?_).trans ?_
  · simp only [Bool.or_eq_true, decide_eq_true_eq, not_or]
    omega
  · rw [BitVec.ofNat_toNat, BitVec.setWidth_eq]

theorem Device.setEndpoint_of_bad (d : Device) (h : Nat) {o e : Byte} (he : e.toNat < 8 ∨ e.toNat = 255) :
    d.setEndpoint h [o, e] = d.mctpAnswer h 1 2 [] := by
  have heid : leAt [o, e] 1 1 = e.toNat := leAt_cons_zero e []
  rw [Device.setEndpoint, heid]
  refine if_pos ?_
  simp only [Bool.or_eq_true, decide_eq_true_eq]
  omega

/-! ### PLDM (R740, R743, R811) -/

section Pldm
variable {d : Device} {h c : Nat} {data : List Byte} (hh : h < 256) (hc : c < 256) (hrequest : 128 ≤ h)
include hh hc hrequest

/-- What a request of type 0 is answered with, by its command. -/
theorem fxPldmBaseDiscovery_of_request :
    (∀ t : Byte, c = 1 → data = [t] → t.toNat ≠ 0 → t.toNat ≠ 255 →
      fxPldmBaseDiscovery (BitVec.ofNat 8 h :: 0 :: BitVec.ofNat 8 c :: data) d =
        ({ d.rmHeard with mgmt := { d.mgmt with tid := t.toNat } } : Device).pldmAnswer h 0 1 0 []) ∧
    (c = 2 → fxPldmBaseDiscovery (BitVec.ofNat 8 h :: 0 :: BitVec.ofNat 8 c :: data) d =
      d.rmHeard.pldmAnswer h 0 2 0 [BitVec.ofNat 8 d.mgmt.tid]) ∧
    (c = 4 → fxPldmBaseDiscovery (BitVec.ofNat 8 h :: 0 :: BitVec.ofNat 8 c :: data) d =
      d.rmHeard.pldmAnswer h 0 4 0 [0x25, 0, 0, 0, 0, 0, 0, 0]) ∧
    (c = 3 ∨ c = 5 → ∃ e o, fxPldmBaseDiscovery (BitVec.ofNat 8 h :: 0 :: BitVec.ofNat 8 c :: data) d = e.emit o ∧
      (e = d.rmHeard ∨ ∃ n, e = (d.rmHeard.freshBytes n).2)) ∧
    (c = 0 ∨ 5 < c → fxPldmBaseDiscovery (BitVec.ofNat 8 h :: 0 :: BitVec.ofNat 8 c :: data) d = d.rmHeard.pldmAnswer h 0 c 5 []) := by
  have hhead : leAt (BitVec.ofNat 8 h :: 0 :: BitVec.ofNat 8 c :: data) 0 1 = h := by rw [leAt_cons_zero, toNat_ofNat_byte hh]
  have hcmd : leAt (BitVec.ofNat 8 h :: 0 :: BitVec.ofNat 8 c :: data) 2 1 = c := by
    rw [leAt_cons_succ, leAt_cons_succ, leAt_cons_zero, toNat_ofNat_byte hc]
  rw [fxPldmBaseDiscovery, hhead, hcmd, if_neg (by simp; omega)]
  refine ⟨fun t h1 hdata h0 h255 => ?_, fun h2 => ?_, fun h4 => ?_, fun h35 => ?_, fun hno => ?_⟩
  · have htid : leAt (List.drop 3 (BitVec.ofNat 8 h :: 0 :: BitVec.ofNat 8 c :: data)) 0 1 = t.toNat := by
      rw [hdata]
      exact leAt_cons_zero t []
    rw [htid, h1]
    exact if_neg (by simp [h0, h255])
  · rw [h2]
    rfl
  · rw [h4]
    rfl
  · rcases h35 with h3 | h5
    · rw [h3]
      simp only
      split
      · exact ⟨_, _, rfl, .inr ⟨8, rfl⟩⟩
      · exact ⟨_, _, rfl, .inl rfl⟩
    · rw [h5]
      simp only
      split
      · exact ⟨_, _, rfl, .inr ⟨32, rfl⟩⟩
      · exact ⟨_, _, rfl, .inl rfl⟩
  · split <;> [omega; omega; omega; omega; omega; rfl]

end Pldm

theorem Device.standby_rmHeard (d : Device) : d.rmHeard.standby = d.standby := by
  rw [Device.standby, Device.rmHeard, Device.regField_setRegField_above _ _ (by decide) (by decide) (by decide), Device.standby]

/-- R811: the slot not in use is the same before and after a message. -/
theorem Device.spareFw_rmHeard (d : Device) : d.rmHeard.spareFw = d.spareFw := by
  have hfrom : d.rmHeard.bootFrom = d.bootFrom := Device.regField_setRegField_other _ _ _ _ _ _ (by decide)
  rw [Device.spareFw, hfrom]
  rfl

theorem Boot.activate_setFw (x : Boot) (b : Bool) (f : FwSlot) : (x.setFw b f).activate = x.activate := by
  rw [Boot.setFw]
  split <;> rfl

/-! ### Sensors and firmware (R743, R811) -/

theorem fxPldmSensorRead_of_unknown {n : Nat} (d : Device) (h : Nat) (hn : pldmSensor n = false) :
    fxPldmSensorRead h n d = d.rmHeard.pldmAnswer h 2 0x11 0x80 [] := if_pos (by simp [hn])

theorem fxPldmSensorRead_of_read {n : Nat} {d : Device} (h : Nat) (hn : pldmSensor n = true) (hon : d.standby = false ∨ (n ≠ 0x20 ∧ n ≠ 0x21)) :
    fxPldmSensorRead h n d = d.rmHeard.pldmAnswer h 2 0x11 0 ([4, 0, 0, 1, 1, 1] ++ leBytes 4 (Table.getD d.sensors n 0)) := by
  have hread : (d.rmHeard.standby && (n == 0x20 || n == 0x21)) = false := by
    rw [Device.standby_rmHeard]
    rcases hon with hon | ⟨h20, h21⟩
    · simp [hon]
    · simp [h20, h21]
  rw [fxPldmSensorRead, if_neg (by simp [hn]), hread]
  rfl

theorem fxPldmSensorRead_of_standby {n : Nat} {d : Device} (h : Nat) (hn : n = 0x20 ∨ n = 0x21) (hoff : d.standby = true) :
    fxPldmSensorRead h n d = d.rmHeard.pldmAnswer h 2 0x11 0 ([4, 2, 0, 1, 1, 1] ++ leBytes 4 0) := by
  have hread : (d.rmHeard.standby && (n == 0x20 || n == 0x21)) = true := by
    rw [Device.standby_rmHeard, hoff]
    simpa using hn
  rw [fxPldmSensorRead, if_neg (by rcases hn with rfl | rfl <;> decide), hread]
  rfl

theorem fxPldmFirmwareUpdate_of_other {n : Nat} {image : List Byte} (d : Device) (h : Nat) (act : Bool)
    (hother : n ≠ 1 ∨ 16777216 < image.length) :
    fxPldmFirmwareUpdate h n image act d = d.rmHeard.pldmAnswer h 5 0x14 2 [] := by
  rw [fxPldmFirmwareUpdate, if_pos (by simpa using hother)]

section Firmware
variable {d : Device} {image : List Byte} (hlen : image.length ≤ 16777216) (h : Nat) (act : Bool)
include hlen

theorem fxPldmFirmwareUpdate_of_good (hgood : (FwSlot.ofImage image).good = true) : fxPldmFirmwareUpdate h 1 image act d =
    { (d.rmHeard.emit (.mctp 1 [BitVec.ofNat 8 (128 + h % 32), 5, 0x17, 0])).emit (.mctp 1 [BitVec.ofNat 8 (128 + h % 32), 5, 0x18, 0, 0, 0]) with
      boot := { d.boot.setFw d.spareFw (FwSlot.ofImage image) with activate := d.boot.activate || act } } := by
  rw [fxPldmFirmwareUpdate, if_neg (by simpa using hlen)]
  dsimp only
  rw [if_neg (by simp [hgood]), Device.spareFw_rmHeard, ← Boot.activate_setFw d.boot d.spareFw (FwSlot.ofImage image)]
  rfl

theorem fxPldmFirmwareUpdate_of_bad (hbad : (FwSlot.ofImage image).good = false) : fxPldmFirmwareUpdate h 1 image act d =
    { d.rmHeard with boot := d.boot.setFw d.spareFw (FwSlot.ofImage image) }.emit (.mctp 1 [BitVec.ofNat 8 (128 + h % 32), 5, 0x17, 1]) := by
  rw [fxPldmFirmwareUpdate, if_neg (by simpa using hlen)]
  dsimp only
  rw [if_pos (by simp [hbad]), Device.spareFw_rmHeard]
  rfl

end Firmware

/-! ### The obligation -/

section Messages
variable {s : State} (hopen : Gate.standby.isOpen s.dev = true) (hquiet : s.dev.wlog = [])
include hopen hquiet

/-- The control messages of a bus owner. -/
theorem mctpControlMessage_ends (h c : Nat) (data : List Byte) (hh : h < 256) (hc : c < 256) :
    (h < 128 → Ends (.mctpControlMessage (BitVec.ofNat 8 h :: BitVec.ofNat 8 c :: data)) s (fun d =>
      (s.dev.HeardAs d ∧ d.out = s.dev.out ++ []) ∧ d.mgmt = s.dev.mgmt)) ∧
    (128 ≤ h →
      (∀ o e : Byte, c = 1 → data = [o, e] → o.toNat % 4 ≤ 1 → 8 ≤ e.toNat → e.toNat ≠ 255 →
        Ends (.mctpControlMessage (BitVec.ofNat 8 h :: BitVec.ofNat 8 c :: data)) s (fun d =>
          (s.dev.HeardAs d ∧ d.out = s.dev.out ++ [.mctp 0 [BitVec.ofNat 8 (h % 128), 1, 0, 0, e, 0]]) ∧
            d.mgmt = { s.dev.mgmt with eid := e.toNat })) ∧
      (∀ o e : Byte, c = 1 → data = [o, e] → e.toNat < 8 ∨ e.toNat = 255 →
        Ends (.mctpControlMessage (BitVec.ofNat 8 h :: BitVec.ofNat 8 c :: data)) s (fun d =>
          (s.dev.HeardAs d ∧ d.out = s.dev.out ++ [.mctp 0 [BitVec.ofNat 8 (h % 128), 1, 2]]) ∧ d.mgmt = s.dev.mgmt)) ∧
      (c = 2 → Ends (.mctpControlMessage (BitVec.ofNat 8 h :: BitVec.ofNat 8 c :: data)) s (fun d =>
        (s.dev.HeardAs d ∧ d.out = s.dev.out ++ [.mctp 0 [BitVec.ofNat 8 (h % 128), 2, 0, BitVec.ofNat 8 s.dev.mgmt.eid, 0, 0]]) ∧
          d.mgmt = s.dev.mgmt)) ∧
      (c = 4 ∨ c = 6 → Ends (.mctpControlMessage (BitVec.ofNat 8 h :: BitVec.ofNat 8 c :: data)) s (fun d =>
        s.dev.HeardAs d ∧ d.out.length = s.dev.out.length + 1 ∧ d.mgmt = s.dev.mgmt ∧ d.boot = s.dev.boot)) ∧
      (c = 5 → Ends (.mctpControlMessage (BitVec.ofNat 8 h :: BitVec.ofNat 8 c :: data)) s (fun d =>
        (s.dev.HeardAs d ∧ d.out = s.dev.out ++ [.mctp 0 [BitVec.ofNat 8 (h % 128), 5, 0, 2, 1, 0x7E]]) ∧ d.mgmt = s.dev.mgmt)) ∧
      (c = 0 ∨ c = 3 ∨ 6 < c → Ends (.mctpControlMessage (BitVec.ofNat 8 h :: BitVec.ofNat 8 c :: data)) s (fun d =>
        (s.dev.HeardAs d ∧ d.out = s.dev.out ++ [.mctp 0 [BitVec.ofNat 8 (h % 128), BitVec.ofNat 8 c, 5]]) ∧ d.mgmt = s.dev.mgmt))) := by
  refine ⟨fun hresponse => ?_, fun hrequest => ?_⟩
  · exact Ends.of_heard hopen hquiet rfl (fxMctpControlMessage_of_response hh hc hresponse) s.dev.heardAs_rmHeard
      fun hheard => ⟨⟨hheard, (List.append_nil _).symm⟩, rfl⟩
  obtain ⟨hone, htwo, hfree, hfive, hno⟩ := fxMctpControlMessage_of_request (d := s.dev) (data := data) hh hc hrequest
  refine ⟨fun o e h1 hdata ho he he' => ?_, fun o e h1 hdata he => ?_, fun h2 => ?_, fun h46 => ?_, fun h5 => ?_, fun h0 => ?_⟩
  · rw [hdata] at hone ⊢
    exact Ends.of_heard hopen hquiet rfl ((hone h1).trans (Device.setEndpoint_of_good _ _ ho he he'))
      (s.dev.heardAs { s.dev.mgmt with eid := e.toNat } _ s.dev.freeCounter s.dev.boot) fun hheard => ⟨⟨hheard, rfl⟩, rfl⟩
  · rw [hdata] at hone ⊢
    exact Ends.of_heard hopen hquiet rfl ((hone h1).trans (Device.setEndpoint_of_bad _ _ he)) (s.dev.heardAs_rmHeard.emit _)
      fun hheard => ⟨⟨hheard, rfl⟩, rfl⟩
  · exact Ends.of_heard hopen hquiet rfl (htwo h2) (s.dev.heardAs_rmHeard.emit _) fun hheard => ⟨⟨hheard, rfl⟩, rfl⟩
  · obtain ⟨e, o, heffect, he⟩ := hfree h46
    rcases he with rfl | ⟨n, rfl⟩
    · exact Ends.of_heard hopen hquiet rfl heffect (s.dev.heardAs_rmHeard.emit _) fun hheard => ⟨hheard, List.length_append, rfl, rfl⟩
    · obtain ⟨k, hfresh⟩ := s.dev.rmHeard.freshBytes_frame n
      rw [hfresh] at heffect
      exact Ends.of_heard hopen hquiet rfl heffect ((s.dev.heardAs s.dev.mgmt s.dev.out k s.dev.boot).emit _)
        fun hheard => ⟨hheard, List.length_append, rfl, rfl⟩
  · exact Ends.of_heard hopen hquiet rfl (hfive h5) (s.dev.heardAs_rmHeard.emit _) fun hheard => ⟨⟨hheard, rfl⟩, rfl⟩
  · exact Ends.of_heard hopen hquiet rfl (hno h0) (s.dev.heardAs_rmHeard.emit _) fun hheard => ⟨⟨hheard, rfl⟩, rfl⟩

/-- PLDM messages of type 0. -/
theorem pldmBaseDiscovery_ends (h c : Nat) (data : List Byte) (hrequest : 128 ≤ h) (hh : h < 256) (hc : c < 256) :
    (∀ t : Byte, c = 1 → data = [t] → t.toNat ≠ 0 → t.toNat ≠ 255 →
      Ends (.pldmBaseDiscovery (BitVec.ofNat 8 h :: 0 :: BitVec.ofNat 8 c :: data)) s (fun d =>
        (s.dev.HeardAs d ∧ d.out = s.dev.out ++ [.mctp 1 [BitVec.ofNat 8 (h % 128), 0, 1, 0]]) ∧ d.mgmt = { s.dev.mgmt with tid := t.toNat })) ∧
    (c = 2 → Ends (.pldmBaseDiscovery (BitVec.ofNat 8 h :: 0 :: BitVec.ofNat 8 c :: data)) s (fun d =>
      (s.dev.HeardAs d ∧ d.out = s.dev.out ++ [.mctp 1 [BitVec.ofNat 8 (h % 128), 0, 2, 0, BitVec.ofNat 8 s.dev.mgmt.tid]]) ∧
        d.mgmt = s.dev.mgmt)) ∧
    (c = 4 → Ends (.pldmBaseDiscovery (BitVec.ofNat 8 h :: 0 :: BitVec.ofNat 8 c :: data)) s (fun d =>
      (s.dev.HeardAs d ∧ d.out = s.dev.out ++ [.mctp 1 [BitVec.ofNat 8 (h % 128), 0, 4, 0, 0x25, 0, 0, 0, 0, 0, 0, 0]]) ∧
        d.mgmt = s.dev.mgmt)) ∧
    (c = 3 ∨ c = 5 → Ends (.pldmBaseDiscovery (BitVec.ofNat 8 h :: 0 :: BitVec.ofNat 8 c :: data)) s (fun d =>
      s.dev.HeardAs d ∧ d.out.length = s.dev.out.length + 1 ∧ d.mgmt = s.dev.mgmt)) ∧
    (c = 0 ∨ 5 < c → Ends (.pldmBaseDiscovery (BitVec.ofNat 8 h :: 0 :: BitVec.ofNat 8 c :: data)) s (fun d =>
      (s.dev.HeardAs d ∧ d.out = s.dev.out ++ [.mctp 1 [BitVec.ofNat 8 (h % 128), 0, BitVec.ofNat 8 c, 5]]) ∧ d.mgmt = s.dev.mgmt)) := by
  obtain ⟨hone, htwo, hfour, hfree, hno⟩ := fxPldmBaseDiscovery_of_request (d := s.dev) (data := data) hh hc hrequest
  refine ⟨fun t h1 hdata h0 h255 => ?_, fun h2 => ?_, fun h4 => ?_, fun h35 => ?_, fun h0 => ?_⟩
  · exact Ends.of_heard hopen hquiet rfl (hone t h1 hdata h0 h255)
      (s.dev.heardAs { s.dev.mgmt with tid := t.toNat } _ s.dev.freeCounter s.dev.boot) fun hheard => ⟨⟨hheard, rfl⟩, rfl⟩
  · exact Ends.of_heard hopen hquiet rfl (htwo h2) (s.dev.heardAs_rmHeard.emit _) fun hheard => ⟨⟨hheard, rfl⟩, rfl⟩
  · exact Ends.of_heard hopen hquiet rfl (hfour h4) (s.dev.heardAs_rmHeard.emit _) fun hheard => ⟨⟨hheard, rfl⟩, rfl⟩
  · obtain ⟨e, o, heffect, he⟩ := hfree h35
    rcases he with rfl | ⟨n, rfl⟩
    · exact Ends.of_heard hopen hquiet rfl heffect (s.dev.heardAs_rmHeard.emit _) fun hheard => ⟨hheard, List.length_append, rfl⟩
    · obtain ⟨k, hfresh⟩ := s.dev.rmHeard.freshBytes_frame n
      rw [hfresh] at heffect
      exact Ends.of_heard hopen hquiet rfl heffect ((s.dev.heardAs s.dev.mgmt s.dev.out k s.dev.boot).emit _)
        fun hheard => ⟨hheard, List.length_append, rfl⟩
  · exact Ends.of_heard hopen hquiet rfl (hno h0) (s.dev.heardAs_rmHeard.emit _) fun hheard => ⟨⟨hheard, rfl⟩, rfl⟩

/-- Firmware brought into the slot not in use. -/
theorem pldmFirmwareUpdate_ends (h : Nat) {image : List Byte} (act : Bool) (hlen : image.length ≤ 16777216) :
    Ends (.pldmFirmwareUpdate h 1 image act) s (fun d =>
      ((FwSlot.ofImage image).good = true → (s.dev.HeardAs d ∧ d.out = s.dev.out ++
          [.mctp 1 [BitVec.ofNat 8 (128 + h % 32), 5, 0x17, 0], .mctp 1 [BitVec.ofNat 8 (128 + h % 32), 5, 0x18, 0, 0, 0]]) ∧
        d.boot = { s.dev.boot.setFw s.dev.spareFw (FwSlot.ofImage image) with activate := s.dev.boot.activate || act }) ∧
      ((FwSlot.ofImage image).good = false → (s.dev.HeardAs d ∧ d.out = s.dev.out ++ [.mctp 1 [BitVec.ofNat 8 (128 + h % 32), 5, 0x17, 1]]) ∧
        d.boot = s.dev.boot.setFw s.dev.spareFw (FwSlot.ofImage image))) := by
  cases hslot : (FwSlot.ofImage image).good with
  | true =>
    refine Ends.of_heard hopen hquiet rfl (fxPldmFirmwareUpdate_of_good hlen h act hslot) (s.dev.heardAs s.dev.mgmt _ s.dev.freeCounter _)
      fun hheard => ⟨fun _ => ⟨⟨hheard, ?_⟩, rfl⟩, fun hbad => absurd hbad (by simp)⟩
    exact List.append_assoc _ _ _
  | false =>
    exact Ends.of_heard hopen hquiet rfl (fxPldmFirmwareUpdate_of_bad hlen h act hslot)
      ((s.dev.heardAs s.dev.mgmt s.dev.out s.dev.freeCounter _).emit _)
      fun hheard => ⟨fun hgood => absurd hgood (by simp), fun _ => ⟨⟨hheard, rfl⟩, rfl⟩⟩

end Messages

/-- Settles O59: each message clears the sign of the rack manager's loss and is answered as its equation above says. The layouts are the
model's choice (log entry 45). -/
theorem managementMessages : Obligations.ManagementMessages := by
  unfold Obligations.ManagementMessages
  intro s htripped hquiet hstandby hio hheld heard gives
  have hopen : Gate.standby.isOpen s.dev = true := by
    rcases hheld with hheld | hheld <;> simp [Gate.isOpen, htripped, hstandby, hio, hheld]
  refine ⟨fun h c data hh hc => mctpControlMessage_ends hopen hquiet h c data hh hc,
    fun h c data hrequest hh hc => pldmBaseDiscovery_ends hopen hquiet h c data hrequest hh hc,
    fun h n => ⟨fun hn => ?unknown, fun hn hon => ?read, fun hoff hn => ?off⟩,
    fun h n image act => ⟨fun hother => ?other, fun hn hlen => ?firmware⟩, fun a => ?address⟩
  case unknown =>
    exact Ends.of_heard hopen hquiet rfl (fxPldmSensorRead_of_unknown _ _ hn) (s.dev.heardAs_rmHeard.emit _) fun hheard => ⟨hheard, rfl⟩
  case read =>
    exact Ends.of_heard hopen hquiet rfl (fxPldmSensorRead_of_read _ hn hon) (s.dev.heardAs_rmHeard.emit _) fun hheard => ⟨hheard, rfl⟩
  case off =>
    exact Ends.of_heard hopen hquiet rfl (fxPldmSensorRead_of_standby _ hn hoff) (s.dev.heardAs_rmHeard.emit _) fun hheard => ⟨hheard, rfl⟩
  case other =>
    exact Ends.of_heard hopen hquiet rfl (fxPldmFirmwareUpdate_of_other _ _ _ hother) (s.dev.heardAs_rmHeard.emit _)
      fun hheard => ⟨⟨hheard, rfl⟩, rfl⟩
  case firmware =>
    subst hn
    exact pldmFirmwareUpdate_ends hopen hquiet h act hlen
  case address =>
    have heffect : fxI3cDynamicAddressAssignment a s.dev =
        { s.dev with mgmt := if 8 ≤ a ∧ a ≤ 0x7D then { s.dev.mgmt with i3c := a } else s.dev.mgmt } := by
      rw [fxI3cDynamicAddressAssignment]
      by_cases ha : 8 ≤ a ∧ a ≤ 0x7D
      · rw [if_neg (by simp; omega), if_pos ha]
      · rw [if_pos (by simp; omega), if_neg ha]
    exact Ends.of_quiet .standby _ rfl hopen (by rw [heffect]) (by rw [heffect]; exact hquiet) heffect

end Sys2Proof.Machine
end

section
/-!
SUPPORT. What the end of requests, of their chains and of the steps admitted for them leaves unchanged (R521, R543, R546, R561, R697).
-/
namespace Sys2Proof.Machine

/-- What the end of a request, of a chain or of an admitted step can change: the commands and their answers, the sequences and what hangs
on them, the partitions' admitted steps with their rings, the channels that serve the rings. -/
def RequestWork (d e : Device) : Prop := ∃ staged records out rows seqs prefixes readOnly chains parts arrived movers fences,
  e = { d with staged := staged, records := records, out := out, rows := rows, seqs := seqs, prefixes := prefixes, readOnly := readOnly
               chains := chains, parts := parts, arrived := arrived, movers := movers, fences := fences }

namespace RequestWork

theorem refl (d : Device) : RequestWork d d := ⟨_, _, _, _, _, _, _, _, _, _, _, _, rfl⟩

theorem trans {d e f : Device} (h : RequestWork d e) (h' : RequestWork e f) : RequestWork d f := by
  obtain ⟨_, _, _, _, _, _, _, _, _, _, _, _, rfl⟩ := h
  obtain ⟨_, _, _, _, _, _, _, _, _, _, _, _, rfl⟩ := h'
  exact ⟨_, _, _, _, _, _, _, _, _, _, _, _, rfl⟩

theorem foldl {α : Type} {f : Device → α → Device} (hf : ∀ d a, RequestWork d (f d a)) (l : List α) (d : Device) :
    RequestWork d (l.foldl f d) := by
  induction l generalizing d with
  | nil => exact refl d
  | cons a l ih => exact (hf d a).trans (ih _)

theorem ite {d e f : Device} {c : Prop} [Decidable c] (he : RequestWork d e) (hf : RequestWork d f) : RequestWork d (if c then e else f) := by
  split
  · exact he
  · exact hf

theorem completeOpt (d : Device) (c : Option CmdRef) (st : Nat) (v : List Byte) : RequestWork d (d.completeOpt c st v) := by
  rw [d.completeOpt_frame c st v]
  exact ⟨_, _, _, _, _, _, _, _, _, _, _, _, rfl⟩

theorem complete (d : Device) (c : CmdRef) (st : Nat) (v : List Byte) : RequestWork d (d.complete c st v) := completeOpt d (some c) st v

theorem modPart (d : Device) (p : Nat) (f : Partition → Partition) : RequestWork d (d.modPart p f) :=
  ⟨_, _, _, _, _, _, _, _, _, _, _, _, rfl⟩

theorem endFill (d : Device) (chan uid : Nat) : RequestWork d ((d.forget uid).endRingWork chan uid) :=
  ⟨_, _, _, _, _, _, _, _, _, _, _, _, rfl⟩

theorem ringsDrop (d : Device) (p uid : Nat) : RequestWork d (d.ringsDrop p uid) := by
  rw [Device.ringsDrop]
  exact (foldl (fun d (e : Nat × Nat) => endFill d (16 * p + e.1 / 4) e.2) _ _).trans (modPart _ _ _)

theorem dropChain (d : Device) (id : Nat) : RequestWork d (d.dropChain id) := by
  have hchains : RequestWork d { d with chains := d.chains.filter (fun c => c.id != id) } := ⟨_, _, _, _, _, _, _, _, _, _, _, _, rfl⟩
  have hsteps (d : Device) (p : Nat) (l : List StepInst) : RequestWork d (l.foldl (fun d s => d.ringsDrop p s.uid) d) :=
    foldl (fun d s => ringsDrop d p s.uid) l d
  rw [Device.dropChain]
  exact hchains.trans (foldl (fun d p => (hsteps d p _).trans (modPart _ _ _)) _ _)

theorem freeSeq (d : Device) (job id : Nat) : RequestWork d (d.freeSeq job id) := by
  rw [Device.freeSeq]
  split
  · exact ⟨_, _, _, _, _, _, _, _, _, _, _, _, rfl⟩
  · obtain ⟨prefixes, readOnly, hprefix⟩ := Device.dropPrefix_frame { d with seqs := Table.drop d.seqs (seqKey job id) } (d.seq job id).prefixId
    rw [hprefix]
    exact ⟨_, _, _, _, _, _, _, _, _, _, _, _, rfl⟩

theorem endRequest (d : Device) (job id st : Nat) : RequestWork d (d.endRequest job id st) := by
  have hrows (d : Device) (l : List SamplerRow) : RequestWork d { d with rows := l } := ⟨_, _, _, _, _, _, _, _, _, _, _, _, rfl⟩
  have hend {e : Device} (c : Bool) (x : Seq) (h : RequestWork d e) :
      RequestWork d (if c then e.setSeq job id x else e.freeSeq job id) :=
    ite (h.trans ⟨_, _, _, _, _, _, _, _, _, _, _, _, rfl⟩) (h.trans (freeSeq e job id))
  exact hend _ _ ((completeOpt d _ _ _).trans (hrows _ _))

theorem endChainRequest (d : Device) (c : Chain) (st : Nat) : RequestWork d (d.endChainRequest c st) := by
  rw [Device.endChainRequest]
  exact ite ((dropChain d c.id).trans (endRequest _ _ _ _)) (dropChain d c.id)

theorem cancelSeq (d : Device) (job id : Nat) (q : Seq) : RequestWork d (d.cancelSeq job id q) := by
  rw [Device.cancelSeq]
  split
  · split
    · next c _ =>
      have hmark : RequestWork d (d.modChain c.id (fun c => { c with dropped := true })) := ⟨_, _, _, _, _, _, _, _, _, _, _, _, rfl⟩
      rw [Device.endCancelled]
      exact ite (hmark.trans (endChainRequest _ _ _)) hmark
    · exact endRequest d job id _
  · exact trans (e := d.dropKvFences job id) ⟨_, _, _, _, _, _, _, _, _, _, _, _, rfl⟩ (endRequest _ _ _ _)
  · exact ite ⟨_, _, _, _, _, _, _, _, _, _, _, _, rfl⟩ (endRequest d job id _)
  · exact refl d

theorem cancelRequest (d : Device) (k : Nat) : RequestWork d (d.cancelRequest k) := by
  rw [Device.cancelRequest]
  split
  · exact cancelSeq _ _ _ _
  · exact refl d

theorem pcie {d e : Device} (h : RequestWork d e) : e.pcie = d.pcie := by
  obtain ⟨_, _, _, _, _, _, _, _, _, _, _, _, rfl⟩ := h
  rfl

end RequestWork

/-! ### The reset of a function (R697, R698) -/

theorem Device.foldl_pcie {α : Type} {f : Device → α → Device} (hf : ∀ d a, (f d a).pcie = d.pcie) (l : List α) (d : Device) :
    (l.foldl f d).pcie = d.pcie := by
  induction l generalizing d with
  | nil => rfl
  | cons a l ih => exact (ih (f d a)).trans (hf d a)

theorem Device.pcie_sesDisable (d : Device) (s : Nat) : (d.sesDisable s).pcie = d.pcie := by
  have hsettle (d : Device) : (d.sesSettle s).pcie = d.pcie := by
    rw [Device.sesSettle]
    split <;> rfl
  rw [Device.sesDisable]
  split
  · rfl
  · exact (hsettle _).trans (Device.foldl_pcie (fun d _ => (RequestWork.complete d _ _ _).pcie) _ _)

theorem Device.pcie_resetFunction (d : Device) (fn : Nat) : (d.resetFunction fn).pcie = d.pcie :=
  (Device.foldl_pcie (fun d _ => (RequestWork.cancelRequest d _).pcie) _ _).trans
    (Device.foldl_pcie (fun d s => Device.pcie_sesDisable (d.modSession s (fun x => { x with silent := true })) s) _ _)

/-- R698: the physical function's reset clears VF Enable, and nothing else of the configuration space. -/
theorem Device.pcie_resetPf (d : Device) : d.resetPf.pcie = { d.pcie with vfEnable := false } := by
  have hfunctions := Device.foldl_pcie (fun d fn => Device.pcie_resetFunction d fn) (List.range 64) d
  rw [Device.resetPf, ← hfunctions]

end Sys2Proof.Machine
end

section
/-!
SUPPORT. The JTAG port and the configuration requests (R2, R3, R694 to R699, R801, R894 to R897).
-/
namespace Sys2Proof.Machine

/-! ### Instructions and scans (R894 to R897) -/

theorem fxJtagExtest_of_reset {d : Device} (lands tdi : Nat) (hreset : d.resetRun ≠ none) (hrst : d.supplies.rstHigh = false) :
    fxJtagExtest lands tdi d = (d.jtagLoad 0).jtagScan lands tdi := by
  have hsome : d.resetRun.isSome = true := Option.isSome_iff_ne_none.mpr hreset
  have hextest : (d.jtagLoad 0).extest = (true && d.resetRun.isSome && !d.supplies.rstHigh) := rfl
  rw [fxJtagExtest, if_pos (by rw [hextest, hsome, hrst]; rfl)]

theorem fxJtagExtest_of_running {d : Device} (lands tdi : Nat) (h : d.resetRun = none ∨ d.supplies.rstHigh = true) :
    fxJtagExtest lands tdi d = (d.jtagLoad 0).jtagBypass boundaryCells tdi := by
  have hextest : (d.jtagLoad 0).extest = (true && d.resetRun.isSome && !d.supplies.rstHigh) := rfl
  rw [fxJtagExtest, if_neg (by rw [hextest]; rcases h with h | h <;> simp [h])]

/-- An instruction loaded and a scan through a register: what has left the port. -/
theorem Device.jtagScan_jtagLoad (d : Device) (ir lands tdi : Nat) : (d.jtagLoad ir).jtagScan lands tdi =
    { d with jtag := { d.jtag with ir := ir, boundary := tdi % 2 ^ boundaryCells, update := tdi % 2 ^ boundaryCells }
             out := d.out ++ [.jtag [1], .jtag (leBytes ((boundaryCells + 7) / 8) (lands % 2 ^ boundaryCells))] } :=
  congrArg (fun out => { d with
    jtag := { d.jtag with ir := ir, boundary := tdi % 2 ^ boundaryCells, update := tdi % 2 ^ boundaryCells }, out := out })
    (List.append_assoc d.out _ _)

theorem Device.jtagBypass_jtagLoad (d : Device) (ir n tdi : Nat) : (d.jtagLoad ir).jtagBypass n tdi =
    { d with jtag := { d.jtag with ir := ir, bypass := bitOf tdi (n - 1) }
             out := d.out ++ [.jtag [1], .jtag (leBytes ((n + 7) / 8) (2 * tdi % 2 ^ n))] } :=
  congrArg (fun out => { d with jtag := { d.jtag with ir := ir, bypass := bitOf tdi (n - 1) }, out := out }) (List.append_assoc d.out _ _)

/-! ### Debug accesses (R2, R3) -/

section Debug
variable {d : Device} (hsample : d.sample = true) (hrun : d.resetRun = none)
include hsample hrun

/-- A debug access of a sample part does what its operation says. -/
theorem fxJtagDebugAccess_of_open : ¬(!d.sample || d.resetRun.isSome) = true := by simp [hsample, hrun]

theorem fxJtagDebugAccess_of_command (e : List Byte) :
    fxJtagDebugAccess (.command e) d = (d.takeEntry .jtag .jtag e false).getD d := if_neg (fxJtagDebugAccess_of_open hsample hrun)

theorem fxJtagDebugAccess_of_read {a : Nat} (n : Nat) (hself : d.isSelf (addrDevice a) = true) (hspace : addrSpace a ≠ 6) :
    fxJtagDebugAccess (.read a n) d = d.emit (.jtag (if d.mapped a n then d.readBytes (localKey a) n else [])) := by
  refine (if_neg (fxJtagDebugAccess_of_open hsample hrun)).trans ?_
  refine (if_neg (by simp [hself])).trans ((if_neg hspace).trans ?_)
  split <;> rfl

theorem fxJtagDebugAccess_of_write {a : Nat} (data : List Byte) (h : d.mapped a data.length = true → d.isSelf (addrDevice a) = true)
    (hspace : d.mapped a data.length = true → addrSpace a ≠ 6) :
    fxJtagDebugAccess (.write a data) d = if d.mapped a data.length then d.store (localKey a) data else d := by
  refine (if_neg (fxJtagDebugAccess_of_open hsample hrun)).trans ?_
  by_cases hmapped : d.mapped a data.length = true
  · rw [if_pos hmapped]
    exact (if_neg (by simp [hmapped])).trans ((if_neg (by simp [h hmapped, hspace hmapped])).trans (if_pos (h hmapped)))
  · rw [if_neg hmapped]
    exact if_pos (by simpa using hmapped)

theorem fxJtagDebugAccess_of_readReg (off : Nat) : fxJtagDebugAccess (.readReg off) d =
    (d.readReg .jtag off).2.emit (.jtag (leBytes 4 (d.readReg .jtag off).1)) :=
  if_neg (fxJtagDebugAccess_of_open hsample hrun)

theorem fxJtagDebugAccess_of_writeReg (off v : Nat) : fxJtagDebugAccess (.writeReg off v) d = d.writeReg .jtag off v :=
  if_neg (fxJtagDebugAccess_of_open hsample hrun)

theorem fxJtagDebugAccess_of_readBoot {off n : Nat} (hin : off + n ≤ 16777216) :
    fxJtagDebugAccess (.readControl off n) d = d.emit (.jtag (d.readBytes (bootKey off) n)) :=
  (if_neg (fxJtagDebugAccess_of_open hsample hrun)).trans (if_pos hin)

theorem fxJtagDebugAccess_of_readControl {off n : Nat} (hout : 16777216 < off + n) :
    fxJtagDebugAccess (.readControl off n) d = (d.freshBytes n).2.emit (.jtag (d.freshBytes n).1) :=
  (if_neg (fxJtagDebugAccess_of_open hsample hrun)).trans (if_neg (by omega))

theorem fxJtagDebugAccess_of_writeControl (off : Nat) (b : List Byte) :
    fxJtagDebugAccess (.writeControl off b) d = if off + b.length ≤ 16777216 then d.writeBytes (bootKey off) b else d :=
  if_neg (fxJtagDebugAccess_of_open hsample hrun)

end Debug

theorem fxJtagDebugAccess_of_closed {d : Device} (op : DebugOp) (h : d.sample = false ∨ d.resetRun ≠ none) : fxJtagDebugAccess op d = d := by
  refine if_pos ?_
  rcases h with h | h
  · simp [h]
  · simp [Option.isSome_iff_ne_none.mpr h]

/-- A register's read sends nothing. -/
theorem Device.out_readReg (d : Device) (port : Port) (off : Nat) : (d.readReg port off).2.out = d.out := by
  rw [Device.readReg]
  split
  · rfl
  · split <;> rfl
  · split <;> rfl

/-- An entry taken changes the device beside its memory. -/
theorem Device.takeEntry_quiet {d d₁ : Device} {o : Origin} {port : Port} {e : List Byte} {late : Bool}
    (h : d.takeEntry o port e late = some d₁) : d₁.mem = d.mem ∧ d₁.wlog = d.wlog := by
  by_cases hvalid : d.validateEntry port e = 0
  · unfold Device.takeEntry at h
    dsimp only at h
    rw [if_neg (by simp [hvalid])] at h
    split at h
    · exact absurd h (by simp)
    · rw [← Option.some.inj h]
      exact ⟨rfl, rfl⟩
  · rw [Device.takeEntry_of_invalid late hvalid] at h
    rw [← Option.some.inj h]
    exact ⟨Device.complete_mem _ _ _ _, Device.complete_wlog _ _ _ _⟩

/-! ### A register's fields that take a write (R12) -/

/-- Numbers without a bit in common add without a carry. -/
theorem add_eq_or_of_and_eq_zero {a b : Nat} (h : Nat.land a b = 0) : a + b = Nat.lor a b := by
  have hsum : a + b < 2 ^ (a + b) := Nat.lt_two_pow_self
  have hand : BitVec.ofNat (a + b) a &&& BitVec.ofNat (a + b) b = 0#(a + b) := by
    rw [← BitVec.ofNat_and]
    exact congrArg _ h
  have heq := congrArg BitVec.toNat (BitVec.add_eq_or_of_and_eq_zero _ _ hand)
  rwa [← BitVec.ofNat_add, ← BitVec.ofNat_or, BitVec.toNat_ofNat, BitVec.toNat_ofNat, Nat.mod_eq_of_lt hsum,
    Nat.mod_eq_of_lt (Nat.or_lt_two_pow (by omega) (by omega))] at heq

/-- R12: what a read-write field holds after a write. -/
theorem land_written (old v m : Nat) : Nat.land (old - Nat.land old m + Nat.land v m) m = Nat.land v m := by
  have hsplit : Nat.land old m + Nat.xor old (Nat.land old m) = old := by
    rw [add_eq_or_of_and_eq_zero]
    · refine Nat.eq_of_testBit_eq fun i => ?_
      change ((old &&& m) ||| (old ^^^ (old &&& m))).testBit i = _
      simp only [Nat.testBit_or, Nat.testBit_and, Nat.testBit_xor]
      cases old.testBit i <;> cases m.testBit i <;> rfl
    · refine Nat.eq_of_testBit_eq fun i => ?_
      change ((old &&& m) &&& (old ^^^ (old &&& m))).testBit i = _
      simp only [Nat.testBit_and, Nat.testBit_xor, Nat.zero_testBit]
      cases old.testBit i <;> cases m.testBit i <;> rfl
  rw [show old - Nat.land old m = Nat.xor old (Nat.land old m) by omega, add_eq_or_of_and_eq_zero]
  · refine Nat.eq_of_testBit_eq fun i => ?_
    change (((old ^^^ (old &&& m)) ||| (v &&& m)) &&& m).testBit i = (v &&& m).testBit i
    simp only [Nat.testBit_or, Nat.testBit_and, Nat.testBit_xor]
    cases old.testBit i <;> cases m.testBit i <;> simp
  · refine Nat.eq_of_testBit_eq fun i => ?_
    change ((old ^^^ (old &&& m)) &&& (v &&& m)).testBit i = _
    simp only [Nat.testBit_and, Nat.testBit_xor, Nat.zero_testBit]
    cases old.testBit i <;> cases m.testBit i <;> simp

theorem land_mod_word (n m : Nat) (hm : m < 2 ^ 32) : Nat.land (n % 2 ^ 32) m = Nat.land n m := by
  refine Nat.eq_of_testBit_eq fun i => ?_
  change ((n % 2 ^ 32) &&& m).testBit i = (n &&& m).testBit i
  simp only [Nat.testBit_and, Nat.testBit_mod_two_pow]
  by_cases hi : i < 32
  · simp [hi]
  · have hzero : m.testBit i = false := Nat.testBit_lt_two_pow (hm.trans_le (Nat.pow_le_pow_right (by decide) (by omega)))
    simp [hzero]

/-- HUB_FN_IRQ is a register without a behaviour of its own: its fields take what a port writes. -/
theorem Device.writeReg_fnIrq (d : Device) (v : Nat) : d.writeReg .jtag HUB_FN_IRQ v =
    d.setReg (portKey HUB_FN_IRQ .jtag) (d.portReg .jtag HUB_FN_IRQ - Nat.land (d.portReg .jtag HUB_FN_IRQ) 0xC7FF07FF + Nat.land v 0xC7FF07FF) := by
  have hdesc : descAt HUB_FN_IRQ = some { block := .dev, off := HUB_FN_IRQ, copies := true, rw := 0xC7FF07FF } := by decide +kernel
  have hpair : pairHalf HUB_FN_IRQ = 0 := by decide +kernel
  have hmay : d.mayWrite .jtag HUB_FN_IRQ = true := by
    rw [Device.mayWrite, if_neg (by decide), hdesc]
    rfl
  have hmerge : ({ block := .dev, off := HUB_FN_IRQ, copies := true, rw := 0xC7FF07FF } : RegDesc).merge (d.portReg .jtag HUB_FN_IRQ) v =
      d.portReg .jtag HUB_FN_IRQ - Nat.land (d.portReg .jtag HUB_FN_IRQ) 0xC7FF07FF + Nat.land v 0xC7FF07FF := by
    have hnone : (d.portReg .jtag HUB_FN_IRQ &&& 0) - (d.portReg .jtag HUB_FN_IRQ &&& 0 &&& v) = 0 := by simp
    refine (congrArg (_ + ·) hnone).trans ?_
    rfl
  rw [Device.writeReg, if_neg (by decide), if_neg (by decide), if_neg (by simp [hmay]), hpair, ← hmerge]
  · refine Eq.trans ?_ (rfl : d.write32 .jtag { block := .dev, off := HUB_FN_IRQ, copies := true, rw := 0xC7FF07FF } HUB_FN_IRQ v = _)
    rw [hdesc]
    rfl
  · exact fun h => absurd h (by decide)

theorem Device.portReg_writeReg_fnIrq (d : Device) (v : Nat) :
    Nat.land ((d.writeReg .jtag HUB_FN_IRQ v).portReg .jtag HUB_FN_IRQ) 0xC7FF07FF = Nat.land v 0xC7FF07FF := by
  rw [Device.writeReg_fnIrq, Device.portReg, Device.reg_setReg_same, land_mod_word _ _ (by decide), land_written]

/-! ### Configuration requests (R694 to R699, R801) -/

section Config
variable {d : Device} {fn : Nat} {f : CfgField}

theorem fxConfigurationRequest_of_early (v : Option Nat) (h : d.boot.stage < 2) : fxConfigurationRequest fn f v d = d := if_pos h

theorem fxConfigurationRequest_of_retry (v : Option Nat) (h2 : 2 ≤ d.boot.stage) (h : d.boot.stage < 6 ∨ d.boot.recovery = true) :
    fxConfigurationRequest fn f v d = d.emit (.pcie 2 []) :=
  (if_neg (by omega)).trans (if_pos (by simpa using h))

section Answers
variable (hstage : 6 ≤ d.boot.stage) (hrec : d.boot.recovery = false)
include hstage hrec

theorem fxConfigurationRequest_of_absent (v : Option Nat) (h : 63 < fn ∨ (fn ≠ 0 ∧ d.pcie.vfEnable = false)) :
    fxConfigurationRequest fn f v d = d.emit (.pcie 1 []) :=
  (if_neg (by omega)).trans ((if_neg (by simp [hrec]; omega)).trans (if_pos (by simpa using h)))

variable (hfn : fn = 0 ∨ (fn ≤ 63 ∧ d.pcie.vfEnable = true))
include hfn

theorem fxConfigurationRequest_of_write (v : Nat) : fxConfigurationRequest fn f (some v) d = (d.cfgSet fn f v).emit (.pcie 0 []) := by
  refine (if_neg (by omega)).trans ((if_neg (by simp [hrec]; omega)).trans (if_neg ?_))
  rcases hfn with rfl | ⟨h63, hvf⟩
  · simp
  · simp [hvf]; omega

theorem fxConfigurationRequest_of_read {w : Nat} (hw : d.cfgField fn f = some w) :
    fxConfigurationRequest fn f none d = d.emit (.pcie 0 (leBytes 4 w)) := by
  refine (if_neg (by omega)).trans ((if_neg (by simp [hrec]; omega)).trans ((if_neg ?_).trans ?_))
  · rcases hfn with rfl | ⟨h63, hvf⟩
    · simp
    · simp [hvf]; omega
  · simp only
    rw [hw]

theorem fxConfigurationRequest_of_free (hw : d.cfgField fn f = none) : fxConfigurationRequest fn f none d =
    (d.fresh 32).2.emit (.pcie 0 (leBytes 4 (d.fresh 32).1)) := by
  refine (if_neg (by omega)).trans ((if_neg (by simp [hrec]; omega)).trans ((if_neg ?_).trans ?_))
  · rcases hfn with rfl | ⟨h63, hvf⟩
    · simp
    · simp [hvf]; omega
  · simp only
    rw [hw]

end Answers

/-- R697 to R699: the writes that change the configuration space. -/
theorem Device.cfgSet_bar4 {w : Nat} (h : if fn = 0 then 30 ≤ w ∧ w ≤ 40 else 28 ≤ w ∧ w ≤ 36) :
    d.cfgSet fn .bar4Size w = { d with pcie := { d.pcie with bar4 := Table.put d.pcie.bar4 (min 1 fn) w } } := by
  refine if_pos ?_
  by_cases hfn : fn = 0
  · rw [if_pos hfn] at h ⊢
    simpa using h
  · rw [if_neg hfn] at h ⊢
    simpa using h

theorem Device.cfgSet_bar4_refused {w : Nat} (h : ¬if fn = 0 then 30 ≤ w ∧ w ≤ 40 else 28 ≤ w ∧ w ≤ 36) : d.cfgSet fn .bar4Size w = d := by
  refine if_neg ?_
  by_cases hfn : fn = 0
  · rw [if_pos hfn] at h ⊢
    simpa using h
  · rw [if_neg hfn] at h ⊢
    simpa using h

theorem Device.cfgSet_sleep (h : d.pcie.d3hot.contains fn = false) :
    d.cfgSet fn .power 3 = { d with pcie := { d.pcie with d3hot := fn :: d.pcie.d3hot } } := by
  rw [Device.cfgSet]
  rw [if_pos rfl, h]
  rfl

theorem Device.cfgSet_power_kept {w : Nat} (h : (w ≠ 0 ∧ w ≠ 3) ∨ (w = 3 ∧ d.pcie.d3hot.contains fn = true) ∨
    (w = 0 ∧ d.pcie.d3hot.contains fn = false)) : d.cfgSet fn .power w = d := by
  rcases h with ⟨h0, h3⟩ | ⟨rfl, hin⟩ | ⟨rfl, hout⟩
  · exact (if_neg h3).trans (if_neg (by simp [h0]))
  · rw [Device.cfgSet, if_pos rfl, if_pos hin]
  · rw [Device.cfgSet, if_neg (by decide), hout, if_neg (by simp)]

/-- R697: a function that wakes is reset and no longer in D3hot. -/
theorem Device.cfgSet_wake (h : d.pcie.d3hot.contains fn = true) : (d.cfgSet fn .power 0).pcie.d3hot.contains fn = false := by
  have hgone : (d.pcie.d3hot.filter (· != fn)).contains fn = false := by simp
  have heffect : d.cfgSet fn .power 0 = if fn = 0 then
      ({ d with pcie := { d.pcie with d3hot := d.pcie.d3hot.filter (· != fn) } } : Device).resetPf
    else ({ d with pcie := { d.pcie with d3hot := d.pcie.d3hot.filter (· != fn) } } : Device).resetFunction fn := by
    rw [Device.cfgSet, if_neg (by decide), h, if_pos (by rfl)]
  rw [heffect]
  split
  · rw [Device.pcie_resetPf]
    exact hgone
  · rw [Device.pcie_resetFunction]
    exact hgone

/-- R698: clearing VF Enable leaves no virtual function enabled or asleep. -/
theorem Device.cfgSet_disable {w : Nat} (hw : w % 2 = 0) :
    (d.cfgSet 0 .vfEnable w).pcie.vfEnable = false ∧ ∀ i ∈ (d.cfgSet 0 .vfEnable w).pcie.d3hot, i = 0 := by
  rw [Device.cfgSet, if_neg (by simp), if_neg (by omega)]
  refine ⟨rfl, fun i hi => ?_⟩
  have hzero := (List.mem_filter.mp hi).2
  simpa using hzero

end Config

/-! ### The obligation -/

section Ended
variable {s : State} (htripped : s.dev.supplies.tripped = false) (hquiet : s.dev.wlog = []) (hrun : s.dev.resetRun = none)
  {fn : Nat} {f : CfgField} (hstage : 6 ≤ s.dev.boot.stage) (hrec : s.dev.boot.recovery = false)
  (hfn : fn = 0 ∨ (fn ≤ 63 ∧ s.dev.pcie.vfEnable = true))
include htripped hquiet hrun hstage hrec hfn

/-- A field's read. -/
theorem configurationRequest_reads {w : Nat} (hw : s.dev.cfgField fn f = some w) : Ends (.configurationRequest fn f none) s (fun d =>
    d = { s.dev with out := s.dev.out ++ [.pcie 0 (leBytes 4 w)] }) :=
  Ends.of_effect ⟨htripped, hrun, hquiet⟩ rfl (fxConfigurationRequest_of_read hstage hrec hfn hw) rfl rfl rfl

/-- A field's write that changes the configuration space alone. -/
theorem configurationRequest_keeps {v : Option Nat} {p : Pcie} (hset : ∀ w, v = some w → s.dev.cfgSet fn f w = { s.dev with pcie := p })
    (w : Nat) (hv : v = some w) : Ends (.configurationRequest fn f v) s (fun d =>
      d = { s.dev with pcie := p, out := s.dev.out ++ [.pcie 0 []] }) := by
  have heffect := fxConfigurationRequest_of_write (f := f) hstage hrec hfn w
  rw [hset w hv] at heffect
  subst hv
  exact Ends.of_effect ⟨htripped, hrun, hquiet⟩ rfl heffect rfl rfl rfl

/-- A field that software cannot write. -/
theorem configurationRequest_ignores {v : Option Nat} (hset : ∀ w, s.dev.cfgSet fn f w = s.dev) (w : Nat) (hv : v = some w) :
    Ends (.configurationRequest fn f v) s (fun d => d = { s.dev with pcie := s.dev.pcie, out := s.dev.out ++ [.pcie 0 []] }) :=
  configurationRequest_keeps htripped hquiet hrun hstage hrec hfn (fun w _ => hset w) w hv

end Ended

/-- A write to a field and what it says of the configuration space, whatever else the command resets. -/
theorem configurationRequest_sets {s : State} (hruns : Running s) {fn w : Nat} {f : CfgField} {v : Option Nat}
    (hstage : 6 ≤ s.dev.boot.stage) (hrec : s.dev.boot.recovery = false) (hfn : fn = 0 ∨ (fn ≤ 63 ∧ s.dev.pcie.vfEnable = true))
    (hv : v = some w) {P : Pcie → Prop} (hP : P (s.dev.cfgSet fn f w).pcie) :
    Ends (.configurationRequest fn f v) s (fun d => P d.pcie) := by
  subst hv
  exact Ends.of_landed hruns rfl (congrArg (Device.land · s.dev.mem) (fxConfigurationRequest_of_write (f := f) hstage hrec hfn w)) hP

section Port
variable {s : State} (hreset : Gate.reset.isOpen s.dev = true) (hquiet : s.dev.wlog = [])
include hreset hquiet

/-- A command of the JTAG port that writes no memory. -/
theorem Ends.of_jtag {c : Instr} {f : Device → Device} {d : Device} {P : Device → Prop} (he : exec c s = onDev .reset f s) (hf : f s.dev = d)
    (hm : d.mem = s.dev.mem) (hw : d.wlog = s.dev.wlog) (hP : P d) : Ends c s P := by
  subst hf
  exact Ends.of_quiet .reset f he hreset hm (hw.trans hquiet) hP

omit hquiet in
theorem Ends.of_jtag_landed {c : Instr} {f : Device → Device} {d : Device} {P : Device → Prop} (he : exec c s = onDev .reset f s)
    (hf : (f s.dev).land s.dev.mem = d) (hP : P d) : Ends c s P := by
  subst hf
  exact Ends.of_onDev .reset f he hreset hP

/-- The instructions and their scans. -/
theorem jtagScans_end {m : Nat} (hm : m = 2 ^ boundaryCells) (lands tdi : Nat) :
    (s.dev.resetRun ≠ none → s.dev.supplies.rstHigh = false → Ends (.jtagExtest lands tdi) s (fun d =>
      d = { s.dev with jtag := d.jtag, out := s.dev.out ++ [.jtag [1], .jtag (leBytes 392 (lands % m))] } ∧
      d.jtag = { s.dev.jtag with ir := 0, boundary := tdi % m, update := tdi % m })) ∧
    (s.dev.resetRun = none ∨ s.dev.supplies.rstHigh = true → Ends (.jtagExtest lands tdi) s (fun d =>
      d = { s.dev with jtag := d.jtag, out := s.dev.out ++ [.jtag [1], .jtag (leBytes 392 (2 * tdi % m))] } ∧
      d.jtag = { s.dev.jtag with ir := 0, bypass := bitOf tdi 3130 })) ∧
    Ends (.jtagSamplePreload lands tdi) s (fun d =>
      d = { s.dev with jtag := d.jtag, out := s.dev.out ++ [.jtag [1], .jtag (leBytes 392 (lands % m))] } ∧
      d.jtag = { s.dev.jtag with ir := 1, boundary := tdi % m, update := tdi % m }) := by
  rw [hm]
  refine ⟨fun hheld hrst => ?_, fun h => ?_, ?_⟩
  · exact Ends.of_jtag hreset hquiet rfl ((fxJtagExtest_of_reset lands tdi hheld hrst).trans (Device.jtagScan_jtagLoad _ _ _ _)) rfl rfl
      ⟨rfl, rfl⟩
  · exact Ends.of_jtag hreset hquiet rfl ((fxJtagExtest_of_running lands tdi h).trans (Device.jtagBypass_jtagLoad _ _ _ _)) rfl rfl
      ⟨rfl, rfl⟩
  · exact Ends.of_jtag hreset hquiet rfl (Device.jtagScan_jtagLoad s.dev 1 lands tdi) rfl rfl ⟨rfl, rfl⟩

end Port

/-- Settles O60: each instruction, access and request is the device of its equation above. The configuration space by fields and the power
state of a virtual function (log entry 65), and what else a debug access reaches (log entry 80), are the model's choices. -/
theorem jtagAndConfiguration : Obligations.JtagAndConfiguration := by
  unfold Obligations.JtagAndConfiguration
  intro s htripped hquiet j m gives
  have hreset : Gate.reset.isOpen s.dev = true := by simp [Gate.isOpen, htripped]
  refine ⟨jtagScans_end hreset hquiet (congrArg (2 ^ ·) (rfl : 3131 = boundaryCells)), fun code n tdi => ⟨fun hcode => ?reserved, fun hcode hn => ?loaded, fun hcode hn => ?bypass⟩, ?tapReset,
    fun op hclosed => ?closed, fun hsample hrun => ⟨fun e => ⟨fun d₁ htake => ?command, fun hfull => ?full⟩,
      fun a n hself hspace => ⟨fun hmapped => ?read, fun hunmapped => ?readOutside⟩,
      fun a data => ⟨fun hunmapped => ?writeOutside, fun hmapped hself hspace => ?write⟩, fun off => ?readReg, fun v => ?writeReg,
      fun off n => ⟨fun hin => ?readBoot, fun hout => ?readControl⟩, fun off b => ⟨fun hin => ?writeBoot, fun hout => ?writeControl⟩⟩,
    fun hrun fn f v => ?config⟩
  case reserved => exact Ends.of_jtag hreset hquiet rfl (if_pos hcode) rfl rfl rfl
  case loaded => exact Ends.of_jtag hreset hquiet rfl ((if_neg (by omega)).trans (if_pos hn)) rfl rfl ⟨rfl, rfl⟩
  case bypass =>
    exact Ends.of_jtag hreset hquiet rfl ((if_neg (by omega)).trans ((if_neg (by omega)).trans (Device.jtagBypass_jtagLoad _ _ _ _))) rfl rfl
      ⟨rfl, rfl⟩
  case tapReset => exact Ends.of_jtag hreset hquiet rfl rfl rfl rfl rfl
  case closed => exact Ends.of_jtag hreset hquiet rfl (fxJtagDebugAccess_of_closed op hclosed) rfl rfl rfl
  case command =>
    obtain ⟨hmem, hwlog⟩ := Device.takeEntry_quiet htake
    exact Ends.of_jtag hreset hquiet rfl ((fxJtagDebugAccess_of_command hsample hrun e).trans (by rw [htake, Option.getD_some])) hmem hwlog rfl
  case full =>
    exact Ends.of_jtag hreset hquiet rfl ((fxJtagDebugAccess_of_command hsample hrun e).trans (by rw [hfull, Option.getD_none])) rfl rfl rfl
  case read =>
    have heffect := fxJtagDebugAccess_of_read hsample hrun n hself hspace
    rw [if_pos hmapped] at heffect
    exact Ends.of_jtag hreset hquiet rfl heffect rfl rfl rfl
  case readOutside =>
    have heffect := fxJtagDebugAccess_of_read hsample hrun n hself hspace
    rw [if_neg (by simp [hunmapped])] at heffect
    exact Ends.of_jtag hreset hquiet rfl heffect rfl rfl rfl
  case writeOutside =>
    refine Ends.of_jtag hreset hquiet rfl ((fxJtagDebugAccess_of_write hsample hrun data (fun h => ?_) (fun h => ?_)).trans
      (if_neg (by simp [hunmapped]))) rfl rfl rfl
    all_goals exact absurd h (by simp [hunmapped])
  case write =>
    obtain ⟨regs, poison, hland⟩ := Device.land_store (d := s.dev) s.dev.mem (localKey a) data hquiet
    have heffect := (fxJtagDebugAccess_of_write hsample hrun data (fun _ => hself) (fun _ => hspace)).trans (if_pos hmapped)
    exact Ends.of_jtag_landed hreset rfl ((congrArg (Device.land · s.dev.mem) heffect).trans hland) ⟨rfl, rfl⟩
  case readReg =>
    refine Ends.of_jtag_landed hreset rfl (congrArg (Device.land · s.dev.mem) (fxJtagDebugAccess_of_readReg hsample hrun off)) ?_
    exact congrArg (· ++ [Out.jtag (leBytes 4 (s.dev.readReg .jtag off).1)]) (s.dev.out_readReg .jtag off)
  case writeReg =>
    exact Ends.of_jtag hreset hquiet rfl
      ((fxJtagDebugAccess_of_writeReg hsample hrun HUB_FN_IRQ v).trans (s.dev.writeReg_fnIrq v)) rfl rfl
      ⟨(congrArg (fun d : Device => Nat.land (d.portReg .jtag HUB_FN_IRQ) 0xC7FF07FF) (s.dev.writeReg_fnIrq v).symm).trans
        (s.dev.portReg_writeReg_fnIrq v), rfl⟩
  case readBoot => exact Ends.of_jtag hreset hquiet rfl (fxJtagDebugAccess_of_readBoot hsample hrun hin) rfl rfl rfl
  case readControl =>
    have heffect := fxJtagDebugAccess_of_readControl hsample hrun hout
    obtain ⟨k, hfresh⟩ := s.dev.freshBytes_frame n
    rw [hfresh] at heffect
    exact Ends.of_jtag hreset hquiet rfl heffect rfl rfl ⟨List.length_append, rfl⟩
  case writeBoot =>
    have heffect := (fxJtagDebugAccess_of_writeControl hsample hrun off b).trans (if_pos hin)
    exact Ends.of_jtag_landed hreset rfl
      ((congrArg (Device.land · s.dev.mem) heffect).trans (Device.land_writeBytes s.dev.mem (bootKey off) b hquiet)) rfl
  case writeControl =>
    exact Ends.of_jtag hreset hquiet rfl ((fxJtagDebugAccess_of_writeControl hsample hrun off b).trans (if_neg (by omega))) rfl rfl rfl
  case config =>
    have hruns : Running s := ⟨htripped, hrun, hquiet⟩
    refine ⟨fun hearly => ?early, fun h2 hretry => ?retry, fun hstage hrec => ⟨fun habsent => ?absent, fun hfn => ?fields⟩⟩
    case early => exact Ends.of_effect hruns rfl (fxConfigurationRequest_of_early v hearly) rfl rfl rfl
    case retry => exact Ends.of_effect hruns rfl (fxConfigurationRequest_of_retry v h2 hretry) rfl rfl rfl
    case absent => exact Ends.of_effect hruns rfl (fxConfigurationRequest_of_absent hstage hrec v habsent) rfl rfl rfl
    case fields =>
      have hreads {f : CfgField} {w : Nat} (hw : s.dev.cfgField fn f = some w) :=
        configurationRequest_reads htripped hquiet hrun hstage hrec hfn hw
      have hfixed {f : CfgField} (hset : ∀ w, s.dev.cfgSet fn f w = s.dev) :=
        configurationRequest_ignores htripped hquiet hrun hstage hrec hfn (v := v) hset
      refine ⟨?ident, ?totalVfs, ?vfOffset, ?vfStride, ?msixSize, ?classRevision, ?subsystem, ?vfEnable, ?bar4Size, ?power, ?other⟩
      case ident =>
        rintro rfl
        refine ⟨hreads ?_, hfixed fun _ => rfl⟩
        split
        · rw [Device.cfgField, if_pos ‹_›]
        · rw [Device.cfgField, if_neg ‹_›]
      case totalVfs | vfOffset | vfStride | msixSize | subsystem => exact fun h => h ▸ ⟨hreads rfl, hfixed fun _ => rfl⟩
      case classRevision => exact fun h => h ▸ ⟨hreads rfl, hfixed fun _ => rfl⟩
      case vfEnable =>
        rintro rfl
        refine ⟨hreads rfl, fun hvf => hfixed fun _ => if_pos hvf, fun hpf hodd => ?_, fun w hpf hv heven => ?_⟩
        · exact configurationRequest_keeps htripped hquiet hrun hstage hrec hfn fun w hv =>
            (if_neg (by simp [hpf])).trans (if_pos (hodd w hv))
        · subst hpf
          exact configurationRequest_sets (P := fun p => p.vfEnable = false ∧ ∀ i ∈ p.d3hot, i = 0) hruns hstage hrec hfn hv
            (Device.cfgSet_disable heven)
      case bar4Size =>
        rintro rfl
        refine ⟨hreads rfl, fun w hv hin => ?_, fun w hv hout => ?_⟩
        · subst hv
          refine Ends.of_effect hruns rfl ((fxConfigurationRequest_of_write hstage hrec hfn w).trans
            (congrArg (Device.emit · (.pcie 0 [])) (Device.cfgSet_bar4 hin))) rfl rfl ⟨?_, rfl⟩
          exact congrArg (Option.getD · _) (Table.find?_put_same s.dev.pcie.bar4 (min 1 fn) w)
        · exact fun w' hv' => configurationRequest_keeps htripped hquiet hrun hstage hrec hfn (fun w₁ hv₁ =>
            Option.some.inj (hv.symm.trans hv₁) ▸ Device.cfgSet_bar4_refused hout) w' hv'
      case power =>
        rintro rfl
        refine ⟨hreads rfl, fun w hv hw hawake => ?_, fun w hv hw hasleep => ?_, fun w hv hkept => ?_⟩
        · exact configurationRequest_keeps htripped hquiet hrun hstage hrec hfn fun w₁ hv₁ =>
            Option.some.inj (hv.symm.trans hv₁) ▸ hw ▸ Device.cfgSet_sleep hawake
        · subst hw
          exact configurationRequest_sets (P := fun p => p.d3hot.contains fn = false) hruns hstage hrec hfn hv (Device.cfgSet_wake hasleep)
        · exact configurationRequest_keeps htripped hquiet hrun hstage hrec hfn fun w₁ hv₁ =>
            Option.some.inj (hv.symm.trans hv₁) ▸ Device.cfgSet_power_kept hkept
      case other =>
        rintro rfl
        refine ⟨hfixed fun _ => rfl, ?_⟩
        exact Ends.of_effect hruns rfl (fxConfigurationRequest_of_free hstage hrec hfn rfl) rfl rfl ⟨List.length_append, rfl⟩

end Sys2Proof.Machine
end

section
/-!
SUPPORT. A warm reset that ends a Front load queued for a partition of another job (R350, R396, R847).
-/
namespace Sys2Proof.Machine

/-- A Front load of partition 1. -/
def otherFrontLoad : Work :=
  { uid := 1, owner := .front 1 0 0, port := none, mv := { tile := true, src := 0, dst := 0, len := 64, cls := 0 } }

/-- Job 1 has waited out its hold on partition 0, job 2 runs on partition 1, and channel 0, of partition 0, holds a Front load of
partition 1. -/
def strayFrontLoad : State :=
  { dev := { boot := { stage := 10, done := true }, jobs := [(1, { state := .halted, held := 256 }), (2, {})]
             parts := [(0, { job := 1 }), (1, { job := 2 })], movers := [(0, { queue := [otherFrontLoad] })] } }

/-- The load ends with MOV_DISCARDED, a fault of partition 1's job. -/
theorem otherJob_strayFrontLoad :
    (strayFrontLoad.dev.job 2).state = .running ∧
    (((fxRestartHoldExpiry 1 strayFrontLoad.dev).land strayFrontLoad.dev.mem).job 2).state = .halted := by
  decide +kernel

/-- Refutes O56: the clause of RESTART_HOLD_EXPIRY says that no other job changes, of every running state. The warm reset discards what
the partition's channels hold (R396), and a discarded Front load faults the job of the partition it was for (R350): in
`strayFrontLoad` that partition is another job's, which halts. (No command of the model queues a Front load on a channel of another
partition; the statement does not ask for it. The choices of log entries 13, 14, 36, 55, 69 and 70 play no part.) -/
theorem not_twinsAndRestarts : ¬ Obligations.TwinsAndRestarts := by
  intro h
  obtain ⟨-, -, -, -, -, -, -, hjobs, -⟩ := h strayFrontLoad ⟨rfl, rfl, rfl⟩
  obtain ⟨-, -, -, hexpiry, -⟩ := hjobs 1
  obtain ⟨-, -, -, hothers, -⟩ := (hexpiry (by decide +kernel) (by decide +kernel) (by decide +kernel)).of_exec
    (g := .runs) (f := fxRestartHoldExpiry 1) rfl rfl
  have hkept := congrArg Job.state (hothers 2 (by decide))
  obtain ⟨hruns, hhalted⟩ := otherJob_strayFrontLoad
  exact absurd (hhalted.symm.trans (hkept.trans hruns)) (by decide)

end Sys2Proof.Machine
end
